-- ==== Sys2Proof/Word.lean ====
section
/-! DEFINITION. Word.lean: the plain data the model is written over: register fields, access codes (R8), status
codes (R11) and the sparse map that keeps one canonical form. -/

namespace Sys2Proof.Machine

/-- A field of a register: its register's node-space byte offset, the place of its lowest bit, its width and
the value it has after reset (R6, R10). A field value is a number below 2 ^ width. -/
structure Fld where
  addr  : Nat
  lsb   : Nat
  width : Nat
  reset : Nat
  deriving DecidableEq, Repr

/-- The access codes of a register map (R8). -/
inductive Access where
  | rw | ro | wo | w1c | w1s | rwl
  deriving DecidableEq, Repr

/-- The registers that one row of a register map stands for: the first address, for each index its count and
stride (largest stride first), and the fields of the instance with those indices. -/
structure RegRow where
  base : Nat
  dims : List (Nat × Nat)
  flds : Nat → Nat → Nat → List (Fld × Access)

/-- A sparse map: keys strictly rising, and no entry that holds what an unlisted key reads as. -/
abbrev SMap (α : Type) := List (Nat × α)

end Sys2Proof.Machine
end

