-- ==== Sys2Proof/Syntax.lean ====
section
/-! DEFINITION. Syntax.lean: the commands the block takes, one constructor per row of spec/opcode_table.json, and the
types of their operands. Clusters are k < 12, engines n < 9, queues q < 32, pads p < 32, CAN FD controllers j < 2,
bridge channels c < 32 (channel c % 8 of region c / 8, R17), ring ports p < 2 (0 East, 1 West), outputs o < 11. -/

namespace Sys2Proof

/-- Who makes a register access or a command (R24, R459). -/
inductive Origin where
  /-- The host through the window BAR or the control BAR (unit 0x0020). -/
  | host
  /-- A transaction slot of a head (unit 0x0021). -/
  | slot
  /-- The bench port (unit 0x0002). -/
  | bench
  /-- The boot ROM (unit 0x0001). -/
  | bootRom
  /-- Core c of pair c / 2 (unit kind 0x04). -/
  | core (c : Fin 20)
  /-- A target-role bridge channel c (unit kind 0x03). -/
  | channel (c : Fin 32)
  deriving DecidableEq, Repr

/-- A queue word: 32 bits of data and the 4-bit tag of R64 ([0] END, [1] EVENT, [2] GAP, [3] ERR). -/
structure QWord where
  data : Nat
  tag  : Nat
  deriving DecidableEq, Repr

/-- A writer of a cluster queue, in the order of the rotation of R105. -/
inductive Writer where
  | pe (n : Fin 9)
  | can (j : Fin 2)
  | channel (n : Fin 8)
  | bus (o : Origin)
  deriving DecidableEq, Repr

/-- The 8-byte time extension of a frame (R235): nanoseconds in the 48-bit window, 1/256 ns, scale and kind. -/
structure TimeExt where
  ns     : Nat
  frac   : Nat
  scale  : Bool
  launch : Bool
  deriving DecidableEq, Repr

/-- A frame of the ring and of the switch core: the fields of its header (R233), its time extension and the bytes of its
payload. `b` holds the eight bytes of field B. -/
structure Frame where
  ftype   : Nat
  cls     : Nat
  cm      : Bool := false
  dst     : Nat
  ack     : Bool := false
  src     : Nat
  wrapped : Bool := false
  hops    : Nat := 127
  a       : Nat := 0
  b       : List Nat := []
  ext     : Option TimeExt := none
  payload : List Nat := []
  deriving DecidableEq, Repr

/-- What the detecting hardware says of a fault: source, master, domain address, access type, status, detail, extra byte
(R460), and for a spares-exhausted fault its pool (R483). -/
structure FaultInfo where
  src    : Nat
  master : Nat
  addr   : Nat := 0
  acc    : Nat := 0
  status : Nat := 0
  detail : Nat := 0
  extra  : Nat := 0
  pool   : Nat := 0
  deriving DecidableEq, Repr

/-- How a frame is classified at the switch core (R168): by its address, by a flow or group entry, or straight to sub-queue or
index `sub` of a port in class cls (a route entry's channel or cores port). -/
inductive SwRoute where
  | addr
  | flow (i : Nat)
  | group (g : Nat)
  | port (p sub cls : Nat)
  deriving DecidableEq, Repr

/-- The result of an access that a target-role channel made: of access `i` of its list, or of its list of transfers in
back-off (R138, R142). -/
structure TargetResult where
  crossing : Bool
  i        : Nat
  status   : Nat
  detail   : Nat
  value    : Nat
  /-- The failing part (R124), and the exception code of detail 0x09 (R119). -/
  idx      : Nat := 0
  exc      : Nat := 0
  deriving DecidableEq, Repr

/-- How a transmission of a CAN FD controller ends (R100): the frame was acknowledged, arbitration was lost, or an error
frame ended it. -/
inductive CanTx where
  | sent
  | lostArbitration
  | error
  deriving DecidableEq, Repr

/-- A sheet of the Chogen link (R196, R197): the fields of SS, 256 payload bytes, the tag of a protected sheet, the trailer,
whether the trailer is STOMP, and whether a block error was met. -/
structure Sheet where
  starts   : Nat
  cont     : Bool
  link     : Bool := false
  phase    : Nat := 0
  prot     : Bool := false
  ctr      : Nat := 0
  payload  : List Nat
  tag      : List Nat := []
  stomp    : Bool := false
  seq      : Nat
  ack      : Nat
  crc      : Nat
  blockErr : Bool := false
  /-- Of a received sheet: the type bytes of control blocks other than SS and the trailer met inside it (R196, R197), and the
  physical lane of each sync header error met since the sheet before, in whatever state the link was (R229); `idle` are the type bytes
of the control blocks received between the sheets before it (R196). -/
  strays   : List Nat := []
  hdrErr   : List Nat := []
  idle     : List Nat := []
  deriving DecidableEq, Repr

/-- What the peer's link-management sheets carried (R213, R403): its touchmark certificate, its fresh ECDH public key, the ECDSA
and the ML-DSA signature, and bit 0 of the byte after them. -/
structure Exchange where
  cert  : List Nat
  pub   : List Nat
  ecdsa : List Nat
  mldsa : List Nat
  zero  : Bool
  deriving DecidableEq, Repr

/-- What happens to a physical lane out of turn (R222, R223): this receiver loses it; the peer's LANE mirror with now = 1 arrives;
the peer's LANE drop arrives. -/
inductive LaneEvent where
  | lost
  | mirrorNow
  | drop
  deriving DecidableEq, Repr

/-- A physical lane and what happens to it out of turn. -/
structure LaneReport where
  lane  : Fin 5
  event : LaneEvent := .lost
  deriving DecidableEq, Repr

/-- An end of a planned lane switch (R221): this receiver's at the port, or the peer's word that it takes lane `peer` from the
spare. -/
structure LaneEnd where
  port : Fin 2
  peer : Option (Fin 5) := none
  deriving DecidableEq, Repr

/-- How the sheets of a transit frame came (R188, R208, R209): of its sheets, counted from 0, the one that was not accepted, if any;
whether its last sheet holds the next transit frame's first words too. -/
structure TransitSheets where
  bad  : Option (Fin 40) := none
  more : Bool := false
  deriving DecidableEq, Repr

/-- A ring port of this node or, in a report that reaches the active head, of the node named (R231, R238, R242, R244). -/
structure RingEnd where
  port : Fin 2
  node : Option (Fin 64) := none
  deriving DecidableEq, Repr

/-- A node of the domain map: its presence, hop counts and node state as they become (R231). -/
structure MapEdit where
  node    : Nat
  present : Bool
  hopsE   : Nat
  hopsW   : Nat
  state   : Nat := 2
  deriving DecidableEq, Repr

/-- The ends of a join (R232): this node asks; this head judges a request of a node with its casting ID, whether it is the same
node after a reset, whether its casting reserves a standby pair, whether it is TAMPERED, its role, and the hop counts that its
place gives; this node receives the answer, 0 for an admission or the reason of the refusal. -/
inductive JoinMsg where
  | ask
  | judge (e : MapEdit) (castId : Nat) (same standbyPair tampered : Bool) (role : Fin 4)
  | answer (reason : Nat)
  deriving DecidableEq, Repr

/-- Lease frames (R253): this head renews; this witness receives a renewal; this head receives a grant. -/
inductive LeaseMsg where
  | renew
  | renewal (head : Fin 64)
  | granted
  deriving DecidableEq, Repr

/-- The state of a head that a MIRROR update carries (R251): the map and its epoch, the casting IDs of the node table, the cycle
number, the servo of the time scale (the steering in 2⁻¹⁶ ns per TIMECLK cycle; TIM_STATUS bits [5:0]), the live and draining bouquet epochs, the slots and the window
reads (tag, address, size) that are open; the mirror lag (R257), and whether the head releases the grant with it (R256). -/
structure MirrorRec where
  epoch    : Nat
  map      : List (Nat × Nat × Nat)
  nodes    : List (Nat × Nat) := []
  cycle    : Nat := 0
  steer    : Int := 0
  servo    : Nat := 0
  bouquets : Nat × Nat := (0, 0)
  slots    : List Nat := []
  reads    : List (Nat × Nat × Nat) := []
  lag      : Nat := 0
  handover : Bool := false
  deriving DecidableEq, Repr

/-- MIRROR updates (R252): this head sends one; the standby has acknowledged all; this standby receives one. -/
inductive MirrorMsg where
  | send
  | acknowledged
  | receive (r : MirrorRec)
  deriving DecidableEq, Repr

/-- Health reports (R257): this standby reports, with whether a DLLP came within 1 ms and what its memory test shows; this head
receives the bytes of one, from a head that is cast preferred or is not (R251, log 104). -/
inductive HealthMsg where
  | send (dllp memory : Bool) (passes : Nat)
  | receive (bytes : List Nat) (preferred : Bool)
  deriving DecidableEq, Repr

/-- Peer delay at a P2P Ethernet port (R316): the port asks; it answers a request, whose frame is given, as a two-step
responder; an exchange has its four stamps in 1/256 ns. -/
inductive EthPdelayMsg where
  | request
  | respond (bytes : List Nat)
  | sample (t1 t2 t3 t4 : Nat)
  deriving DecidableEq, Repr

/-- A message of a PTP master (R318), with the fields of IEEE 1588: the data set of an Announce in the order of its comparison
(grandmasterPriority1, clockClass, clockAccuracy, offsetScaledLogVariance, grandmasterPriority2, grandmasterIdentity, stepsRemoved),
currentUtcOffset, the flags leap61, leap59 and valid, and the announce interval in ms; sequence numbers; times and corrections in 2⁻¹⁶ ns. -/
inductive PtpMsg where
  | announce (dataSet : List Nat) (utc flags interval : Nat)
  | sync (seq : Nat) (twoStep : Bool) (origin : Nat) (correction : Int)
  | followUp (seq origin : Nat) (correction : Int)
  | delayResp (seq received : Nat) (correction : Int)
  | pdelayResp (seq received : Nat) (correction : Int)
  | pdelayRespFollowUp (seq sent : Nat) (correction : Int)
  deriving DecidableEq, Repr

/-- An element that wears (R481, R483): a unit by its unit ID (R459), wire w of direction d of die-to-die link l (64 and 65 are the spares), an SRAM row of a
macro of a die, or the driver leg in use of pad p of Kk. -/
inductive Element where
  | unit (id : Fin 65536)
  | wire (l : Fin 3) (d : Fin 2) (w : Fin 66)
  | row (die : Fin 4) (macro_ : Fin 256) (row : Fin 65536)
  | leg (k : Fin 12) (p : Fin 32)
  deriving DecidableEq, Repr

/-- What the monitors of an element read (R481): the loss of oscillator frequency in ppm; of a core pair both losses and the
lockstep mismatches within the last 1,000 powered hours; an eye margin; the corrected errors within the last 1,000 powered hours;
the charge carried and the rated charge. -/
inductive Reading where
  | oscillator (ppm : Nat)
  | pair (ppm0 ppm1 mismatches : Nat)
  | margin (m : Nat)
  | errors (n : Nat)
  | charge (q rated : Nat)
  deriving DecidableEq, Repr

/-- The levels of the strap balls at one read (R507): the node ID of NODE_ID[5:0], HEAD_SEL, BENCH_EN, whether the lid is open
(TAMP_LID_N low), SLOW_SEL. -/
structure Straps where
  nodeId   : Nat := 0
  headSel  : Bool := false
  benchEn  : Bool := false
  lidOpen  : Bool := false
  slowSel  : Bool := false
  deriving DecidableEq, Repr

/-- The commands: one constructor per row of spec/opcode_table.json, in the table's order. -/
inductive Instr where
  /-- REGISTER_WRITE (R8). A write to a register that has no row of its own sets its fields according to their access codes. -/
  | registerWrite (o : Origin) (a : Nat) (bs : List Nat)
  /-- KEEPALIVE_SEND (R21). Die S sends a keep-alive on each die-to-die link at least every 250 ns. -/
  | keepaliveSend (d : Fin 3)
  /-- PORT_DIE_KEEPALIVE_LOST (R21). A port die hears no keep-alive for 1 µs, so it parks its pads and halts its PEs and CAN FD controllers until die reset. -/
  | portDieKeepaliveLost (d : Fin 2)
  /-- W_KEEPALIVE_LOST (R21). Die W hears no keep-alive for 1 µs, so it holds the card FET and the feeds and obeys no new command. -/
  | wKeepaliveLost
  /-- W_LINK_RETURN (R21). The S–W link returns, and die W obeys commands again. -/
  | wLinkReturn
  /-- RST_N_ASSERT (R25). RST_N is held low for at least 1 µs, which gives a node reset that lasts while the ball stays low. -/
  | rstNAssert
  /-- NODE_RESET_BEGIN (R23). A node reset clears die S except the transit path and the always-on island, clears P0 and P1 and W's logic, and leads to BOOT. -/
  | nodeResetBegin (r1 r2 r3 : Straps)
  /-- POWER_ON_RESET (R23). A power-on reset clears everything except the fuses and the bench count. -/
  | powerOnReset (vaux : Bool) (r1 r2 r3 : Straps)
  /-- HALT (R81). The HALT instruction stops the PE, while pads keep their outputs and queued actions still apply. -/
  | halt (k : Fin 12) (n : Fin 9)
  /-- NOP (R44). The NOP instruction does nothing for one cycle. -/
  | nop (k : Fin 12) (n : Fin 9)
  /-- SET (R44). The SET instruction applies DRIVE, RELEASE or TOGGLE to the masked slots now. -/
  | set (k : Fin 12) (n : Fin 9)
  /-- OUT (R44). The OUT instruction drives the next n SHOUT bits onto consecutive slots. -/
  | out (k : Fin 12) (n : Fin 9)
  /-- IN (R44). The IN instruction shifts the levels of n consecutive slots into SHIN. -/
  | in_ (k : Fin 12) (n : Fin 9)
  /-- WAITP (R48). The WAITP instruction waits until a slot meets a level or edge condition, then completes. -/
  | waitp (k : Fin 12) (n : Fin 9)
  /-- WAITT (R49). The WAITT instruction waits until time T is reached. -/
  | waitt (k : Fin 12) (n : Fin 9)
  /-- AT (R52). The AT instruction enters a timed pin action for instant T into the action queue, and waits while the queue is full. -/
  | at_ (k : Fin 12) (n : Fin 9)
  /-- JMP (R47). The JMP instruction jumps when its condition holds, and decrements the loop counter where the code says so. -/
  | jmp (k : Fin 12) (n : Fin 9)
  /-- PULL (R63). The PULL instruction takes one word from the RX port into SHOUT, X or Y and sets TAG. -/
  | pull (k : Fin 12) (n : Fin 9)
  /-- PUSH (R64). The PUSH instruction puts one word with END and ERR tag bits into the TX port. -/
  | push (k : Fin 12) (n : Fin 9)
  /-- MOV (R45). The MOV instruction copies a source register to a destination register. -/
  | mov (k : Fin 12) (n : Fin 9)
  /-- ADD (R50). The ADD instruction sets the destination to the source plus a signed immediate, with T arithmetic modulo 2^48. -/
  | add (k : Fin 12) (n : Fin 9)
  /-- STAMP (R66). The STAMP instruction puts a two-word edge time-stamp into the TX port, waiting for the edge unless latest is set. -/
  | stamp (k : Fin 12) (n : Fin 9)
  /-- LDT (R65). The LDT instruction loads T from two RX words and sets TAG. -/
  | ldt (k : Fin 12) (n : Fin 9)
  /-- EVENT (R67). The EVENT instruction puts an EVENT word into the TX port and may raise the cluster interrupt. -/
  | event (k : Fin 12) (n : Fin 9)
  /-- SYNC (R68). The SYNC instruction waits at a barrier until every masked engine arrives, and all of them then go on together. -/
  | sync (k : Fin 12) (n : Fin 9)
  /-- YIELD (R73). The YIELD instruction takes a pending swap at its entry address, and otherwise acts as a NOP. -/
  | yield (k : Fin 12) (n : Fin 9)
  /-- TIMED_ACTION_APPLY (R52). The head entry of the action queue is applied at its full instant. -/
  | timedActionApply (k : Fin 12) (n : Fin 9)
  /-- TX_PORT_DELIVER (R63). The TX port moves a word to its bound queue, waiting for room in a control queue. -/
  | txPortDeliver (k : Fin 12) (n : Fin 9)
  /-- RX_PORT_FETCH (R63). The RX port fetches a word ahead from its bound queue. -/
  | rxPortFetch (k : Fin 12) (n : Fin 9)
  /-- PE_START (R80). PE_CTL.start runs a halted engine from start_pc, or returns STATE. -/
  | peStart (k : Fin 12) (n : Fin 9) (o : Origin) (w : Nat)
  /-- PE_HALT (R80). PE_CTL.halt stops the engine after the instruction in progress. -/
  | peHalt (k : Fin 12) (n : Fin 9) (o : Origin) (w : Nat)
  /-- PE_STEP (R80). PE_CTL.step runs exactly one instruction of a halted engine, then halts it. -/
  | peStep (k : Fin 12) (n : Fin 9) (o : Origin) (w : Nat)
  /-- SWAP_REQ (R73). PE_CTL.swap_req makes a bank swap pending, which happens at once when the engine is halted. -/
  | swapReq (k : Fin 12) (n : Fin 9) (o : Origin) (w : Nat)
  /-- SWAP_CANCEL (R73). PE_CTL.swap_cancel withdraws a pending swap. -/
  | swapCancel (k : Fin 12) (n : Fin 9) (o : Origin) (w : Nat)
  /-- FORCE (R75). PE_CTL.force makes a pending or simultaneous swap forced, which aborts the shift in the next cycle and starts the new bank at 0. -/
  | force (k : Fin 12) (n : Fin 9) (o : Origin) (w : Nat)
  /-- PE_UNIT_RESET (R80). PE_CTL.unit_reset resets the engine, discards its ports and actions, parks its owned pads and halts it. -/
  | peUnitReset (k : Fin 12) (n : Fin 9) (o : Origin) (w : Nat)
  /-- IDLE_SWAP (R74). A pending swap happens when the engine becomes idle, and the new program starts at 0. -/
  | idleSwap (k : Fin 12) (n : Fin 9)
  /-- PE_PROG_WRITE (R72). A write to PE_PROG succeeds only for the shadow bank without a pending swap, or for the active bank of a halted engine. -/
  | peProgWrite (k : Fin 12) (n : Fin 9) (i : Fin 128) (o : Origin) (w : Nat)
  /-- PE_STATE_WRITE (R82). A write to an engine state register is accepted only while the engine is halted with no pending INBIT. -/
  | peStateWrite (k : Fin 12) (n : Fin 9) (r : Fin 9) (o : Origin) (w : Nat)
  /-- CL_RESET (R87). CL_CTL.cl_reset resets the cluster, which parks its pads until the time copy relocks. -/
  | clReset (k : Fin 12) (o : Origin)
  /-- TIME_LOCK (R87). The cluster time copy relocks to the beacon and the cluster reset ends. -/
  | timeLock (k : Fin 12)
  /-- VDDIO_FALL (R88). A bank's VDDIO falls below its lower limit, so its pads park and bank_fault is reported. -/
  | vddioFall (k : Fin 12) (b : Fin 2) (mv : Nat)
  /-- PAD_EDGE (R93). An edge at a stamping pad is captured at 125 ps into CL_PADSTAMP. -/
  | padEdge (k : Fin 12) (p : Fin 32) (level : Option Bool) (fine : Fin 8)
  /-- PADSTAMP_READ (R115). Reading the low word of a polarity freezes its high word until that word is read. -/
  | padstampRead (k : Fin 12) (p : Fin 32) (r : Fin 4) (o : Origin)
  /-- CAN_TRANSMIT_RECORD (R99). A CAN FD controller takes a transmit record from its queue, discarding it with an EVENT 0x0006 if it is malformed. -/
  | canTransmitRecord (k : Fin 12) (j : Fin 2)
  /-- CAN_LAUNCH (R100). A held record's launch time is reached, and arbitration starts at the next bus idle. -/
  | canLaunch (k : Fin 12) (j : Fin 2)
  /-- CAN_FRAME_SENT (R100). A CAN FD frame completes on the bus, or is retransmitted after lost arbitration or an error frame. -/
  | canFrameSent (k : Fin 12) (j : Fin 2) (r : CanTx)
  /-- CAN_RECEIVE (R101). A received frame is written as a record when the queue has room, and is otherwise dropped and counted. -/
  | canReceive (k : Fin 12) (j : Fin 2) (w0 w1 sof : Nat) (data : List Nat)
  /-- CAN_BUS_EVENT (R102). A bus state change is written as an EVENT word into the receive queue. -/
  | canBusEvent (k : Fin 12) (j : Fin 2) (tec rec_ : Nat)
  /-- CAN_RECOVER (R102). A write of CL_CANCFG.recover starts bus-off recovery. -/
  | canRecover (k : Fin 12) (j : Fin 2) (o : Origin) (w : Nat)
  /-- CAN_RECOVERY_DONE (R102). Bus-off recovery completes after 128 × 11 recessive bits, and an EVENT 0x0004 is written. -/
  | canRecoveryDone (k : Fin 12) (j : Fin 2)
  /-- CAN_MODE_WRITE (R463). A write of CL_CANCFG.mode sets the controller mode and releases a PORT_STOP. -/
  | canModeWrite (k : Fin 12) (j : Fin 2) (o : Origin) (w : Nat)
  /-- QUEUE_PUSH (R105). A writer's push is accepted in rotation, and goes to a stream queue under the GAP rules or waits for room in a control queue. -/
  | queuePush (k : Fin 12) (q : Fin 32) (offers : List (Writer × QWord))
  /-- QPUSH (R107). A bus write of CL_QPUSH pushes the value with tag 0, and is ignored with overrun when the control queue is full. -/
  | qpush (k : Fin 12) (q : Fin 32) (o : Origin) (w : Nat)
  /-- QPUSHEND (R107). A bus write of CL_QPUSHEND pushes the value with tag END. -/
  | qpushend (k : Fin 12) (q : Fin 32) (o : Origin) (w : Nat)
  /-- QPUSHERR (R107). A bus write of CL_QPUSHERR pushes the value with tag ERR. -/
  | qpusherr (k : Fin 12) (q : Fin 32) (o : Origin) (w : Nat)
  /-- QPOP (R111). A bus read of CL_QPOP pops one word, returns a status word and sets CL_QDATA. -/
  | qpop (k : Fin 12) (q : Fin 32) (o : Origin)
  /-- QUEUE_READ_WAIT_EXPIRE (R110). A held CL_QPOP read finds no word within QUEUE_READ_WAIT and completes with EMPTY. -/
  | queueReadWaitExpire (k : Fin 12) (q : Fin 32)
  /-- QUEUE_POINTER_MISMATCH (R112). The duplicated queue pointers disagree, so the queue is emptied, marked and reported. -/
  | queuePointerMismatch (k : Fin 12) (q : Fin 32) (refused : Bool)
  /-- Q_RESET (R112). CL_QCTL.q_reset empties the queue without a marker. -/
  | qReset (k : Fin 12) (q : Fin 32) (o : Origin) (w : Nat)
  /-- BURST_READ (R269). A read of a queue's burst view pops words into 8-byte units that each carry a status word. -/
  | burstRead (k : Fin 12) (q : Fin 32) (o : Origin) (ofs len : Nat)
  /-- WINDOW_ACCESS (R122). A read or write to a bridge window is checked, answered from a held result or the read-ahead buffer, or split into far-side parts. -/
  | windowAccess (c : Fin 32) (o : Origin) (nd : Nat) (write acked : Bool) (ofs size : Nat) (data : List Nat) (left : Option Nat) (bus : Option (Fin 32))
  /-- FAR_PART_ISSUE (R123). The next far-side part is issued as a request record once the part before it completes OK. -/
  | farPartIssue (c : Fin 32)
  /-- OUT_QUEUE_ENTER (R137). A posted or non-posted request moves from the channel's lines into the out queue, in order, when there is room. -/
  | outQueueEnter (c : Fin 32)
  /-- RESPONSE_RECORD (R120). A controller-role channel takes a response record and completes the oldest open request, or discards a mismatched or malformed one. -/
  | responseRecord (c : Fin 32)
  /-- FAR_TIMEOUT (R131). A far-side part is not answered within far_to and completes with TIMEOUT. -/
  | farTimeout (c : Fin 32)
  /-- READ_DEADLINE (R133). An originator's 40 µs deadline passes, so the read completes with TIMEOUT and its later result becomes a held result. -/
  | readDeadline (c : Fin 32)
  /-- DISCARD_TIMER (R135). A held result is not collected within the discard timer and is discarded and reported. -/
  | discardTimer (c : Fin 32)
  /-- READ_AHEAD_LIFE_EXPIRE (R127). The read-ahead life runs out, so the buffer is discarded and unconsumed bytes are reported. -/
  | readAheadLifeExpire (c : Fin 32)
  /-- TARGET_REQUEST (R138). A target-role channel takes a request record and makes the access in its target window. -/
  | targetRequest (c : Fin 32)
  /-- TARGET_RESPONSE (R138). The result of a target access is written as a response record to the out queue, in request order. -/
  | targetResponse (c : Fin 32) (r : Option TargetResult)
  /-- RETRY_BACKOFF_EXPIRE (R142). The RETRY back-off ends and the transfer is issued again, or it completes with RETRY at the retry limit. -/
  | retryBackoffExpire (c : Fin 32)
  /-- CH_RESET (R145). BRG_CHCTL.ch_reset fails open requests with detail 0x10, drops posted writes and frees held results. -/
  | chReset (c : Fin 32) (o : Origin) (w : Nat)
  /-- DROP_HELD (R135). BRG_CHCTL.drop_held discards every held result and reports each. -/
  | dropHeld (c : Fin 32) (o : Origin) (w : Nat)
  /-- EVENT_MESSAGE (R146). A channel turns an EVENT word into a 16-byte event message once the earlier records are delivered. -/
  | eventMessage (c : Fin 32)
  /-- ROUTE_LOOKUP (R151). A routed record is looked up in its region's slice under the live epoch, and is sent on, dropped or sent to the cores. -/
  | routeLookup (c : Fin 32)
  /-- STAGE_CLEAR (R152). BRG_CTL.stage_clear discards every staged route version of the region. -/
  | stageClear (r : Fin 4) (o : Origin)
  /-- ROUTE_STAGE_WRITE (R155). A write to BRG_ROUTESTG changes and marks the staged entry, or returns STATE during a commit. -/
  | routeStageWrite (r : Fin 4) (i : Fin 1024) (w : Fin 4) (o : Origin) (v : Nat)
  /-- FLOW_STAGE_WRITE (R173). A write to SW_FLOWSTG or SW_GRPSTG stages and marks an entry, or returns STATE during a commit. -/
  | flowStageWrite (grp : Bool) (i : Fin 1024) (w : Fin 4) (o : Origin) (v : Nat)
  /-- FRAME_INGRESS (R162). A frame entering the switch core is classified and admitted to each output, held, or dropped. -/
  | frameIngress (i : Fin 10) (x : Option (Frame × SwRoute))
  /-- FRAME_SELECT (R342). At a frame boundary an output chooses transit, class 7, class 6, or the classes 5 to 0 that take part by deficit round robin. -/
  | frameSelect (o : Fin 10)
  /-- OUTPUT_DOWN (R178). An output goes down, and its queued copies are dropped with reason DOWN. -/
  | outputDown (o : Fin 10)
  /-- COMMIT (R173). SW_CTL.commit makes the marked staged entries live under a new epoch, or returns BUSY or STATE. -/
  | commit (o : Origin) (w : Nat)
  /-- COMMIT_END (R173). The commit in progress ends and committing clears. -/
  | commitEnd
  /-- DRAIN_END (R175). SW_DRAIN reaches 0, so the draining versions are freed and draining clears. -/
  | drainEnd
  /-- FLUSH (R177). SW_CTL.flush discards every frame that carries the draining epoch, or returns STATE. -/
  | flush (o : Origin) (w : Nat)
  /-- CAPRD_WRITE (R186). A write of SW_CAPRD frees capture entries from the next cycle onwards. -/
  | caprdWrite (o : Origin) (v : Nat)
  /-- CAPTURE_RESUME (R185). A write of 1 to SW_CAPCFG.stopped resumes capture after a quench. -/
  | captureResume (o : Origin) (w : Nat)
  /-- TRANSIT_FORWARD (R187). A ring frame not for this node crosses on the transit path in cut-through, and broadcasts and multicast copies are also taken. -/
  | transitForward (d : Fin 2) (f : Frame) (w0 : Fin 32) (x : TransitSheets)
  /-- SHEET_SEND (R197). A sender starts a sheet of SS, 32 data blocks, an optional tag block and END, and keeps it for replay. -/
  | sheetSend (p : Fin 2)
  /-- SHEET_RECEIVE (R204). A received sheet is accepted or discarded by CRC, tag, trailer and seq, with a NAK where needed. -/
  | sheetReceive (p : Fin 2) (y : Sheet)
  /-- ACK_SEND (R204). A receiver that starts no sheet within 100 ns of accepting one, or at the coalescing limit, sends an ACK block. -/
  | ackSend (p : Fin 2)
  /-- ACK_RECEIVE (R205). An ACK or NAK block frees acknowledged sheets, or starts a resend from nak_seq. -/
  | ackReceive (p : Fin 2) (ack nakSeq : Nat) (nak : Bool)
  /-- REPLAY_TIMEOUT (R206). The oldest unacknowledged sheet times out and is replayed, and the link goes down at retry_max. -/
  | replayTimeout (p : Fin 2)
  /-- AM_SEND (R195). Every 16,384 blocks the sender sends one AM on every data and spare lane. -/
  | amSend (p : Fin 2)
  /-- AM_RECEIVE (R195). The receiver deskews on AMs, and a lane missing two AMs in a row has lost alignment. -/
  | amReceive (p : Fin 2) (l : Fin 5) (found : Bool)
  /-- REKEY (R214). A rekey runs the exchange of R213 and switches the key phase, on command, at counter 2^31, or on parent invalidation. -/
  | rekey (p : Fin 2) (o : Option Origin) (w : Nat)
  /-- REKEY_TIMEOUT (R214). A rekey forced by parent invalidation does not complete within 1 ms, and the link goes down with reason 0x6. -/
  | rekeyTimeout (p : Fin 2)
  /-- RETRAIN (R217). RING_LCTL.retrain takes the port to DOWN and trains again. -/
  | retrain (p : Fin 2) (o : Origin) (w : Nat)
  /-- DOWN (R227). RING_LCTL.down declares the link down with reason 0x1 and keeps it in DOWN. -/
  | down (p : Fin 2) (o : Origin) (w : Nat)
  /-- LANE_SW (R221). RING_LCTL.lane_sw starts a planned switch of a physical lane, or returns STATE. -/
  | laneSw (p : Fin 2) (o : Option Origin) (w : Nat)
  /-- WAKE (R226). RING_LCTL.wake sends the wake tone on a stowed port, or returns STATE. -/
  | wake (p : Fin 2) (o : Option Origin) (w : Nat)
  /-- DOWN_RETRY (R217). One millisecond after entering DOWN for a cause other than the down command, the port goes to DETECT. -/
  | downRetry (p : Fin 2)
  /-- SIGNAL_DETECT (R217). Signal on at least 3 lanes moves DETECT to LOCK. -/
  | signalDetect (p : Fin 2) (lanes : Nat)
  /-- BLOCK_LOCK (R217). Block lock on each lane with signal moves LOCK to ALIGN. -/
  | blockLock (p : Fin 2) (lanes : Nat)
  /-- ALIGN_FOUND (R217). AMs found with skew within 160 ns move ALIGN to CAPX. -/
  | alignFound (p : Fin 2) (skew : Nat)
  /-- CAP_RECEIVE (R218). A CAP block from the peer updates RING_CAPPEER and rx_ok. -/
  | capReceive (p : Fin 2) (w : Nat)
  /-- NEGOTIATION (R219). Both ends show rx_ok and the capability words give an outcome that moves to SECURE, UP or DOWN. -/
  | negotiation (p : Fin 2)
  /-- KEYS_AGREED (R213). The SECURE exchange completes and the link enters UP in key phase 0, or goes down with reason 0x5. -/
  | keysAgreed (p : Fin 2) (m : Option Exchange)
  /-- TRAINING_TIMEOUT (R217). A training state's time limit runs out, and the port returns to DOWN with reason 0x9. -/
  | trainingTimeout (p : Fin 2)
  /-- MIRROR_CONFIRM (R221). 1,024 matching blocks confirm the mirror of a lane onto the spare. -/
  | mirrorConfirm (p : Fin 2) (j : Fin 5)
  /-- LANE_SWITCHED (R221). At the seam the receiver takes lane j from the spare and sends LANE switched, and the sender stops driving lane j. -/
  | laneSwitched (e : LaneEnd)
  /-- MIRROR_TIMEOUT (R221). No seam begins within 2 ms of the mirror confirmation, so the mirror stops. -/
  | mirrorTimeout (p : Fin 2)
  /-- LANE_LOSS (R222). A data lane loses lock in UP and is switched to a ready spare, dropped to degraded mode, or takes the link down. -/
  | laneLoss (p : Fin 2) (r : LaneReport)
  /-- FIDLE_REQUEST (R225). A sender with an empty replay buffer requests fast idle. -/
  | fidleRequest (p : Fin 2)
  /-- FIDLE_GRANT (R225). The receiver grants fast idle, and the lanes send IDLE bursts every 10 µs. -/
  | fidleGrant (p : Fin 2) (tx : Bool)
  /-- FIDLE_BURST (R225). Every 10 µs in fast idle, each data lane sends a burst of 256 IDLE blocks. -/
  | fidleBurst (p : Fin 2)
  /-- FIDLE_EXIT (R225). The sender sends FIDLE exit and 400 ns of IDLE before its first sheet. -/
  | fidleExit (p : Fin 2) (tx : Bool)
  /-- WAKE_TONE_DETECT (R226). The lane 0 detector hears the wake tone, wakes the node and starts DETECT. -/
  | wakeToneDetect (p : Fin 2)
  /-- WAKE_TONE_END (R226). A node stops sending the wake tone once peer training is detected or after 20 ms. -/
  | wakeToneEnd (p : Fin 2) (trained : Bool)
  /-- SYNC_HEADER_LOSS (R227). No valid sync header on a data lane for 1 µs with no remedy declares the link down with reason 0x2. -/
  | syncHeaderLoss (p : Fin 2)
  /-- WRAP (R242). Within 5 µs of its link-down declaration a node wraps, turning frames to its other port with wrapped = 1. -/
  | wrap (e : RingEnd) (es : List MapEdit)
  /-- MAP_FRAME (R231). A MGMT map frame replaces the node's copy of the domain map, which applies from the CYCLE_START that carries its epoch. -/
  | mapFrame (epoch : Nat) (m : List (Nat × Nat × Nat))
  /-- JOIN_REQUEST (R232). A node in JOINING sends a join request at a seam, and the head checks the conditions and admits or refuses. -/
  | joinRequest (m : JoinMsg)
  /-- CYCLE_START (R236). At each cycle start the active head sends CYCLE_START in class 7 on both ports. -/
  | cycleStart
  /-- CYCLE_START_RECEIVE (R237). A node takes its copy of CYCLE_START, which confirms the cycle number, map epoch and seam flag. -/
  | cycleStartReceive (num epoch flags : Nat)
  /-- CYCLE_TICK (R237). Each node keeps the cycle from its own time, and counts a missed CYCLE_START. -/
  | cycleTick
  /-- SLOT_MARKER (R238). At its slot marker the node sends its first class-7 frame or an empty slot answer. -/
  | slotMarker (e : RingEnd)
  /-- SLOT_MISSED (R238). No answer begins within 1.5 µs of the marker, so the slot is counted as missed and reported. -/
  | slotMissed (e : RingEnd)
  /-- SEAM_OPEN (R240). The seam of a seam cycle opens, and only MGMT, TIME, MIRROR and transit frames start. -/
  | seamOpen
  /-- SPLICE_ORDER (R244). At a seam opening a splice-in or splice-out order moves a port to DRAIN_IN or DRAIN_OUT. -/
  | spliceOrder (p : Option (Fin 2)) (out_ : Bool)
  /-- LINK_HELD (R244). A link reaching UP on an OPEN port moves it to HELD, carrying only MGMT and TIME. -/
  | linkHeld (e : RingEnd)
  /-- SPLICE_DRAINED (R244). The FIFOs and replay buffers drain, so the port joins or wraps and the head increments the map epoch. -/
  | spliceDrained (e : RingEnd) (es : List MapEdit)
  /-- SPLICE_ABANDON (R244). A drain not complete by len − 2 µs into the seam abandons the splice. -/
  | spliceAbandon (p : Fin 2)
  /-- LEAVE (R245). RING_CTL.leave requests a splice-out of this node, or on the head of leave_id. -/
  | leave (o : Option Origin) (w : Nat)
  /-- PARTITION_TEST (R248). 5 µs after each cycle start the node counts missed CYCLE_STARTs, and enters ORPHAN at RING_PARTTO. -/
  | partitionTest
  /-- REJOIN (R250). At the splice seam an orphan compares its epoch and is either kept in SERVICE or discarded to JOINING. -/
  | rejoin (epoch : Nat)
  /-- WIT_GRANT_SAMPLE (R253). A head samples WIT_GRANT at each cycle start and becomes or stays active. -/
  | witGrantSample (high : Bool)
  /-- WIT_GRANT_FALL (R253). A fall of WIT_GRANT, sampled within 1 µs, ends the head's active role. -/
  | witGrantFall
  /-- WIT_HEALTH_TOGGLE (R253). A healthy head toggles WIT_HEALTH once per cycle start. -/
  | witHealthToggle
  /-- LEASE_RENEW (R253). The active head renews its lease with the witness node at each cycle start. -/
  | leaseRenew (m : LeaseMsg)
  /-- LEASE_EXPIRE (R253). A lease not renewed for the longer of 2 cycles and 30 µs runs out, and the witness may grant the standby. -/
  | leaseExpire (standby : Option (Fin 64))
  /-- TAKEOVER (R254). The granted standby becomes active at the next cycle start and sends CYCLE_START with the map epoch + 1. -/
  | takeover
  /-- DUAL_GRANT (R255). An active head that sees another active head stops within 1 µs unless it wins by preference or node ID. -/
  | dualGrant (other : Fin 64) (preferred : Bool)
  /-- REVERT (R256). A preferred standby that is healthy for revert seconds takes control back at a seam. -/
  | revert
  /-- REVERT_NOW (R262). RING_CTL.revert_now hands control to the preferred head at the next seam. -/
  | revertNow (o : Origin) (w : Nat)
  /-- RELEASE (R262). RING_CTL.release gives up the grant at the next seam. -/
  | release (o : Origin) (w : Nat)
  /-- MIRROR_HELLO (R252). Heads exchange MIRROR hello bitmaps and agree the highest common mirror version. -/
  | mirrorHello (peer : Option Nat)
  /-- MIRROR_UPDATE (R252). The active head sends a MIRROR update of changed state to the standby. -/
  | mirrorUpdate (m : MirrorMsg)
  /-- HEALTH_REPORT (R257). The standby sends a MGMT health report at each seam or at least every 10 ms. -/
  | healthReport (m : HealthMsg)
  /-- LOOP_FRAME (R257). The standby sends a loop frame round each ring direction once per seam interval and checks its return. -/
  | loopFrame (p : Fin 2) (back : Bool)
  /-- TAKEOVER_COMPLETION (R251). A completion addressed to the former head is matched by tag on the new head, or discarded and counted. -/
  | takeoverCompletion (f : Frame)
  /-- ETH_RECEIVE (R258). A frame received on a member port is learned and sent as an ETH frame, flooded, or dropped. -/
  | ethReceive (e : Fin 2) (bs : List Nat)
  /-- ETH_RING_RECEIVE (R260). An ETH frame from the ring is learned and sent out of the member ports. -/
  | ethRingReceive (p : Fin 2) (f : Frame)
  /-- MAC_AGEING (R259). A learned MAC entry ages out after the ageing time. -/
  | macAgeing
  /-- HOST_READ (R272). A host read of the window BAR is sent as a READ frame from unit 0x0020. -/
  | hostRead (tag addr size : Nat)
  /-- HOST_WRITE (R271). A host write is split into naturally aligned WRITE frames sent in ascending order, or is dropped if malformed. -/
  | hostWrite (addr : Nat) (data : List Nat)
  /-- COMPL_RECEIVE (R273). A COMPL completes its window read with a Successful Completion or a Completer Abort and log entry, or is discarded as late. -/
  | complReceive (f : Frame)
  /-- HOST_READ_TIMEOUT (R273). No COMPL arrives within 40 µs, so the head answers Completer Abort with a TIMEOUT log entry. -/
  | hostReadTimeout
  /-- TS_ISSUE (R275). HOST_TS_CMD.issue sends a READ or AWRITE from a transaction slot, or returns ILLEGAL, STATE or BUSY. -/
  | tsIssue (n : Fin 256) (o : Origin) (w : Nat)
  /-- TS_RESULT (R276). A slot's result completes, VALID is set and vector 1 is sent if irq = 1. -/
  | tsResult (f : Frame)
  /-- TS_TIMEOUT (R275). A slot request gets no result within HOST_TSTIMEOUT and completes with TIMEOUT. -/
  | tsTimeout (n : Fin 256)
  /-- RQ_WRITE (R278). A frame for host receive queue j is written into its host ring, or dropped when the ring is full. -/
  | rqWrite (j : Fin 64) (f : Frame) (idx : Nat)
  /-- EVQ_WRITE (R278). An event message is written into the host event ring, and its vector is sent. -/
  | evqWrite (vec : Nat) (msg : List Nat)
  /-- RQ_MODERATION (R279). The moderation interval of a receive-queue vector ends while entries wait, and the vector is sent. -/
  | rqModeration (j : Fin 64)
  /-- IF_VERSION_WRITE (R280). A write of HOST_IF_VERSION.offered agrees the highest common host interface version. -/
  | ifVersionWrite (o : Origin) (w : Nat)
  /-- FLR (R281). An FLR, hot reset, link loss or PERST_N clears the agreed version, slots, queue enables and MSI-X table. -/
  | flr (linkLost : Bool)
  /-- NODE_CMD (R282). A write of NODE_CMD in a mailbox is rejected by originator, counted as an overrun when busy, or judged for legality. -/
  | nodeCmd (m : Fin 3) (o : Origin) (w : Nat)
  /-- STATUS (R283). The STATUS command returns NODE_STATE and the map epoch. -/
  | status (m : Fin 3)
  /-- UNIT_RESET (R459). The UNIT_RESET command resets one PE, CAN FD controller, bridge channel or ring lane. -/
  | unitReset (m : Fin 3)
  /-- CLUSTER_RESET (R23). The CLUSTER_RESET command resets one cluster. -/
  | clusterReset (m : Fin 3)
  /-- DIE_RESET (R23). The DIE_RESET command resets P0, P1 or W. -/
  | dieReset (m : Fin 3)
  /-- NODE_RESET (R25). The NODE_RESET command resets the node. -/
  | nodeReset (m : Fin 3)
  /-- NODE_HALT (R36). The HALT command moves a node in SERVICE to HALTED, parking pads and halting PEs. -/
  | nodeHalt (m : Fin 3)
  /-- HOLD_CLEAR (R463). The HOLD_CLEAR command releases a NODE_HOLD. -/
  | holdClear (m : Fin 3)
  /-- RECAST (R363). The RECAST command compares the newest copy with the running casting and schedules the changed clusters. -/
  | recast (m : Fin 3)
  /-- RECAST_CLUSTER (R364). At the seam a masked cluster is reset, loaded with new words and restarted within 20 µs. -/
  | recastCluster (k : Fin 12)
  /-- CASTING_INSTALL (R355). The CASTING_INSTALL command checks a staged casting and writes it into the copy without the highest sequence. -/
  | castingInstall (m : Fin 3)
  /-- CASTING_WRITE_DONE (R356). The flash write of a casting copy ends with its header, and the command completes. -/
  | castingWriteDone
  /-- INGOT_OPEN (R380). INGOT op OPEN erases staging and writes the record, the manifest and an all-missing bitmap. -/
  | ingotOpen (m : Fin 3)
  /-- INGOT_DATA (R380). INGOT op DATA checks an ingot against the manifest, writes it to flash and clears its bitmap bit. -/
  | ingotData (m : Fin 3)
  /-- INGOT_ABANDON (R380). INGOT op ABANDON erases the record sector so that no image is open. -/
  | ingotAbandon (m : Fin 3)
  /-- MISSING (R382). The MISSING command returns the count of missing ingots and up to four runs of them. -/
  | missing (m : Fin 3)
  /-- ACTIVATE_PAUSE (R383). ACTIVATE_PAUSE checks the staged firmware and writes it into the copy that was not booted. -/
  | activatePause (m : Fin 3)
  /-- ACTIVATE_HITLESS (R383). ACTIVATE_HITLESS checks the staged firmware and the standby pair, then writes the image. -/
  | activateHitless (m : Fin 3)
  /-- PREPARATION_END (R383). The preparation write ends, and the node enters UPDATING in pause or hitless form. -/
  | preparationEnd
  /-- PAUSE_STATE_SAVED (R384). Dregrim has saved its state, and the manager pair is reset into the boot ROM, which assays the new copy. -/
  | pauseStateSaved
  /-- PAUSE_ASSAY_DONE (R384). The assay of the new copy ends, and on failure the booted copy is assayed. -/
  | pauseAssayDone
  /-- PAUSE_RESTART (R384). The boot ROM starts Dregrim from the passing copy, which restores state, releases the hold and returns to SERVICE. -/
  | pauseRestart
  /-- HITLESS_ASSAY_DONE (R385). The standby's assay passes and the new Dregrim starts in shadow, or the activation ends FAULT. -/
  | hitlessAssayDone
  /-- IN_STEP (R385). The new Dregrim reports in step with the old one's state. -/
  | inStep (readable : Bool)
  /-- ROLE_MOVE (R385). At the first suitable seam opening the manager role, mailbox 0 and watchdog move to the new pair. -/
  | roleMove
  /-- HITLESS_TIMEOUT (R385). In step does not come within 10 s, so the activation ends TIMEOUT and the standby is reset. -/
  | hitlessTimeout
  /-- WRAP_REQ (R400). KEY_PROVISION op WRAP_REQ generates an ECDH ephemeral and writes a hallmark for it. -/
  | wrapReq (m : Fin 3)
  /-- INSTALL (R404). KEY_PROVISION op INSTALL unwraps a key and replaces it atomically through a shadow slot. -/
  | install (m : Fin 3) (kat assay : Bool)
  /-- AUTHORITY (R400). KEY_PROVISION op AUTHORITY installs or replaces a hybrid authority key from a signed statement. -/
  | authority (m : Fin 3) (kat assay : Bool)
  /-- GENERATE (R400). KEY_PROVISION op GENERATE generates a key from the DRBG under the domain key. -/
  | generate (m : Fin 3) (kat assay : Bool)
  /-- INVALIDATE (R405). KEY_PROVISION op INVALIDATE invalidates a key and sends its descendants to REFUSING. -/
  | invalidate (m : Fin 3)
  /-- HALLMARK (R412). The HALLMARK command writes a 3,672-byte signed statement about a key or the node. -/
  | hallmark (m : Fin 3)
  /-- QUENCH (R477). The QUENCH command triggers locally or arms the time match, and sends a broadcast if asked. -/
  | quench (m : Fin 3)
  /-- EPHEMERAL_EXPIRE (R400). A provisioning ephemeral is zeroised 10 s after it was made. -/
  | ephemeralExpire (i : Fin 64)
  /-- REFUSING_ZEROISE (R405). A REFUSING slot is zeroised and becomes EMPTY when its last running operation ends. -/
  | refusingZeroise (i : Fin 64)
  /-- SLOT_RENEW (R406). The scrambling key and mask of a slot's working copy are renewed at least every 1 ms. -/
  | slotRenew (i : Fin 64)
  /-- TEST (R407). CRU_CTL.test assays every stored slot and replaces the slots that fail. -/
  | test (o : Origin) (w : Nat) (bad : List (Fin 64))
  /-- TLOG_CLEAR (R421). CRU_CTL.tlog_clear clears the tamper log entries whose pending bit is clear. -/
  | tlogClear (o : Origin) (w : Nat)
  /-- RANDOM (R409). Crucible op RANDOM writes src_len bytes from the DRBG. -/
  | random (p : Fin 10) (o : Origin) (w : Nat)
  /-- GCM_ENC (R409). Crucible op GCM_ENC encrypts and tags data under an AES-256 key. -/
  | gcmEnc (p : Fin 10) (o : Origin) (w : Nat)
  /-- GCM_DEC (R409). Crucible op GCM_DEC verifies and decrypts data, with AUTH on a tag failure. -/
  | gcmDec (p : Fin 10) (o : Origin) (w : Nat)
  /-- GMAC (R409). Crucible op GMAC computes a 16-byte tag over data. -/
  | gmac (p : Fin 10) (o : Origin) (w : Nat)
  /-- SIGN (R409). Crucible op SIGN signs a message with an ECDSA or ML-DSA private key. -/
  | sign (p : Fin 10) (o : Origin) (w : Nat)
  /-- VERIFY (R409). Crucible op VERIFY checks a signature, answering OK or AUTH. -/
  | verify (p : Fin 10) (o : Origin) (w : Nat)
  /-- ECDH_DERIVE (R409). Crucible op ECDH_DERIVE derives a new customer key from an ECDH secret. -/
  | ecdhDerive (p : Fin 10) (o : Origin) (w : Nat)
  /-- HKDF_DERIVE (R409). Crucible op HKDF_DERIVE derives a new customer key from an HKDF secret. -/
  | hkdfDerive (p : Fin 10) (o : Origin) (w : Nat)
  /-- SHA384 (R409). Crucible op SHA384 writes a 48-byte digest of data. -/
  | sha384 (p : Fin 10) (o : Origin) (w : Nat)
  /-- PUBLIC (R409). Crucible op PUBLIC writes the public key of an asymmetric key. -/
  | public_ (p : Fin 10) (o : Origin) (w : Nat)
  /-- KEY_OP_COMPLETE (R410). A crucible operation ends, and its result is copied to its destination only on success. -/
  | keyOpComplete (p : Fin 10)
  /-- ENTROPY_SOURCE_FAILURE (R411). An entropy health test fails, so random-based operations return FAULT until the source passes. -/
  | entropySourceFailure
  /-- ENTROPY_RECOVER (R411). The entropy source passes its health tests again and CRU_ENTROPY.ok sets. -/
  | entropyRecover
  /-- TAMPER (R419). A tamper source trips, which logs the event and zeroises keys or resets the node as the policy and phase decide. -/
  | tamper (srcs : List (Fin 6)) (periods : Nat)
  /-- BENCH_ENTRY (R415). BENCH_EN high with the lid open at reset zeroises operational slots, increments the bench count and grants bench authority. -/
  | benchEntry
  /-- AON_TIME_RECORD (R420). The always-on island records node time each second and at entry to sleep. -/
  | aonTimeRecord
  /-- BENCH_LOG_APPEND (R420). After boot Dregrim appends new tamper log entries to the bench log in flash. -/
  | benchLogAppend
  /-- BOOT_ROM_START (R361). Power-on reset of die S is released and CP0 runs the boot ROM and starts the flash. -/
  | bootRomStart (periods : Nat)
  /-- UNLOCK (R392). The crucible derives the root and checks every slot, with zeroisation on a tamper before unlock. -/
  | unlock (pufFail : Bool) (bad : List (Fin 64))
  /-- CAST_SELECT (R353). The hub assays both casting copies and loads the highest that passes, or the blank casting. -/
  | castSelect
  /-- FIRMWARE_SELECT (R378). The boot ROM assays the firmware copies and loads the manager and customer images of the best. -/
  | firmwareSelect
  /-- SETTINGS_APPLY (R359). The chosen settings copy is applied under the mask, or defaults are used and reported. -/
  | settingsApply
  /-- BOOT_END (R361). The node leaves BOOT for JOINING, HALTED or TAMPERED and starts link training and the bellows. -/
  | bootEnd
  /-- SAVE (R360). CST_CTL.save writes the listed settings into the copy without the highest sequence. -/
  | save (o : Origin)
  /-- SETTINGS_SAVE_DONE (R360). The settings save ends its flash write. -/
  | settingsSaveDone
  /-- FIRMWARE_COMPLETE_WRITE (R382). Under the boot ROM, a firmware image that becomes complete is written at once into the lower firmware copy. -/
  | firmwareCompleteWrite
  /-- CORE_START (R372). CORE_CTL.start runs a halted customer pair from address 0. -/
  | coreStart (p : Fin 10) (o : Origin) (w : Nat)
  /-- CORE_HALT (R372). CORE_CTL.halt stops a customer pair. -/
  | coreHalt (p : Fin 10) (o : Origin) (w : Nat)
  /-- CORE_RESET (R372). CORE_CTL.reset unit-resets both cores of a customer pair and leaves it halted. -/
  | coreReset (p : Fin 10) (o : Origin) (w : Nat)
  /-- LOCKSTEP_MISMATCH (R370). A lockstep mismatch stops both cores, and a manager pair is restarted. -/
  | lockstepMismatch (p : Fin 10)
  /-- MANAGER_RESTART (R370). After a manager lockstep mismatch, the pause sequence restarts Dregrim from the booted copy. -/
  | managerRestart
  /-- CORE_EVENT (R373). An EVENT frame for a core pair writes its message into the pair's ring and raises its interrupt. -/
  | coreEvent (f : Frame)
  /-- DOORBELL (R373). A write to CORE_DOORBELL sets bits that raise the pair's doorbell interrupt. -/
  | doorbell (p : Fin 10) (o : Origin) (w : Nat)
  /-- DBCLR (R373). A write to CORE_DBCLR clears doorbell bits. -/
  | dbclr (p : Fin 10) (o : Origin) (w : Nat)
  /-- KICK (R374). CORE_WDOG.kick from the manager pair restarts the watchdog. -/
  | kick (o : Origin) (w : Nat)
  /-- WATCHDOG_EXPIRE (R374). The manager watchdog runs out and causes a node reset. -/
  | watchdogExpire
  /-- CORE_ACCESS_FAULT (R368). A core load that completes with a status other than OK raises a load access fault. -/
  | coreAccessFault (c : Fin 20) (a : Nat) (store : Bool) (status detail : Nat)
  /-- TCM_WINDOW_WRITE (R390). A write to a TCM window is accepted only for a halted pair and the manager pair. -/
  | tcmWindowWrite (v : Fin 4) (o : Origin) (ofs : Fin 0x100000) (bs : List Nat)
  /-- NODE_SLEEP_CHANGE (R425). The node moves to the deepest sleep state that all its constraints allow. -/
  | nodeSleepChange (wfi : Bool)
  /-- CLUSTER_SLEEP (R429). A quiet cluster enters the deepest depth whose entry, latency and lead fit the gap. -/
  | clusterSleep (k : Fin 12)
  /-- SCHEDULED_WAKE (R432). A cluster or die S begins to wake at target − lead − latency. -/
  | scheduledWake (u : Fin 13) (took : Nat)
  /-- CLUSTER_WAKE_EVENT (R430). A push, bus access, wake pad edge, hold_run, quench or seam work wakes a sleeping cluster. -/
  | clusterWakeEvent (k : Fin 12) (cause : Fin 16)
  /-- HOLD_RUN (R425). A write of NODE_SLEEPCTL.hold_run keeps the node and every cluster in RUN. -/
  | holdRun (o : Origin) (w : Nat)
  /-- STOW (R437). NODE_SLEEPCTL.stow stops the engines, takes the links to STOWED and power-gates the node, or returns STATE. -/
  | stow (o : Origin) (w : Nat)
  /-- WAKE_N (R437). WAKE_N low for 1 µs wakes a stowed node. -/
  | wakeN
  /-- STOW_WAKE_DONE (R441). Die S is restored after a wake from STOW, and time resumes in HOLDOVER. -/
  | stowWakeDone (periods : Nat)
  /-- BELLOWS_STEP (R439). The bellows starts the next die, lane, cluster, PE or feed of its kind at the stated spacing. -/
  | bellowsStep (kind : Fin 6)
  /-- FRAME_WAKE (R426). A frame for a sleeping node waits in the ingress buffer and wakes die S, or is dropped when the buffer is full. -/
  | frameWake (p : Fin 2) (f : Frame)
  /-- SEAT_DEBOUNCE (R444). Both seat pins stay low for 50 ms and the card controller leaves SEAT. -/
  | seatDebounce
  /-- SEAT_RELEASE (R445). A seat pin high for 10 µs turns every FET off and returns the card to SEAT. -/
  | seatRelease
  /-- TEMP_RESTART_OK (R446). In WAIT_TEMP the temperature and VIN conditions hold, and the gate ramps. -/
  | tempRestartOk (u : Fin 17) (lo hi : Nat)
  /-- TSENSE_MEASURE (R451). FET_TSENSE is measured every 10 ms on a cold start, or every 100 ms after a sensor fault. -/
  | tsenseMeasure (reading : Option Nat)
  /-- RAMP_DONE (R446). The FET is fully enhanced with the output in its window, and the controller enters ON. -/
  | rampDone (u : Fin 17) (supply vout : Nat)
  /-- FAULT_TIMER_EXPIRE (R447). The current-limit fault timer runs out, so the gate turns off and a trip is counted and reported. -/
  | faultTimerExpire (u : Fin 17)
  /-- FET_MODEL_TICK (R450). Each tick the FET thermal model updates, and the controller trips above T_TRIP. -/
  | fetModelTick (u : Fin 17) (shunt tDieW : Nat)
  /-- VIN_WINDOW_LEAVE (R449). VIN leaves its window, so the gate turns off and the controller returns to WAIT_TEMP without a trip. -/
  | vinWindowLeave (u : Fin 17) (v : Nat)
  /-- RETRY_OFF_EXPIRE (R448). The off time of 128 × the fault time ends, and the controller retries or enters STOPPED. -/
  | retryOffExpire (u : Fin 17)
  /-- FET_DAMAGE (R452). The output stays above 20 % with the gate off for 10 ms, so damage is latched and EJECT_REQ_N is driven. -/
  | fetDamage (u : Fin 17) (supply vout : Nat)
  /-- PG_ASSERT (R453). Power good asserts after the limit has been inactive for PG_DELAY in ON. -/
  | pgAssert (u : Fin 17) (supply vout idle : Nat)
  /-- PG_DROP (R453). Power good drops at a trip, at gate off, or when the output leaves its window. -/
  | pgDrop (u : Fin 17) (supply vout : Nat)
  /-- REG_SEQUENCE_STEP (R455). The next used REG_EN rises step after the previous power good. -/
  | regSequenceStep (pg : Fin 16) (since : Nat)
  /-- REG_PG_TIMEOUT (R455). A used REG_PG does not assert within its timeout, so the enables drop and the card FET turns off. -/
  | regPgTimeout (i : Fin 4)
  /-- REG_PG_ALL (R455). Every used REG_PG asserts, and the power-on reset of die S is released. -/
  | regPgAll (pg : Fin 16) (r1 r2 r3 : Straps)
  /-- FEED_ON (R457). FEED_CTL.on starts an OFF feed, or returns STATE in SHORT. -/
  | feedOn (n : Fin 16) (o : Origin) (w : Nat)
  /-- FEED_OFF (R457). FEED_CTL.off turns a feed off and cancels a pending retry. -/
  | feedOff (n : Fin 16) (o : Origin) (w : Nat)
  /-- FEED_CLEAR (R457). FEED_CTL.clear restarts a STOPPED feed, or returns STATE. -/
  | feedClear (n : Fin 16) (o : Origin) (w : Nat)
  /-- FAULT_DETECT (R460). A fault from a source produces a record, a capture or merge, a log entry, a count and its cast reaction. -/
  | faultDetect (f : FaultInfo) (inj : Option (Origin × Nat))
  /-- FAULT_PULSE_END (R468). The FAULT_N pulse ends, and a pending NODE_RESET reaction begins. -/
  | faultPulseEnd
  /-- RELEASE_CAPTURE (R465). FLT_CTL.release clears handling. -/
  | releaseCapture (o : Origin) (w : Nat)
  /-- CLEAR (R465). FLT_CTL.clear clears valid and handling. -/
  | clear (o : Origin) (w : Nat)
  /-- HOLD (R465). FLT_CTL.hold sets handling to freeze the capture. -/
  | hold (o : Origin) (w : Nat)
  /-- PIN_HOLD_WRITE (R468). A write of FLT_PIN.hold holds FAULT_N low outside pulses, taking effect after a running pulse. -/
  | pinHoldWrite (o : Origin) (w : Nat)
  /-- INJECT (R470). FLT_INJ.go raises one injected fault of the source, or returns AUTH or STATE. -/
  | inject (src : Nat) (o : Origin) (w : Nat)
  /-- FAULT_FORWARD (R467). A record with fwd = 1 is sent to the active head, and the head enters it into its host receive queue. -/
  | faultForward (f : Frame)
  /-- FORWARD_BACKLOG (R467). When the map next shows an active head, the node forwards the records written since, oldest first. -/
  | forwardBacklog
  /-- QUENCH_PIN (R472). An edge on QUENCH held for 20 ns triggers a quench. -/
  | quenchPin (level : Bool)
  /-- QUENCH_TIME_MATCH (R475). Node time reaches the armed instant, and a quench latches on that edge. -/
  | quenchTimeMatch
  /-- TRIGGER (R472). QCH_CTL.trigger triggers a software quench. -/
  | trigger (o : Origin) (w : Nat)
  /-- REARM (R474). QCH_CTL.rearm releases the held snapshot on a TIMECLK edge. -/
  | rearm (o : Origin) (w : Nat)
  /-- TMATCH_ARM (R475). A write of QCH_TMATCH_HI arms the match with the instant, withdraws it, or sets missed. -/
  | tmatchArm (o : Origin) (w : Nat)
  /-- QUENCH_BROADCAST_RECEIVE (R476). A quench broadcast latches at arrival or arms the time match when bcast_in = 1. -/
  | quenchBroadcastReceive (f : Frame)
  /-- PDELAY_REQ_SEND (R295). Each ring port in UP sends a PDELAY_REQ every interval. -/
  | pdelayReqSend (p : Fin 2)
  /-- PDELAY_RESP (R295). A peer answers a PDELAY_REQ with a PDELAY_RESP within 2 µs. -/
  | pdelayResp (p : Fin 2) (seq deskew : Nat)
  /-- PDELAY_SAMPLE (R296). A link delay sample updates or restarts the mean link delay, or is rejected. -/
  | pdelaySample (p : Fin 2) (seq t2 t3 deskew : Nat)
  /-- SYNC_SEND (R299). The active head sends a SYNC on each ring port every TIM_SYNCINT. -/
  | syncSend (p : Fin 2)
  /-- SYNC_RECEIVE (R301). A node takes a SYNC copy, computes its offset and steers, while transit forwards the SYNC with corrected time. -/
  | syncReceive (p : Fin 2) (f : Frame) (deskew residence : Nat)
  /-- TIME_LOSS_TIMEOUT (R303). No valid measurement within the loss timeout moves the servo to HOLDOVER, or switches the head's scale. -/
  | timeLossTimeout
  /-- USE_SEC (R309). TIM_CTL.use_sec switches the head to the secondary scale at the next cycle start, or returns STATE. -/
  | useSec (o : Origin) (w : Nat)
  /-- USE_PRI (R310). TIM_CTL.use_pri switches the head back to the primary scale, or returns STATE. -/
  | usePri (o : Origin) (w : Nat)
  /-- LD_RESTART (R296). TIM_CTL.ld_restart restarts both link delay averages. -/
  | ldRestart (o : Origin) (w : Nat)
  /-- BLEND_STEP (R309). Each cycle the head slews out part of the offset between the time scales. -/
  | blendStep
  /-- AUTO_REVERT (R310). The primary source has been locked for the revert time, and the head blends back to it. -/
  | autoRevert
  /-- HOSTCAP (R306). A write to TIM_HOSTCAP latches node time into TIM_HOSTCAPT. -/
  | hostcap (o : Origin)
  /-- HOSTADJ_SUBMIT (R306). A write of TIM_HOSTADJ_HI submits the host's offset as one measurement. -/
  | hostadjSubmit (o : Origin) (w : Nat)
  /-- TIM_NOW_READ (R322). A read of TIM_NOW0 latches the other node-time words until TIM_NOW3 is read. -/
  | timNowRead (w : Fin 4) (o : Origin)
  /-- PTP_EGRESS (R316). A tunnelled PTP message leaving an Ethernet port has its correction added, is recorded, dropped or forwarded. -/
  | ptpEgress (e : Fin 2) (f : Frame) (peer : Nat)
  /-- TWO_STEP_EXPIRE (R317). A two-step Sync table entry expires 1 s after it was made. -/
  | twoStepExpire (e : Fin 2)
  /-- ETH_PDELAY (R316). A P2P Ethernet port requests peer delay every pdelay_int and answers as a two-step responder. -/
  | ethPdelay (e : Fin 2) (m : EthPdelayMsg)
  /-- PTP_ORDINARY_CLOCK (R318). The head's slave-only PTP clock takes a message from its master and copies the UTC data. -/
  | ptpOrdinaryClock (e : Fin 2) (domain : Fin 256) (source : Nat) (m : PtpMsg)
  /-- LAUNCH (R319). A held frame's launch time is reached and the frame takes part in selection. -/
  | launch (o : Fin 10) (u : Fin 9) (c : Fin 8)
  /-- GATE_ENTRY (R326). A gate list entry ends and the next entry's gate states apply. -/
  | gateEntry (g : Fin 4)
  /-- GATE_COMMIT (R336). ETH_GCTL.commit makes a staged list pending, or returns BUSY or RANGE. -/
  | gateCommit (g : Fin 4) (o : Origin) (w : Nat)
  /-- GATE_CANCEL (R336). ETH_GCTL.cancel withdraws a pending change, or returns STATE. -/
  | gateCancel (g : Fin 4) (o : Origin) (w : Nat)
  /-- GATE_CHANGE (R336). At the first list cycle start at or after the change time, the staged list becomes operational. -/
  | gateChange (g : Fin 4)
  /-- GATE_STAGE_WRITE (R336). A write to the staged gate list stores the entry, or returns STATE while a change is pending. -/
  | gateStageWrite (g : Fin 4) (i : Fin 256) (w : Fin 2) (o : Origin) (v : Nat)
  /-- WHEEL_TICK (R340). The wheel pointer advances one 64 ns slot and makes its entries eligible, moving overflow entries at slot 0. -/
  | wheelTick
  /-- WHEEL_ENTER (R340). A shaped frame that is not yet eligible at the head of its queue enters its wheel slot or the overflow list. -/
  | wheelEnter (o : Fin 10) (u : Fin 9) (c : Fin 8)
  /-- SCORE_UPDATE (R482). The health scores are updated at least every 10 s, and at once after a mismatch or corrected error. -/
  | scoreUpdate (e : Element) (r : Reading)
  /-- WEAR_STORE_WRITE (R482). The wear store is written at least once per powered hour and at each entry to STOW. -/
  | wearStoreWrite
  /-- PE_ANNEAL (R486). At a seam a worn PE's state moves to the spare at an instruction boundary, and the worn PE is retired. -/
  | peAnneal (k : Fin 12) (n : Fin 9)
  /-- LANE_ANNEAL (R489). A worn lane is annealed by a planned lane switch at a seam. -/
  | laneAnneal (p : Fin 2) (j : Fin 5)
  /-- WIRE_ANNEAL (R490). A worn die-to-die wire is mirrored onto a spare wire and switched inside a seam. -/
  | wireAnneal (l : Fin 3) (d : Fin 2) (w : Fin 66)
  /-- LEG_ANNEAL (R491). A worn pad leg is replaced by the idle leg at a seam. -/
  | legAnneal (k : Fin 12) (p : Fin 32)
  /-- BANK_COPY_START (R492). A due buffer bank starts mirroring its writes and copying its cells to the spare bank. -/
  | bankCopyStart (b : Fin 17)
  /-- BANK_SWITCH (R492). At the first seam after the copy completes, reads move to the spare bank in one cycle. -/
  | bankSwitch
  /-- ROW_ANNEAL (R493). A due SRAM row is redirected to a spare row of its macro at a seam. -/
  | rowAnneal (die : Fin 4) (macro_ : Fin 256) (row : Fin 65536) (spare uncorrectable : Bool)
  /-- PAIR_ANNEAL (R494). A worn core pair is moved onto a spare pair, at once or at a long enough seam. -/
  | pairAnneal (p : Fin 10)
  /-- ANNEAL (R498). WEAR_CTL.anneal makes the element in WEAR_SEL due now, or returns RANGE, STATE or BUSY. -/
  | anneal (o : Origin) (w : Nat)
  /-- CANCEL (R498). WEAR_CTL.cancel withdraws a forced entry that has not yet been annealed. -/
  | cancel (o : Origin) (w : Nat)
  /-- RESERVED_OPCODE (R46). A PE issues a word with a reserved opcode, register, condition or action code, or a non-zero unused field, and stops with a program error of cause ILLEGAL_OP. -/
  | reservedOpcode (k : Fin 12) (n : Fin 9)
  /-- RST_N_RELEASE (R506). RST_N rises after holding a node reset, the straps are taken by majority, and the node leaves reset for BOOT. -/
  | rstNRelease (r1 r2 r3 : Straps)
  /-- VDD_P_BROWN_OUT (R513). VDD_P falls below 0.70 V, so that port die enters die reset and its pads park. -/
  | vddPBrownOut (d : Fin 2)
  /-- VDD_P_RETURN (R515). VDD_P has been within its recommended range for 1 ms, and the port die leaves die reset. -/
  | vddPReturn (d : Fin 2)
  /-- PCIE_LINK_UP (R264). A head's PCIe link finishes training after BOOT, which puts switch port 2 up and sets HOST_STAT gen and width. -/
  | pcieLinkUp (gen width mps : Nat)
  /-- ETH_LINK_UP (R157). The link of ETH0 or ETH1 comes up, and its switch port becomes up. -/
  | ethLinkUp (e : Fin 2) (mode : Fin 5)
  /-- SPARE_LANE_LOCK_LOSS (R220). The spare lane loses block lock or alignment in UP, spare_ready clears, and it is retrained in the background. -/
  | spareLaneLockLoss (p : Fin 2)
  /-- SPARE_LANE_RELOCK (R220). The spare lane regains block lock and alignment, and spare_ready sets again. -/
  | spareLaneRelock (p : Fin 2)
  /-- INGOT_FLASH_WRITE_DONE (R381). The flash erase of an INGOT OPEN or the flash write of an INGOT DATA ends, the bitmap bit is cleared and the command leaves busy. -/
  | ingotFlashWriteDone
  /-- CURRENT_LIMIT_ENGAGE (R447). The load current reaches the cast limit, the limit holds the shunt voltage and the fault timer starts counting. -/
  | currentLimitEngage (u : Fin 17) (idle : Nat)
  /-- FAULT_TIMER_CLEAR (R447). The current limit has been inactive for 1 ms without a break, and the fault timer clears. -/
  | faultTimerClear (u : Fin 17)
  deriving DecidableEq, Repr

end Sys2Proof
end

