-- ==== Sys2Proof/Config.lean ====
section
/-! DEFINITION. Config.lean: the values the spec leaves open, as constants without a body: nothing can prove a value of
one, so a claim that mentions one holds whatever it is. -/

namespace Sys2Proof.Machine

/-- The level a CAN FD controller drives on its standby pad while it is off (true) or on (false): R98 gives none. -/
opaque Config.standbyLevel : Bool → Bool

/-- The transmitter delay that controller j of cluster k measures at a node time (R96, CL_CANSTAT.tdcv). -/
opaque Config.transmitDelay : Nat → Nat → Nat → Nat

/-- The level of a line that nothing drives and nothing pulls, by cluster and pad (R61, R89, R90). -/
opaque Config.floatLevel : Nat → Nat → Bool

/-- The device-identity keys in the boot ROM of die S (R398, R399): the ECDSA and the ML-DSA public key of an issuer key ID. -/
opaque Config.deviceKey : Nat → Option (List Nat × List Nat)

/-- The eye margin that the receiver of port p measures on physical lane l at an instant, as a score from 0 to 255 (R220, R229). -/
opaque Config.laneMargin : Nat → Nat → Nat → Nat

/-- The subtype code of a MGMT or MIRROR message by its kind, and the bytes that carry its contents: the spec names these
messages and gives no codes or layouts for them, 0x30 and 0x31 apart (R234). -/
opaque Config.mgmtSubtype : Nat → Nat
opaque Config.mgmtBytes : Nat → List Nat → List Nat

/-- What the servo makes of its measurements: the frequency part and the size of the phase part of the steering, for the n-th
draw: R305 gives only their limits. -/
opaque Config.servoFreq : Nat → Int
opaque Config.servoPhase : Nat → Nat

/-- A residence multiplied by the rate ratio of the primary source (R315), for the n-th draw. -/
opaque Config.ratioScaled : Nat → Nat → Nat

/-- The peer link delay of the Ethernet port of another node at which a frame entered (R316), for the n-th draw: the spec gives no
field of the ETH frame that carries it. -/
opaque Config.farPeer : Nat → Nat

/-- The bytes of a PTP message that a port itself makes (IEEE 1588): kind and contents. -/
opaque Config.ptpBytes : Nat → List Nat → List Nat

/-- What the model and the current measurement of the card FET make of a shunt voltage when the cast shunt is 0: R450 divides by
it and states no result. -/
opaque Config.zeroShunt : Nat → Nat

/-- Bytes from the DRBG (R411): the n-th draw, and a length. -/
opaque Config.drbg : Nat → Nat → List Nat

/-- The touchmark's private key of an algorithm, derived from the PUF response and the fused seed (R392). -/
opaque Config.touchmarkKey : Nat → List Nat → List Nat

/-- The PUF response of die S and its fused 256-bit seed, and the info strings of what HKDF derives from them: 0 the root, 1 the storage key,
2 the integrity key (R392). -/
opaque Config.pufResponse : List Nat
opaque Config.fusedSeed : List Nat
opaque Config.rootInfo : Nat → List Nat

/-- The nonce under which slot i is encrypted and tagged in the store (R396). -/
opaque Config.storeNonce : Nat → List Nat

/-- A byte of the touchmark certificate that the part's making fixes: serial number, revisions, issue time, issuer, signatures (R398). -/
opaque Config.certField : Nat → Nat

/-- The statement of an AUTHORITY operation (R400), whose layout the spec does not give: the ECDSA and the ML-DSA key that it
carries, and whether it is signed by a key pair. -/
opaque Config.statementKey : Nat → List Nat → List Nat
opaque Config.statementSigned : List Nat → List Nat → List Nat → Bool

/-- The GMAC tag of a settings copy (R358): key and the bytes covered; the spec gives no IV. -/
opaque Config.settingsTag : List Nat → List Nat → List Nat

/-- Bytes 16 to 31 of a record of the bench log (R420), for its number. -/
opaque Config.benchTail : Nat → List Nat

/-- The 32-byte record that says how many records of the bench log were lost (R420), whose layout the spec does not give. -/
opaque Config.benchLost : Nat → List Nat

/-- The bytes of the record of a staged image (R379), whose layout the spec does not give: its ID, kind, size and ingot count. -/
opaque Config.recordBytes : Nat → Nat → Nat → Nat → List Nat

/-- The slope of a score where the least-squares loss is no whole number of 0.01 points per 1,000 h, or a gain (R499): the loss as
numerator and denominator. The spec does not say how it is rounded. -/
opaque Config.roundSlope : Int → Nat → Nat

/-- What the monitors of die d show at node time t: word 0 the temperature, then its rails in mV (R478, kind 0x09). -/
opaque Config.dieMonitor : Nat → Nat → Nat → Nat

/-- A 32-bit word that the spec leaves open, for the n-th draw. -/
opaque Config.freeWord : Nat → Nat

end Sys2Proof.Machine
end

