-- ==== Sys2Proof/Machine/RegMap.lean ====
section
/-! DEFINITION. Machine/RegMap.lean: every register of the node space, as the register maps of the spec give it:
R83 (PE), R115 (cluster), R156 (bridge), R192 (switch), R229 (link), R262 (ring), R286 (host), R288 and R442 (node),
R322 (time), R341 (gates), R366 and R388 (casting), R390 (core), R421 (crucible), R458 (power), R479 (faults),
R480 (quench), R500 and R389 (wear). `X.addr` is a register's node-space offset, `X.f` its field f with the reset value
of R10. A field whose reset is cast takes the default that its chapter states, and 0 where its chapter states none (R351,
log 1); one whose reset is strap, fuse or stored takes 0 (log entries 2 and 3). -/

namespace Sys2Proof.Machine

/-- The default reaction class of fault source s: 0 LOG, 1 PORT_STOP, 2 CLUSTER_PARK, 3 NODE_HOLD,
4 NODE_RESET (R461, R528). -/
def defaultClass (s : Nat) : Nat :=
  if s = 0x01 then 1
  else if s = 0x04 then 2
  else if s = 0x24 ∨ s = 0x72 then 3
  else if s = 0x73 then 4
  else 0

/-- The spares of pool i of a new part (R483); of SRAM rows, where the spec gives only a least share, 1 (log 22). -/
def poolSpares (i : Nat) : Nat :=
  if i ≤ 13 then 1 else if i = 14 then 2 else if i ≤ 19 then 1 else if i ≤ 25 then 2 else 32

def PE_CTL.addr (k n : Nat) : Nat := 0x1080000 + 0x100000 * k + 0x1000 * n
def PE_CTL.start (k n : Nat) : Fld := ⟨PE_CTL.addr k n, 0, 1, 0⟩
def PE_CTL.halt (k n : Nat) : Fld := ⟨PE_CTL.addr k n, 1, 1, 0⟩
def PE_CTL.step (k n : Nat) : Fld := ⟨PE_CTL.addr k n, 2, 1, 0⟩
def PE_CTL.swap_req (k n : Nat) : Fld := ⟨PE_CTL.addr k n, 3, 1, 0⟩
def PE_CTL.swap_cancel (k n : Nat) : Fld := ⟨PE_CTL.addr k n, 4, 1, 0⟩
def PE_CTL.force (k n : Nat) : Fld := ⟨PE_CTL.addr k n, 5, 1, 0⟩
def PE_CTL.start_pc (k n : Nat) : Fld := ⟨PE_CTL.addr k n, 16, 6, 0⟩
def PE_CTL.unit_reset (k n : Nat) : Fld := ⟨PE_CTL.addr k n, 31, 1, 0⟩

def PE_STATUS.addr (k n : Nat) : Nat := 0x1080004 + 0x100000 * k + 0x1000 * n
def PE_STATUS.run (k n : Nat) : Fld := ⟨PE_STATUS.addr k n, 0, 2, 0⟩
def PE_STATUS.wait_op (k n : Nat) : Fld := ⟨PE_STATUS.addr k n, 2, 6, 0⟩
def PE_STATUS.active_bank (k n : Nat) : Fld := ⟨PE_STATUS.addr k n, 8, 1, 0⟩
def PE_STATUS.swap_pending (k n : Nat) : Fld := ⟨PE_STATUS.addr k n, 9, 1, 0⟩
def PE_STATUS.force_pending (k n : Nat) : Fld := ⟨PE_STATUS.addr k n, 10, 1, 0⟩
def PE_STATUS.pc (k n : Nat) : Fld := ⟨PE_STATUS.addr k n, 11, 6, 0⟩
def PE_STATUS.halt_cause (k n : Nat) : Fld := ⟨PE_STATUS.addr k n, 17, 4, 0⟩
def PE_STATUS.actions (k n : Nat) : Fld := ⟨PE_STATUS.addr k n, 21, 3, 0⟩
def PE_STATUS.logical (k n : Nat) : Fld := ⟨PE_STATUS.addr k n, 24, 4, if n ≤ 7 then n else 15⟩

def PE_FLAGS.addr (k n : Nat) : Nat := 0x1080008 + 0x100000 * k + 0x1000 * n
def PE_FLAGS.late (k n : Nat) : Fld := ⟨PE_FLAGS.addr k n, 0, 1, 0⟩
def PE_FLAGS.own_err (k n : Nat) : Fld := ⟨PE_FLAGS.addr k n, 1, 1, 0⟩
def PE_FLAGS.collide (k n : Nat) : Fld := ⟨PE_FLAGS.addr k n, 2, 1, 0⟩
def PE_FLAGS.forced (k n : Nat) : Fld := ⟨PE_FLAGS.addr k n, 3, 1, 0⟩
def PE_FLAGS.stamp_stale (k n : Nat) : Fld := ⟨PE_FLAGS.addr k n, 4, 1, 0⟩

def PE_CFG.addr (k n : Nat) : Nat := 0x108000c + 0x100000 * k + 0x1000 * n
def PE_CFG.in_len (k n : Nat) : Fld := ⟨PE_CFG.addr k n, 0, 6, 0⟩
def PE_CFG.out_len (k n : Nat) : Fld := ⟨PE_CFG.addr k n, 8, 6, 0⟩
def PE_CFG.in_msb (k n : Nat) : Fld := ⟨PE_CFG.addr k n, 16, 1, 0⟩
def PE_CFG.out_msb (k n : Nat) : Fld := ⟨PE_CFG.addr k n, 17, 1, 0⟩
def PE_CFG.late_drop (k n : Nat) : Fld := ⟨PE_CFG.addr k n, 18, 1, 0⟩

def PE_PADMAP0.addr (k n : Nat) : Nat := 0x1080010 + 0x100000 * k + 0x1000 * n
def PE_PADMAP0.s0_pad (k n : Nat) : Fld := ⟨PE_PADMAP0.addr k n, 0, 5, 0⟩
def PE_PADMAP0.s0_en (k n : Nat) : Fld := ⟨PE_PADMAP0.addr k n, 7, 1, 0⟩
def PE_PADMAP0.s1_pad (k n : Nat) : Fld := ⟨PE_PADMAP0.addr k n, 8, 5, 0⟩
def PE_PADMAP0.s1_en (k n : Nat) : Fld := ⟨PE_PADMAP0.addr k n, 15, 1, 0⟩
def PE_PADMAP0.s2_pad (k n : Nat) : Fld := ⟨PE_PADMAP0.addr k n, 16, 5, 0⟩
def PE_PADMAP0.s2_en (k n : Nat) : Fld := ⟨PE_PADMAP0.addr k n, 23, 1, 0⟩
def PE_PADMAP0.s3_pad (k n : Nat) : Fld := ⟨PE_PADMAP0.addr k n, 24, 5, 0⟩
def PE_PADMAP0.s3_en (k n : Nat) : Fld := ⟨PE_PADMAP0.addr k n, 31, 1, 0⟩

def PE_PADMAP1.addr (k n : Nat) : Nat := 0x1080014 + 0x100000 * k + 0x1000 * n
def PE_PADMAP1.s4_pad (k n : Nat) : Fld := ⟨PE_PADMAP1.addr k n, 0, 5, 0⟩
def PE_PADMAP1.s4_en (k n : Nat) : Fld := ⟨PE_PADMAP1.addr k n, 7, 1, 0⟩
def PE_PADMAP1.s5_pad (k n : Nat) : Fld := ⟨PE_PADMAP1.addr k n, 8, 5, 0⟩
def PE_PADMAP1.s5_en (k n : Nat) : Fld := ⟨PE_PADMAP1.addr k n, 15, 1, 0⟩
def PE_PADMAP1.s6_pad (k n : Nat) : Fld := ⟨PE_PADMAP1.addr k n, 16, 5, 0⟩
def PE_PADMAP1.s6_en (k n : Nat) : Fld := ⟨PE_PADMAP1.addr k n, 23, 1, 0⟩
def PE_PADMAP1.s7_pad (k n : Nat) : Fld := ⟨PE_PADMAP1.addr k n, 24, 5, 0⟩
def PE_PADMAP1.s7_en (k n : Nat) : Fld := ⟨PE_PADMAP1.addr k n, 31, 1, 0⟩

def PE_OWN.addr (k n : Nat) : Nat := 0x1080018 + 0x100000 * k + 0x1000 * n
def PE_OWN.own (k n : Nat) : Fld := ⟨PE_OWN.addr k n, 0, 8, 0⟩

def PE_QBIND.addr (k n : Nat) : Nat := 0x108001c + 0x100000 * k + 0x1000 * n
def PE_QBIND.tx_queue (k n : Nat) : Fld := ⟨PE_QBIND.addr k n, 0, 5, 0⟩
def PE_QBIND.tx_en (k n : Nat) : Fld := ⟨PE_QBIND.addr k n, 7, 1, 0⟩
def PE_QBIND.rx_queue (k n : Nat) : Fld := ⟨PE_QBIND.addr k n, 8, 5, 0⟩
def PE_QBIND.rx_en (k n : Nat) : Fld := ⟨PE_QBIND.addr k n, 15, 1, 0⟩

def PE_X.addr (k n : Nat) : Nat := 0x1080020 + 0x100000 * k + 0x1000 * n
def PE_X.x (k n : Nat) : Fld := ⟨PE_X.addr k n, 0, 32, 0⟩

def PE_Y.addr (k n : Nat) : Nat := 0x1080024 + 0x100000 * k + 0x1000 * n
def PE_Y.y (k n : Nat) : Fld := ⟨PE_Y.addr k n, 0, 32, 0⟩

def PE_C.addr (k n : Nat) : Nat := 0x1080028 + 0x100000 * k + 0x1000 * n
def PE_C.c0 (k n : Nat) : Fld := ⟨PE_C.addr k n, 0, 16, 0⟩
def PE_C.c1 (k n : Nat) : Fld := ⟨PE_C.addr k n, 16, 16, 0⟩

def PE_T_LO.addr (k n : Nat) : Nat := 0x108002c + 0x100000 * k + 0x1000 * n
def PE_T_LO.t_lo (k n : Nat) : Fld := ⟨PE_T_LO.addr k n, 0, 32, 0⟩

def PE_T_HI.addr (k n : Nat) : Nat := 0x1080030 + 0x100000 * k + 0x1000 * n
def PE_T_HI.t_hi (k n : Nat) : Fld := ⟨PE_T_HI.addr k n, 0, 16, 0⟩
def PE_T_HI.t_fine (k n : Nat) : Fld := ⟨PE_T_HI.addr k n, 16, 3, 0⟩

def PE_SHIN.addr (k n : Nat) : Nat := 0x1080034 + 0x100000 * k + 0x1000 * n
def PE_SHIN.shin (k n : Nat) : Fld := ⟨PE_SHIN.addr k n, 0, 32, 0⟩

def PE_SHOUT.addr (k n : Nat) : Nat := 0x1080038 + 0x100000 * k + 0x1000 * n
def PE_SHOUT.shout (k n : Nat) : Fld := ⟨PE_SHOUT.addr k n, 0, 32, 0⟩

def PE_SHCNT.addr (k n : Nat) : Nat := 0x108003c + 0x100000 * k + 0x1000 * n
def PE_SHCNT.in_count (k n : Nat) : Fld := ⟨PE_SHCNT.addr k n, 0, 6, 0⟩
def PE_SHCNT.out_count (k n : Nat) : Fld := ⟨PE_SHCNT.addr k n, 8, 6, 0⟩

def PE_TAG.addr (k n : Nat) : Nat := 0x1080040 + 0x100000 * k + 0x1000 * n
def PE_TAG.tag (k n : Nat) : Fld := ⟨PE_TAG.addr k n, 0, 4, 0⟩

def PE_LASTABORT.addr (k n : Nat) : Nat := 0x1080044 + 0x100000 * k + 0x1000 * n
def PE_LASTABORT.in_count (k n : Nat) : Fld := ⟨PE_LASTABORT.addr k n, 0, 6, 0⟩
def PE_LASTABORT.out_count (k n : Nat) : Fld := ⟨PE_LASTABORT.addr k n, 8, 6, 0⟩
def PE_LASTABORT.pc (k n : Nat) : Fld := ⟨PE_LASTABORT.addr k n, 16, 6, 0⟩
def PE_LASTABORT.port_words (k n : Nat) : Fld := ⟨PE_LASTABORT.addr k n, 24, 5, 0⟩
def PE_LASTABORT.valid (k n : Nat) : Fld := ⟨PE_LASTABORT.addr k n, 31, 1, 0⟩

def PE_ERRCNT.addr (k n : Nat) : Nat := 0x1080048 + 0x100000 * k + 0x1000 * n
def PE_ERRCNT.late (k n : Nat) : Fld := ⟨PE_ERRCNT.addr k n, 0, 16, 0⟩
def PE_ERRCNT.own (k n : Nat) : Fld := ⟨PE_ERRCNT.addr k n, 16, 16, 0⟩

def PE_PROG.addr (k n i : Nat) : Nat := 0x1080400 + 0x100000 * k + 0x1000 * n + 0x4 * i
def PE_PROG.word (k n i : Nat) : Fld := ⟨PE_PROG.addr k n i, 0, 32, 0⟩

def CL_CTL.addr (k : Nat) : Nat := 0x1000000 + 0x100000 * k
def CL_CTL.cl_reset (k : Nat) : Fld := ⟨CL_CTL.addr k, 0, 1, 0⟩

def CL_STATUS.addr (k : Nat) : Nat := 0x1000004 + 0x100000 * k
def CL_STATUS.time_lock (k : Nat) : Fld := ⟨CL_STATUS.addr k, 0, 1, 0⟩
def CL_STATUS.in_reset (k : Nat) : Fld := ⟨CL_STATUS.addr k, 1, 1, 1⟩
def CL_STATUS.parked (k : Nat) : Fld := ⟨CL_STATUS.addr k, 2, 1, 1⟩
def CL_STATUS.asleep (k : Nat) : Fld := ⟨CL_STATUS.addr k, 3, 1, 0⟩
def CL_STATUS.spare_pe (k : Nat) : Fld := ⟨CL_STATUS.addr k, 4, 4, 8⟩
def CL_STATUS.bank_ok (k : Nat) : Fld := ⟨CL_STATUS.addr k, 8, 2, 0⟩

def CL_IRQ.addr (k : Nat) : Nat := 0x1000008 + 0x100000 * k
def CL_IRQ.event (k : Nat) : Fld := ⟨CL_IRQ.addr k, 0, 1, 0⟩
def CL_IRQ.qreset (k : Nat) : Fld := ⟨CL_IRQ.addr k, 1, 1, 0⟩
def CL_IRQ.bank_fault (k : Nat) : Fld := ⟨CL_IRQ.addr k, 2, 1, 0⟩
def CL_IRQ.overrun (k : Nat) : Fld := ⟨CL_IRQ.addr k, 3, 1, 0⟩
def CL_IRQ.can0 (k : Nat) : Fld := ⟨CL_IRQ.addr k, 4, 1, 0⟩
def CL_IRQ.can1 (k : Nat) : Fld := ⟨CL_IRQ.addr k, 5, 1, 0⟩

def CL_IRQEN.addr (k : Nat) : Nat := 0x100000c + 0x100000 * k
def CL_IRQEN.event (k : Nat) : Fld := ⟨CL_IRQEN.addr k, 0, 1, 0⟩
def CL_IRQEN.qreset (k : Nat) : Fld := ⟨CL_IRQEN.addr k, 1, 1, 0⟩
def CL_IRQEN.bank_fault (k : Nat) : Fld := ⟨CL_IRQEN.addr k, 2, 1, 0⟩
def CL_IRQEN.overrun (k : Nat) : Fld := ⟨CL_IRQEN.addr k, 3, 1, 0⟩
def CL_IRQEN.can0 (k : Nat) : Fld := ⟨CL_IRQEN.addr k, 4, 1, 0⟩
def CL_IRQEN.can1 (k : Nat) : Fld := ⟨CL_IRQEN.addr k, 5, 1, 0⟩

def CL_QIRQ.addr (k : Nat) : Nat := 0x1000010 + 0x100000 * k
def CL_QIRQ.level (k : Nat) : Fld := ⟨CL_QIRQ.addr k, 0, 32, 0⟩

def CL_QIRQEN.addr (k : Nat) : Nat := 0x1000014 + 0x100000 * k
def CL_QIRQEN.level_en (k : Nat) : Fld := ⟨CL_QIRQEN.addr k, 0, 32, 0⟩

def CL_QREADWAIT.addr (k : Nat) : Nat := 0x1000018 + 0x100000 * k
def CL_QREADWAIT.wait (k : Nat) : Fld := ⟨CL_QREADWAIT.addr k, 0, 8, 20⟩

def CL_PADLVL.addr (k : Nat) : Nat := 0x1000020 + 0x100000 * k
def CL_PADLVL.level (k : Nat) : Fld := ⟨CL_PADLVL.addr k, 0, 32, 0⟩

def CL_EDGELOST.addr (k : Nat) : Nat := 0x1000024 + 0x100000 * k
def CL_EDGELOST.lost (k : Nat) : Fld := ⟨CL_EDGELOST.addr k, 0, 32, 0⟩

def CL_REFUSED.addr (k : Nat) : Nat := 0x1000028 + 0x100000 * k
def CL_REFUSED.count (k : Nat) : Fld := ⟨CL_REFUSED.addr k, 0, 32, 0⟩

def CL_PADLOST.addr (k p : Nat) : Nat := 0x1000a00 + 0x100000 * k + 0x4 * p
def CL_PADLOST.lost (k p : Nat) : Fld := ⟨CL_PADLOST.addr k p, 0, 16, 0⟩

def CL_BANKCFG.addr (k : Nat) : Nat := 0x100001c + 0x100000 * k
def CL_BANKCFG.b0_volt (k : Nat) : Fld := ⟨CL_BANKCFG.addr k, 0, 2, 0⟩
def CL_BANKCFG.b1_volt (k : Nat) : Fld := ⟨CL_BANKCFG.addr k, 8, 2, 0⟩
def CL_BANKCFG.b0_meas (k : Nat) : Fld := ⟨CL_BANKCFG.addr k, 16, 2, 0⟩
def CL_BANKCFG.b0_nomatch (k : Nat) : Fld := ⟨CL_BANKCFG.addr k, 18, 1, 0⟩
def CL_BANKCFG.b1_meas (k : Nat) : Fld := ⟨CL_BANKCFG.addr k, 24, 2, 0⟩
def CL_BANKCFG.b1_nomatch (k : Nat) : Fld := ⟨CL_BANKCFG.addr k, 26, 1, 0⟩

def CL_PADCFG.addr (k p : Nat) : Nat := 0x1000400 + 0x100000 * k + 0x4 * p
def CL_PADCFG.drive (k p : Nat) : Fld := ⟨CL_PADCFG.addr k p, 0, 2, 0⟩
def CL_PADCFG.share (k p : Nat) : Fld := ⟨CL_PADCFG.addr k p, 2, 2, 0⟩
def CL_PADCFG.pull (k p : Nat) : Fld := ⟨CL_PADCFG.addr k p, 4, 2, 0⟩
def CL_PADCFG.schmitt (k p : Nat) : Fld := ⟨CL_PADCFG.addr k p, 6, 1, 0⟩
def CL_PADCFG.strength (k p : Nat) : Fld := ⟨CL_PADCFG.addr k p, 8, 2, 0⟩
def CL_PADCFG.slew (k p : Nat) : Fld := ⟨CL_PADCFG.addr k p, 10, 1, 0⟩
def CL_PADCFG.hold (k p : Nat) : Fld := ⟨CL_PADCFG.addr k p, 11, 1, 0⟩

def CL_PADSTAMP0.addr (k p : Nat) : Nat := 0x1000800 + 0x100000 * k + 0x10 * p
def CL_PADSTAMP0.rise_lo (k p : Nat) : Fld := ⟨CL_PADSTAMP0.addr k p, 0, 32, 0⟩

def CL_PADSTAMP1.addr (k p : Nat) : Nat := 0x1000804 + 0x100000 * k + 0x10 * p
def CL_PADSTAMP1.rise_hi (k p : Nat) : Fld := ⟨CL_PADSTAMP1.addr k p, 0, 16, 0⟩
def CL_PADSTAMP1.rise_fine (k p : Nat) : Fld := ⟨CL_PADSTAMP1.addr k p, 16, 3, 0⟩
def CL_PADSTAMP1.rise_valid (k p : Nat) : Fld := ⟨CL_PADSTAMP1.addr k p, 31, 1, 0⟩

def CL_PADSTAMP2.addr (k p : Nat) : Nat := 0x1000808 + 0x100000 * k + 0x10 * p
def CL_PADSTAMP2.fall_lo (k p : Nat) : Fld := ⟨CL_PADSTAMP2.addr k p, 0, 32, 0⟩

def CL_PADSTAMP3.addr (k p : Nat) : Nat := 0x100080c + 0x100000 * k + 0x10 * p
def CL_PADSTAMP3.fall_hi (k p : Nat) : Fld := ⟨CL_PADSTAMP3.addr k p, 0, 16, 0⟩
def CL_PADSTAMP3.fall_fine (k p : Nat) : Fld := ⟨CL_PADSTAMP3.addr k p, 16, 3, 0⟩
def CL_PADSTAMP3.fall_valid (k p : Nat) : Fld := ⟨CL_PADSTAMP3.addr k p, 31, 1, 0⟩

def CL_CANCFG.addr (k j : Nat) : Nat := 0x1000c00 + 0x100000 * k + 0x40 * j
def CL_CANCFG.mode (k j : Nat) : Fld := ⟨CL_CANCFG.addr k j, 0, 2, 0⟩
def CL_CANCFG.loopback (k j : Nat) : Fld := ⟨CL_CANCFG.addr k j, 2, 1, 0⟩
def CL_CANCFG.fd_en (k j : Nat) : Fld := ⟨CL_CANCFG.addr k j, 3, 1, 0⟩
def CL_CANCFG.auto_rec (k j : Nat) : Fld := ⟨CL_CANCFG.addr k j, 4, 1, 0⟩
def CL_CANCFG.recover (k j : Nat) : Fld := ⟨CL_CANCFG.addr k j, 5, 1, 0⟩

def CL_CANNBT.addr (k j : Nat) : Nat := 0x1000c04 + 0x100000 * k + 0x40 * j
def CL_CANNBT.nbrp (k j : Nat) : Fld := ⟨CL_CANNBT.addr k j, 0, 8, 0⟩
def CL_CANNBT.nseg1 (k j : Nat) : Fld := ⟨CL_CANNBT.addr k j, 8, 8, 0⟩
def CL_CANNBT.nseg2 (k j : Nat) : Fld := ⟨CL_CANNBT.addr k j, 16, 7, 0⟩
def CL_CANNBT.nsjw (k j : Nat) : Fld := ⟨CL_CANNBT.addr k j, 23, 7, 0⟩

def CL_CANDBT.addr (k j : Nat) : Nat := 0x1000c08 + 0x100000 * k + 0x40 * j
def CL_CANDBT.dbrp (k j : Nat) : Fld := ⟨CL_CANDBT.addr k j, 0, 8, 0⟩
def CL_CANDBT.dseg1 (k j : Nat) : Fld := ⟨CL_CANDBT.addr k j, 8, 5, 0⟩
def CL_CANDBT.dseg2 (k j : Nat) : Fld := ⟨CL_CANDBT.addr k j, 16, 4, 0⟩
def CL_CANDBT.dsjw (k j : Nat) : Fld := ⟨CL_CANDBT.addr k j, 20, 4, 0⟩
def CL_CANDBT.tdco (k j : Nat) : Fld := ⟨CL_CANDBT.addr k j, 24, 7, 0⟩

def CL_CANPAD.addr (k j : Nat) : Nat := 0x1000c0c + 0x100000 * k + 0x40 * j
def CL_CANPAD.tx_pad (k j : Nat) : Fld := ⟨CL_CANPAD.addr k j, 0, 5, 0⟩
def CL_CANPAD.tx_en (k j : Nat) : Fld := ⟨CL_CANPAD.addr k j, 7, 1, 0⟩
def CL_CANPAD.rx_pad (k j : Nat) : Fld := ⟨CL_CANPAD.addr k j, 8, 5, 0⟩
def CL_CANPAD.rx_en (k j : Nat) : Fld := ⟨CL_CANPAD.addr k j, 15, 1, 0⟩
def CL_CANPAD.stb_pad (k j : Nat) : Fld := ⟨CL_CANPAD.addr k j, 16, 5, 0⟩
def CL_CANPAD.stb_en (k j : Nat) : Fld := ⟨CL_CANPAD.addr k j, 23, 1, 0⟩

def CL_CANQ.addr (k j : Nat) : Nat := 0x1000c10 + 0x100000 * k + 0x40 * j
def CL_CANQ.tx_queue (k j : Nat) : Fld := ⟨CL_CANQ.addr k j, 0, 5, 0⟩
def CL_CANQ.tx_en (k j : Nat) : Fld := ⟨CL_CANQ.addr k j, 7, 1, 0⟩
def CL_CANQ.rx_queue (k j : Nat) : Fld := ⟨CL_CANQ.addr k j, 8, 5, 0⟩
def CL_CANQ.rx_en (k j : Nat) : Fld := ⟨CL_CANQ.addr k j, 15, 1, 0⟩

def CL_CANSTAT.addr (k j : Nat) : Nat := 0x1000c14 + 0x100000 * k + 0x40 * j
def CL_CANSTAT.tec (k j : Nat) : Fld := ⟨CL_CANSTAT.addr k j, 0, 8, 0⟩
def CL_CANSTAT.rec (k j : Nat) : Fld := ⟨CL_CANSTAT.addr k j, 8, 8, 0⟩
def CL_CANSTAT.bus (k j : Nat) : Fld := ⟨CL_CANSTAT.addr k j, 16, 2, 0⟩
def CL_CANSTAT.tdcv (k j : Nat) : Fld := ⟨CL_CANSTAT.addr k j, 18, 7, 0⟩

def CL_QCFG.addr (k q : Nat) : Nat := 0x1001000 + 0x100000 * k + 0x40 * q
def CL_QCFG.base (k q : Nat) : Fld := ⟨CL_QCFG.addr k q, 0, 14, 0⟩
def CL_QCFG.class_ (k q : Nat) : Fld := ⟨CL_QCFG.addr k q, 15, 1, 0⟩
def CL_QCFG.depth (k q : Nat) : Fld := ⟨CL_QCFG.addr k q, 16, 12, 0⟩
def CL_QCFG.en (k q : Nat) : Fld := ⟨CL_QCFG.addr k q, 31, 1, 0⟩

def CL_QCTL.addr (k q : Nat) : Nat := 0x1001004 + 0x100000 * k + 0x40 * q
def CL_QCTL.level (k q : Nat) : Fld := ⟨CL_QCTL.addr k q, 0, 12, 0⟩
def CL_QCTL.consumer (k q : Nat) : Fld := ⟨CL_QCTL.addr k q, 16, 3, 0⟩
def CL_QCTL.q_reset (k q : Nat) : Fld := ⟨CL_QCTL.addr k q, 31, 1, 0⟩

def CL_QSTAT.addr (k q : Nat) : Nat := 0x1001008 + 0x100000 * k + 0x40 * q
def CL_QSTAT.depth (k q : Nat) : Fld := ⟨CL_QSTAT.addr k q, 0, 12, 0⟩
def CL_QSTAT.full (k q : Nat) : Fld := ⟨CL_QSTAT.addr k q, 12, 1, 0⟩
def CL_QSTAT.overrun (k q : Nat) : Fld := ⟨CL_QSTAT.addr k q, 13, 1, 0⟩
def CL_QSTAT.reset_seen (k q : Nat) : Fld := ⟨CL_QSTAT.addr k q, 14, 1, 0⟩
def CL_QSTAT.gap_open (k q : Nat) : Fld := ⟨CL_QSTAT.addr k q, 15, 1, 0⟩

def CL_QDROP.addr (k q : Nat) : Nat := 0x100100c + 0x100000 * k + 0x40 * q
def CL_QDROP.drops (k q : Nat) : Fld := ⟨CL_QDROP.addr k q, 0, 32, 0⟩

def CL_QDATA.addr (k q : Nat) : Nat := 0x1001014 + 0x100000 * k + 0x40 * q
def CL_QDATA.data (k q : Nat) : Fld := ⟨CL_QDATA.addr k q, 0, 32, 0⟩

def CL_QPUSH.addr (k q : Nat) : Nat := 0x1001018 + 0x100000 * k + 0x40 * q
def CL_QPUSH.data (k q : Nat) : Fld := ⟨CL_QPUSH.addr k q, 0, 32, 0⟩

def CL_QPUSHEND.addr (k q : Nat) : Nat := 0x100101c + 0x100000 * k + 0x40 * q
def CL_QPUSHEND.data (k q : Nat) : Fld := ⟨CL_QPUSHEND.addr k q, 0, 32, 0⟩

def CL_QPUSHERR.addr (k q : Nat) : Nat := 0x1001020 + 0x100000 * k + 0x40 * q
def CL_QPUSHERR.data (k q : Nat) : Fld := ⟨CL_QPUSHERR.addr k q, 0, 32, 0⟩

def CL_QPOP.addr (k q : Nat) : Nat := 0x1001010 + 0x100000 * k + 0x40 * q
def CL_QPOP.tag (k q : Nat) : Fld := ⟨CL_QPOP.addr k q, 0, 4, 0⟩
def CL_QPOP.status (k q : Nat) : Fld := ⟨CL_QPOP.addr k q, 8, 8, 0⟩
def CL_QPOP.depth (k q : Nat) : Fld := ⟨CL_QPOP.addr k q, 16, 12, 0⟩

def BRG_CTL.addr (r : Nat) : Nat := 0x2000000 + 0x400000 * r
def BRG_CTL.stage_clear (r : Nat) : Fld := ⟨BRG_CTL.addr r, 0, 1, 0⟩

def BRG_STATUS.addr (r : Nat) : Nat := 0x2000004 + 0x400000 * r
def BRG_STATUS.live_epoch (r : Nat) : Fld := ⟨BRG_STATUS.addr r, 0, 8, 0⟩
def BRG_STATUS.drain_epoch (r : Nat) : Fld := ⟨BRG_STATUS.addr r, 8, 8, 0⟩
def BRG_STATUS.draining (r : Nat) : Fld := ⟨BRG_STATUS.addr r, 16, 1, 0⟩
def BRG_STATUS.committing (r : Nat) : Fld := ⟨BRG_STATUS.addr r, 17, 1, 0⟩

def BRG_DISCARD.addr (r : Nat) : Nat := 0x2000008 + 0x400000 * r
def BRG_DISCARD.timer (r : Nat) : Fld := ⟨BRG_DISCARD.addr r, 0, 14, 50⟩

def BRG_RTMISS.addr (r : Nat) : Nat := 0x200000c + 0x400000 * r
def BRG_RTMISS.miss (r : Nat) : Fld := ⟨BRG_RTMISS.addr r, 0, 16, 0⟩
def BRG_RTMISS.bad (r : Nat) : Fld := ⟨BRG_RTMISS.addr r, 16, 16, 0⟩

def BRG_REFUSED.addr (r : Nat) : Nat := 0x2000010 + 0x400000 * r
def BRG_REFUSED.count (r : Nat) : Fld := ⟨BRG_REFUSED.addr r, 0, 32, 0⟩

def BRG_CHCFG.addr (r n : Nat) : Nat := 0x2001000 + 0x400000 * r + 0x100 * n
def BRG_CHCFG.mode (r n : Nat) : Fld := ⟨BRG_CHCFG.addr r n, 0, 2, 0⟩
def BRG_CHCFG.role (r n : Nat) : Fld := ⟨BRG_CHCFG.addr r n, 2, 1, 0⟩
def BRG_CHCFG.effect (r n : Nat) : Fld := ⟨BRG_CHCFG.addr r n, 3, 1, 0⟩
def BRG_CHCFG.ra (r n : Nat) : Fld := ⟨BRG_CHCFG.addr r n, 4, 3, 0⟩
def BRG_CHCFG.unit (r n : Nat) : Fld := ⟨BRG_CHCFG.addr r n, 8, 2, 0⟩
def BRG_CHCFG.cluster (r n : Nat) : Fld := ⟨BRG_CHCFG.addr r n, 10, 2, 0⟩
def BRG_CHCFG.retry_max (r n : Nat) : Fld := ⟨BRG_CHCFG.addr r n, 12, 4, 0⟩
def BRG_CHCFG.miss (r n : Nat) : Fld := ⟨BRG_CHCFG.addr r n, 16, 1, 0⟩

def BRG_CHQ.addr (r n : Nat) : Nat := 0x2001004 + 0x400000 * r + 0x100 * n
def BRG_CHQ.out_q (r n : Nat) : Fld := ⟨BRG_CHQ.addr r n, 0, 5, 0⟩
def BRG_CHQ.in_q (r n : Nat) : Fld := ⟨BRG_CHQ.addr r n, 8, 5, 0⟩

def BRG_CHTIMER.addr (r n : Nat) : Nat := 0x2001008 + 0x400000 * r + 0x100 * n
def BRG_CHTIMER.far_to (r n : Nat) : Fld := ⟨BRG_CHTIMER.addr r n, 0, 14, 0⟩
def BRG_CHTIMER.ra_life (r n : Nat) : Fld := ⟨BRG_CHTIMER.addr r n, 16, 8, 0⟩

def BRG_CHTGT.addr (r n : Nat) : Nat := 0x200100c + 0x400000 * r + 0x100 * n
def BRG_CHTGT.tgt_base (r n : Nat) : Fld := ⟨BRG_CHTGT.addr r n, 0, 20, 0⟩

def BRG_CHEVT.addr (r n : Nat) : Nat := 0x2001010 + 0x400000 * r + 0x100 * n
def BRG_CHEVT.dest (r n : Nat) : Fld := ⟨BRG_CHEVT.addr r n, 0, 2, 0⟩
def BRG_CHEVT.index (r n : Nat) : Fld := ⟨BRG_CHEVT.addr r n, 8, 10, 0⟩

def BRG_CHCTL.addr (r n : Nat) : Nat := 0x2001014 + 0x400000 * r + 0x100 * n
def BRG_CHCTL.ch_reset (r n : Nat) : Fld := ⟨BRG_CHCTL.addr r n, 0, 1, 0⟩
def BRG_CHCTL.drop_held (r n : Nat) : Fld := ⟨BRG_CHCTL.addr r n, 1, 1, 0⟩

def BRG_CHSTAT.addr (r n : Nat) : Nat := 0x2001018 + 0x400000 * r + 0x100 * n
def BRG_CHSTAT.open_ (r n : Nat) : Fld := ⟨BRG_CHSTAT.addr r n, 0, 4, 0⟩
def BRG_CHSTAT.held (r n : Nat) : Fld := ⟨BRG_CHSTAT.addr r n, 4, 3, 0⟩
def BRG_CHSTAT.posted (r n : Nat) : Fld := ⟨BRG_CHSTAT.addr r n, 7, 6, 0⟩
def BRG_CHSTAT.ra_valid (r n : Nat) : Fld := ⟨BRG_CHSTAT.addr r n, 13, 1, 0⟩
def BRG_CHSTAT.cross_wait (r n : Nat) : Fld := ⟨BRG_CHSTAT.addr r n, 14, 1, 0⟩
def BRG_CHSTAT.last_status (r n : Nat) : Fld := ⟨BRG_CHSTAT.addr r n, 16, 8, 0⟩

def BRG_CHERR0.addr (r n : Nat) : Nat := 0x200101c + 0x400000 * r + 0x100 * n
def BRG_CHERR0.status (r n : Nat) : Fld := ⟨BRG_CHERR0.addr r n, 0, 8, 0⟩
def BRG_CHERR0.detail (r n : Nat) : Fld := ⟨BRG_CHERR0.addr r n, 8, 8, 0⟩
def BRG_CHERR0.index (r n : Nat) : Fld := ⟨BRG_CHERR0.addr r n, 16, 3, 0⟩
def BRG_CHERR0.extra (r n : Nat) : Fld := ⟨BRG_CHERR0.addr r n, 24, 8, 0⟩

def BRG_CHERR1.addr (r n : Nat) : Nat := 0x2001020 + 0x400000 * r + 0x100 * n
def BRG_CHERR1.offset (r n : Nat) : Fld := ⟨BRG_CHERR1.addr r n, 0, 20, 0⟩
def BRG_CHERR1.node (r n : Nat) : Fld := ⟨BRG_CHERR1.addr r n, 24, 6, 0⟩
def BRG_CHERR1.valid (r n : Nat) : Fld := ⟨BRG_CHERR1.addr r n, 31, 1, 0⟩

def BRG_CHCNT0.addr (r n : Nat) : Nat := 0x2001024 + 0x400000 * r + 0x100 * n
def BRG_CHCNT0.drop (r n : Nat) : Fld := ⟨BRG_CHCNT0.addr r n, 0, 16, 0⟩
def BRG_CHCNT0.late (r n : Nat) : Fld := ⟨BRG_CHCNT0.addr r n, 16, 8, 0⟩
def BRG_CHCNT0.discard (r n : Nat) : Fld := ⟨BRG_CHCNT0.addr r n, 24, 8, 0⟩

def BRG_CHCNT1.addr (r n : Nat) : Nat := 0x2001028 + 0x400000 * r + 0x100 * n
def BRG_CHCNT1.pf_disc (r n : Nat) : Fld := ⟨BRG_CHCNT1.addr r n, 0, 16, 0⟩
def BRG_CHCNT1.retries (r n : Nat) : Fld := ⟨BRG_CHCNT1.addr r n, 16, 8, 0⟩
def BRG_CHCNT1.evt_drop (r n : Nat) : Fld := ⟨BRG_CHCNT1.addr r n, 24, 8, 0⟩

def BRG_ROUTE.addr (r i w : Nat) : Nat := 0x2010000 + 0x400000 * r + 0x10 * i + 0x4 * w
def BRG_ROUTE.word (r i w : Nat) : Fld := ⟨BRG_ROUTE.addr r i w, 0, 32, 0⟩

def BRG_ROUTESTG.addr (r i w : Nat) : Nat := 0x2020000 + 0x400000 * r + 0x10 * i + 0x4 * w
def BRG_ROUTESTG.word (r i w : Nat) : Fld := ⟨BRG_ROUTESTG.addr r i w, 0, 32, 0⟩

def BRG_RTSTGMAP.addr (r m : Nat) : Nat := 0x2030000 + 0x400000 * r + 0x4 * m
def BRG_RTSTGMAP.marked (r m : Nat) : Fld := ⟨BRG_RTSTGMAP.addr r m, 0, 32, 0⟩

def SW_CTL.addr : Nat := 0x100000
def SW_CTL.commit : Fld := ⟨SW_CTL.addr, 0, 1, 0⟩
def SW_CTL.flush : Fld := ⟨SW_CTL.addr, 1, 1, 0⟩

def SW_STATUS.addr : Nat := 0x100004
def SW_STATUS.live_epoch : Fld := ⟨SW_STATUS.addr, 0, 8, 0⟩
def SW_STATUS.drain_epoch : Fld := ⟨SW_STATUS.addr, 8, 8, 0⟩
def SW_STATUS.draining : Fld := ⟨SW_STATUS.addr, 16, 1, 0⟩
def SW_STATUS.committing : Fld := ⟨SW_STATUS.addr, 17, 1, 0⟩
def SW_STATUS.spare_bank : Fld := ⟨SW_STATUS.addr, 18, 5, 16⟩
def SW_STATUS.last_status : Fld := ⟨SW_STATUS.addr, 24, 8, 0⟩

def SW_DRAIN.addr : Nat := 0x100008
def SW_DRAIN.frames : Fld := ⟨SW_DRAIN.addr, 0, 24, 0⟩

def SW_REFUSED.addr : Nat := 0x10000c
def SW_REFUSED.count : Fld := ⟨SW_REFUSED.addr, 0, 32, 0⟩

def SW_BUFCFG.addr : Nat := 0x100010
def SW_BUFCFG.be_floor : Fld := ⟨SW_BUFCFG.addr, 0, 15, 0⟩
def SW_BUFCFG.addr_class : Fld := ⟨SW_BUFCFG.addr, 16, 3, 0⟩

def SW_FREE.addr : Nat := 0x100014
def SW_FREE.free : Fld := ⟨SW_FREE.addr, 0, 15, 24576⟩
def SW_FREE.min_free : Fld := ⟨SW_FREE.addr, 16, 15, 24576⟩

def SW_INGDROP.addr : Nat := 0x100018
def SW_INGDROP.too_long : Fld := ⟨SW_INGDROP.addr, 0, 16, 0⟩
def SW_INGDROP.no_route : Fld := ⟨SW_INGDROP.addr, 16, 16, 0⟩

def SW_CAPCFG.addr : Nat := 0x100020
def SW_CAPCFG.en : Fld := ⟨SW_CAPCFG.addr, 0, 1, 0⟩
def SW_CAPCFG.wrap : Fld := ⟨SW_CAPCFG.addr, 1, 1, 0⟩
def SW_CAPCFG.drops : Fld := ⟨SW_CAPCFG.addr, 2, 1, 0⟩
def SW_CAPCFG.stop_on_quench : Fld := ⟨SW_CAPCFG.addr, 3, 1, 0⟩
def SW_CAPCFG.stopped : Fld := ⟨SW_CAPCFG.addr, 4, 1, 0⟩

def SW_CAPSEL.addr : Nat := 0x100024
def SW_CAPSEL.in_mask : Fld := ⟨SW_CAPSEL.addr, 0, 10, 0⟩
def SW_CAPSEL.out_mask : Fld := ⟨SW_CAPSEL.addr, 16, 10, 0⟩

def SW_CAPCLASS.addr : Nat := 0x100028
def SW_CAPCLASS.classes : Fld := ⟨SW_CAPCLASS.addr, 0, 8, 0⟩

def SW_CAPBASE.addr : Nat := 0x10002c
def SW_CAPBASE.base : Fld := ⟨SW_CAPBASE.addr, 12, 16, 0⟩

def SW_CAPWR.addr : Nat := 0x100030
def SW_CAPWR.wr : Fld := ⟨SW_CAPWR.addr, 0, 12, 0⟩

def SW_CAPRD.addr : Nat := 0x100034
def SW_CAPRD.rd : Fld := ⟨SW_CAPRD.addr, 0, 12, 0⟩

def SW_CAPLOST.addr : Nat := 0x100038
def SW_CAPLOST.lost : Fld := ⟨SW_CAPLOST.addr, 0, 32, 0⟩

def SW_NOTICE.addr : Nat := 0x10003c
def SW_NOTICE.sent : Fld := ⟨SW_NOTICE.addr, 0, 16, 0⟩
def SW_NOTICE.lost : Fld := ⟨SW_NOTICE.addr, 16, 16, 0⟩

def SW_TRLEVEL.addr (d : Nat) : Nat := 0x100100 + 0x20 * d
def SW_TRLEVEL.bytes (d : Nat) : Fld := ⟨SW_TRLEVEL.addr d, 0, 17, 0⟩

def SW_TRMAX.addr (d : Nat) : Nat := 0x100104 + 0x20 * d
def SW_TRMAX.bytes (d : Nat) : Fld := ⟨SW_TRMAX.addr d, 0, 17, 0⟩

def SW_TRFWD.addr (d : Nat) : Nat := 0x100108 + 0x20 * d
def SW_TRFWD.frames (d : Nat) : Fld := ⟨SW_TRFWD.addr d, 0, 32, 0⟩

def SW_TRDROP.addr (d : Nat) : Nat := 0x10010c + 0x20 * d
def SW_TRDROP.overflow (d : Nat) : Fld := ⟨SW_TRDROP.addr d, 0, 16, 0⟩
def SW_TRDROP.in_reset (d : Nat) : Fld := ⟨SW_TRDROP.addr d, 16, 16, 0⟩

def SW_OWGT0.addr (o : Nat) : Nat := 0x101000 + 0x100 * o
def SW_OWGT0.w0 (o : Nat) : Fld := ⟨SW_OWGT0.addr o, 0, 8, 0⟩
def SW_OWGT0.w1 (o : Nat) : Fld := ⟨SW_OWGT0.addr o, 8, 8, 0⟩
def SW_OWGT0.w2 (o : Nat) : Fld := ⟨SW_OWGT0.addr o, 16, 8, 0⟩
def SW_OWGT0.w3 (o : Nat) : Fld := ⟨SW_OWGT0.addr o, 24, 8, 0⟩

def SW_OWGT1.addr (o : Nat) : Nat := 0x101004 + 0x100 * o
def SW_OWGT1.w4 (o : Nat) : Fld := ⟨SW_OWGT1.addr o, 0, 8, 0⟩
def SW_OWGT1.w5 (o : Nat) : Fld := ⟨SW_OWGT1.addr o, 8, 8, 0⟩

def SW_OSTAT.addr (o : Nat) : Nat := 0x101008 + 0x100 * o
def SW_OSTAT.up (o : Nat) : Fld := ⟨SW_OSTAT.addr o, 0, 1, 0⟩

def SW_OQCFG.addr (o c : Nat) : Nat := 0x101020 + 0x100 * o + 0x8 * c
def SW_OQCFG.limit (o c : Nat) : Fld := ⟨SW_OQCFG.addr o c, 0, 15, 0⟩
def SW_OQCFG.mark_thr (o c : Nat) : Fld := ⟨SW_OQCFG.addr o c, 16, 15, 0⟩

def SW_OQSTAT.addr (o c : Nat) : Nat := 0x101024 + 0x100 * o + 0x8 * c
def SW_OQSTAT.depth (o c : Nat) : Fld := ⟨SW_OQSTAT.addr o c, 0, 15, 0⟩

def SW_OQDROP.addr (o c : Nat) : Nat := 0x101060 + 0x100 * o + 0x8 * c
def SW_OQDROP.full (o c : Nat) : Fld := ⟨SW_OQDROP.addr o c, 0, 16, 0⟩
def SW_OQDROP.other (o c : Nat) : Fld := ⟨SW_OQDROP.addr o c, 16, 16, 0⟩

def SW_OQMARK.addr (o c : Nat) : Nat := 0x101064 + 0x100 * o + 0x8 * c
def SW_OQMARK.marked (o c : Nat) : Fld := ⟨SW_OQMARK.addr o c, 0, 32, 0⟩

def SW_FLOW.addr (i w : Nat) : Nat := 0x110000 + 0x10 * i + 0x4 * w
def SW_FLOW.word (i w : Nat) : Fld := ⟨SW_FLOW.addr i w, 0, 32, 0⟩

def SW_FLOWSTG.addr (i w : Nat) : Nat := 0x120000 + 0x10 * i + 0x4 * w
def SW_FLOWSTG.word (i w : Nat) : Fld := ⟨SW_FLOWSTG.addr i w, 0, 32, 0⟩

def SW_FLOWMAP.addr (m : Nat) : Nat := 0x130000 + 0x4 * m
def SW_FLOWMAP.marked (m : Nat) : Fld := ⟨SW_FLOWMAP.addr m, 0, 32, 0⟩

def SW_GRP.addr (g w : Nat) : Nat := 0x140000 + 0x10 * g + 0x4 * w
def SW_GRP.word (g w : Nat) : Fld := ⟨SW_GRP.addr g w, 0, 32, 0⟩

def SW_GRPSTG.addr (g w : Nat) : Nat := 0x150000 + 0x10 * g + 0x4 * w
def SW_GRPSTG.word (g w : Nat) : Fld := ⟨SW_GRPSTG.addr g w, 0, 32, 0⟩

def SW_GRPMAP.addr (m : Nat) : Nat := 0x160000 + 0x4 * m
def SW_GRPMAP.marked (m : Nat) : Fld := ⟨SW_GRPMAP.addr m, 0, 32, 0⟩

def SW_ETHTPL.addr (t w : Nat) : Nat := 0x170000 + 0x10 * t + 0x4 * w
def SW_ETHTPL.word (t w : Nat) : Fld := ⟨SW_ETHTPL.addr t w, 0, 32, 0⟩

def RING_LCTL.addr (p : Nat) : Nat := 0x208000 + 0x1000 * p
def RING_LCTL.retrain (p : Nat) : Fld := ⟨RING_LCTL.addr p, 0, 1, 0⟩
def RING_LCTL.down (p : Nat) : Fld := ⟨RING_LCTL.addr p, 1, 1, 0⟩
def RING_LCTL.lane_sw (p : Nat) : Fld := ⟨RING_LCTL.addr p, 2, 1, 0⟩
def RING_LCTL.rekey (p : Nat) : Fld := ⟨RING_LCTL.addr p, 3, 1, 0⟩
def RING_LCTL.wake (p : Nat) : Fld := ⟨RING_LCTL.addr p, 4, 1, 0⟩
def RING_LCTL.lane (p : Nat) : Fld := ⟨RING_LCTL.addr p, 8, 3, 0⟩
def RING_LCTL.fidle_en (p : Nat) : Fld := ⟨RING_LCTL.addr p, 16, 1, 0⟩
def RING_LCTL.prot_req (p : Nat) : Fld := ⟨RING_LCTL.addr p, 17, 1, 0⟩
def RING_LCTL.prot_sup (p : Nat) : Fld := ⟨RING_LCTL.addr p, 18, 1, 0⟩
def RING_LCTL.spare_en (p : Nat) : Fld := ⟨RING_LCTL.addr p, 19, 1, 0⟩
def RING_LCTL.medium (p : Nat) : Fld := ⟨RING_LCTL.addr p, 20, 2, 0⟩
def RING_LCTL.ack_coal (p : Nat) : Fld := ⟨RING_LCTL.addr p, 22, 1, 0⟩
def RING_LCTL.versions (p : Nat) : Fld := ⟨RING_LCTL.addr p, 24, 2, 0⟩

def RING_LSTAT.addr (p : Nat) : Nat := 0x208004 + 0x1000 * p
def RING_LSTAT.state (p : Nat) : Fld := ⟨RING_LSTAT.addr p, 0, 4, 0⟩
def RING_LSTAT.lanes (p : Nat) : Fld := ⟨RING_LSTAT.addr p, 4, 3, 0⟩
def RING_LSTAT.degraded (p : Nat) : Fld := ⟨RING_LSTAT.addr p, 7, 1, 0⟩
def RING_LSTAT.spare_ready (p : Nat) : Fld := ⟨RING_LSTAT.addr p, 8, 1, 0⟩
def RING_LSTAT.protected (p : Nat) : Fld := ⟨RING_LSTAT.addr p, 9, 1, 0⟩
def RING_LSTAT.key_phase (p : Nat) : Fld := ⟨RING_LSTAT.addr p, 10, 1, 0⟩
def RING_LSTAT.fidle_tx (p : Nat) : Fld := ⟨RING_LSTAT.addr p, 11, 1, 0⟩
def RING_LSTAT.fidle_rx (p : Nat) : Fld := ⟨RING_LSTAT.addr p, 12, 1, 0⟩
def RING_LSTAT.version (p : Nat) : Fld := ⟨RING_LSTAT.addr p, 13, 3, 0⟩
def RING_LSTAT.last_status (p : Nat) : Fld := ⟨RING_LSTAT.addr p, 16, 8, 0⟩
def RING_LSTAT.down_reason (p : Nat) : Fld := ⟨RING_LSTAT.addr p, 24, 4, 0⟩

def RING_LANEMAP.addr (p : Nat) : Nat := 0x208008 + 0x1000 * p
def RING_LANEMAP.l0 (p : Nat) : Fld := ⟨RING_LANEMAP.addr p, 0, 3, 0⟩
def RING_LANEMAP.l1 (p : Nat) : Fld := ⟨RING_LANEMAP.addr p, 4, 3, 1⟩
def RING_LANEMAP.l2 (p : Nat) : Fld := ⟨RING_LANEMAP.addr p, 8, 3, 2⟩
def RING_LANEMAP.l3 (p : Nat) : Fld := ⟨RING_LANEMAP.addr p, 12, 3, 3⟩
def RING_LANEMAP.spare (p : Nat) : Fld := ⟨RING_LANEMAP.addr p, 16, 3, 4⟩
def RING_LANEMAP.retired (p : Nat) : Fld := ⟨RING_LANEMAP.addr p, 24, 5, 0⟩

def RING_CAPLOC0.addr (p : Nat) : Nat := 0x208010 + 0x1000 * p
def RING_CAPLOC0.lo (p : Nat) : Fld := ⟨RING_CAPLOC0.addr p, 0, 32, 0⟩

def RING_CAPLOC1.addr (p : Nat) : Nat := 0x208014 + 0x1000 * p
def RING_CAPLOC1.hi (p : Nat) : Fld := ⟨RING_CAPLOC1.addr p, 0, 24, 0⟩

def RING_CAPPEER0.addr (p : Nat) : Nat := 0x208018 + 0x1000 * p
def RING_CAPPEER0.lo (p : Nat) : Fld := ⟨RING_CAPPEER0.addr p, 0, 32, 0⟩

def RING_CAPPEER1.addr (p : Nat) : Nat := 0x20801c + 0x1000 * p
def RING_CAPPEER1.hi (p : Nat) : Fld := ⟨RING_CAPPEER1.addr p, 0, 24, 0⟩

def RING_LTIMER.addr (p : Nat) : Nat := 0x208020 + 0x1000 * p
def RING_LTIMER.replay (p : Nat) : Fld := ⟨RING_LTIMER.addr p, 0, 8, 0⟩
def RING_LTIMER.retry_max (p : Nat) : Fld := ⟨RING_LTIMER.addr p, 8, 4, 0⟩

def RING_LREFUSED.addr (p : Nat) : Nat := 0x208024 + 0x1000 * p
def RING_LREFUSED.count (p : Nat) : Fld := ⟨RING_LREFUSED.addr p, 0, 32, 0⟩

def RING_TXSHEETS.addr (p : Nat) : Nat := 0x208040 + 0x1000 * p
def RING_TXSHEETS.sheets (p : Nat) : Fld := ⟨RING_TXSHEETS.addr p, 0, 32, 0⟩

def RING_RXSHEETS.addr (p : Nat) : Nat := 0x208044 + 0x1000 * p
def RING_RXSHEETS.sheets (p : Nat) : Fld := ⟨RING_RXSHEETS.addr p, 0, 32, 0⟩

def RING_ERR0.addr (p : Nat) : Nat := 0x208048 + 0x1000 * p
def RING_ERR0.crc (p : Nat) : Fld := ⟨RING_ERR0.addr p, 0, 16, 0⟩
def RING_ERR0.seq (p : Nat) : Fld := ⟨RING_ERR0.addr p, 16, 16, 0⟩

def RING_ERR1.addr (p : Nat) : Nat := 0x20804c + 0x1000 * p
def RING_ERR1.nak_tx (p : Nat) : Fld := ⟨RING_ERR1.addr p, 0, 16, 0⟩
def RING_ERR1.replays (p : Nat) : Fld := ⟨RING_ERR1.addr p, 16, 16, 0⟩

def RING_ERR2.addr (p : Nat) : Nat := 0x208050 + 0x1000 * p
def RING_ERR2.stomp_tx (p : Nat) : Fld := ⟨RING_ERR2.addr p, 0, 16, 0⟩
def RING_ERR2.stomp_rx (p : Nat) : Fld := ⟨RING_ERR2.addr p, 16, 16, 0⟩

def RING_ERR3.addr (p : Nat) : Nat := 0x208054 + 0x1000 * p
def RING_ERR3.tag_fail (p : Nat) : Fld := ⟨RING_ERR3.addr p, 0, 16, 0⟩
def RING_ERR3.aborted (p : Nat) : Fld := ⟨RING_ERR3.addr p, 16, 16, 0⟩

def RING_ERR4.addr (p : Nat) : Nat := 0x208058 + 0x1000 * p
def RING_ERR4.block_err (p : Nat) : Fld := ⟨RING_ERR4.addr p, 0, 16, 0⟩
def RING_ERR4.lane_sw (p : Nat) : Fld := ⟨RING_ERR4.addr p, 16, 16, 0⟩

def RING_LANE.addr (p l : Nat) : Nat := 0x208080 + 0x1000 * p + 0x4 * l
def RING_LANE.block_lock (p l : Nat) : Fld := ⟨RING_LANE.addr p l, 0, 1, 0⟩
def RING_LANE.aligned (p l : Nat) : Fld := ⟨RING_LANE.addr p l, 1, 1, 0⟩
def RING_LANE.in_use (p l : Nat) : Fld := ⟨RING_LANE.addr p l, 2, 1, 0⟩
def RING_LANE.retired (p l : Nat) : Fld := ⟨RING_LANE.addr p l, 3, 1, 0⟩
def RING_LANE.margin (p l : Nat) : Fld := ⟨RING_LANE.addr p l, 8, 8, 0⟩
def RING_LANE.hdr_err (p l : Nat) : Fld := ⟨RING_LANE.addr p l, 16, 16, 0⟩

def RING_CTL.addr : Nat := 0x200000
def RING_CTL.leave : Fld := ⟨RING_CTL.addr, 0, 1, 0⟩
def RING_CTL.revert_now : Fld := ⟨RING_CTL.addr, 1, 1, 0⟩
def RING_CTL.release : Fld := ⟨RING_CTL.addr, 2, 1, 0⟩
def RING_CTL.leave_id : Fld := ⟨RING_CTL.addr, 8, 6, 0⟩

def RING_STATUS.addr : Nat := 0x200004
def RING_STATUS.role : Fld := ⟨RING_STATUS.addr, 0, 2, 0⟩
def RING_STATUS.east_wrap : Fld := ⟨RING_STATUS.addr, 2, 1, 1⟩
def RING_STATUS.west_wrap : Fld := ⟨RING_STATUS.addr, 3, 1, 1⟩
def RING_STATUS.refusal : Fld := ⟨RING_STATUS.addr, 4, 3, 0⟩
def RING_STATUS.last_status : Fld := ⟨RING_STATUS.addr, 8, 8, 0⟩
def RING_STATUS.late : Fld := ⟨RING_STATUS.addr, 16, 1, 0⟩

def RING_NODEID.addr : Nat := 0x200008
def RING_NODEID.id : Fld := ⟨RING_NODEID.addr, 0, 6, 0⟩
def RING_NODEID.src : Fld := ⟨RING_NODEID.addr, 8, 1, 0⟩
def RING_NODEID.strap : Fld := ⟨RING_NODEID.addr, 16, 6, 0⟩

def RING_MAPEPOCH.addr : Nat := 0x20000c
def RING_MAPEPOCH.epoch : Fld := ⟨RING_MAPEPOCH.addr, 0, 32, 0⟩

def RING_CYCPER.addr : Nat := 0x200010
def RING_CYCPER.period : Fld := ⟨RING_CYCPER.addr, 0, 24, 0⟩

def RING_CYCPHASE.addr : Nat := 0x200014
def RING_CYCPHASE.phase : Fld := ⟨RING_CYCPHASE.addr, 0, 24, 0⟩

def RING_CYCNUM.addr : Nat := 0x200018
def RING_CYCNUM.cycle : Fld := ⟨RING_CYCNUM.addr, 0, 32, 0⟩

def RING_SEAM.addr : Nat := 0x20001c
def RING_SEAM.len : Fld := ⟨RING_SEAM.addr, 0, 10, 20⟩
def RING_SEAM.interval : Fld := ⟨RING_SEAM.addr, 16, 16, 1024⟩

def RING_PARTTO.addr : Nat := 0x200020
def RING_PARTTO.cycles : Fld := ⟨RING_PARTTO.addr, 0, 8, 3⟩

def RING_STATUS2.addr : Nat := 0x200024
def RING_STATUS2.orphan_epoch : Fld := ⟨RING_STATUS2.addr, 0, 32, 0⟩

def RING_MISSED.addr : Nat := 0x200030
def RING_MISSED.slots : Fld := ⟨RING_MISSED.addr, 0, 32, 0⟩

def RING_CYCMISS.addr : Nat := 0x200034
def RING_CYCMISS.starts : Fld := ⟨RING_CYCMISS.addr, 0, 32, 0⟩

def RING_REFUSED.addr : Nat := 0x200038
def RING_REFUSED.count : Fld := ⟨RING_REFUSED.addr, 0, 32, 0⟩

def RING_HOSTDISC.addr : Nat := 0x20003c
def RING_HOSTDISC.count : Fld := ⟨RING_HOSTDISC.addr, 0, 32, 0⟩

def RING_SPLICE.addr : Nat := 0x200040
def RING_SPLICE.east : Fld := ⟨RING_SPLICE.addr, 0, 3, 0⟩
def RING_SPLICE.west : Fld := ⟨RING_SPLICE.addr, 4, 3, 0⟩
def RING_SPLICE.abandoned : Fld := ⟨RING_SPLICE.addr, 16, 16, 0⟩

def RING_HEADCFG.addr : Nat := 0x200044
def RING_HEADCFG.preferred : Fld := ⟨RING_HEADCFG.addr, 0, 1, 0⟩
def RING_HEADCFG.wit_mode : Fld := ⟨RING_HEADCFG.addr, 1, 1, 0⟩
def RING_HEADCFG.is_witness : Fld := ⟨RING_HEADCFG.addr, 2, 1, 0⟩
def RING_HEADCFG.wit_node : Fld := ⟨RING_HEADCFG.addr, 8, 6, 0⟩
def RING_HEADCFG.revert : Fld := ⟨RING_HEADCFG.addr, 16, 16, 60⟩

def RING_WIT.addr : Nat := 0x200048
def RING_WIT.grant : Fld := ⟨RING_WIT.addr, 0, 1, 0⟩
def RING_WIT.dual : Fld := ⟨RING_WIT.addr, 1, 1, 0⟩

def RING_MIRROR.addr : Nat := 0x20004c
def RING_MIRROR.version : Fld := ⟨RING_MIRROR.addr, 0, 8, 0⟩
def RING_MIRROR.lag : Fld := ⟨RING_MIRROR.addr, 16, 16, 0⟩

def RING_HEALTH.addr : Nat := 0x200050
def RING_HEALTH.report : Fld := ⟨RING_HEALTH.addr, 0, 32, 0⟩

def RING_PEERHEALTH.addr : Nat := 0x200054
def RING_PEERHEALTH.report : Fld := ⟨RING_PEERHEALTH.addr, 0, 32, 0⟩

def RING_SLOT.addr (i p : Nat) : Nat := 0x200100 + 0x10 * i + 0x8 * p
def RING_SLOT.offset (i p : Nat) : Fld := ⟨RING_SLOT.addr i p, 0, 24, 0⟩

def RING_SLOTLEN.addr (i p : Nat) : Nat := 0x200104 + 0x10 * i + 0x8 * p
def RING_SLOTLEN.len (i p : Nat) : Fld := ⟨RING_SLOTLEN.addr i p, 0, 16, 0⟩

def RING_MAP.addr (n : Nat) : Nat := 0x200800 + 0x8 * n
def RING_MAP.present (n : Nat) : Fld := ⟨RING_MAP.addr n, 0, 1, 0⟩
def RING_MAP.state (n : Nat) : Fld := ⟨RING_MAP.addr n, 1, 3, 0⟩
def RING_MAP.role (n : Nat) : Fld := ⟨RING_MAP.addr n, 4, 2, 0⟩
def RING_MAP.late (n : Nat) : Fld := ⟨RING_MAP.addr n, 6, 1, 0⟩
def RING_MAP.failed_over (n : Nat) : Fld := ⟨RING_MAP.addr n, 7, 1, 0⟩
def RING_MAP.hops_e (n : Nat) : Fld := ⟨RING_MAP.addr n, 8, 6, 0⟩
def RING_MAP.hops_w (n : Nat) : Fld := ⟨RING_MAP.addr n, 16, 6, 0⟩

def RING_MAPID.addr (n : Nat) : Nat := 0x200804 + 0x8 * n
def RING_MAPID.casting_id (n : Nat) : Fld := ⟨RING_MAPID.addr n, 0, 32, 0⟩

def ETH_BRCFG.addr : Nat := 0x400100
def ETH_BRCFG.mode0 : Fld := ⟨ETH_BRCFG.addr, 0, 2, 0⟩
def ETH_BRCFG.mode1 : Fld := ⟨ETH_BRCFG.addr, 2, 2, 0⟩
def ETH_BRCFG.def_class : Fld := ⟨ETH_BRCFG.addr, 4, 3, 0⟩

def ETH_BRAGE.addr : Nat := 0x400104
def ETH_BRAGE.ageing : Fld := ⟨ETH_BRAGE.addr, 0, 20, 300⟩

def ETH_BRPCP.addr : Nat := 0x400108
def ETH_BRPCP.class0 : Fld := ⟨ETH_BRPCP.addr, 0, 3, 0⟩
def ETH_BRPCP.class1 : Fld := ⟨ETH_BRPCP.addr, 3, 3, 0⟩
def ETH_BRPCP.class2 : Fld := ⟨ETH_BRPCP.addr, 6, 3, 0⟩
def ETH_BRPCP.class3 : Fld := ⟨ETH_BRPCP.addr, 9, 3, 0⟩
def ETH_BRPCP.class4 : Fld := ⟨ETH_BRPCP.addr, 12, 3, 0⟩
def ETH_BRPCP.class5 : Fld := ⟨ETH_BRPCP.addr, 15, 3, 0⟩
def ETH_BRPCP.class6 : Fld := ⟨ETH_BRPCP.addr, 18, 3, 0⟩
def ETH_BRPCP.class7 : Fld := ⟨ETH_BRPCP.addr, 21, 3, 0⟩

def ETH_BRLEARN.addr : Nat := 0x40010c
def ETH_BRLEARN.entries : Fld := ⟨ETH_BRLEARN.addr, 0, 13, 0⟩
def ETH_BRLEARN.full : Fld := ⟨ETH_BRLEARN.addr, 16, 16, 0⟩

def HOST_IF_VERSION.addr : Nat := 0x300000
def HOST_IF_VERSION.offered : Fld := ⟨HOST_IF_VERSION.addr, 0, 8, 0⟩
def HOST_IF_VERSION.agreed : Fld := ⟨HOST_IF_VERSION.addr, 8, 8, 0⟩
def HOST_IF_VERSION.status : Fld := ⟨HOST_IF_VERSION.addr, 16, 8, 0⟩

def HOST_STAT.addr : Nat := 0x300004
def HOST_STAT.active : Fld := ⟨HOST_STAT.addr, 0, 1, 0⟩
def HOST_STAT.standby : Fld := ⟨HOST_STAT.addr, 1, 1, 0⟩
def HOST_STAT.gen : Fld := ⟨HOST_STAT.addr, 2, 4, 0⟩
def HOST_STAT.width : Fld := ⟨HOST_STAT.addr, 8, 4, 0⟩

def HOST_CFG.addr : Nat := 0x300008
def HOST_CFG.head_cast : Fld := ⟨HOST_CFG.addr, 0, 2, 0⟩
def HOST_CFG.head_sel : Fld := ⟨HOST_CFG.addr, 2, 1, 0⟩

def HOST_TSTIMEOUT.addr : Nat := 0x30000c
def HOST_TSTIMEOUT.ms : Fld := ⟨HOST_TSTIMEOUT.addr, 0, 14, 100⟩

def HOST_DROP.addr : Nat := 0x300010
def HOST_DROP.inactive : Fld := ⟨HOST_DROP.addr, 0, 16, 0⟩
def HOST_DROP.late : Fld := ⟨HOST_DROP.addr, 16, 16, 0⟩

def HOST_REFUSED.addr : Nat := 0x300014
def HOST_REFUSED.count : Fld := ⟨HOST_REFUSED.addr, 0, 32, 0⟩

def HOST_EVQ_BASE_LO.addr : Nat := 0x300020
def HOST_EVQ_BASE_LO.base : Fld := ⟨HOST_EVQ_BASE_LO.addr, 4, 28, 0⟩

def HOST_EVQ_BASE_HI.addr : Nat := 0x300024
def HOST_EVQ_BASE_HI.base : Fld := ⟨HOST_EVQ_BASE_HI.addr, 0, 32, 0⟩

def HOST_EVQ_CFG.addr : Nat := 0x300028
def HOST_EVQ_CFG.n : Fld := ⟨HOST_EVQ_CFG.addr, 0, 3, 0⟩
def HOST_EVQ_CFG.en : Fld := ⟨HOST_EVQ_CFG.addr, 31, 1, 0⟩

def HOST_EVQ_WR.addr : Nat := 0x30002c
def HOST_EVQ_WR.wr : Fld := ⟨HOST_EVQ_WR.addr, 0, 12, 0⟩

def HOST_EVQ_RD.addr : Nat := 0x300030
def HOST_EVQ_RD.rd : Fld := ⟨HOST_EVQ_RD.addr, 0, 12, 0⟩

def HOST_EVQ_DROP.addr : Nat := 0x300034
def HOST_EVQ_DROP.count : Fld := ⟨HOST_EVQ_DROP.addr, 0, 32, 0⟩

def HOST_ERRLOG.addr (i w : Nat) : Nat := 0x301000 + 0x20 * i + 0x4 * w
def HOST_ERRLOG.word (i w : Nat) : Fld := ⟨HOST_ERRLOG.addr i w, 0, 32, 0⟩

def HOST_ERRLOG_WR.addr : Nat := 0x301800
def HOST_ERRLOG_WR.next : Fld := ⟨HOST_ERRLOG_WR.addr, 0, 6, 0⟩
def HOST_ERRLOG_WR.overwritten : Fld := ⟨HOST_ERRLOG_WR.addr, 16, 16, 0⟩

def MSIX_TABLE.addr (v w : Nat) : Nat := 0x302000 + 0x10 * v + 0x4 * w
def MSIX_TABLE.word (v w : Nat) : Fld := ⟨MSIX_TABLE.addr v w, 0, 32, 0⟩

def MSIX_PBA.addr (w : Nat) : Nat := 0x303000 + 0x4 * w
def MSIX_PBA.word (w : Nat) : Fld := ⟨MSIX_PBA.addr w, 0, 32, 0⟩

def HOST_RQ_BASE_LO.addr (j : Nat) : Nat := 0x304000 + 0x20 * j
def HOST_RQ_BASE_LO.base (j : Nat) : Fld := ⟨HOST_RQ_BASE_LO.addr j, 8, 24, 0⟩

def HOST_RQ_BASE_HI.addr (j : Nat) : Nat := 0x304004 + 0x20 * j
def HOST_RQ_BASE_HI.base (j : Nat) : Fld := ⟨HOST_RQ_BASE_HI.addr j, 0, 32, 0⟩

def HOST_RQ_CFG.addr (j : Nat) : Nat := 0x304008 + 0x20 * j
def HOST_RQ_CFG.n (j : Nat) : Fld := ⟨HOST_RQ_CFG.addr j, 0, 3, 0⟩
def HOST_RQ_CFG.e (j : Nat) : Fld := ⟨HOST_RQ_CFG.addr j, 4, 3, 0⟩
def HOST_RQ_CFG.vector (j : Nat) : Fld := ⟨HOST_RQ_CFG.addr j, 8, 8, 0⟩
def HOST_RQ_CFG.en (j : Nat) : Fld := ⟨HOST_RQ_CFG.addr j, 31, 1, 0⟩

def HOST_RQ_WR.addr (j : Nat) : Nat := 0x30400c + 0x20 * j
def HOST_RQ_WR.wr (j : Nat) : Fld := ⟨HOST_RQ_WR.addr j, 0, 12, 0⟩

def HOST_RQ_RD.addr (j : Nat) : Nat := 0x304010 + 0x20 * j
def HOST_RQ_RD.rd (j : Nat) : Fld := ⟨HOST_RQ_RD.addr j, 0, 12, 0⟩

def HOST_RQ_DROP.addr (j : Nat) : Nat := 0x304014 + 0x20 * j
def HOST_RQ_DROP.count (j : Nat) : Fld := ⟨HOST_RQ_DROP.addr j, 0, 32, 0⟩

def HOST_RQ_MOD.addr (j : Nat) : Nat := 0x304018 + 0x20 * j
def HOST_RQ_MOD.us (j : Nat) : Fld := ⟨HOST_RQ_MOD.addr j, 0, 10, 0⟩

def HOST_TS_ADDR_LO.addr (s : Nat) : Nat := 0x310000 + 0x40 * s
def HOST_TS_ADDR_LO.addr_ (s : Nat) : Fld := ⟨HOST_TS_ADDR_LO.addr s, 0, 32, 0⟩

def HOST_TS_ADDR_HI.addr (s : Nat) : Nat := 0x310004 + 0x40 * s
def HOST_TS_ADDR_HI.addr_ (s : Nat) : Fld := ⟨HOST_TS_ADDR_HI.addr s, 0, 8, 0⟩

def HOST_TS_WDATA_LO.addr (s : Nat) : Nat := 0x310008 + 0x40 * s
def HOST_TS_WDATA_LO.data (s : Nat) : Fld := ⟨HOST_TS_WDATA_LO.addr s, 0, 32, 0⟩

def HOST_TS_WDATA_HI.addr (s : Nat) : Nat := 0x31000c + 0x40 * s
def HOST_TS_WDATA_HI.data (s : Nat) : Fld := ⟨HOST_TS_WDATA_HI.addr s, 0, 32, 0⟩

def HOST_TS_CMD.addr (s : Nat) : Nat := 0x310010 + 0x40 * s
def HOST_TS_CMD.op (s : Nat) : Fld := ⟨HOST_TS_CMD.addr s, 0, 2, 0⟩
def HOST_TS_CMD.size (s : Nat) : Fld := ⟨HOST_TS_CMD.addr s, 4, 3, 0⟩
def HOST_TS_CMD.irq (s : Nat) : Fld := ⟨HOST_TS_CMD.addr s, 8, 1, 0⟩
def HOST_TS_CMD.issue_status (s : Nat) : Fld := ⟨HOST_TS_CMD.addr s, 16, 8, 0⟩
def HOST_TS_CMD.issue (s : Nat) : Fld := ⟨HOST_TS_CMD.addr s, 31, 1, 0⟩

def HOST_TS_RESULT.addr (s : Nat) : Nat := 0x310014 + 0x40 * s
def HOST_TS_RESULT.valid (s : Nat) : Fld := ⟨HOST_TS_RESULT.addr s, 0, 1, 0⟩
def HOST_TS_RESULT.index (s : Nat) : Fld := ⟨HOST_TS_RESULT.addr s, 1, 3, 0⟩
def HOST_TS_RESULT.seq (s : Nat) : Fld := ⟨HOST_TS_RESULT.addr s, 8, 8, 0⟩
def HOST_TS_RESULT.status (s : Nat) : Fld := ⟨HOST_TS_RESULT.addr s, 16, 8, 0⟩
def HOST_TS_RESULT.detail (s : Nat) : Fld := ⟨HOST_TS_RESULT.addr s, 24, 8, 0⟩

def HOST_TS_RDATA_LO.addr (s : Nat) : Nat := 0x310018 + 0x40 * s
def HOST_TS_RDATA_LO.data (s : Nat) : Fld := ⟨HOST_TS_RDATA_LO.addr s, 0, 32, 0⟩

def HOST_TS_RDATA_HI.addr (s : Nat) : Nat := 0x31001c + 0x40 * s
def HOST_TS_RDATA_HI.data (s : Nat) : Fld := ⟨HOST_TS_RDATA_HI.addr s, 0, 32, 0⟩

def NODE_STATE.addr : Nat := 0x4
def NODE_STATE.state : Fld := ⟨NODE_STATE.addr, 0, 3, 0⟩
def NODE_STATE.pause : Fld := ⟨NODE_STATE.addr, 3, 1, 0⟩

def NODE_REFUSED.addr : Nat := 0x8
def NODE_REFUSED.count : Fld := ⟨NODE_REFUSED.addr, 0, 32, 0⟩

def NODE_CMD.addr (m : Nat) : Nat := 0x100 + 0x40 * m
def NODE_CMD.code (m : Nat) : Fld := ⟨NODE_CMD.addr m, 0, 8, 0⟩
def NODE_CMD.tag (m : Nat) : Fld := ⟨NODE_CMD.addr m, 8, 8, 0⟩

def NODE_ARG.addr (m a : Nat) : Nat := 0x104 + 0x40 * m + 0x4 * a
def NODE_ARG.arg (m a : Nat) : Fld := ⟨NODE_ARG.addr m a, 0, 32, 0⟩

def NODE_CMDSTAT.addr (m : Nat) : Nat := 0x118 + 0x40 * m
def NODE_CMDSTAT.busy (m : Nat) : Fld := ⟨NODE_CMDSTAT.addr m, 0, 1, 0⟩
def NODE_CMDSTAT.status (m : Nat) : Fld := ⟨NODE_CMDSTAT.addr m, 8, 8, 0⟩
def NODE_CMDSTAT.code (m : Nat) : Fld := ⟨NODE_CMDSTAT.addr m, 16, 8, 0⟩
def NODE_CMDSTAT.tag (m : Nat) : Fld := ⟨NODE_CMDSTAT.addr m, 24, 8, 0⟩

def NODE_RES.addr (m a : Nat) : Nat := 0x11c + 0x40 * m + 0x4 * a
def NODE_RES.res (m a : Nat) : Fld := ⟨NODE_RES.addr m a, 0, 32, 0⟩

def NODE_MBXCNT.addr (m : Nat) : Nat := 0x130 + 0x40 * m
def NODE_MBXCNT.overrun (m : Nat) : Fld := ⟨NODE_MBXCNT.addr m, 0, 16, 0⟩

def TIM_CTL.addr : Nat := 0x20000
def TIM_CTL.use_sec : Fld := ⟨TIM_CTL.addr, 0, 1, 0⟩
def TIM_CTL.use_pri : Fld := ⟨TIM_CTL.addr, 1, 1, 0⟩
def TIM_CTL.ld_restart : Fld := ⟨TIM_CTL.addr, 2, 1, 0⟩

def TIM_STATUS.addr : Nat := 0x20004
def TIM_STATUS.state : Fld := ⟨TIM_STATUS.addr, 0, 2, 0⟩
def TIM_STATUS.sec_valid : Fld := ⟨TIM_STATUS.addr, 2, 1, 0⟩
def TIM_STATUS.sec_in_use : Fld := ⟨TIM_STATUS.addr, 3, 1, 0⟩
def TIM_STATUS.blending : Fld := ⟨TIM_STATUS.addr, 4, 1, 0⟩
def TIM_STATUS.pri_ok : Fld := ⟨TIM_STATUS.addr, 5, 1, 0⟩
def TIM_STATUS.sync_dir : Fld := ⟨TIM_STATUS.addr, 6, 1, 0⟩
def TIM_STATUS.last_status : Fld := ⟨TIM_STATUS.addr, 8, 8, 0⟩

def TIM_NOW0.addr : Nat := 0x20010
def TIM_NOW0.fraction : Fld := ⟨TIM_NOW0.addr, 0, 16, 0⟩

def TIM_NOW1.addr : Nat := 0x20014
def TIM_NOW1.ns : Fld := ⟨TIM_NOW1.addr, 0, 32, 0⟩

def TIM_NOW2.addr : Nat := 0x20018
def TIM_NOW2.s_lo : Fld := ⟨TIM_NOW2.addr, 0, 32, 0⟩

def TIM_NOW3.addr : Nat := 0x2001c
def TIM_NOW3.s_hi : Fld := ⟨TIM_NOW3.addr, 0, 32, 0⟩

def TIM_SECOFS_LO.addr : Nat := 0x20020
def TIM_SECOFS_LO.ofs : Fld := ⟨TIM_SECOFS_LO.addr, 0, 32, 0⟩

def TIM_SECOFS_HI.addr : Nat := 0x20024
def TIM_SECOFS_HI.ofs : Fld := ⟨TIM_SECOFS_HI.addr, 0, 32, 0⟩

def TIM_OFFSET.addr : Nat := 0x20028
def TIM_OFFSET.ofs : Fld := ⟨TIM_OFFSET.addr, 0, 32, 0⟩

def TIM_DIRDIFF.addr : Nat := 0x2002c
def TIM_DIRDIFF.diff : Fld := ⟨TIM_DIRDIFF.addr, 0, 32, 0⟩

def TIM_SERVO.addr : Nat := 0x20030
def TIM_SERVO.max_slew : Fld := ⟨TIM_SERVO.addr, 0, 7, 10⟩
def TIM_SERVO.lock_thr : Fld := ⟨TIM_SERVO.addr, 8, 8, 0⟩
def TIM_SERVO.step_thr : Fld := ⟨TIM_SERVO.addr, 16, 16, 1000⟩

def TIM_ALARM.addr : Nat := 0x20034
def TIM_ALARM.alarm : Fld := ⟨TIM_ALARM.addr, 0, 16, 100⟩

def TIM_SRC.addr : Nat := 0x20038
def TIM_SRC.pri_src : Fld := ⟨TIM_SRC.addr, 0, 1, 0⟩
def TIM_SRC.sec_src : Fld := ⟨TIM_SRC.addr, 1, 2, 0⟩
def TIM_SRC.profile : Fld := ⟨TIM_SRC.addr, 3, 1, 0⟩
def TIM_SRC.ptp_dom0 : Fld := ⟨TIM_SRC.addr, 8, 8, 0⟩
def TIM_SRC.ptp_dom1 : Fld := ⟨TIM_SRC.addr, 16, 8, 0⟩

def TIM_SCALECFG.addr : Nat := 0x2003c
def TIM_SCALECFG.blend : Fld := ⟨TIM_SCALECFG.addr, 0, 9, 0⟩
def TIM_SCALECFG.auto_revert : Fld := ⟨TIM_SCALECFG.addr, 9, 1, 0⟩
def TIM_SCALECFG.revert : Fld := ⟨TIM_SCALECFG.addr, 16, 16, 0⟩

def TIM_SYNCINT.addr : Nat := 0x20040
def TIM_SYNCINT.us : Fld := ⟨TIM_SYNCINT.addr, 0, 14, 1000⟩

def TIM_LDCFG.addr : Nat := 0x20044
def TIM_LDCFG.interval : Fld := ⟨TIM_LDCFG.addr, 0, 8, 1⟩

def TIM_LOSSTO.addr : Nat := 0x20048
def TIM_LOSSTO.src : Fld := ⟨TIM_LOSSTO.addr, 0, 8, 30⟩
def TIM_LOSSTO.node : Fld := ⟨TIM_LOSSTO.addr, 8, 8, 8⟩

def TIM_UTC.addr : Nat := 0x2004c
def TIM_UTC.utc_offset : Fld := ⟨TIM_UTC.addr, 0, 16, 0⟩
def TIM_UTC.flags : Fld := ⟨TIM_UTC.addr, 16, 3, 0⟩

def TIM_REFUSED.addr : Nat := 0x20050
def TIM_REFUSED.count : Fld := ⟨TIM_REFUSED.addr, 0, 32, 0⟩

def TIM_LINKDLY.addr (p : Nat) : Nat := 0x20100 + 0x20 * p
def TIM_LINKDLY.mean (p : Nat) : Fld := ⟨TIM_LINKDLY.addr p, 0, 24, 0⟩

def TIM_ASYM.addr (p : Nat) : Nat := 0x20104 + 0x20 * p
def TIM_ASYM.asym (p : Nat) : Fld := ⟨TIM_ASYM.addr p, 0, 16, 0⟩

def TIM_LDCNT.addr (p : Nat) : Nat := 0x20108 + 0x20 * p
def TIM_LDCNT.samples (p : Nat) : Fld := ⟨TIM_LDCNT.addr p, 0, 16, 0⟩
def TIM_LDCNT.rejected (p : Nat) : Fld := ⟨TIM_LDCNT.addr p, 16, 16, 0⟩

def TIM_ETHCFG.addr (e : Nat) : Nat := 0x20200 + 0x20 * e
def TIM_ETHCFG.tc_mode (e : Nat) : Fld := ⟨TIM_ETHCFG.addr e, 0, 1, 0⟩
def TIM_ETHCFG.pdelay_int (e : Nat) : Fld := ⟨TIM_ETHCFG.addr e, 8, 8, 0⟩

def TIM_ETHPHY.addr (e : Nat) : Nat := 0x20204 + 0x20 * e
def TIM_ETHPHY.tx (e : Nat) : Fld := ⟨TIM_ETHPHY.addr e, 0, 16, 0⟩
def TIM_ETHPHY.rx (e : Nat) : Fld := ⟨TIM_ETHPHY.addr e, 16, 16, 0⟩

def TIM_ETHLINK.addr (e : Nat) : Nat := 0x20208 + 0x20 * e
def TIM_ETHLINK.peer (e : Nat) : Fld := ⟨TIM_ETHLINK.addr e, 0, 24, 0⟩

def TIM_PTPCNT.addr (e : Nat) : Nat := 0x2020c + 0x20 * e
def TIM_PTPCNT.fu_unmatched (e : Nat) : Fld := ⟨TIM_PTPCNT.addr e, 0, 16, 0⟩
def TIM_PTPCNT.dropped (e : Nat) : Fld := ⟨TIM_PTPCNT.addr e, 16, 16, 0⟩

def TIM_LAUNCH.addr : Nat := 0x20300
def TIM_LAUNCH.horizon : Fld := ⟨TIM_LAUNCH.addr, 0, 16, 0⟩

def TIM_LAUNCHERR.addr : Nat := 0x20304
def TIM_LAUNCHERR.late : Fld := ⟨TIM_LAUNCHERR.addr, 0, 16, 0⟩
def TIM_LAUNCHERR.far : Fld := ⟨TIM_LAUNCHERR.addr, 16, 16, 0⟩

def TIM_LAUNCHERR1.addr : Nat := 0x20308
def TIM_LAUNCHERR1.missing : Fld := ⟨TIM_LAUNCHERR1.addr, 0, 16, 0⟩

def TIM_HOSTCAP.addr : Nat := 0x20310
def TIM_HOSTCAP.cap : Fld := ⟨TIM_HOSTCAP.addr, 0, 1, 0⟩

def TIM_HOSTCAPT0.addr : Nat := 0x20314
def TIM_HOSTCAPT0.fraction : Fld := ⟨TIM_HOSTCAPT0.addr, 0, 16, 0⟩

def TIM_HOSTCAPT1.addr : Nat := 0x20318
def TIM_HOSTCAPT1.ns : Fld := ⟨TIM_HOSTCAPT1.addr, 0, 32, 0⟩

def TIM_HOSTCAPT2.addr : Nat := 0x2031c
def TIM_HOSTCAPT2.s_lo : Fld := ⟨TIM_HOSTCAPT2.addr, 0, 32, 0⟩

def TIM_HOSTCAPT3.addr : Nat := 0x20320
def TIM_HOSTCAPT3.s_hi : Fld := ⟨TIM_HOSTCAPT3.addr, 0, 32, 0⟩

def TIM_HOSTADJ_LO.addr : Nat := 0x20324
def TIM_HOSTADJ_LO.ofs : Fld := ⟨TIM_HOSTADJ_LO.addr, 0, 32, 0⟩

def TIM_HOSTADJ_HI.addr : Nat := 0x20328
def TIM_HOSTADJ_HI.ofs : Fld := ⟨TIM_HOSTADJ_HI.addr, 0, 32, 0⟩

def ETH_GCFG.addr (g : Nat) : Nat := 0x401000 + 0x100 * g
def ETH_GCFG.en (g : Nat) : Fld := ⟨ETH_GCFG.addr g, 0, 1, 0⟩
def ETH_GCFG.sync (g : Nat) : Fld := ⟨ETH_GCFG.addr g, 1, 1, 0⟩
def ETH_GCFG.ovh (g : Nat) : Fld := ⟨ETH_GCFG.addr g, 16, 6, 0⟩

def ETH_GCYCLE.addr (g : Nat) : Nat := 0x401004 + 0x100 * g
def ETH_GCYCLE.cycle (g : Nat) : Fld := ⟨ETH_GCYCLE.addr g, 0, 24, 0⟩

def ETH_GPHASE.addr (g : Nat) : Nat := 0x401008 + 0x100 * g
def ETH_GPHASE.phase (g : Nat) : Fld := ⟨ETH_GPHASE.addr g, 0, 24, 0⟩

def ETH_GCTL.addr (g : Nat) : Nat := 0x40100c + 0x100 * g
def ETH_GCTL.commit (g : Nat) : Fld := ⟨ETH_GCTL.addr g, 0, 1, 0⟩
def ETH_GCTL.cancel (g : Nat) : Fld := ⟨ETH_GCTL.addr g, 1, 1, 0⟩

def ETH_GCHG_LO.addr (g : Nat) : Nat := 0x401010 + 0x100 * g
def ETH_GCHG_LO.chg (g : Nat) : Fld := ⟨ETH_GCHG_LO.addr g, 0, 32, 0⟩

def ETH_GCHG_HI.addr (g : Nat) : Nat := 0x401014 + 0x100 * g
def ETH_GCHG_HI.chg (g : Nat) : Fld := ⟨ETH_GCHG_HI.addr g, 0, 16, 0⟩

def ETH_GSTAT.addr (g : Nat) : Nat := 0x401018 + 0x100 * g
def ETH_GSTAT.gates (g : Nat) : Fld := ⟨ETH_GSTAT.addr g, 0, 8, 0⟩
def ETH_GSTAT.entry (g : Nat) : Fld := ⟨ETH_GSTAT.addr g, 8, 8, 0⟩
def ETH_GSTAT.pending (g : Nat) : Fld := ⟨ETH_GSTAT.addr g, 16, 1, 0⟩
def ETH_GSTAT.last_status (g : Nat) : Fld := ⟨ETH_GSTAT.addr g, 24, 8, 0⟩

def ETH_GREFUSED.addr (g : Nat) : Nat := 0x40101c + 0x100 * g
def ETH_GREFUSED.count (g : Nat) : Fld := ⟨ETH_GREFUSED.addr g, 0, 32, 0⟩

def ETH_GWMAX.addr (g c : Nat) : Nat := 0x401020 + 0x100 * g + 0x4 * c
def ETH_GWMAX.wmax (g c : Nat) : Fld := ⟨ETH_GWMAX.addr g c, 0, 24, 0⟩

def ETH_GDROP.addr (g c : Nat) : Nat := 0x401040 + 0x100 * g + 0x4 * c
def ETH_GDROP.oversize (g c : Nat) : Fld := ⟨ETH_GDROP.addr g c, 0, 16, 0⟩
def ETH_GDROP.deadline (g c : Nat) : Fld := ⟨ETH_GDROP.addr g c, 16, 16, 0⟩

def ETH_GWAIT.addr (g : Nat) : Nat := 0x401060 + 0x100 * g
def ETH_GWAIT.waits (g : Nat) : Fld := ⟨ETH_GWAIT.addr g, 0, 32, 0⟩

def ETH_GCL.addr (g i w : Nat) : Nat := 0x410000 + 0x1000 * g + 0x8 * i + 0x4 * w
def ETH_GCL.word (g i w : Nat) : Fld := ⟨ETH_GCL.addr g i w, 0, 32, 0⟩

def ETH_GCLSTG.addr (g i w : Nat) : Nat := 0x410800 + 0x1000 * g + 0x8 * i + 0x4 * w
def ETH_GCLSTG.word (g i w : Nat) : Fld := ⟨ETH_GCLSTG.addr g i w, 0, 32, 0⟩

def ETH_WHEEL.addr : Nat := 0x400200
def ETH_WHEEL.ptr : Fld := ⟨ETH_WHEEL.addr, 0, 12, 0⟩
def ETH_WHEEL.entries : Fld := ⟨ETH_WHEEL.addr, 16, 9, 0⟩

def ETH_WOVF.addr : Nat := 0x400204
def ETH_WOVF.entries : Fld := ⟨ETH_WOVF.addr, 0, 9, 0⟩
def ETH_WOVF.max : Fld := ⟨ETH_WOVF.addr, 16, 9, 0⟩

def ETH_SHAPE0.addr (f : Nat) : Nat := 0x420000 + 0x8 * f
def ETH_SHAPE0.rate (f : Nat) : Fld := ⟨ETH_SHAPE0.addr f, 0, 17, 0⟩

def ETH_SHAPE1.addr (f : Nat) : Nat := 0x420004 + 0x8 * f
def ETH_SHAPE1.burst (f : Nat) : Fld := ⟨ETH_SHAPE1.addr f, 0, 16, 0⟩
def ETH_SHAPE1.ovh (f : Nat) : Fld := ⟨ETH_SHAPE1.addr f, 16, 6, 0⟩

def CST_STATUS.addr : Nat := 0x40000
def CST_STATUS.run_copy : Fld := ⟨CST_STATUS.addr, 0, 1, 0⟩
def CST_STATUS.blank : Fld := ⟨CST_STATUS.addr, 1, 1, 0⟩
def CST_STATUS.unsigned : Fld := ⟨CST_STATUS.addr, 2, 1, 0⟩
def CST_STATUS.recasting : Fld := ⟨CST_STATUS.addr, 3, 1, 0⟩
def CST_STATUS.last_status : Fld := ⟨CST_STATUS.addr, 8, 8, 0⟩
def CST_STATUS.fmt_major : Fld := ⟨CST_STATUS.addr, 16, 8, 0⟩
def CST_STATUS.fmt_minor : Fld := ⟨CST_STATUS.addr, 24, 8, 0⟩

def CST_RUNSEQ_LO.addr : Nat := 0x40004
def CST_RUNSEQ_LO.seq : Fld := ⟨CST_RUNSEQ_LO.addr, 0, 32, 0⟩

def CST_RUNSEQ_HI.addr : Nat := 0x40008
def CST_RUNSEQ_HI.seq : Fld := ⟨CST_RUNSEQ_HI.addr, 0, 32, 0⟩

def CST_RUNID.addr : Nat := 0x4000c
def CST_RUNID.id : Fld := ⟨CST_RUNID.addr, 0, 32, 0⟩

def CST_BOOT.addr : Nat := 0x40010
def CST_BOOT.phase : Fld := ⟨CST_BOOT.addr, 0, 4, 1⟩
def CST_BOOT.no_fw : Fld := ⟨CST_BOOT.addr, 4, 1, 0⟩
def CST_BOOT.boot_ms : Fld := ⟨CST_BOOT.addr, 16, 16, 0⟩

def CST_LOADERR.addr : Nat := 0x40014
def CST_LOADERR.code : Fld := ⟨CST_LOADERR.addr, 0, 8, 0⟩
def CST_LOADERR.section_ : Fld := ⟨CST_LOADERR.addr, 8, 7, 0⟩
def CST_LOADERR.copy : Fld := ⟨CST_LOADERR.addr, 15, 1, 0⟩

def CST_LOADOFS.addr : Nat := 0x40018
def CST_LOADOFS.offset : Fld := ⟨CST_LOADOFS.addr, 0, 28, 0⟩

def CST_CTL.addr : Nat := 0x40020
def CST_CTL.save : Fld := ⟨CST_CTL.addr, 0, 1, 0⟩

def CST_RECAST.addr : Nat := 0x40024
def CST_RECAST.pending : Fld := ⟨CST_RECAST.addr, 0, 12, 0⟩
def CST_RECAST.done : Fld := ⟨CST_RECAST.addr, 16, 12, 0⟩

def CST_REFUSED.addr : Nat := 0x40028
def CST_REFUSED.count : Fld := ⟨CST_REFUSED.addr, 0, 32, 0⟩

def CST_COPYSEQ_LO.addr (c : Nat) : Nat := 0x40040 + 0x20 * c
def CST_COPYSEQ_LO.seq (c : Nat) : Fld := ⟨CST_COPYSEQ_LO.addr c, 0, 32, 0⟩

def CST_COPYSEQ_HI.addr (c : Nat) : Nat := 0x40044 + 0x20 * c
def CST_COPYSEQ_HI.seq (c : Nat) : Fld := ⟨CST_COPYSEQ_HI.addr c, 0, 32, 0⟩

def CST_COPYID.addr (c : Nat) : Nat := 0x40048 + 0x20 * c
def CST_COPYID.id (c : Nat) : Fld := ⟨CST_COPYID.addr c, 0, 32, 0⟩

def CST_COPYSTAT.addr (c : Nat) : Nat := 0x4004c + 0x20 * c
def CST_COPYSTAT.state (c : Nat) : Fld := ⟨CST_COPYSTAT.addr c, 0, 4, 0⟩
def CST_COPYSTAT.fmt_major (c : Nat) : Fld := ⟨CST_COPYSTAT.addr c, 8, 8, 0⟩

def CST_SET.addr : Nat := 0x400a0
def CST_SET.run_copy : Fld := ⟨CST_SET.addr, 0, 1, 0⟩
def CST_SET.defaults : Fld := ⟨CST_SET.addr, 1, 1, 0⟩
def CST_SET.reason : Fld := ⟨CST_SET.addr, 4, 3, 0⟩
def CST_SET.saving : Fld := ⟨CST_SET.addr, 8, 1, 0⟩

def CST_SETSEQ_LO.addr : Nat := 0x400a4
def CST_SETSEQ_LO.seq : Fld := ⟨CST_SETSEQ_LO.addr, 0, 32, 0⟩

def CST_SETSEQ_HI.addr : Nat := 0x400a8
def CST_SETSEQ_HI.seq : Fld := ⟨CST_SETSEQ_HI.addr, 0, 32, 0⟩

def CST_STG.addr : Nat := 0x41000
def CST_STG.state : Fld := ⟨CST_STG.addr, 0, 2, 0⟩
def CST_STG.kind : Fld := ⟨CST_STG.addr, 2, 1, 0⟩
def CST_STG.writing : Fld := ⟨CST_STG.addr, 3, 1, 0⟩

def CST_STGID.addr : Nat := 0x41004
def CST_STGID.id : Fld := ⟨CST_STGID.addr, 0, 32, 0⟩

def CST_STGSIZE.addr : Nat := 0x41008
def CST_STGSIZE.bytes : Fld := ⟨CST_STGSIZE.addr, 0, 24, 0⟩

def CST_STGCNT.addr : Nat := 0x4100c
def CST_STGCNT.total : Fld := ⟨CST_STGCNT.addr, 0, 12, 0⟩
def CST_STGCNT.missing : Fld := ⟨CST_STGCNT.addr, 16, 12, 0⟩

def CST_ACT.addr : Nat := 0x41010
def CST_ACT.phase : Fld := ⟨CST_ACT.addr, 0, 2, 0⟩
def CST_ACT.last_status : Fld := ⟨CST_ACT.addr, 8, 8, 0⟩
def CST_ACT.last_detail : Fld := ⟨CST_ACT.addr, 16, 8, 0⟩

def CST_ACTCNT.addr : Nat := 0x41014
def CST_ACTCNT.done : Fld := ⟨CST_ACTCNT.addr, 0, 16, 0⟩
def CST_ACTCNT.failed : Fld := ⟨CST_ACTCNT.addr, 16, 16, 0⟩

def CST_FWSEQ_LO.addr (c : Nat) : Nat := 0x41040 + 0x20 * c
def CST_FWSEQ_LO.seq (c : Nat) : Fld := ⟨CST_FWSEQ_LO.addr c, 0, 32, 0⟩

def CST_FWSEQ_HI.addr (c : Nat) : Nat := 0x41044 + 0x20 * c
def CST_FWSEQ_HI.seq (c : Nat) : Fld := ⟨CST_FWSEQ_HI.addr c, 0, 32, 0⟩

def CST_FWSTAT.addr (c : Nat) : Nat := 0x41048 + 0x20 * c
def CST_FWSTAT.state (c : Nat) : Fld := ⟨CST_FWSTAT.addr c, 0, 4, 0⟩
def CST_FWSTAT.target (c : Nat) : Fld := ⟨CST_FWSTAT.addr c, 8, 1, 0⟩

def WEAR_PAIRCFG.addr (p : Nat) : Nat := 0x60100 + 0x4 * p
def WEAR_PAIRCFG.mode (p : Nat) : Fld := ⟨WEAR_PAIRCFG.addr p, 0, 1, 0⟩
def WEAR_PAIRCFG.role (p : Nat) : Fld := ⟨WEAR_PAIRCFG.addr p, 1, 2, if p = 0 then 0 else if p < 8 then 1 else 3⟩

def CORE_CTL.addr (p : Nat) : Nat := 0x800000 + 0x10000 * p
def CORE_CTL.start (p : Nat) : Fld := ⟨CORE_CTL.addr p, 0, 1, 0⟩
def CORE_CTL.halt (p : Nat) : Fld := ⟨CORE_CTL.addr p, 1, 1, 0⟩
def CORE_CTL.reset (p : Nat) : Fld := ⟨CORE_CTL.addr p, 2, 1, 0⟩

def CORE_STAT.addr (p : Nat) : Nat := 0x800004 + 0x10000 * p
def CORE_STAT.run (p : Nat) : Fld := ⟨CORE_STAT.addr p, 0, 2, 0⟩
def CORE_STAT.mode (p : Nat) : Fld := ⟨CORE_STAT.addr p, 2, 1, 0⟩
def CORE_STAT.role (p : Nat) : Fld := ⟨CORE_STAT.addr p, 4, 2, if p = 0 then 0 else if p < 8 then 1 else 3⟩
def CORE_STAT.standby_ready (p : Nat) : Fld := ⟨CORE_STAT.addr p, 6, 1, 0⟩
def CORE_STAT.last_status (p : Nat) : Fld := ⟨CORE_STAT.addr p, 8, 8, 0⟩

def CORE_LSERR.addr (p : Nat) : Nat := 0x800008 + 0x10000 * p
def CORE_LSERR.mismatches (p : Nat) : Fld := ⟨CORE_LSERR.addr p, 0, 16, 0⟩

def CORE_DWIN.addr (p : Nat) : Nat := 0x80000c + 0x10000 * p
def CORE_DWIN.node0 (p : Nat) : Fld := ⟨CORE_DWIN.addr p, 0, 6, 0⟩
def CORE_DWIN.node1 (p : Nat) : Fld := ⟨CORE_DWIN.addr p, 8, 6, 0⟩

def CORE_FAULT0.addr (p : Nat) : Nat := 0x800010 + 0x10000 * p
def CORE_FAULT0.status (p : Nat) : Fld := ⟨CORE_FAULT0.addr p, 0, 8, 0⟩
def CORE_FAULT0.detail (p : Nat) : Fld := ⟨CORE_FAULT0.addr p, 8, 8, 0⟩
def CORE_FAULT0.core (p : Nat) : Fld := ⟨CORE_FAULT0.addr p, 16, 1, 0⟩
def CORE_FAULT0.node (p : Nat) : Fld := ⟨CORE_FAULT0.addr p, 24, 6, 0⟩

def CORE_FAULT1.addr (p : Nat) : Nat := 0x800014 + 0x10000 * p
def CORE_FAULT1.offset (p : Nat) : Fld := ⟨CORE_FAULT1.addr p, 0, 28, 0⟩

def CORE_EVBASE.addr (p : Nat) : Nat := 0x800018 + 0x10000 * p
def CORE_EVBASE.base (p : Nat) : Fld := ⟨CORE_EVBASE.addr p, 4, 15, 0⟩

def CORE_EVWR.addr (p : Nat) : Nat := 0x80001c + 0x10000 * p
def CORE_EVWR.wr (p : Nat) : Fld := ⟨CORE_EVWR.addr p, 0, 6, 0⟩

def CORE_EVRD.addr (p : Nat) : Nat := 0x800020 + 0x10000 * p
def CORE_EVRD.rd (p : Nat) : Fld := ⟨CORE_EVRD.addr p, 0, 6, 0⟩

def CORE_EVDROP.addr (p : Nat) : Nat := 0x800024 + 0x10000 * p
def CORE_EVDROP.count (p : Nat) : Fld := ⟨CORE_EVDROP.addr p, 0, 32, 0⟩

def CORE_DOORBELL.addr (p : Nat) : Nat := 0x800028 + 0x10000 * p
def CORE_DOORBELL.bells (p : Nat) : Fld := ⟨CORE_DOORBELL.addr p, 0, 32, 0⟩

def CORE_DBCLR.addr (p : Nat) : Nat := 0x80002c + 0x10000 * p
def CORE_DBCLR.clear (p : Nat) : Fld := ⟨CORE_DBCLR.addr p, 0, 32, 0⟩

def CORE_ROLE.addr : Nat := 0x8a0000
def CORE_ROLE.manager : Fld := ⟨CORE_ROLE.addr, 0, 4, 0⟩
def CORE_ROLE.standby : Fld := ⟨CORE_ROLE.addr, 4, 4, 15⟩

def CORE_WDOG.addr : Nat := 0x8a0004
def CORE_WDOG.timeout : Fld := ⟨CORE_WDOG.addr, 0, 10, 100⟩
def CORE_WDOG.kick : Fld := ⟨CORE_WDOG.addr, 31, 1, 0⟩

def CORE_REFUSED.addr : Nat := 0x8a0008
def CORE_REFUSED.count : Fld := ⟨CORE_REFUSED.addr, 0, 32, 0⟩

def CORE_WINSEL.addr (w : Nat) : Nat := 0x8a0010 + 0x4 * w
def CORE_WINSEL.pair (w : Nat) : Fld := ⟨CORE_WINSEL.addr w, 0, 4, 0⟩

def CRU_CTL.addr : Nat := 0x30000
def CRU_CTL.test : Fld := ⟨CRU_CTL.addr, 0, 1, 0⟩
def CRU_CTL.tlog_clear : Fld := ⟨CRU_CTL.addr, 1, 1, 0⟩

def CRU_STATUS.addr : Nat := 0x30004
def CRU_STATUS.unlocked : Fld := ⟨CRU_STATUS.addr, 0, 1, 0⟩
def CRU_STATUS.root_fail : Fld := ⟨CRU_STATUS.addr, 1, 1, 0⟩
def CRU_STATUS.bench : Fld := ⟨CRU_STATUS.addr, 2, 1, 0⟩
def CRU_STATUS.testing : Fld := ⟨CRU_STATUS.addr, 3, 1, 0⟩
def CRU_STATUS.free : Fld := ⟨CRU_STATUS.addr, 8, 6, 0⟩
def CRU_STATUS.bad : Fld := ⟨CRU_STATUS.addr, 16, 6, 0⟩
def CRU_STATUS.unresolved : Fld := ⟨CRU_STATUS.addr, 24, 6, 0⟩

def CRU_BENCH.addr : Nat := 0x30008
def CRU_BENCH.count : Fld := ⟨CRU_BENCH.addr, 0, 9, 0⟩
def CRU_BENCH.saturated : Fld := ⟨CRU_BENCH.addr, 9, 1, 0⟩

def CRU_REFUSED.addr : Nat := 0x3000c
def CRU_REFUSED.count : Fld := ⟨CRU_REFUSED.addr, 0, 32, 0⟩

def CRU_TPOL.addr : Nat := 0x30010
def CRU_TPOL.resp0 : Fld := ⟨CRU_TPOL.addr, 0, 2, 2⟩
def CRU_TPOL.resp1 : Fld := ⟨CRU_TPOL.addr, 2, 2, 0⟩
def CRU_TPOL.resp2 : Fld := ⟨CRU_TPOL.addr, 4, 2, 2⟩
def CRU_TPOL.resp3 : Fld := ⟨CRU_TPOL.addr, 6, 2, 2⟩
def CRU_TPOL.resp4 : Fld := ⟨CRU_TPOL.addr, 8, 2, 1⟩
def CRU_TPOL.resp5 : Fld := ⟨CRU_TPOL.addr, 10, 2, 2⟩

def CRU_TTEMP.addr : Nat := 0x30014
def CRU_TTEMP.low : Fld := ⟨CRU_TTEMP.addr, 0, 8, 0⟩
def CRU_TTEMP.high : Fld := ⟨CRU_TTEMP.addr, 8, 8, 0⟩

def CRU_ENTROPY.addr : Nat := 0x30018
def CRU_ENTROPY.ok : Fld := ⟨CRU_ENTROPY.addr, 0, 1, 0⟩
def CRU_ENTROPY.fails : Fld := ⟨CRU_ENTROPY.addr, 16, 16, 0⟩

def CRU_TLOG.addr (i w : Nat) : Nat := 0x30100 + 0x10 * i + 0x4 * w
def CRU_TLOG.word (i w : Nat) : Fld := ⟨CRU_TLOG.addr i w, 0, 32, 0⟩

def CRU_TLOGSTAT.addr : Nat := 0x30180
def CRU_TLOGSTAT.next : Fld := ⟨CRU_TLOGSTAT.addr, 0, 3, 0⟩
def CRU_TLOGSTAT.overwritten : Fld := ⟨CRU_TLOGSTAT.addr, 16, 16, 0⟩

def CRU_SLOT0.addr (s : Nat) : Nat := 0x31000 + 0x10 * s
def CRU_SLOT0.key_id (s : Nat) : Fld := ⟨CRU_SLOT0.addr s, 0, 16, 0⟩
def CRU_SLOT0.class_ (s : Nat) : Fld := ⟨CRU_SLOT0.addr s, 16, 2, 0⟩
def CRU_SLOT0.alg (s : Nat) : Fld := ⟨CRU_SLOT0.addr s, 20, 4, 0⟩
def CRU_SLOT0.state (s : Nat) : Fld := ⟨CRU_SLOT0.addr s, 24, 3, 0⟩
def CRU_SLOT0.persistent (s : Nat) : Fld := ⟨CRU_SLOT0.addr s, 28, 1, 0⟩

def CRU_SLOT1.addr (s : Nat) : Nat := 0x31004 + 0x10 * s
def CRU_SLOT1.parent (s : Nat) : Fld := ⟨CRU_SLOT1.addr s, 0, 16, 0⟩
def CRU_SLOT1.pairs (s : Nat) : Fld := ⟨CRU_SLOT1.addr s, 16, 10, 0⟩

def CRU_SLOT2.addr (s : Nat) : Nat := 0x31008 + 0x10 * s
def CRU_SLOT2.uses (s : Nat) : Fld := ⟨CRU_SLOT2.addr s, 0, 32, 0⟩

def CRU_SLOT3.addr (s : Nat) : Nat := 0x3100c + 0x10 * s
def CRU_SLOT3.purpose (s : Nat) : Fld := ⟨CRU_SLOT3.addr s, 0, 8, 0⟩

def CRU_CERT.addr (w : Nat) : Nat := 0x38000 + 0x4 * w
def CRU_CERT.bytes (w : Nat) : Fld := ⟨CRU_CERT.addr w, 0, 32, 0⟩

def CRU_OPCMD.addr (p : Nat) : Nat := 0x30400 + 0x20 * p
def CRU_OPCMD.op (p : Nat) : Fld := ⟨CRU_OPCMD.addr p, 0, 8, 0⟩
def CRU_OPCMD.key_id (p : Nat) : Fld := ⟨CRU_OPCMD.addr p, 8, 16, 0⟩
def CRU_OPCMD.go (p : Nat) : Fld := ⟨CRU_OPCMD.addr p, 31, 1, 0⟩

def CRU_OPSRC.addr (p : Nat) : Nat := 0x30404 + 0x20 * p
def CRU_OPSRC.src (p : Nat) : Fld := ⟨CRU_OPSRC.addr p, 0, 28, 0⟩

def CRU_OPLEN.addr (p : Nat) : Nat := 0x30408 + 0x20 * p
def CRU_OPLEN.src_len (p : Nat) : Fld := ⟨CRU_OPLEN.addr p, 0, 16, 0⟩
def CRU_OPLEN.aad_len (p : Nat) : Fld := ⟨CRU_OPLEN.addr p, 16, 16, 0⟩

def CRU_OPDST.addr (p : Nat) : Nat := 0x3040c + 0x20 * p
def CRU_OPDST.dst (p : Nat) : Fld := ⟨CRU_OPDST.addr p, 0, 28, 0⟩

def CRU_OPAUX.addr (p : Nat) : Nat := 0x30410 + 0x20 * p
def CRU_OPAUX.aux (p : Nat) : Fld := ⟨CRU_OPAUX.addr p, 0, 32, 0⟩

def CRU_OPSTAT.addr (p : Nat) : Nat := 0x30414 + 0x20 * p
def CRU_OPSTAT.busy (p : Nat) : Fld := ⟨CRU_OPSTAT.addr p, 0, 1, 0⟩
def CRU_OPSTAT.status (p : Nat) : Fld := ⟨CRU_OPSTAT.addr p, 8, 8, 0⟩
def CRU_OPSTAT.out_len (p : Nat) : Fld := ⟨CRU_OPSTAT.addr p, 16, 16, 0⟩

def NODE_SLEEPCFG.addr : Nat := 0x1000
def NODE_SLEEPCFG.max_state : Fld := ⟨NODE_SLEEPCFG.addr, 0, 3, 0⟩
def NODE_SLEEPCFG.auto : Fld := ⟨NODE_SLEEPCFG.addr, 3, 1, 0⟩
def NODE_SLEEPCFG.lead : Fld := ⟨NODE_SLEEPCFG.addr, 8, 8, 20⟩

def NODE_SLEEPCTL.addr : Nat := 0x1004
def NODE_SLEEPCTL.stow : Fld := ⟨NODE_SLEEPCTL.addr, 0, 1, 0⟩
def NODE_SLEEPCTL.hold_run : Fld := ⟨NODE_SLEEPCTL.addr, 1, 1, 0⟩
def NODE_SLEEPCTL.last_status : Fld := ⟨NODE_SLEEPCTL.addr, 8, 8, 0⟩

def NODE_SLEEPSTAT.addr : Nat := 0x1008
def NODE_SLEEPSTAT.state : Fld := ⟨NODE_SLEEPSTAT.addr, 0, 3, 0⟩
def NODE_SLEEPSTAT.allowed : Fld := ⟨NODE_SLEEPSTAT.addr, 4, 3, 0⟩
def NODE_SLEEPSTAT.last_wake : Fld := ⟨NODE_SLEEPSTAT.addr, 8, 4, 0⟩
def NODE_SLEEPSTAT.slow_src : Fld := ⟨NODE_SLEEPSTAT.addr, 16, 1, 0⟩

def NODE_WAKELATE.addr : Nat := 0x100c
def NODE_WAKELATE.count : Fld := ⟨NODE_WAKELATE.addr, 0, 32, 0⟩

def NODE_CLKSTAT.addr : Nat := 0x1010
def NODE_CLKSTAT.running : Fld := ⟨NODE_CLKSTAT.addr, 0, 14, 3⟩

def NODE_BELLOWS.addr : Nat := 0x1014
def NODE_BELLOWS.busy : Fld := ⟨NODE_BELLOWS.addr, 0, 1, 0⟩
def NODE_BELLOWS.kind : Fld := ⟨NODE_BELLOWS.addr, 1, 3, 0⟩
def NODE_BELLOWS.step : Fld := ⟨NODE_BELLOWS.addr, 8, 8, 0⟩

def NODE_RESIDENCY.addr (s : Nat) : Nat := 0x1020 + 0x4 * s
def NODE_RESIDENCY.ms (s : Nat) : Fld := ⟨NODE_RESIDENCY.addr s, 0, 32, 0⟩

def NODE_CLSLEEP.addr (k : Nat) : Nat := 0x1040 + 0x4 * k
def NODE_CLSLEEP.class_ (k : Nat) : Fld := ⟨NODE_CLSLEEP.addr k, 0, 3, 0⟩
def NODE_CLSLEEP.depth (k : Nat) : Fld := ⟨NODE_CLSLEEP.addr k, 4, 3, 0⟩
def NODE_CLSLEEP.wake_pad (k : Nat) : Fld := ⟨NODE_CLSLEEP.addr k, 8, 5, 0⟩
def NODE_CLSLEEP.wake_en (k : Nat) : Fld := ⟨NODE_CLSLEEP.addr k, 15, 1, 0⟩

def NODE_CLWAKE.addr (k : Nat) : Nat := 0x1080 + 0x4 * k
def NODE_CLWAKE.offset (k : Nat) : Fld := ⟨NODE_CLWAKE.addr k, 0, 24, 0⟩
def NODE_CLWAKE.en (k : Nat) : Fld := ⟨NODE_CLWAKE.addr k, 31, 1, 0⟩

def PWR_STATUS.addr : Nat := 0x50000
def PWR_STATUS.card_state : Fld := ⟨PWR_STATUS.addr, 0, 4, 4⟩
def PWR_STATUS.card_pg : Fld := ⟨PWR_STATUS.addr, 4, 1, 1⟩
def PWR_STATUS.fet_short : Fld := ⟨PWR_STATUS.addr, 5, 1, 0⟩
def PWR_STATUS.limit : Fld := ⟨PWR_STATUS.addr, 6, 1, 0⟩
def PWR_STATUS.sensor_fault : Fld := ⟨PWR_STATUS.addr, 7, 1, 0⟩
def PWR_STATUS.reg_pg : Fld := ⟨PWR_STATUS.addr, 8, 4, 15⟩
def PWR_STATUS.reg_en : Fld := ⟨PWR_STATUS.addr, 12, 4, 15⟩
def PWR_STATUS.eject : Fld := ⟨PWR_STATUS.addr, 16, 1, 0⟩

def PWR_CARDCFG0.addr : Nat := 0x50004
def PWR_CARDCFG0.ilim : Fld := ⟨PWR_CARDCFG0.addr, 0, 6, 25⟩
def PWR_CARDCFG0.ftimer : Fld := ⟨PWR_CARDCFG0.addr, 8, 10, 100⟩
def PWR_CARDCFG0.retry_max : Fld := ⟨PWR_CARDCFG0.addr, 20, 4, 0⟩

def PWR_CARDCFG1.addr : Nat := 0x50008
def PWR_CARDCFG1.dvdt : Fld := ⟨PWR_CARDCFG1.addr, 0, 8, 30⟩
def PWR_CARDCFG1.pg_delay : Fld := ⟨PWR_CARDCFG1.addr, 8, 8, 10⟩
def PWR_CARDCFG1.t_restart : Fld := ⟨PWR_CARDCFG1.addr, 16, 8, 149⟩
def PWR_CARDCFG1.t_trip : Fld := ⟨PWR_CARDCFG1.addr, 24, 8, 214⟩

def PWR_CARDTH.addr : Nat := 0x5000c
def PWR_CARDTH.rds_on : Fld := ⟨PWR_CARDTH.addr, 0, 12, 0⟩
def PWR_CARDTH.sensor : Fld := ⟨PWR_CARDTH.addr, 12, 1, 0⟩
def PWR_CARDTH.rth : Fld := ⟨PWR_CARDTH.addr, 16, 8, 0⟩
def PWR_CARDTH.tau : Fld := ⟨PWR_CARDTH.addr, 24, 8, 0⟩

def PWR_CARDSH.addr : Nat := 0x50010
def PWR_CARDSH.shunt : Fld := ⟨PWR_CARDSH.addr, 0, 16, 0⟩

def PWR_SEQ.addr : Nat := 0x50014
def PWR_SEQ.mask : Fld := ⟨PWR_SEQ.addr, 0, 4, 15⟩
def PWR_SEQ.step : Fld := ⟨PWR_SEQ.addr, 8, 8, 10⟩
def PWR_SEQ.timeout : Fld := ⟨PWR_SEQ.addr, 16, 8, 10⟩

def PWR_VINWIN.addr : Nat := 0x50018
def PWR_VINWIN.uv : Fld := ⟨PWR_VINWIN.addr, 0, 8, 34⟩
def PWR_VINWIN.ov : Fld := ⟨PWR_VINWIN.addr, 8, 8, 248⟩
def PWR_VINWIN.pg_drop : Fld := ⟨PWR_VINWIN.addr, 16, 8, 10⟩

def PWR_CARDMEAS0.addr : Nat := 0x50020
def PWR_CARDMEAS0.vin : Fld := ⟨PWR_CARDMEAS0.addr, 0, 16, 0⟩
def PWR_CARDMEAS0.vout : Fld := ⟨PWR_CARDMEAS0.addr, 16, 16, 0⟩

def PWR_CARDMEAS1.addr : Nat := 0x50024
def PWR_CARDMEAS1.current : Fld := ⟨PWR_CARDMEAS1.addr, 0, 16, 0⟩
def PWR_CARDMEAS1.t_meas : Fld := ⟨PWR_CARDMEAS1.addr, 16, 8, 0⟩
def PWR_CARDMEAS1.t_model : Fld := ⟨PWR_CARDMEAS1.addr, 24, 8, 0⟩

def PWR_FIELD.addr : Nat := 0x50028
def PWR_FIELD.t_diew : Fld := ⟨PWR_FIELD.addr, 0, 8, 0⟩
def PWR_FIELD.vfield : Fld := ⟨PWR_FIELD.addr, 16, 16, 0⟩

def PWR_CARDCNT.addr : Nat := 0x5002c
def PWR_CARDCNT.trips : Fld := ⟨PWR_CARDCNT.addr, 0, 16, 0⟩
def PWR_CARDCNT.vin_out : Fld := ⟨PWR_CARDCNT.addr, 16, 16, 0⟩

def PWR_REFUSED.addr : Nat := 0x50030
def PWR_REFUSED.count : Fld := ⟨PWR_REFUSED.addr, 0, 32, 0⟩

def FEED_CTL.addr (n : Nat) : Nat := 0x50100 + 0x20 * n
def FEED_CTL.on (n : Nat) : Fld := ⟨FEED_CTL.addr n, 0, 1, 0⟩
def FEED_CTL.off (n : Nat) : Fld := ⟨FEED_CTL.addr n, 1, 1, 0⟩
def FEED_CTL.clear (n : Nat) : Fld := ⟨FEED_CTL.addr n, 2, 1, 0⟩
def FEED_CTL.last_status (n : Nat) : Fld := ⟨FEED_CTL.addr n, 8, 8, 0⟩

def FEED_CFG0.addr (n : Nat) : Nat := 0x50104 + 0x20 * n
def FEED_CFG0.ilim (n : Nat) : Fld := ⟨FEED_CFG0.addr n, 0, 12, 0⟩
def FEED_CFG0.ftimer (n : Nat) : Fld := ⟨FEED_CFG0.addr n, 12, 10, 0⟩
def FEED_CFG0.retry_max (n : Nat) : Fld := ⟨FEED_CFG0.addr n, 24, 4, 0⟩
def FEED_CFG0.eject (n : Nat) : Fld := ⟨FEED_CFG0.addr n, 28, 1, 0⟩
def FEED_CFG0.cast_on (n : Nat) : Fld := ⟨FEED_CFG0.addr n, 29, 1, 0⟩

def FEED_CFG1.addr (n : Nat) : Nat := 0x50108 + 0x20 * n
def FEED_CFG1.dvdt (n : Nat) : Fld := ⟨FEED_CFG1.addr n, 0, 8, 0⟩
def FEED_CFG1.pg_delay (n : Nat) : Fld := ⟨FEED_CFG1.addr n, 8, 8, 0⟩
def FEED_CFG1.t_restart (n : Nat) : Fld := ⟨FEED_CFG1.addr n, 16, 8, 149⟩
def FEED_CFG1.t_trip (n : Nat) : Fld := ⟨FEED_CFG1.addr n, 24, 8, 214⟩

def FEED_TH.addr (n : Nat) : Nat := 0x5010c + 0x20 * n
def FEED_TH.rds_on (n : Nat) : Fld := ⟨FEED_TH.addr n, 0, 12, 0⟩
def FEED_TH.rth (n : Nat) : Fld := ⟨FEED_TH.addr n, 16, 8, 0⟩
def FEED_TH.tau (n : Nat) : Fld := ⟨FEED_TH.addr n, 24, 8, 0⟩

def FEED_CFG2.addr (n : Nat) : Nat := 0x50110 + 0x20 * n
def FEED_CFG2.shunt (n : Nat) : Fld := ⟨FEED_CFG2.addr n, 0, 16, 0⟩

def FEED_STAT.addr (n : Nat) : Nat := 0x50114 + 0x20 * n
def FEED_STAT.state (n : Nat) : Fld := ⟨FEED_STAT.addr n, 0, 4, 1⟩
def FEED_STAT.pg (n : Nat) : Fld := ⟨FEED_STAT.addr n, 4, 1, 0⟩
def FEED_STAT.short (n : Nat) : Fld := ⟨FEED_STAT.addr n, 5, 1, 0⟩
def FEED_STAT.limit (n : Nat) : Fld := ⟨FEED_STAT.addr n, 6, 1, 0⟩
def FEED_STAT.ilim_clamped (n : Nat) : Fld := ⟨FEED_STAT.addr n, 7, 1, 0⟩
def FEED_STAT.vout (n : Nat) : Fld := ⟨FEED_STAT.addr n, 16, 16, 0⟩

def FEED_MEAS.addr (n : Nat) : Nat := 0x50118 + 0x20 * n
def FEED_MEAS.current (n : Nat) : Fld := ⟨FEED_MEAS.addr n, 0, 16, 0⟩
def FEED_MEAS.t_model (n : Nat) : Fld := ⟨FEED_MEAS.addr n, 16, 8, 0⟩

def FEED_CNT.addr (n : Nat) : Nat := 0x5011c + 0x20 * n
def FEED_CNT.trips (n : Nat) : Fld := ⟨FEED_CNT.addr n, 0, 16, 0⟩

def FLT_CTL.addr : Nat := 0x10000
def FLT_CTL.release : Fld := ⟨FLT_CTL.addr, 0, 1, 0⟩
def FLT_CTL.clear : Fld := ⟨FLT_CTL.addr, 1, 1, 0⟩
def FLT_CTL.hold : Fld := ⟨FLT_CTL.addr, 2, 1, 0⟩

def FLT_STATUS.addr : Nat := 0x10004
def FLT_STATUS.valid : Fld := ⟨FLT_STATUS.addr, 0, 1, 0⟩
def FLT_STATUS.handling : Fld := ⟨FLT_STATUS.addr, 1, 1, 0⟩
def FLT_STATUS.node_hold : Fld := ⟨FLT_STATUS.addr, 2, 1, 0⟩

def FLT_CAPX.addr : Nat := 0x10008
def FLT_CAPX.merges : Fld := ⟨FLT_CAPX.addr, 0, 16, 0⟩
def FLT_CAPX.classes : Fld := ⟨FLT_CAPX.addr, 16, 16, 0⟩

def FLT_CFG.addr : Nat := 0x1000c
def FLT_CFG.inj_en : Fld := ⟨FLT_CFG.addr, 0, 1, 0⟩

def FLT_PULSE.addr : Nat := 0x10010
def FLT_PULSE.us : Fld := ⟨FLT_PULSE.addr, 0, 10, 10⟩

def FLT_PIN.addr : Nat := 0x10014
def FLT_PIN.hold : Fld := ⟨FLT_PIN.addr, 0, 1, 0⟩
def FLT_PIN.pulsing : Fld := ⟨FLT_PIN.addr, 1, 1, 0⟩

def FLT_PINCNT.addr : Nat := 0x10018
def FLT_PINCNT.pulses : Fld := ⟨FLT_PINCNT.addr, 0, 16, 0⟩
def FLT_PINCNT.merged : Fld := ⟨FLT_PINCNT.addr, 16, 16, 0⟩

def FLT_LOGWR.addr : Nat := 0x1001c
def FLT_LOGWR.next : Fld := ⟨FLT_LOGWR.addr, 0, 6, 0⟩

def FLT_FWDQ.addr : Nat := 0x10020
def FLT_FWDQ.queue : Fld := ⟨FLT_FWDQ.addr, 0, 6, 0⟩
def FLT_FWDQ.en : Fld := ⟨FLT_FWDQ.addr, 7, 1, 0⟩

def FLT_FWDLOST.addr : Nat := 0x10024
def FLT_FWDLOST.count : Fld := ⟨FLT_FWDLOST.addr, 0, 32, 0⟩

def FLT_REFUSED.addr : Nat := 0x10028
def FLT_REFUSED.count : Fld := ⟨FLT_REFUSED.addr, 0, 32, 0⟩

def FLT_CAP.addr (w : Nat) : Nat := 0x10040 + 0x4 * w
def FLT_CAP.word (w : Nat) : Fld := ⟨FLT_CAP.addr w, 0, 32, 0⟩

def FLT_LOG.addr (i w : Nat) : Nat := 0x10100 + 0x20 * i + 0x4 * w
def FLT_LOG.word (i w : Nat) : Fld := ⟨FLT_LOG.addr i w, 0, 32, 0⟩

def FLT_REACT.addr (s : Nat) : Nat := 0x11000 + 0x4 * s
def FLT_REACT.class_ (s : Nat) : Fld := ⟨FLT_REACT.addr s, 0, 3, defaultClass s⟩
def FLT_REACT.scope (s : Nat) : Fld := ⟨FLT_REACT.addr s, 4, 2, if s = 0x04 then 2 else 0⟩
def FLT_REACT.pulse (s : Nat) : Fld := ⟨FLT_REACT.addr s, 8, 1, 0⟩
def FLT_REACT.fwd (s : Nat) : Fld := ⟨FLT_REACT.addr s, 9, 1, 0⟩
def FLT_REACT.quench (s : Nat) : Fld := ⟨FLT_REACT.addr s, 10, 1, 0⟩
def FLT_REACT.irq (s : Nat) : Fld := ⟨FLT_REACT.addr s, 11, 1, 0⟩

def FLT_INJ.addr (s : Nat) : Nat := 0x12000 + 0x4 * s
def FLT_INJ.go (s : Nat) : Fld := ⟨FLT_INJ.addr s, 0, 1, 0⟩
def FLT_INJ.record_only (s : Nat) : Fld := ⟨FLT_INJ.addr s, 1, 1, 0⟩

def FLT_CNT.addr (s : Nat) : Nat := 0x13000 + 0x4 * s
def FLT_CNT.real (s : Nat) : Fld := ⟨FLT_CNT.addr s, 0, 16, 0⟩
def FLT_CNT.inj (s : Nat) : Fld := ⟨FLT_CNT.addr s, 16, 16, 0⟩

def QCH_CTL.addr : Nat := 0x70000
def QCH_CTL.trigger : Fld := ⟨QCH_CTL.addr, 0, 1, 0⟩
def QCH_CTL.rearm : Fld := ⟨QCH_CTL.addr, 1, 1, 0⟩

def QCH_CFG.addr : Nat := 0x70004
def QCH_CFG.pin_en : Fld := ⟨QCH_CFG.addr, 0, 1, 0⟩
def QCH_CFG.pin_pol : Fld := ⟨QCH_CFG.addr, 1, 1, 0⟩
def QCH_CFG.bcast_out : Fld := ⟨QCH_CFG.addr, 2, 1, 0⟩
def QCH_CFG.bcast_in : Fld := ⟨QCH_CFG.addr, 3, 1, 0⟩

def QCH_STATUS.addr : Nat := 0x70008
def QCH_STATUS.held : Fld := ⟨QCH_STATUS.addr, 0, 1, 0⟩
def QCH_STATUS.srcs : Fld := ⟨QCH_STATUS.addr, 1, 5, 0⟩
def QCH_STATUS.missed : Fld := ⟨QCH_STATUS.addr, 6, 1, 0⟩
def QCH_STATUS.fault : Fld := ⟨QCH_STATUS.addr, 8, 8, 0⟩

def QCH_TMATCH_LO.addr : Nat := 0x7000c
def QCH_TMATCH_LO.ns : Fld := ⟨QCH_TMATCH_LO.addr, 0, 32, 0⟩

def QCH_TMATCH_HI.addr : Nat := 0x70010
def QCH_TMATCH_HI.ns : Fld := ⟨QCH_TMATCH_HI.addr, 0, 16, 0⟩
def QCH_TMATCH_HI.armed : Fld := ⟨QCH_TMATCH_HI.addr, 31, 1, 0⟩

def QCH_TIME.addr (w : Nat) : Nat := 0x70014 + 0x4 * w
def QCH_TIME.word (w : Nat) : Fld := ⟨QCH_TIME.addr w, 0, 32, 0⟩

def QCH_IGNORED.addr : Nat := 0x70024
def QCH_IGNORED.count : Fld := ⟨QCH_IGNORED.addr, 0, 32, 0⟩

def QCH_SNAPSEL.addr : Nat := 0x70028
def QCH_SNAPSEL.unit : Fld := ⟨QCH_SNAPSEL.addr, 0, 16, 0⟩

def QCH_SNAP.addr (w : Nat) : Nat := 0x70200 + 0x4 * w
def QCH_SNAP.word (w : Nat) : Fld := ⟨QCH_SNAP.addr w, 0, 32, 0⟩

def WEAR_CTL.addr : Nat := 0x60000
def WEAR_CTL.anneal : Fld := ⟨WEAR_CTL.addr, 0, 1, 0⟩
def WEAR_CTL.cancel : Fld := ⟨WEAR_CTL.addr, 1, 1, 0⟩

def WEAR_STATUS.addr : Nat := 0x60004
def WEAR_STATUS.due : Fld := ⟨WEAR_STATUS.addr, 0, 8, 0⟩
def WEAR_STATUS.annealing : Fld := ⟨WEAR_STATUS.addr, 8, 1, 0⟩
def WEAR_STATUS.blocked : Fld := ⟨WEAR_STATUS.addr, 9, 1, 0⟩
def WEAR_STATUS.last_status : Fld := ⟨WEAR_STATUS.addr, 16, 8, 0⟩

def WEAR_REFUSED.addr : Nat := 0x60008
def WEAR_REFUSED.count : Fld := ⟨WEAR_REFUSED.addr, 0, 32, 0⟩

def WEAR_SEL.addr : Nat := 0x6000c
def WEAR_SEL.unit : Fld := ⟨WEAR_SEL.addr, 0, 16, 0⟩

def WEAR_UNIT0.addr : Nat := 0x60010
def WEAR_UNIT0.score : Fld := ⟨WEAR_UNIT0.addr, 0, 8, 0⟩
def WEAR_UNIT0.thr : Fld := ⟨WEAR_UNIT0.addr, 8, 8, 0⟩
def WEAR_UNIT0.state : Fld := ⟨WEAR_UNIT0.addr, 16, 3, 6⟩

def WEAR_UNIT1.addr : Nat := 0x60014
def WEAR_UNIT1.slope : Fld := ⟨WEAR_UNIT1.addr, 0, 16, 0⟩

def WEAR_UNIT2.addr : Nat := 0x60018
def WEAR_UNIT2.forecast : Fld := ⟨WEAR_UNIT2.addr, 0, 32, 0⟩

def WEAR_UNIT3.addr : Nat := 0x6001c
def WEAR_UNIT3.raw : Fld := ⟨WEAR_UNIT3.addr, 0, 32, 0⟩

def WEAR_LIFE.addr : Nat := 0x60020
def WEAR_LIFE.hours : Fld := ⟨WEAR_LIFE.addr, 0, 32, 4294967295⟩

def WEAR_LIFEPOOL.addr : Nat := 0x60024
def WEAR_LIFEPOOL.pool : Fld := ⟨WEAR_LIFEPOOL.addr, 0, 6, 0⟩
def WEAR_LIFEPOOL.deferred : Fld := ⟨WEAR_LIFEPOOL.addr, 16, 16, 0⟩

def WEAR_HOURS.addr : Nat := 0x60028
def WEAR_HOURS.hours : Fld := ⟨WEAR_HOURS.addr, 0, 32, 0⟩

def WEAR_THR.addr (t : Nat) : Nat := 0x60040 + 0x4 * t
def WEAR_THR.thr (t : Nat) : Fld := ⟨WEAR_THR.addr t, 0, 8, if t = 4 ∨ t = 7 then 96 else if t = 6 then 128 else if t = 8 then 32 else 64⟩

def WEAR_PAIRMAP.addr (p : Nat) : Nat := 0x60140 + 0x4 * p
def WEAR_PAIRMAP.phys (p : Nat) : Fld := ⟨WEAR_PAIRMAP.addr p, 0, 4, p⟩

def WEAR_POOL.addr (i : Nat) : Nat := 0x60200 + 0x4 * i
def WEAR_POOL.left (i : Nat) : Fld := ⟨WEAR_POOL.addr i, 0, 16, poolSpares i⟩
def WEAR_POOL.total (i : Nat) : Fld := ⟨WEAR_POOL.addr i, 16, 16, poolSpares i⟩

def WEAR_D2D.addr (l d : Nat) : Nat := 0x60300 + 0x8 * l + 0x4 * d
def WEAR_D2D.wire0 (l d : Nat) : Fld := ⟨WEAR_D2D.addr l d, 0, 6, 0⟩
def WEAR_D2D.used0 (l d : Nat) : Fld := ⟨WEAR_D2D.addr l d, 6, 1, 0⟩
def WEAR_D2D.wire1 (l d : Nat) : Fld := ⟨WEAR_D2D.addr l d, 8, 6, 0⟩
def WEAR_D2D.used1 (l d : Nat) : Fld := ⟨WEAR_D2D.addr l d, 14, 1, 0⟩

def WEAR_PADLEG.addr (k : Nat) : Nat := 0x60400 + 0x4 * k
def WEAR_PADLEG.leg (k : Nat) : Fld := ⟨WEAR_PADLEG.addr k, 0, 32, 0⟩

def WEAR_PADWORN.addr (k : Nat) : Nat := 0x60440 + 0x4 * k
def WEAR_PADWORN.worn (k : Nat) : Fld := ⟨WEAR_PADWORN.addr k, 0, 32, 0⟩

/-- The registers of the PE blocks, for access by address (R268). -/
def regRowsPE : List RegRow := [
  ⟨0x1080000, [(12, 0x100000), (9, 0x1000)], fun a b _ => [(PE_CTL.start a b, .wo), (PE_CTL.halt a b, .wo), (PE_CTL.step a b, .wo), (PE_CTL.swap_req a b, .w1s), (PE_CTL.swap_cancel a b, .wo), (PE_CTL.force a b, .w1s), (PE_CTL.start_pc a b, .rw), (PE_CTL.unit_reset a b, .wo)]⟩,
  ⟨0x1080004, [(12, 0x100000), (9, 0x1000)], fun a b _ => [(PE_STATUS.run a b, .ro), (PE_STATUS.wait_op a b, .ro), (PE_STATUS.active_bank a b, .ro), (PE_STATUS.swap_pending a b, .ro), (PE_STATUS.force_pending a b, .ro), (PE_STATUS.pc a b, .ro), (PE_STATUS.halt_cause a b, .ro), (PE_STATUS.actions a b, .ro), (PE_STATUS.logical a b, .ro)]⟩,
  ⟨0x1080008, [(12, 0x100000), (9, 0x1000)], fun a b _ => [(PE_FLAGS.late a b, .w1c), (PE_FLAGS.own_err a b, .w1c), (PE_FLAGS.collide a b, .w1c), (PE_FLAGS.forced a b, .w1c), (PE_FLAGS.stamp_stale a b, .w1c)]⟩,
  ⟨0x108000c, [(12, 0x100000), (9, 0x1000)], fun a b _ => [(PE_CFG.in_len a b, .rwl), (PE_CFG.out_len a b, .rwl), (PE_CFG.in_msb a b, .rwl), (PE_CFG.out_msb a b, .rwl), (PE_CFG.late_drop a b, .rwl)]⟩,
  ⟨0x1080010, [(12, 0x100000), (9, 0x1000)], fun a b _ => [(PE_PADMAP0.s0_pad a b, .rwl), (PE_PADMAP0.s0_en a b, .rwl), (PE_PADMAP0.s1_pad a b, .rwl), (PE_PADMAP0.s1_en a b, .rwl), (PE_PADMAP0.s2_pad a b, .rwl), (PE_PADMAP0.s2_en a b, .rwl), (PE_PADMAP0.s3_pad a b, .rwl), (PE_PADMAP0.s3_en a b, .rwl)]⟩,
  ⟨0x1080014, [(12, 0x100000), (9, 0x1000)], fun a b _ => [(PE_PADMAP1.s4_pad a b, .rwl), (PE_PADMAP1.s4_en a b, .rwl), (PE_PADMAP1.s5_pad a b, .rwl), (PE_PADMAP1.s5_en a b, .rwl), (PE_PADMAP1.s6_pad a b, .rwl), (PE_PADMAP1.s6_en a b, .rwl), (PE_PADMAP1.s7_pad a b, .rwl), (PE_PADMAP1.s7_en a b, .rwl)]⟩,
  ⟨0x1080018, [(12, 0x100000), (9, 0x1000)], fun a b _ => [(PE_OWN.own a b, .rwl)]⟩,
  ⟨0x108001c, [(12, 0x100000), (9, 0x1000)], fun a b _ => [(PE_QBIND.tx_queue a b, .rwl), (PE_QBIND.tx_en a b, .rwl), (PE_QBIND.rx_queue a b, .rwl), (PE_QBIND.rx_en a b, .rwl)]⟩,
  ⟨0x1080020, [(12, 0x100000), (9, 0x1000)], fun a b _ => [(PE_X.x a b, .rw)]⟩,
  ⟨0x1080024, [(12, 0x100000), (9, 0x1000)], fun a b _ => [(PE_Y.y a b, .rw)]⟩,
  ⟨0x1080028, [(12, 0x100000), (9, 0x1000)], fun a b _ => [(PE_C.c0 a b, .rw), (PE_C.c1 a b, .rw)]⟩,
  ⟨0x108002c, [(12, 0x100000), (9, 0x1000)], fun a b _ => [(PE_T_LO.t_lo a b, .rw)]⟩,
  ⟨0x1080030, [(12, 0x100000), (9, 0x1000)], fun a b _ => [(PE_T_HI.t_hi a b, .rw), (PE_T_HI.t_fine a b, .rw)]⟩,
  ⟨0x1080034, [(12, 0x100000), (9, 0x1000)], fun a b _ => [(PE_SHIN.shin a b, .rw)]⟩,
  ⟨0x1080038, [(12, 0x100000), (9, 0x1000)], fun a b _ => [(PE_SHOUT.shout a b, .rw)]⟩,
  ⟨0x108003c, [(12, 0x100000), (9, 0x1000)], fun a b _ => [(PE_SHCNT.in_count a b, .rw), (PE_SHCNT.out_count a b, .rw)]⟩,
  ⟨0x1080040, [(12, 0x100000), (9, 0x1000)], fun a b _ => [(PE_TAG.tag a b, .rw)]⟩,
  ⟨0x1080044, [(12, 0x100000), (9, 0x1000)], fun a b _ => [(PE_LASTABORT.in_count a b, .ro), (PE_LASTABORT.out_count a b, .ro), (PE_LASTABORT.pc a b, .ro), (PE_LASTABORT.port_words a b, .ro), (PE_LASTABORT.valid a b, .ro)]⟩,
  ⟨0x1080048, [(12, 0x100000), (9, 0x1000)], fun a b _ => [(PE_ERRCNT.late a b, .ro), (PE_ERRCNT.own a b, .ro)]⟩,
  ⟨0x1080400, [(12, 0x100000), (9, 0x1000), (128, 0x4)], fun a b c => [(PE_PROG.word a b c, .rw)]⟩]

/-- The registers of the CL blocks, for access by address (R268). -/
def regRowsCL : List RegRow := [
  ⟨0x1000000, [(12, 0x100000)], fun a _ _ => [(CL_CTL.cl_reset a, .wo)]⟩,
  ⟨0x1000004, [(12, 0x100000)], fun a _ _ => [(CL_STATUS.time_lock a, .ro), (CL_STATUS.in_reset a, .ro), (CL_STATUS.parked a, .ro), (CL_STATUS.asleep a, .ro), (CL_STATUS.spare_pe a, .ro), (CL_STATUS.bank_ok a, .ro)]⟩,
  ⟨0x1000008, [(12, 0x100000)], fun a _ _ => [(CL_IRQ.event a, .w1c), (CL_IRQ.qreset a, .w1c), (CL_IRQ.bank_fault a, .w1c), (CL_IRQ.overrun a, .w1c), (CL_IRQ.can0 a, .w1c), (CL_IRQ.can1 a, .w1c)]⟩,
  ⟨0x100000c, [(12, 0x100000)], fun a _ _ => [(CL_IRQEN.event a, .rw), (CL_IRQEN.qreset a, .rw), (CL_IRQEN.bank_fault a, .rw), (CL_IRQEN.overrun a, .rw), (CL_IRQEN.can0 a, .rw), (CL_IRQEN.can1 a, .rw)]⟩,
  ⟨0x1000010, [(12, 0x100000)], fun a _ _ => [(CL_QIRQ.level a, .w1c)]⟩,
  ⟨0x1000014, [(12, 0x100000)], fun a _ _ => [(CL_QIRQEN.level_en a, .rw)]⟩,
  ⟨0x1000018, [(12, 0x100000)], fun a _ _ => [(CL_QREADWAIT.wait a, .rw)]⟩,
  ⟨0x1000020, [(12, 0x100000)], fun a _ _ => [(CL_PADLVL.level a, .ro)]⟩,
  ⟨0x1000024, [(12, 0x100000)], fun a _ _ => [(CL_EDGELOST.lost a, .rw)]⟩,
  ⟨0x1000028, [(12, 0x100000)], fun a _ _ => [(CL_REFUSED.count a, .rw)]⟩,
  ⟨0x1000a00, [(12, 0x100000), (32, 0x4)], fun a b _ => [(CL_PADLOST.lost a b, .rw)]⟩,
  ⟨0x100001c, [(12, 0x100000)], fun a _ _ => [(CL_BANKCFG.b0_volt a, .rwl), (CL_BANKCFG.b1_volt a, .rwl), (CL_BANKCFG.b0_meas a, .ro), (CL_BANKCFG.b0_nomatch a, .ro), (CL_BANKCFG.b1_meas a, .ro), (CL_BANKCFG.b1_nomatch a, .ro)]⟩,
  ⟨0x1000400, [(12, 0x100000), (32, 0x4)], fun a b _ => [(CL_PADCFG.drive a b, .rwl), (CL_PADCFG.share a b, .rwl), (CL_PADCFG.pull a b, .rwl), (CL_PADCFG.schmitt a b, .rwl), (CL_PADCFG.strength a b, .rwl), (CL_PADCFG.slew a b, .rwl), (CL_PADCFG.hold a b, .rwl)]⟩,
  ⟨0x1000800, [(12, 0x100000), (32, 0x10)], fun a b _ => [(CL_PADSTAMP0.rise_lo a b, .ro)]⟩,
  ⟨0x1000804, [(12, 0x100000), (32, 0x10)], fun a b _ => [(CL_PADSTAMP1.rise_hi a b, .ro), (CL_PADSTAMP1.rise_fine a b, .ro), (CL_PADSTAMP1.rise_valid a b, .ro)]⟩,
  ⟨0x1000808, [(12, 0x100000), (32, 0x10)], fun a b _ => [(CL_PADSTAMP2.fall_lo a b, .ro)]⟩,
  ⟨0x100080c, [(12, 0x100000), (32, 0x10)], fun a b _ => [(CL_PADSTAMP3.fall_hi a b, .ro), (CL_PADSTAMP3.fall_fine a b, .ro), (CL_PADSTAMP3.fall_valid a b, .ro)]⟩,
  ⟨0x1000c00, [(12, 0x100000), (2, 0x40)], fun a b _ => [(CL_CANCFG.mode a b, .rw), (CL_CANCFG.loopback a b, .rw), (CL_CANCFG.fd_en a b, .rw), (CL_CANCFG.auto_rec a b, .rw), (CL_CANCFG.recover a b, .wo)]⟩,
  ⟨0x1000c04, [(12, 0x100000), (2, 0x40)], fun a b _ => [(CL_CANNBT.nbrp a b, .rwl), (CL_CANNBT.nseg1 a b, .rwl), (CL_CANNBT.nseg2 a b, .rwl), (CL_CANNBT.nsjw a b, .rwl)]⟩,
  ⟨0x1000c08, [(12, 0x100000), (2, 0x40)], fun a b _ => [(CL_CANDBT.dbrp a b, .rwl), (CL_CANDBT.dseg1 a b, .rwl), (CL_CANDBT.dseg2 a b, .rwl), (CL_CANDBT.dsjw a b, .rwl), (CL_CANDBT.tdco a b, .rwl)]⟩,
  ⟨0x1000c0c, [(12, 0x100000), (2, 0x40)], fun a b _ => [(CL_CANPAD.tx_pad a b, .rwl), (CL_CANPAD.tx_en a b, .rwl), (CL_CANPAD.rx_pad a b, .rwl), (CL_CANPAD.rx_en a b, .rwl), (CL_CANPAD.stb_pad a b, .rwl), (CL_CANPAD.stb_en a b, .rwl)]⟩,
  ⟨0x1000c10, [(12, 0x100000), (2, 0x40)], fun a b _ => [(CL_CANQ.tx_queue a b, .rwl), (CL_CANQ.tx_en a b, .rwl), (CL_CANQ.rx_queue a b, .rwl), (CL_CANQ.rx_en a b, .rwl)]⟩,
  ⟨0x1000c14, [(12, 0x100000), (2, 0x40)], fun a b _ => [(CL_CANSTAT.tec a b, .ro), (CL_CANSTAT.rec a b, .ro), (CL_CANSTAT.bus a b, .ro), (CL_CANSTAT.tdcv a b, .ro)]⟩,
  ⟨0x1001000, [(12, 0x100000), (32, 0x40)], fun a b _ => [(CL_QCFG.base a b, .rwl), (CL_QCFG.class_ a b, .rwl), (CL_QCFG.depth a b, .rwl), (CL_QCFG.en a b, .rwl)]⟩,
  ⟨0x1001004, [(12, 0x100000), (32, 0x40)], fun a b _ => [(CL_QCTL.level a b, .rw), (CL_QCTL.consumer a b, .rwl), (CL_QCTL.q_reset a b, .wo)]⟩,
  ⟨0x1001008, [(12, 0x100000), (32, 0x40)], fun a b _ => [(CL_QSTAT.depth a b, .ro), (CL_QSTAT.full a b, .ro), (CL_QSTAT.overrun a b, .w1c), (CL_QSTAT.reset_seen a b, .w1c), (CL_QSTAT.gap_open a b, .ro)]⟩,
  ⟨0x100100c, [(12, 0x100000), (32, 0x40)], fun a b _ => [(CL_QDROP.drops a b, .rw)]⟩,
  ⟨0x1001014, [(12, 0x100000), (32, 0x40)], fun a b _ => [(CL_QDATA.data a b, .ro)]⟩,
  ⟨0x1001018, [(12, 0x100000), (32, 0x40)], fun a b _ => [(CL_QPUSH.data a b, .wo)]⟩,
  ⟨0x100101c, [(12, 0x100000), (32, 0x40)], fun a b _ => [(CL_QPUSHEND.data a b, .wo)]⟩,
  ⟨0x1001020, [(12, 0x100000), (32, 0x40)], fun a b _ => [(CL_QPUSHERR.data a b, .wo)]⟩,
  ⟨0x1001010, [(12, 0x100000), (32, 0x40)], fun a b _ => [(CL_QPOP.tag a b, .ro), (CL_QPOP.status a b, .ro), (CL_QPOP.depth a b, .ro)]⟩]

/-- The registers of the BRG blocks, for access by address (R268). -/
def regRowsBRG : List RegRow := [
  ⟨0x2000000, [(4, 0x400000)], fun a _ _ => [(BRG_CTL.stage_clear a, .wo)]⟩,
  ⟨0x2000004, [(4, 0x400000)], fun a _ _ => [(BRG_STATUS.live_epoch a, .ro), (BRG_STATUS.drain_epoch a, .ro), (BRG_STATUS.draining a, .ro), (BRG_STATUS.committing a, .ro)]⟩,
  ⟨0x2000008, [(4, 0x400000)], fun a _ _ => [(BRG_DISCARD.timer a, .rw)]⟩,
  ⟨0x200000c, [(4, 0x400000)], fun a _ _ => [(BRG_RTMISS.miss a, .rw), (BRG_RTMISS.bad a, .rw)]⟩,
  ⟨0x2000010, [(4, 0x400000)], fun a _ _ => [(BRG_REFUSED.count a, .rw)]⟩,
  ⟨0x2001000, [(4, 0x400000), (8, 0x100)], fun a b _ => [(BRG_CHCFG.mode a b, .rwl), (BRG_CHCFG.role a b, .rwl), (BRG_CHCFG.effect a b, .rwl), (BRG_CHCFG.ra a b, .rwl), (BRG_CHCFG.unit a b, .rwl), (BRG_CHCFG.cluster a b, .rwl), (BRG_CHCFG.retry_max a b, .rwl), (BRG_CHCFG.miss a b, .rwl)]⟩,
  ⟨0x2001004, [(4, 0x400000), (8, 0x100)], fun a b _ => [(BRG_CHQ.out_q a b, .rwl), (BRG_CHQ.in_q a b, .rwl)]⟩,
  ⟨0x2001008, [(4, 0x400000), (8, 0x100)], fun a b _ => [(BRG_CHTIMER.far_to a b, .rw), (BRG_CHTIMER.ra_life a b, .rw)]⟩,
  ⟨0x200100c, [(4, 0x400000), (8, 0x100)], fun a b _ => [(BRG_CHTGT.tgt_base a b, .rwl)]⟩,
  ⟨0x2001010, [(4, 0x400000), (8, 0x100)], fun a b _ => [(BRG_CHEVT.dest a b, .rwl), (BRG_CHEVT.index a b, .rwl)]⟩,
  ⟨0x2001014, [(4, 0x400000), (8, 0x100)], fun a b _ => [(BRG_CHCTL.ch_reset a b, .wo), (BRG_CHCTL.drop_held a b, .wo)]⟩,
  ⟨0x2001018, [(4, 0x400000), (8, 0x100)], fun a b _ => [(BRG_CHSTAT.open_ a b, .ro), (BRG_CHSTAT.held a b, .ro), (BRG_CHSTAT.posted a b, .ro), (BRG_CHSTAT.ra_valid a b, .ro), (BRG_CHSTAT.cross_wait a b, .ro), (BRG_CHSTAT.last_status a b, .ro)]⟩,
  ⟨0x200101c, [(4, 0x400000), (8, 0x100)], fun a b _ => [(BRG_CHERR0.status a b, .ro), (BRG_CHERR0.detail a b, .ro), (BRG_CHERR0.index a b, .ro), (BRG_CHERR0.extra a b, .ro)]⟩,
  ⟨0x2001020, [(4, 0x400000), (8, 0x100)], fun a b _ => [(BRG_CHERR1.offset a b, .ro), (BRG_CHERR1.node a b, .ro), (BRG_CHERR1.valid a b, .w1c)]⟩,
  ⟨0x2001024, [(4, 0x400000), (8, 0x100)], fun a b _ => [(BRG_CHCNT0.drop a b, .rw), (BRG_CHCNT0.late a b, .rw), (BRG_CHCNT0.discard a b, .rw)]⟩,
  ⟨0x2001028, [(4, 0x400000), (8, 0x100)], fun a b _ => [(BRG_CHCNT1.pf_disc a b, .rw), (BRG_CHCNT1.retries a b, .rw), (BRG_CHCNT1.evt_drop a b, .rw)]⟩,
  ⟨0x2010000, [(4, 0x400000), (1024, 0x10), (4, 0x4)], fun a b c => [(BRG_ROUTE.word a b c, .ro)]⟩,
  ⟨0x2020000, [(4, 0x400000), (1024, 0x10), (4, 0x4)], fun a b c => [(BRG_ROUTESTG.word a b c, .rw)]⟩,
  ⟨0x2030000, [(4, 0x400000), (32, 0x4)], fun a b _ => [(BRG_RTSTGMAP.marked a b, .ro)]⟩]

/-- The registers of the SW blocks, for access by address (R268). -/
def regRowsSW : List RegRow := [
  ⟨0x100000, [], fun _ _ _ => [(SW_CTL.commit, .wo), (SW_CTL.flush, .wo)]⟩,
  ⟨0x100004, [], fun _ _ _ => [(SW_STATUS.live_epoch, .ro), (SW_STATUS.drain_epoch, .ro), (SW_STATUS.draining, .ro), (SW_STATUS.committing, .ro), (SW_STATUS.spare_bank, .ro), (SW_STATUS.last_status, .ro)]⟩,
  ⟨0x100008, [], fun _ _ _ => [(SW_DRAIN.frames, .ro)]⟩,
  ⟨0x10000c, [], fun _ _ _ => [(SW_REFUSED.count, .rw)]⟩,
  ⟨0x100010, [], fun _ _ _ => [(SW_BUFCFG.be_floor, .rwl), (SW_BUFCFG.addr_class, .rwl)]⟩,
  ⟨0x100014, [], fun _ _ _ => [(SW_FREE.free, .ro), (SW_FREE.min_free, .rw)]⟩,
  ⟨0x100018, [], fun _ _ _ => [(SW_INGDROP.too_long, .rw), (SW_INGDROP.no_route, .rw)]⟩,
  ⟨0x100020, [], fun _ _ _ => [(SW_CAPCFG.en, .rw), (SW_CAPCFG.wrap, .rw), (SW_CAPCFG.drops, .rw), (SW_CAPCFG.stop_on_quench, .rw), (SW_CAPCFG.stopped, .w1c)]⟩,
  ⟨0x100024, [], fun _ _ _ => [(SW_CAPSEL.in_mask, .rw), (SW_CAPSEL.out_mask, .rw)]⟩,
  ⟨0x100028, [], fun _ _ _ => [(SW_CAPCLASS.classes, .rw)]⟩,
  ⟨0x10002c, [], fun _ _ _ => [(SW_CAPBASE.base, .rwl)]⟩,
  ⟨0x100030, [], fun _ _ _ => [(SW_CAPWR.wr, .ro)]⟩,
  ⟨0x100034, [], fun _ _ _ => [(SW_CAPRD.rd, .rw)]⟩,
  ⟨0x100038, [], fun _ _ _ => [(SW_CAPLOST.lost, .rw)]⟩,
  ⟨0x10003c, [], fun _ _ _ => [(SW_NOTICE.sent, .rw), (SW_NOTICE.lost, .rw)]⟩,
  ⟨0x100100, [(2, 0x20)], fun a _ _ => [(SW_TRLEVEL.bytes a, .ro)]⟩,
  ⟨0x100104, [(2, 0x20)], fun a _ _ => [(SW_TRMAX.bytes a, .rw)]⟩,
  ⟨0x100108, [(2, 0x20)], fun a _ _ => [(SW_TRFWD.frames a, .rw)]⟩,
  ⟨0x10010c, [(2, 0x20)], fun a _ _ => [(SW_TRDROP.overflow a, .rw), (SW_TRDROP.in_reset a, .rw)]⟩,
  ⟨0x101000, [(10, 0x100)], fun a _ _ => [(SW_OWGT0.w0 a, .rwl), (SW_OWGT0.w1 a, .rwl), (SW_OWGT0.w2 a, .rwl), (SW_OWGT0.w3 a, .rwl)]⟩,
  ⟨0x101004, [(10, 0x100)], fun a _ _ => [(SW_OWGT1.w4 a, .rwl), (SW_OWGT1.w5 a, .rwl)]⟩,
  ⟨0x101008, [(11, 0x100)], fun a _ _ => [(SW_OSTAT.up a, .ro)]⟩,
  ⟨0x101020, [(10, 0x100), (8, 0x8)], fun a b _ => [(SW_OQCFG.limit a b, .rwl), (SW_OQCFG.mark_thr a b, .rw)]⟩,
  ⟨0x101024, [(10, 0x100), (8, 0x8)], fun a b _ => [(SW_OQSTAT.depth a b, .ro)]⟩,
  ⟨0x101060, [(10, 0x100), (8, 0x8)], fun a b _ => [(SW_OQDROP.full a b, .rw), (SW_OQDROP.other a b, .rw)]⟩,
  ⟨0x101064, [(10, 0x100), (8, 0x8)], fun a b _ => [(SW_OQMARK.marked a b, .rw)]⟩,
  ⟨0x110000, [(1024, 0x10), (4, 0x4)], fun a b _ => [(SW_FLOW.word a b, .ro)]⟩,
  ⟨0x120000, [(1024, 0x10), (4, 0x4)], fun a b _ => [(SW_FLOWSTG.word a b, .rw)]⟩,
  ⟨0x130000, [(32, 0x4)], fun a _ _ => [(SW_FLOWMAP.marked a, .ro)]⟩,
  ⟨0x140000, [(256, 0x10), (4, 0x4)], fun a b _ => [(SW_GRP.word a b, .ro)]⟩,
  ⟨0x150000, [(256, 0x10), (4, 0x4)], fun a b _ => [(SW_GRPSTG.word a b, .rw)]⟩,
  ⟨0x160000, [(8, 0x4)], fun a _ _ => [(SW_GRPMAP.marked a, .ro)]⟩,
  ⟨0x170000, [(64, 0x10), (4, 0x4)], fun a b _ => [(SW_ETHTPL.word a b, .rwl)]⟩]

/-- The registers of the RING blocks, for access by address (R268). -/
def regRowsRING0 : List RegRow := [
  ⟨0x208000, [(2, 0x1000)], fun a _ _ => [(RING_LCTL.retrain a, .wo), (RING_LCTL.down a, .wo), (RING_LCTL.lane_sw a, .wo), (RING_LCTL.rekey a, .wo), (RING_LCTL.wake a, .wo), (RING_LCTL.lane a, .rw), (RING_LCTL.fidle_en a, .rw), (RING_LCTL.prot_req a, .rwl), (RING_LCTL.prot_sup a, .rwl), (RING_LCTL.spare_en a, .rwl), (RING_LCTL.medium a, .rwl), (RING_LCTL.ack_coal a, .rwl), (RING_LCTL.versions a, .rwl)]⟩,
  ⟨0x208004, [(2, 0x1000)], fun a _ _ => [(RING_LSTAT.state a, .ro), (RING_LSTAT.lanes a, .ro), (RING_LSTAT.degraded a, .ro), (RING_LSTAT.spare_ready a, .ro), (RING_LSTAT.protected a, .ro), (RING_LSTAT.key_phase a, .ro), (RING_LSTAT.fidle_tx a, .ro), (RING_LSTAT.fidle_rx a, .ro), (RING_LSTAT.version a, .ro), (RING_LSTAT.last_status a, .ro), (RING_LSTAT.down_reason a, .ro)]⟩,
  ⟨0x208008, [(2, 0x1000)], fun a _ _ => [(RING_LANEMAP.l0 a, .ro), (RING_LANEMAP.l1 a, .ro), (RING_LANEMAP.l2 a, .ro), (RING_LANEMAP.l3 a, .ro), (RING_LANEMAP.spare a, .ro), (RING_LANEMAP.retired a, .ro)]⟩,
  ⟨0x208010, [(2, 0x1000)], fun a _ _ => [(RING_CAPLOC0.lo a, .ro)]⟩,
  ⟨0x208014, [(2, 0x1000)], fun a _ _ => [(RING_CAPLOC1.hi a, .ro)]⟩,
  ⟨0x208018, [(2, 0x1000)], fun a _ _ => [(RING_CAPPEER0.lo a, .ro)]⟩,
  ⟨0x20801c, [(2, 0x1000)], fun a _ _ => [(RING_CAPPEER1.hi a, .ro)]⟩,
  ⟨0x208020, [(2, 0x1000)], fun a _ _ => [(RING_LTIMER.replay a, .rw), (RING_LTIMER.retry_max a, .rw)]⟩,
  ⟨0x208024, [(2, 0x1000)], fun a _ _ => [(RING_LREFUSED.count a, .rw)]⟩,
  ⟨0x208040, [(2, 0x1000)], fun a _ _ => [(RING_TXSHEETS.sheets a, .rw)]⟩,
  ⟨0x208044, [(2, 0x1000)], fun a _ _ => [(RING_RXSHEETS.sheets a, .rw)]⟩,
  ⟨0x208048, [(2, 0x1000)], fun a _ _ => [(RING_ERR0.crc a, .rw), (RING_ERR0.seq a, .rw)]⟩,
  ⟨0x20804c, [(2, 0x1000)], fun a _ _ => [(RING_ERR1.nak_tx a, .rw), (RING_ERR1.replays a, .rw)]⟩,
  ⟨0x208050, [(2, 0x1000)], fun a _ _ => [(RING_ERR2.stomp_tx a, .rw), (RING_ERR2.stomp_rx a, .rw)]⟩,
  ⟨0x208054, [(2, 0x1000)], fun a _ _ => [(RING_ERR3.tag_fail a, .rw), (RING_ERR3.aborted a, .rw)]⟩,
  ⟨0x208058, [(2, 0x1000)], fun a _ _ => [(RING_ERR4.block_err a, .rw), (RING_ERR4.lane_sw a, .rw)]⟩,
  ⟨0x208080, [(2, 0x1000), (5, 0x4)], fun a b _ => [(RING_LANE.block_lock a b, .ro), (RING_LANE.aligned a b, .ro), (RING_LANE.in_use a b, .ro), (RING_LANE.retired a b, .ro), (RING_LANE.margin a b, .ro), (RING_LANE.hdr_err a b, .rw)]⟩,
  ⟨0x200000, [], fun _ _ _ => [(RING_CTL.leave, .wo), (RING_CTL.revert_now, .wo), (RING_CTL.release, .wo), (RING_CTL.leave_id, .rw)]⟩,
  ⟨0x200004, [], fun _ _ _ => [(RING_STATUS.role, .ro), (RING_STATUS.east_wrap, .ro), (RING_STATUS.west_wrap, .ro), (RING_STATUS.refusal, .ro), (RING_STATUS.last_status, .ro), (RING_STATUS.late, .ro)]⟩,
  ⟨0x200008, [], fun _ _ _ => [(RING_NODEID.id, .ro), (RING_NODEID.src, .rwl), (RING_NODEID.strap, .ro)]⟩,
  ⟨0x20000c, [], fun _ _ _ => [(RING_MAPEPOCH.epoch, .ro)]⟩,
  ⟨0x200010, [], fun _ _ _ => [(RING_CYCPER.period, .rwl)]⟩,
  ⟨0x200014, [], fun _ _ _ => [(RING_CYCPHASE.phase, .rwl)]⟩,
  ⟨0x200018, [], fun _ _ _ => [(RING_CYCNUM.cycle, .ro)]⟩,
  ⟨0x20001c, [], fun _ _ _ => [(RING_SEAM.len, .rwl), (RING_SEAM.interval, .rwl)]⟩,
  ⟨0x200020, [], fun _ _ _ => [(RING_PARTTO.cycles, .rw)]⟩,
  ⟨0x200024, [], fun _ _ _ => [(RING_STATUS2.orphan_epoch, .ro)]⟩,
  ⟨0x200030, [], fun _ _ _ => [(RING_MISSED.slots, .rw)]⟩,
  ⟨0x200034, [], fun _ _ _ => [(RING_CYCMISS.starts, .rw)]⟩,
  ⟨0x200038, [], fun _ _ _ => [(RING_REFUSED.count, .rw)]⟩,
  ⟨0x20003c, [], fun _ _ _ => [(RING_HOSTDISC.count, .rw)]⟩,
  ⟨0x200040, [], fun _ _ _ => [(RING_SPLICE.east, .ro), (RING_SPLICE.west, .ro), (RING_SPLICE.abandoned, .rw)]⟩,
  ⟨0x200044, [], fun _ _ _ => [(RING_HEADCFG.preferred, .rwl), (RING_HEADCFG.wit_mode, .rwl), (RING_HEADCFG.is_witness, .rwl), (RING_HEADCFG.wit_node, .rwl), (RING_HEADCFG.revert, .rw)]⟩,
  ⟨0x200048, [], fun _ _ _ => [(RING_WIT.grant, .ro), (RING_WIT.dual, .w1c)]⟩,
  ⟨0x20004c, [], fun _ _ _ => [(RING_MIRROR.version, .ro), (RING_MIRROR.lag, .ro)]⟩,
  ⟨0x200050, [], fun _ _ _ => [(RING_HEALTH.report, .ro)]⟩,
  ⟨0x200054, [], fun _ _ _ => [(RING_PEERHEALTH.report, .ro)]⟩,
  ⟨0x200100, [(64, 0x10), (2, 0x8)], fun a b _ => [(RING_SLOT.offset a b, .rwl)]⟩,
  ⟨0x200104, [(64, 0x10), (2, 0x8)], fun a b _ => [(RING_SLOTLEN.len a b, .rwl)]⟩,
  ⟨0x200800, [(64, 0x8)], fun a _ _ => [(RING_MAP.present a, .ro), (RING_MAP.state a, .ro), (RING_MAP.role a, .ro), (RING_MAP.late a, .ro), (RING_MAP.failed_over a, .ro), (RING_MAP.hops_e a, .ro), (RING_MAP.hops_w a, .ro)]⟩]

/-- The registers of the RING blocks, for access by address (R268). -/
def regRowsRING1 : List RegRow := [
  ⟨0x200804, [(64, 0x8)], fun a _ _ => [(RING_MAPID.casting_id a, .ro)]⟩]

/-- The registers of the ETH blocks, for access by address (R268). -/
def regRowsETH : List RegRow := [
  ⟨0x400100, [], fun _ _ _ => [(ETH_BRCFG.mode0, .rwl), (ETH_BRCFG.mode1, .rwl), (ETH_BRCFG.def_class, .rwl)]⟩,
  ⟨0x400104, [], fun _ _ _ => [(ETH_BRAGE.ageing, .rw)]⟩,
  ⟨0x400108, [], fun _ _ _ => [(ETH_BRPCP.class0, .rwl), (ETH_BRPCP.class1, .rwl), (ETH_BRPCP.class2, .rwl), (ETH_BRPCP.class3, .rwl), (ETH_BRPCP.class4, .rwl), (ETH_BRPCP.class5, .rwl), (ETH_BRPCP.class6, .rwl), (ETH_BRPCP.class7, .rwl)]⟩,
  ⟨0x40010c, [], fun _ _ _ => [(ETH_BRLEARN.entries, .ro), (ETH_BRLEARN.full, .rw)]⟩,
  ⟨0x401000, [(4, 0x100)], fun a _ _ => [(ETH_GCFG.en a, .rwl), (ETH_GCFG.sync a, .rwl), (ETH_GCFG.ovh a, .rw)]⟩,
  ⟨0x401004, [(4, 0x100)], fun a _ _ => [(ETH_GCYCLE.cycle a, .rwl)]⟩,
  ⟨0x401008, [(4, 0x100)], fun a _ _ => [(ETH_GPHASE.phase a, .rwl)]⟩,
  ⟨0x40100c, [(4, 0x100)], fun a _ _ => [(ETH_GCTL.commit a, .wo), (ETH_GCTL.cancel a, .wo)]⟩,
  ⟨0x401010, [(4, 0x100)], fun a _ _ => [(ETH_GCHG_LO.chg a, .rw)]⟩,
  ⟨0x401014, [(4, 0x100)], fun a _ _ => [(ETH_GCHG_HI.chg a, .rw)]⟩,
  ⟨0x401018, [(4, 0x100)], fun a _ _ => [(ETH_GSTAT.gates a, .ro), (ETH_GSTAT.entry a, .ro), (ETH_GSTAT.pending a, .ro), (ETH_GSTAT.last_status a, .ro)]⟩,
  ⟨0x40101c, [(4, 0x100)], fun a _ _ => [(ETH_GREFUSED.count a, .rw)]⟩,
  ⟨0x401020, [(4, 0x100), (8, 0x4)], fun a b _ => [(ETH_GWMAX.wmax a b, .ro)]⟩,
  ⟨0x401040, [(4, 0x100), (8, 0x4)], fun a b _ => [(ETH_GDROP.oversize a b, .rw), (ETH_GDROP.deadline a b, .rw)]⟩,
  ⟨0x401060, [(4, 0x100)], fun a _ _ => [(ETH_GWAIT.waits a, .rw)]⟩,
  ⟨0x410000, [(4, 0x1000), (256, 0x8), (2, 0x4)], fun a b c => [(ETH_GCL.word a b c, .ro)]⟩,
  ⟨0x410800, [(4, 0x1000), (256, 0x8), (2, 0x4)], fun a b c => [(ETH_GCLSTG.word a b c, .rw)]⟩,
  ⟨0x400200, [], fun _ _ _ => [(ETH_WHEEL.ptr, .ro), (ETH_WHEEL.entries, .ro)]⟩,
  ⟨0x400204, [], fun _ _ _ => [(ETH_WOVF.entries, .ro), (ETH_WOVF.max, .rw)]⟩,
  ⟨0x420000, [(1024, 0x8)], fun a _ _ => [(ETH_SHAPE0.rate a, .rw)]⟩,
  ⟨0x420004, [(1024, 0x8)], fun a _ _ => [(ETH_SHAPE1.burst a, .rw), (ETH_SHAPE1.ovh a, .rw)]⟩]

/-- The registers of the HOST blocks, for access by address (R268). -/
def regRowsHOST : List RegRow := [
  ⟨0x300000, [], fun _ _ _ => [(HOST_IF_VERSION.offered, .rw), (HOST_IF_VERSION.agreed, .ro), (HOST_IF_VERSION.status, .ro)]⟩,
  ⟨0x300004, [], fun _ _ _ => [(HOST_STAT.active, .ro), (HOST_STAT.standby, .ro), (HOST_STAT.gen, .ro), (HOST_STAT.width, .ro)]⟩,
  ⟨0x300008, [], fun _ _ _ => [(HOST_CFG.head_cast, .rwl), (HOST_CFG.head_sel, .ro)]⟩,
  ⟨0x30000c, [], fun _ _ _ => [(HOST_TSTIMEOUT.ms, .rw)]⟩,
  ⟨0x300010, [], fun _ _ _ => [(HOST_DROP.inactive, .rw), (HOST_DROP.late, .rw)]⟩,
  ⟨0x300014, [], fun _ _ _ => [(HOST_REFUSED.count, .rw)]⟩,
  ⟨0x300020, [], fun _ _ _ => [(HOST_EVQ_BASE_LO.base, .rw)]⟩,
  ⟨0x300024, [], fun _ _ _ => [(HOST_EVQ_BASE_HI.base, .rw)]⟩,
  ⟨0x300028, [], fun _ _ _ => [(HOST_EVQ_CFG.n, .rw), (HOST_EVQ_CFG.en, .rw)]⟩,
  ⟨0x30002c, [], fun _ _ _ => [(HOST_EVQ_WR.wr, .ro)]⟩,
  ⟨0x300030, [], fun _ _ _ => [(HOST_EVQ_RD.rd, .rw)]⟩,
  ⟨0x300034, [], fun _ _ _ => [(HOST_EVQ_DROP.count, .rw)]⟩,
  ⟨0x301000, [(64, 0x20), (8, 0x4)], fun a b _ => [(HOST_ERRLOG.word a b, .ro)]⟩,
  ⟨0x301800, [], fun _ _ _ => [(HOST_ERRLOG_WR.next, .ro), (HOST_ERRLOG_WR.overwritten, .ro)]⟩,
  ⟨0x304000, [(64, 0x20)], fun a _ _ => [(HOST_RQ_BASE_LO.base a, .rw)]⟩,
  ⟨0x304004, [(64, 0x20)], fun a _ _ => [(HOST_RQ_BASE_HI.base a, .rw)]⟩,
  ⟨0x304008, [(64, 0x20)], fun a _ _ => [(HOST_RQ_CFG.n a, .rw), (HOST_RQ_CFG.e a, .rw), (HOST_RQ_CFG.vector a, .rw), (HOST_RQ_CFG.en a, .rw)]⟩,
  ⟨0x30400c, [(64, 0x20)], fun a _ _ => [(HOST_RQ_WR.wr a, .ro)]⟩,
  ⟨0x304010, [(64, 0x20)], fun a _ _ => [(HOST_RQ_RD.rd a, .rw)]⟩,
  ⟨0x304014, [(64, 0x20)], fun a _ _ => [(HOST_RQ_DROP.count a, .rw)]⟩,
  ⟨0x304018, [(64, 0x20)], fun a _ _ => [(HOST_RQ_MOD.us a, .rw)]⟩,
  ⟨0x310000, [(256, 0x40)], fun a _ _ => [(HOST_TS_ADDR_LO.addr_ a, .rw)]⟩,
  ⟨0x310004, [(256, 0x40)], fun a _ _ => [(HOST_TS_ADDR_HI.addr_ a, .rw)]⟩,
  ⟨0x310008, [(256, 0x40)], fun a _ _ => [(HOST_TS_WDATA_LO.data a, .rw)]⟩,
  ⟨0x31000c, [(256, 0x40)], fun a _ _ => [(HOST_TS_WDATA_HI.data a, .rw)]⟩,
  ⟨0x310010, [(256, 0x40)], fun a _ _ => [(HOST_TS_CMD.op a, .rw), (HOST_TS_CMD.size a, .rw), (HOST_TS_CMD.irq a, .rw), (HOST_TS_CMD.issue_status a, .ro), (HOST_TS_CMD.issue a, .wo)]⟩,
  ⟨0x310014, [(256, 0x40)], fun a _ _ => [(HOST_TS_RESULT.valid a, .ro), (HOST_TS_RESULT.index a, .ro), (HOST_TS_RESULT.seq a, .ro), (HOST_TS_RESULT.status a, .ro), (HOST_TS_RESULT.detail a, .ro)]⟩,
  ⟨0x310018, [(256, 0x40)], fun a _ _ => [(HOST_TS_RDATA_LO.data a, .ro)]⟩,
  ⟨0x31001c, [(256, 0x40)], fun a _ _ => [(HOST_TS_RDATA_HI.data a, .ro)]⟩]

/-- The registers of the MSIX blocks, for access by address (R268). -/
def regRowsMSIX : List RegRow := [
  ⟨0x302000, [(256, 0x10), (4, 0x4)], fun a b _ => [(MSIX_TABLE.word a b, .rw)]⟩,
  ⟨0x303000, [(8, 0x4)], fun a _ _ => [(MSIX_PBA.word a, .ro)]⟩]

/-- The registers of the NODE blocks, for access by address (R268). -/
def regRowsNODE : List RegRow := [
  ⟨0x4, [], fun _ _ _ => [(NODE_STATE.state, .ro), (NODE_STATE.pause, .ro)]⟩,
  ⟨0x8, [], fun _ _ _ => [(NODE_REFUSED.count, .rw)]⟩,
  ⟨0x100, [(3, 0x40)], fun a _ _ => [(NODE_CMD.code a, .wo), (NODE_CMD.tag a, .wo)]⟩,
  ⟨0x104, [(3, 0x40), (5, 0x4)], fun a b _ => [(NODE_ARG.arg a b, .rw)]⟩,
  ⟨0x118, [(3, 0x40)], fun a _ _ => [(NODE_CMDSTAT.busy a, .ro), (NODE_CMDSTAT.status a, .ro), (NODE_CMDSTAT.code a, .ro), (NODE_CMDSTAT.tag a, .ro)]⟩,
  ⟨0x11c, [(3, 0x40), (5, 0x4)], fun a b _ => [(NODE_RES.res a b, .ro)]⟩,
  ⟨0x130, [(3, 0x40)], fun a _ _ => [(NODE_MBXCNT.overrun a, .rw)]⟩,
  ⟨0x1000, [], fun _ _ _ => [(NODE_SLEEPCFG.max_state, .rwl), (NODE_SLEEPCFG.auto, .rwl), (NODE_SLEEPCFG.lead, .rw)]⟩,
  ⟨0x1004, [], fun _ _ _ => [(NODE_SLEEPCTL.stow, .wo), (NODE_SLEEPCTL.hold_run, .rw), (NODE_SLEEPCTL.last_status, .ro)]⟩,
  ⟨0x1008, [], fun _ _ _ => [(NODE_SLEEPSTAT.state, .ro), (NODE_SLEEPSTAT.allowed, .ro), (NODE_SLEEPSTAT.last_wake, .ro), (NODE_SLEEPSTAT.slow_src, .ro)]⟩,
  ⟨0x100c, [], fun _ _ _ => [(NODE_WAKELATE.count, .rw)]⟩,
  ⟨0x1010, [], fun _ _ _ => [(NODE_CLKSTAT.running, .ro)]⟩,
  ⟨0x1014, [], fun _ _ _ => [(NODE_BELLOWS.busy, .ro), (NODE_BELLOWS.kind, .ro), (NODE_BELLOWS.step, .ro)]⟩,
  ⟨0x1020, [(7, 0x4)], fun a _ _ => [(NODE_RESIDENCY.ms a, .rw)]⟩,
  ⟨0x1040, [(12, 0x4)], fun a _ _ => [(NODE_CLSLEEP.class_ a, .rwl), (NODE_CLSLEEP.depth a, .ro), (NODE_CLSLEEP.wake_pad a, .rwl), (NODE_CLSLEEP.wake_en a, .rwl)]⟩,
  ⟨0x1080, [(12, 0x4)], fun a _ _ => [(NODE_CLWAKE.offset a, .rwl), (NODE_CLWAKE.en a, .rwl)]⟩]

/-- The registers of the TIM blocks, for access by address (R268). -/
def regRowsTIM : List RegRow := [
  ⟨0x20000, [], fun _ _ _ => [(TIM_CTL.use_sec, .wo), (TIM_CTL.use_pri, .wo), (TIM_CTL.ld_restart, .wo)]⟩,
  ⟨0x20004, [], fun _ _ _ => [(TIM_STATUS.state, .ro), (TIM_STATUS.sec_valid, .ro), (TIM_STATUS.sec_in_use, .ro), (TIM_STATUS.blending, .ro), (TIM_STATUS.pri_ok, .ro), (TIM_STATUS.sync_dir, .ro), (TIM_STATUS.last_status, .ro)]⟩,
  ⟨0x20010, [], fun _ _ _ => [(TIM_NOW0.fraction, .ro)]⟩,
  ⟨0x20014, [], fun _ _ _ => [(TIM_NOW1.ns, .ro)]⟩,
  ⟨0x20018, [], fun _ _ _ => [(TIM_NOW2.s_lo, .ro)]⟩,
  ⟨0x2001c, [], fun _ _ _ => [(TIM_NOW3.s_hi, .ro)]⟩,
  ⟨0x20020, [], fun _ _ _ => [(TIM_SECOFS_LO.ofs, .ro)]⟩,
  ⟨0x20024, [], fun _ _ _ => [(TIM_SECOFS_HI.ofs, .ro)]⟩,
  ⟨0x20028, [], fun _ _ _ => [(TIM_OFFSET.ofs, .ro)]⟩,
  ⟨0x2002c, [], fun _ _ _ => [(TIM_DIRDIFF.diff, .ro)]⟩,
  ⟨0x20030, [], fun _ _ _ => [(TIM_SERVO.max_slew, .rw), (TIM_SERVO.lock_thr, .rw), (TIM_SERVO.step_thr, .rw)]⟩,
  ⟨0x20034, [], fun _ _ _ => [(TIM_ALARM.alarm, .rw)]⟩,
  ⟨0x20038, [], fun _ _ _ => [(TIM_SRC.pri_src, .rwl), (TIM_SRC.sec_src, .rwl), (TIM_SRC.profile, .rwl), (TIM_SRC.ptp_dom0, .rwl), (TIM_SRC.ptp_dom1, .rwl)]⟩,
  ⟨0x2003c, [], fun _ _ _ => [(TIM_SCALECFG.blend, .rw), (TIM_SCALECFG.auto_revert, .rw), (TIM_SCALECFG.revert, .rw)]⟩,
  ⟨0x20040, [], fun _ _ _ => [(TIM_SYNCINT.us, .rwl)]⟩,
  ⟨0x20044, [], fun _ _ _ => [(TIM_LDCFG.interval, .rw)]⟩,
  ⟨0x20048, [], fun _ _ _ => [(TIM_LOSSTO.src, .rw), (TIM_LOSSTO.node, .rw)]⟩,
  ⟨0x2004c, [], fun _ _ _ => [(TIM_UTC.utc_offset, .ro), (TIM_UTC.flags, .ro)]⟩,
  ⟨0x20050, [], fun _ _ _ => [(TIM_REFUSED.count, .rw)]⟩,
  ⟨0x20100, [(2, 0x20)], fun a _ _ => [(TIM_LINKDLY.mean a, .ro)]⟩,
  ⟨0x20104, [(2, 0x20)], fun a _ _ => [(TIM_ASYM.asym a, .rwl)]⟩,
  ⟨0x20108, [(2, 0x20)], fun a _ _ => [(TIM_LDCNT.samples a, .rw), (TIM_LDCNT.rejected a, .rw)]⟩,
  ⟨0x20200, [(2, 0x20)], fun a _ _ => [(TIM_ETHCFG.tc_mode a, .rwl), (TIM_ETHCFG.pdelay_int a, .rwl)]⟩,
  ⟨0x20204, [(2, 0x20)], fun a _ _ => [(TIM_ETHPHY.tx a, .rwl), (TIM_ETHPHY.rx a, .rwl)]⟩,
  ⟨0x20208, [(2, 0x20)], fun a _ _ => [(TIM_ETHLINK.peer a, .ro)]⟩,
  ⟨0x2020c, [(2, 0x20)], fun a _ _ => [(TIM_PTPCNT.fu_unmatched a, .rw), (TIM_PTPCNT.dropped a, .rw)]⟩,
  ⟨0x20300, [], fun _ _ _ => [(TIM_LAUNCH.horizon, .rw)]⟩,
  ⟨0x20304, [], fun _ _ _ => [(TIM_LAUNCHERR.late, .rw), (TIM_LAUNCHERR.far, .rw)]⟩,
  ⟨0x20308, [], fun _ _ _ => [(TIM_LAUNCHERR1.missing, .rw)]⟩,
  ⟨0x20310, [], fun _ _ _ => [(TIM_HOSTCAP.cap, .wo)]⟩,
  ⟨0x20314, [], fun _ _ _ => [(TIM_HOSTCAPT0.fraction, .ro)]⟩,
  ⟨0x20318, [], fun _ _ _ => [(TIM_HOSTCAPT1.ns, .ro)]⟩,
  ⟨0x2031c, [], fun _ _ _ => [(TIM_HOSTCAPT2.s_lo, .ro)]⟩,
  ⟨0x20320, [], fun _ _ _ => [(TIM_HOSTCAPT3.s_hi, .ro)]⟩,
  ⟨0x20324, [], fun _ _ _ => [(TIM_HOSTADJ_LO.ofs, .rw)]⟩,
  ⟨0x20328, [], fun _ _ _ => [(TIM_HOSTADJ_HI.ofs, .rw)]⟩]

/-- The registers of the CST blocks, for access by address (R268). -/
def regRowsCST : List RegRow := [
  ⟨0x40000, [], fun _ _ _ => [(CST_STATUS.run_copy, .ro), (CST_STATUS.blank, .ro), (CST_STATUS.unsigned, .ro), (CST_STATUS.recasting, .ro), (CST_STATUS.last_status, .ro), (CST_STATUS.fmt_major, .ro), (CST_STATUS.fmt_minor, .ro)]⟩,
  ⟨0x40004, [], fun _ _ _ => [(CST_RUNSEQ_LO.seq, .ro)]⟩,
  ⟨0x40008, [], fun _ _ _ => [(CST_RUNSEQ_HI.seq, .ro)]⟩,
  ⟨0x4000c, [], fun _ _ _ => [(CST_RUNID.id, .ro)]⟩,
  ⟨0x40010, [], fun _ _ _ => [(CST_BOOT.phase, .ro), (CST_BOOT.no_fw, .ro), (CST_BOOT.boot_ms, .ro)]⟩,
  ⟨0x40014, [], fun _ _ _ => [(CST_LOADERR.code, .ro), (CST_LOADERR.section_, .ro), (CST_LOADERR.copy, .ro)]⟩,
  ⟨0x40018, [], fun _ _ _ => [(CST_LOADOFS.offset, .ro)]⟩,
  ⟨0x40020, [], fun _ _ _ => [(CST_CTL.save, .wo)]⟩,
  ⟨0x40024, [], fun _ _ _ => [(CST_RECAST.pending, .ro), (CST_RECAST.done, .ro)]⟩,
  ⟨0x40028, [], fun _ _ _ => [(CST_REFUSED.count, .rw)]⟩,
  ⟨0x40040, [(2, 0x20)], fun a _ _ => [(CST_COPYSEQ_LO.seq a, .ro)]⟩,
  ⟨0x40044, [(2, 0x20)], fun a _ _ => [(CST_COPYSEQ_HI.seq a, .ro)]⟩,
  ⟨0x40048, [(2, 0x20)], fun a _ _ => [(CST_COPYID.id a, .ro)]⟩,
  ⟨0x4004c, [(2, 0x20)], fun a _ _ => [(CST_COPYSTAT.state a, .ro), (CST_COPYSTAT.fmt_major a, .ro)]⟩,
  ⟨0x400a0, [], fun _ _ _ => [(CST_SET.run_copy, .ro), (CST_SET.defaults, .ro), (CST_SET.reason, .ro), (CST_SET.saving, .ro)]⟩,
  ⟨0x400a4, [], fun _ _ _ => [(CST_SETSEQ_LO.seq, .ro)]⟩,
  ⟨0x400a8, [], fun _ _ _ => [(CST_SETSEQ_HI.seq, .ro)]⟩,
  ⟨0x41000, [], fun _ _ _ => [(CST_STG.state, .ro), (CST_STG.kind, .ro), (CST_STG.writing, .ro)]⟩,
  ⟨0x41004, [], fun _ _ _ => [(CST_STGID.id, .ro)]⟩,
  ⟨0x41008, [], fun _ _ _ => [(CST_STGSIZE.bytes, .ro)]⟩,
  ⟨0x4100c, [], fun _ _ _ => [(CST_STGCNT.total, .ro), (CST_STGCNT.missing, .ro)]⟩,
  ⟨0x41010, [], fun _ _ _ => [(CST_ACT.phase, .ro), (CST_ACT.last_status, .ro), (CST_ACT.last_detail, .ro)]⟩,
  ⟨0x41014, [], fun _ _ _ => [(CST_ACTCNT.done, .rw), (CST_ACTCNT.failed, .rw)]⟩,
  ⟨0x41040, [(2, 0x20)], fun a _ _ => [(CST_FWSEQ_LO.seq a, .ro)]⟩,
  ⟨0x41044, [(2, 0x20)], fun a _ _ => [(CST_FWSEQ_HI.seq a, .ro)]⟩,
  ⟨0x41048, [(2, 0x20)], fun a _ _ => [(CST_FWSTAT.state a, .ro), (CST_FWSTAT.target a, .ro)]⟩]

/-- The registers of the WEAR blocks, for access by address (R268). -/
def regRowsWEAR : List RegRow := [
  ⟨0x60100, [(10, 0x4)], fun a _ _ => [(WEAR_PAIRCFG.mode a, .rwl), (WEAR_PAIRCFG.role a, .rwl)]⟩,
  ⟨0x60000, [], fun _ _ _ => [(WEAR_CTL.anneal, .wo), (WEAR_CTL.cancel, .wo)]⟩,
  ⟨0x60004, [], fun _ _ _ => [(WEAR_STATUS.due, .ro), (WEAR_STATUS.annealing, .ro), (WEAR_STATUS.blocked, .ro), (WEAR_STATUS.last_status, .ro)]⟩,
  ⟨0x60008, [], fun _ _ _ => [(WEAR_REFUSED.count, .rw)]⟩,
  ⟨0x6000c, [], fun _ _ _ => [(WEAR_SEL.unit, .rw)]⟩,
  ⟨0x60010, [], fun _ _ _ => [(WEAR_UNIT0.score, .ro), (WEAR_UNIT0.thr, .ro), (WEAR_UNIT0.state, .ro)]⟩,
  ⟨0x60014, [], fun _ _ _ => [(WEAR_UNIT1.slope, .ro)]⟩,
  ⟨0x60018, [], fun _ _ _ => [(WEAR_UNIT2.forecast, .ro)]⟩,
  ⟨0x6001c, [], fun _ _ _ => [(WEAR_UNIT3.raw, .ro)]⟩,
  ⟨0x60020, [], fun _ _ _ => [(WEAR_LIFE.hours, .ro)]⟩,
  ⟨0x60024, [], fun _ _ _ => [(WEAR_LIFEPOOL.pool, .ro), (WEAR_LIFEPOOL.deferred, .rw)]⟩,
  ⟨0x60028, [], fun _ _ _ => [(WEAR_HOURS.hours, .ro)]⟩,
  ⟨0x60040, [(9, 0x4)], fun a _ _ => [(WEAR_THR.thr a, .rwl)]⟩,
  ⟨0x60140, [(10, 0x4)], fun a _ _ => [(WEAR_PAIRMAP.phys a, .ro)]⟩,
  ⟨0x60200, [(38, 0x4)], fun a _ _ => [(WEAR_POOL.left a, .ro), (WEAR_POOL.total a, .ro)]⟩,
  ⟨0x60300, [(3, 0x8), (2, 0x4)], fun a b _ => [(WEAR_D2D.wire0 a b, .ro), (WEAR_D2D.used0 a b, .ro), (WEAR_D2D.wire1 a b, .ro), (WEAR_D2D.used1 a b, .ro)]⟩,
  ⟨0x60400, [(12, 0x4)], fun a _ _ => [(WEAR_PADLEG.leg a, .ro)]⟩,
  ⟨0x60440, [(12, 0x4)], fun a _ _ => [(WEAR_PADWORN.worn a, .ro)]⟩]

/-- The registers of the CORE blocks, for access by address (R268). -/
def regRowsCORE : List RegRow := [
  ⟨0x800000, [(10, 0x10000)], fun a _ _ => [(CORE_CTL.start a, .wo), (CORE_CTL.halt a, .wo), (CORE_CTL.reset a, .wo)]⟩,
  ⟨0x800004, [(10, 0x10000)], fun a _ _ => [(CORE_STAT.run a, .ro), (CORE_STAT.mode a, .ro), (CORE_STAT.role a, .ro), (CORE_STAT.standby_ready a, .ro), (CORE_STAT.last_status a, .ro)]⟩,
  ⟨0x800008, [(10, 0x10000)], fun a _ _ => [(CORE_LSERR.mismatches a, .rw)]⟩,
  ⟨0x80000c, [(10, 0x10000)], fun a _ _ => [(CORE_DWIN.node0 a, .rw), (CORE_DWIN.node1 a, .rw)]⟩,
  ⟨0x800010, [(10, 0x10000)], fun a _ _ => [(CORE_FAULT0.status a, .ro), (CORE_FAULT0.detail a, .ro), (CORE_FAULT0.core a, .ro), (CORE_FAULT0.node a, .ro)]⟩,
  ⟨0x800014, [(10, 0x10000)], fun a _ _ => [(CORE_FAULT1.offset a, .ro)]⟩,
  ⟨0x800018, [(10, 0x10000)], fun a _ _ => [(CORE_EVBASE.base a, .rw)]⟩,
  ⟨0x80001c, [(10, 0x10000)], fun a _ _ => [(CORE_EVWR.wr a, .ro)]⟩,
  ⟨0x800020, [(10, 0x10000)], fun a _ _ => [(CORE_EVRD.rd a, .rw)]⟩,
  ⟨0x800024, [(10, 0x10000)], fun a _ _ => [(CORE_EVDROP.count a, .rw)]⟩,
  ⟨0x800028, [(10, 0x10000)], fun a _ _ => [(CORE_DOORBELL.bells a, .w1s)]⟩,
  ⟨0x80002c, [(10, 0x10000)], fun a _ _ => [(CORE_DBCLR.clear a, .wo)]⟩,
  ⟨0x8a0000, [], fun _ _ _ => [(CORE_ROLE.manager, .ro), (CORE_ROLE.standby, .ro)]⟩,
  ⟨0x8a0004, [], fun _ _ _ => [(CORE_WDOG.timeout, .rwl), (CORE_WDOG.kick, .wo)]⟩,
  ⟨0x8a0008, [], fun _ _ _ => [(CORE_REFUSED.count, .rw)]⟩,
  ⟨0x8a0010, [(4, 0x4)], fun a _ _ => [(CORE_WINSEL.pair a, .rw)]⟩]

/-- The registers of the CRU blocks, for access by address (R268). -/
def regRowsCRU : List RegRow := [
  ⟨0x30000, [], fun _ _ _ => [(CRU_CTL.test, .wo), (CRU_CTL.tlog_clear, .wo)]⟩,
  ⟨0x30004, [], fun _ _ _ => [(CRU_STATUS.unlocked, .ro), (CRU_STATUS.root_fail, .ro), (CRU_STATUS.bench, .ro), (CRU_STATUS.testing, .ro), (CRU_STATUS.free, .ro), (CRU_STATUS.bad, .ro), (CRU_STATUS.unresolved, .ro)]⟩,
  ⟨0x30008, [], fun _ _ _ => [(CRU_BENCH.count, .ro), (CRU_BENCH.saturated, .ro)]⟩,
  ⟨0x3000c, [], fun _ _ _ => [(CRU_REFUSED.count, .rw)]⟩,
  ⟨0x30010, [], fun _ _ _ => [(CRU_TPOL.resp0, .rwl), (CRU_TPOL.resp1, .rwl), (CRU_TPOL.resp2, .rwl), (CRU_TPOL.resp3, .rwl), (CRU_TPOL.resp4, .rwl), (CRU_TPOL.resp5, .rwl)]⟩,
  ⟨0x30014, [], fun _ _ _ => [(CRU_TTEMP.low, .rwl), (CRU_TTEMP.high, .rwl)]⟩,
  ⟨0x30018, [], fun _ _ _ => [(CRU_ENTROPY.ok, .ro), (CRU_ENTROPY.fails, .rw)]⟩,
  ⟨0x30100, [(8, 0x10), (4, 0x4)], fun a b _ => [(CRU_TLOG.word a b, .ro)]⟩,
  ⟨0x30180, [], fun _ _ _ => [(CRU_TLOGSTAT.next, .ro), (CRU_TLOGSTAT.overwritten, .rw)]⟩,
  ⟨0x31000, [(64, 0x10)], fun a _ _ => [(CRU_SLOT0.key_id a, .ro), (CRU_SLOT0.class_ a, .ro), (CRU_SLOT0.alg a, .ro), (CRU_SLOT0.state a, .ro), (CRU_SLOT0.persistent a, .ro)]⟩,
  ⟨0x31004, [(64, 0x10)], fun a _ _ => [(CRU_SLOT1.parent a, .ro), (CRU_SLOT1.pairs a, .ro)]⟩,
  ⟨0x31008, [(64, 0x10)], fun a _ _ => [(CRU_SLOT2.uses a, .ro)]⟩,
  ⟨0x3100c, [(64, 0x10)], fun a _ _ => [(CRU_SLOT3.purpose a, .ro)]⟩,
  ⟨0x38000, [(1376, 0x4)], fun a _ _ => [(CRU_CERT.bytes a, .ro)]⟩,
  ⟨0x30400, [(10, 0x20)], fun a _ _ => [(CRU_OPCMD.op a, .rw), (CRU_OPCMD.key_id a, .rw), (CRU_OPCMD.go a, .wo)]⟩,
  ⟨0x30404, [(10, 0x20)], fun a _ _ => [(CRU_OPSRC.src a, .rw)]⟩,
  ⟨0x30408, [(10, 0x20)], fun a _ _ => [(CRU_OPLEN.src_len a, .rw), (CRU_OPLEN.aad_len a, .rw)]⟩,
  ⟨0x3040c, [(10, 0x20)], fun a _ _ => [(CRU_OPDST.dst a, .rw)]⟩,
  ⟨0x30410, [(10, 0x20)], fun a _ _ => [(CRU_OPAUX.aux a, .rw)]⟩,
  ⟨0x30414, [(10, 0x20)], fun a _ _ => [(CRU_OPSTAT.busy a, .ro), (CRU_OPSTAT.status a, .ro), (CRU_OPSTAT.out_len a, .ro)]⟩]

/-- The registers of the PWR blocks, for access by address (R268). -/
def regRowsPWR : List RegRow := [
  ⟨0x50000, [], fun _ _ _ => [(PWR_STATUS.card_state, .ro), (PWR_STATUS.card_pg, .ro), (PWR_STATUS.fet_short, .ro), (PWR_STATUS.limit, .ro), (PWR_STATUS.sensor_fault, .ro), (PWR_STATUS.reg_pg, .ro), (PWR_STATUS.reg_en, .ro), (PWR_STATUS.eject, .ro)]⟩,
  ⟨0x50004, [], fun _ _ _ => [(PWR_CARDCFG0.ilim, .rw), (PWR_CARDCFG0.ftimer, .rw), (PWR_CARDCFG0.retry_max, .rw)]⟩,
  ⟨0x50008, [], fun _ _ _ => [(PWR_CARDCFG1.dvdt, .rw), (PWR_CARDCFG1.pg_delay, .rw), (PWR_CARDCFG1.t_restart, .rw), (PWR_CARDCFG1.t_trip, .rw)]⟩,
  ⟨0x5000c, [], fun _ _ _ => [(PWR_CARDTH.rds_on, .rw), (PWR_CARDTH.sensor, .rw), (PWR_CARDTH.rth, .rw), (PWR_CARDTH.tau, .rw)]⟩,
  ⟨0x50010, [], fun _ _ _ => [(PWR_CARDSH.shunt, .rw)]⟩,
  ⟨0x50014, [], fun _ _ _ => [(PWR_SEQ.mask, .rw), (PWR_SEQ.step, .rw), (PWR_SEQ.timeout, .rw)]⟩,
  ⟨0x50018, [], fun _ _ _ => [(PWR_VINWIN.uv, .rw), (PWR_VINWIN.ov, .rw), (PWR_VINWIN.pg_drop, .rw)]⟩,
  ⟨0x50020, [], fun _ _ _ => [(PWR_CARDMEAS0.vin, .ro), (PWR_CARDMEAS0.vout, .ro)]⟩,
  ⟨0x50024, [], fun _ _ _ => [(PWR_CARDMEAS1.current, .ro), (PWR_CARDMEAS1.t_meas, .ro), (PWR_CARDMEAS1.t_model, .ro)]⟩,
  ⟨0x50028, [], fun _ _ _ => [(PWR_FIELD.t_diew, .ro), (PWR_FIELD.vfield, .ro)]⟩,
  ⟨0x5002c, [], fun _ _ _ => [(PWR_CARDCNT.trips, .ro), (PWR_CARDCNT.vin_out, .ro)]⟩,
  ⟨0x50030, [], fun _ _ _ => [(PWR_REFUSED.count, .rw)]⟩]

/-- The registers of the FEED blocks, for access by address (R268). -/
def regRowsFEED : List RegRow := [
  ⟨0x50100, [(16, 0x20)], fun a _ _ => [(FEED_CTL.on a, .wo), (FEED_CTL.off a, .wo), (FEED_CTL.clear a, .wo), (FEED_CTL.last_status a, .ro)]⟩,
  ⟨0x50104, [(16, 0x20)], fun a _ _ => [(FEED_CFG0.ilim a, .rw), (FEED_CFG0.ftimer a, .rw), (FEED_CFG0.retry_max a, .rw), (FEED_CFG0.eject a, .rw), (FEED_CFG0.cast_on a, .rwl)]⟩,
  ⟨0x50108, [(16, 0x20)], fun a _ _ => [(FEED_CFG1.dvdt a, .rw), (FEED_CFG1.pg_delay a, .rw), (FEED_CFG1.t_restart a, .rw), (FEED_CFG1.t_trip a, .rw)]⟩,
  ⟨0x5010c, [(16, 0x20)], fun a _ _ => [(FEED_TH.rds_on a, .rw), (FEED_TH.rth a, .rw), (FEED_TH.tau a, .rw)]⟩,
  ⟨0x50110, [(16, 0x20)], fun a _ _ => [(FEED_CFG2.shunt a, .rw)]⟩,
  ⟨0x50114, [(16, 0x20)], fun a _ _ => [(FEED_STAT.state a, .ro), (FEED_STAT.pg a, .ro), (FEED_STAT.short a, .ro), (FEED_STAT.limit a, .ro), (FEED_STAT.ilim_clamped a, .ro), (FEED_STAT.vout a, .ro)]⟩,
  ⟨0x50118, [(16, 0x20)], fun a _ _ => [(FEED_MEAS.current a, .ro), (FEED_MEAS.t_model a, .ro)]⟩,
  ⟨0x5011c, [(16, 0x20)], fun a _ _ => [(FEED_CNT.trips a, .rw)]⟩]

/-- The registers of the FLT blocks, for access by address (R268). -/
def regRowsFLT : List RegRow := [
  ⟨0x10000, [], fun _ _ _ => [(FLT_CTL.release, .wo), (FLT_CTL.clear, .wo), (FLT_CTL.hold, .wo)]⟩,
  ⟨0x10004, [], fun _ _ _ => [(FLT_STATUS.valid, .ro), (FLT_STATUS.handling, .ro), (FLT_STATUS.node_hold, .ro)]⟩,
  ⟨0x10008, [], fun _ _ _ => [(FLT_CAPX.merges, .ro), (FLT_CAPX.classes, .ro)]⟩,
  ⟨0x1000c, [], fun _ _ _ => [(FLT_CFG.inj_en, .rwl)]⟩,
  ⟨0x10010, [], fun _ _ _ => [(FLT_PULSE.us, .rw)]⟩,
  ⟨0x10014, [], fun _ _ _ => [(FLT_PIN.hold, .rw), (FLT_PIN.pulsing, .ro)]⟩,
  ⟨0x10018, [], fun _ _ _ => [(FLT_PINCNT.pulses, .rw), (FLT_PINCNT.merged, .rw)]⟩,
  ⟨0x1001c, [], fun _ _ _ => [(FLT_LOGWR.next, .ro)]⟩,
  ⟨0x10020, [], fun _ _ _ => [(FLT_FWDQ.queue, .rw), (FLT_FWDQ.en, .rw)]⟩,
  ⟨0x10024, [], fun _ _ _ => [(FLT_FWDLOST.count, .rw)]⟩,
  ⟨0x10028, [], fun _ _ _ => [(FLT_REFUSED.count, .rw)]⟩,
  ⟨0x10040, [(8, 0x4)], fun a _ _ => [(FLT_CAP.word a, .ro)]⟩,
  ⟨0x10100, [(64, 0x20), (8, 0x4)], fun a b _ => [(FLT_LOG.word a b, .ro)]⟩,
  ⟨0x11000, [(256, 0x4)], fun a _ _ => [(FLT_REACT.class_ a, .rwl), (FLT_REACT.scope a, .rwl), (FLT_REACT.pulse a, .rwl), (FLT_REACT.fwd a, .rwl), (FLT_REACT.quench a, .rwl), (FLT_REACT.irq a, .rwl)]⟩,
  ⟨0x12000, [(256, 0x4)], fun a _ _ => [(FLT_INJ.go a, .wo), (FLT_INJ.record_only a, .rw)]⟩,
  ⟨0x13000, [(256, 0x4)], fun a _ _ => [(FLT_CNT.real a, .rw), (FLT_CNT.inj a, .rw)]⟩]

/-- The registers of the QCH blocks, for access by address (R268). -/
def regRowsQCH : List RegRow := [
  ⟨0x70000, [], fun _ _ _ => [(QCH_CTL.trigger, .wo), (QCH_CTL.rearm, .wo)]⟩,
  ⟨0x70004, [], fun _ _ _ => [(QCH_CFG.pin_en, .rwl), (QCH_CFG.pin_pol, .rwl), (QCH_CFG.bcast_out, .rw), (QCH_CFG.bcast_in, .rw)]⟩,
  ⟨0x70008, [], fun _ _ _ => [(QCH_STATUS.held, .ro), (QCH_STATUS.srcs, .ro), (QCH_STATUS.missed, .w1c), (QCH_STATUS.fault, .ro)]⟩,
  ⟨0x7000c, [], fun _ _ _ => [(QCH_TMATCH_LO.ns, .rw)]⟩,
  ⟨0x70010, [], fun _ _ _ => [(QCH_TMATCH_HI.ns, .rw), (QCH_TMATCH_HI.armed, .rw)]⟩,
  ⟨0x70014, [(4, 0x4)], fun a _ _ => [(QCH_TIME.word a, .ro)]⟩,
  ⟨0x70024, [], fun _ _ _ => [(QCH_IGNORED.count, .rw)]⟩,
  ⟨0x70028, [], fun _ _ _ => [(QCH_SNAPSEL.unit, .rw)]⟩,
  ⟨0x70200, [(128, 0x4)], fun a _ _ => [(QCH_SNAP.word a, .ro)]⟩]

/-- Every register of the node space. -/
def regRows : List RegRow :=
  regRowsPE ++ regRowsCL ++ regRowsBRG ++ regRowsSW ++ regRowsRING0 ++ regRowsRING1 ++ regRowsETH ++ regRowsHOST ++ regRowsMSIX ++ regRowsNODE ++ regRowsTIM ++ regRowsCST ++ regRowsWEAR ++ regRowsCORE ++ regRowsCRU ++ regRowsPWR ++ regRowsFEED ++ regRowsFLT ++ regRowsQCH

end Sys2Proof.Machine
end

