-- ==== Sys2Proof/Machine/Store.lean ====
section
/-! DEFINITION. Machine/Store.lean: reading and writing a sparse map, so that equal contents are equal lists,
and the bit helpers that every other file uses. -/

namespace Sys2Proof.Machine

/-- The entry of key a, if there is one. -/
def SMap.find? {α : Type} : SMap α → Nat → Option α
  | [], _ => none
  | (k, v) :: m, a => if a < k then none else if a = k then some v else SMap.find? m a

/-- The value at key a, d when a is not listed. -/
def SMap.getD {α : Type} (m : SMap α) (a : Nat) (d : α) : α := (SMap.find? m a).getD d

/-- Enter v at key a. -/
def SMap.insert {α : Type} : SMap α → Nat → α → SMap α
  | [], a, v => [(a, v)]
  | (k, w) :: m, a, v =>
    if a < k then (a, v) :: (k, w) :: m
    else if a = k then (a, v) :: m
    else (k, w) :: SMap.insert m a v

/-- Remove key a. -/
def SMap.erase {α : Type} : SMap α → Nat → SMap α
  | [], _ => []
  | (k, w) :: m, a =>
    if a < k then (k, w) :: m
    else if a = k then m.dropWhile (fun e => decide (e.1 ≤ a))
    else (k, w) :: SMap.erase m a

/-- Set key a to v, where an unlisted key reads as d: the entry is removed when v is d. -/
def SMap.set {α : Type} [DecidableEq α] (m : SMap α) (a : Nat) (v d : α) : SMap α :=
  if v = d then SMap.erase m a else SMap.insert m a v

/-- Keys strictly rising. -/
def SMap.sorted {α : Type} : SMap α → Bool
  | [] => true
  | [_] => true
  | (a, _) :: (b, w) :: m => decide (a < b) && SMap.sorted ((b, w) :: m)

/-- The key of a field: the bit address of its lowest bit. -/
def Fld.key (f : Fld) : Nat := f.addr * 8 + f.lsb

/-- Bits [lo + w − 1 : lo] of n. -/
def bits (n lo w : Nat) : Nat := n / 2 ^ lo % 2 ^ w

/-- Bit i of n. -/
def bit (n i : Nat) : Bool := n / 2 ^ i % 2 == 1

/-- A Bool as a bit. -/
def b2n (b : Bool) : Nat := if b then 1 else 0

/-- Bit i of n set to b. -/
def setBit (n i : Nat) (b : Bool) : Nat :=
  n / 2 ^ (i + 1) * 2 ^ (i + 1) + b2n b * 2 ^ i + n % 2 ^ i

/-- A w-bit two's complement value read as an integer. -/
def sext (w n : Nat) : Int := if n % 2 ^ w < 2 ^ (w - 1) then (n % 2 ^ w : Int) else (n % 2 ^ w : Int) - (2 ^ w : Int)

/-- An integer narrowed to w bits. -/
def wrap (w : Nat) (i : Int) : Nat := (i % (2 ^ w : Int)).toNat

/-- The numbers below n whose bit is set in mask, in rising order. -/
def members (n mask : Nat) : List Nat := (List.range n).filter (fun i => bit mask i)

/-- The n bytes of v, least significant first (R6). -/
def leBytes (n v : Nat) : List Nat := (List.range n).map (fun i => v / 256 ^ i % 256)

/-- The value of bytes given least significant first. -/
def ofBytes : List Nat → Nat
  | [] => 0
  | b :: bs => b % 256 + 256 * ofBytes bs

/-- Group bytes into 32-bit little-endian words; a last word that is not full is padded with 0. -/
def toWords (bs : List Nat) : List Nat :=
  (List.range ((bs.length + 3) / 4)).map (fun i => ofBytes ((bs.drop (4 * i)).take 4))

/-- The element at i of a list of numbers, 0 past its end. -/
def nth (l : List Nat) (i : Nat) : Nat := l.getD i 0

/-- Replace the element at i, where the list has one. -/
def setNth {α : Type} (l : List α) (i : Nat) (v : α) : List α := l.set i v

end Sys2Proof.Machine
end

