-- ==== Sys2Proof/Machine/State.lean ====
section
/-! DEFINITION. Machine/State.lean: everything the spec gives the block, as plain data. Every register of the register
maps lives in `regs`, keyed by the bit address of its fields (Machine/RegMap.lean names them and holds their reset
values); what the spec gives the block beside its register maps is in the typed fields. -/

namespace Sys2Proof.Machine

/-! ### The die-to-die links, resets and straps (chapters 01, 18) -/

/-- What the die links and the reset and strap balls hold beside registers. -/
structure LevelSt where
  /-- Instants at which die S last sent a keep-alive to P0, P1 and W (R21). -/
  sent    : List Nat := [0, 0, 0]
  /-- Die W hears no keep-alive: it holds its gates and obeys no command (R21). -/
  wLost   : Bool := false
  /-- RST_N is low (R25, R506). -/
  rstLow  : Bool := false
  /-- Die S is in node reset: from its begin until the boot ROM starts (R23, R190). -/
  inReset : Bool := true
  /-- The straps have still to be read before the present reset is released (R507). -/
  strapsDue : Bool := false
  /-- The levels of the strap balls as last read (R507, R508). -/
  straps  : Straps := {}
  /-- The port dies P0 and P1 whose VDD_P is below its threshold (R513). -/
  dieOff  : List Bool := [false, false]
  deriving DecidableEq, Repr

/-! ### Port engines (chapter 02) -/

/-- What an action does to one pad: turn the driver off, drive a value, or drive the inverse of the value last
commanded (R44, R52). -/
inductive PadAct where
  | release
  | drive (v : Bool)
  | toggle
  deriving DecidableEq, Repr

/-- An entry of the action queue (R52): instant (48-bit ns and fine), action code, data slot, slot mask, values, the
SHOUT bit taken at issue (R57) and the place in the engine's issue order. -/
structure Action where
  t    : Nat
  fine : Nat
  act  : Nat
  slot : Nat
  mask : Nat
  vals : Nat
  obit : Bool
  seq  : Nat
  deriving DecidableEq, Repr

/-- An untimed output of SET or OUT that changes its pads 2 PORTCLK cycles (4 ns, unsteered) after issue (R49): the tick in
which it is due (`now`), the place in issue order and the pads. -/
structure Untimed where
  due  : Nat
  seq  : Nat
  acts : List (Nat × PadAct)
  deriving DecidableEq, Repr

/-- The state of an engine beside its registers (R41): ports, action queue, outputs on their way to the pads, its
drivers, and what the waiting instruction needs. -/
structure PE where
  /-- Words for the bound queue, each with whether its entry raises the event interrupt (R67). -/
  tx       : List (QWord × Bool) := []
  rx       : List QWord := []
  actions  : List Action := []
  untimed  : List Untimed := []
  seq      : Nat := 0
  /-- The driver of each pad: none released, some v enabled with value v (R61). -/
  drv      : SMap (Option Bool) := []
  /-- The value last commanded on each pad since unit reset (R44, TOGGLE). -/
  last     : SMap (Option Bool) := []
  /-- The tick of the last action applied to each pad and its place in issue order (R55). -/
  applied  : SMap (Option (Nat × Nat)) := []
  /-- The captured rising and falling edges of the slot's pad counted up to the last STAMP of each slot (R66, R95). -/
  stamped  : SMap (Option (Nat × Nat)) := []
  /-- The time (125 ps) at which the waiting instruction issued. -/
  issued   : Option Nat := none
  /-- The edge a waiting STAMP waits for, once it came: its time (125 ps) and whether it rose. -/
  stampHit : Option (Nat × Bool) := none
  /-- The pad's captured edges counted up to that one (R95). -/
  hitCounts : Nat × Nat := (0, 0)
  /-- `now` at which a forced swap of this engine, not idle, was requested: it happens in the next PORTCLK cycle (R75, R79). -/
  forceAt  : Option Nat := none
  /-- Places of SHIN, in order of arrival, that pending INBITs have reserved (R57). -/
  resv     : List Nat := []
  /-- The time (125 ps) at which the head of the action queue came to the head (R53). -/
  headAt   : Nat := 0
  /-- A step command is running one instruction (R80). -/
  stepping : Bool := false
  /-- Pads parked by PORT_STOP until the engine is started (R463). -/
  stopped  : Bool := false
  deriving DecidableEq, Repr

/-! ### Clusters, pads and queues (chapter 03) -/

/-- A held bus read of CL_QPOP: who reads and the instant its wait ends (R110). `burst` is the number of
units of a burst read (R269), none for a read of CL_QPOP. -/
structure HeldRead where
  who   : Origin
  until_ : Nat
  burst : Option Nat
  deriving DecidableEq, Repr

/-- A push that found its queue full: its word, whether the bus made it, and whether its entry raises the event interrupt. It is
decided at the end of its PORTCLK cycle, since a pop of the same cycle goes first (R114). -/
structure LatePush where
  word   : QWord
  bus    : Bool
  raise_ : Bool := false
  deriving DecidableEq, Repr

/-- A queue: its words, oldest first, a GAP marker among them; whether the last word is an open marker (R108); the
read and write pointers, each kept twice (R112); whose turn the rotation of R105 gives next; the held bus reads. -/
structure Queue where
  words   : List QWord := []
  gapOpen : Bool := false
  rd      : Nat := 0
  wr      : Nat := 0
  rd2     : Nat := 0
  wr2     : Nat := 0
  turn    : Nat := 0
  held    : List HeldRead := []
  /-- The PORTCLK cycle in which the depth last changed, and the depth at its start (R113, R114). -/
  cyc     : Option (Nat × Nat) := none
  /-- Pushes of the present cycle that found the queue full (R114). -/
  late    : List LatePush := []
  deriving DecidableEq, Repr

/-- A CAN FD controller beside its registers: the transmit record it holds, whether arbitration has started, whether
bus-off recovery runs, whether PORT_STOP holds it, whether it discards words up to the next END, and its error counts
(R99, R100, R102, R463). -/
structure Can where
  record     : Option (List QWord) := none
  arbitrating : Bool := false
  recovering : Bool := false
  stopped    : Bool := false
  discarding : Bool := false
  tec        : Nat := 0
  rec_       : Nat := 0
  /-- The instant (125 ps) at which arbitration for the frame started. -/
  sof        : Nat := 0
  /-- Node time in ns at which the recovery from bus-off started (R102). -/
  recoverAt  : Nat := 0
  /-- From when to when (125 ps) the transmit pad is dominant beside a frame: an ACK slot or an error flag (R96). -/
  dominant   : Option (Nat × Nat) := none
  deriving DecidableEq, Repr

/-- A cluster beside its registers and units. -/
structure Cluster where
  /-- The levels that the field side puts on the pads, and the pads that it has let go of. -/
  ext       : Nat := 0
  loose     : Nat := 0
  /-- The levels at the input receivers at the last TIMECLK ticks, newest first (R49). -/
  hist      : List Nat := []
  /-- The levels at the start of the present TIMECLK tick, once an edge has come later inside the tick (R49, R93). -/
  tickLev   : Option Nat := none
  /-- The time (125 ps) of the last edge of each pad, captured or not (R94). -/
  edge      : SMap (Option Nat) := []
  /-- The rising and the falling edges of each pad captured so far, and whether the last of them rose (R66, R95). -/
  caught    : SMap (Nat × Nat × Bool) := []
  /-- Pads that their engine's park has released and that no action has driven since (R29, R75, R80, R89). -/
  padPark   : List Nat := []
  /-- The frozen high words of CL_PADSTAMP, keyed by 2 p + polarity (R115). -/
  frozen    : SMap (Option Nat) := []
  /-- Pads parked and units stopped for want of a keep-alive, until die reset (R21). -/
  dieParked : Bool := false
  /-- A CLUSTER_PARK reaction is in force, until cluster reset (R463). -/
  faultPark : Bool := false
  /-- The output enables and values held under NODE_HOLD, in ORPHAN or in the pause form (R29, R35, R90). -/
  heldOut   : Option (Nat × Nat) := none
  /-- Node time at which the present cluster reset began (R87). -/
  resetAt   : Nat := 0
  /-- VDDIO of the two banks as measured, in mV (R88, R514). -/
  vddio     : List Nat := [0, 0]
  deriving DecidableEq, Repr

/-! ### Region bridges (chapter 04) -/

/-- A window access that a channel serves: who made it and from which node, its offset and size, its bytes (to be written,
or read so far), its far-side parts and the read-ahead parts after them, how many are done, its deadline, whether the
deadline has passed (R133), and whether the requested bytes have been returned (R126). -/
structure ChReq where
  who      : Origin
  node     : Nat
  write    : Bool
  acked    : Bool
  ofs      : Nat
  size     : Nat
  data     : List Nat
  parts    : Nat
  extra    : Nat := 0
  /-- Its place in the order of arrival at the channel (R137). -/
  seq      : Nat := 0
  done     : Nat := 0
  due      : Option Nat := none
  late     : Bool := false
  answered : Bool := false
  /-- A write that overlaps its bytes has come since: its result is not held (R136). -/
  stale    : Bool := false
  deriving DecidableEq, Repr

/-- What waits in a channel's posted line: a posted write, or a routed record for its out queue (R137, R149). -/
inductive ChItem where
  | write (r : ChReq)
  | record (ws : List QWord)
  deriving DecidableEq, Repr

/-- A posted write, which BRG_CHSTAT.posted counts (R156). -/
def ChItem.isWrite : ChItem → Bool
  | .write _ => true
  | .record _ => false

/-- An open request whose part's record has entered the out queue: the part's tid and the instant it entered (R131). -/
structure Flight where
  req   : ChReq
  tid   : Nat
  since : Nat
  deriving DecidableEq, Repr

/-- A held result (R133). -/
structure HeldResult where
  who    : Origin
  node   : Nat
  ofs    : Nat
  size   : Nat
  status : Nat
  detail : Nat
  idx    : Nat
  data   : List Nat
  since  : Nat
  /-- The exception code of detail 0x09 (R119). -/
  exc    : Nat
  deriving DecidableEq, Repr

/-- What an access of a target-role channel came to: its status and detail, the value read, the failing part and the exception
code (R119, R124). -/
structure TargetEnd where
  status : Nat
  detail : Nat := 0
  value  : Nat := 0
  idx    : Nat := 0
  exc    : Nat := 0
  deriving DecidableEq, Repr

/-- An access of a target-role channel: its request, the result once known, the repeats after RETRY and the instant its
back-off ends (R138 to R142). -/
structure Target where
  tid     : Nat
  write   : Bool
  ack     : Bool
  ofs     : Nat
  size    : Nat
  data    : Nat
  result  : Option TargetEnd := none
  tries   : Nat := 0
  backoff : Option Nat := none
  /-- A read whose bytes a later write of the channel overlaps: its result is discarded (R136). -/
  stale   : Bool := false
  deriving DecidableEq, Repr

/-- A bridge channel beside its registers. -/
structure Chan where
  /-- The place of the next request in the order of arrival (R137). -/
  seq      : Nat := 0
  posted   : List ChItem := []
  line     : List ChReq := []
  /-- Accesses that wait in the switch core's queue behind a posted write that finds 32 waiting, each with the target-role
  channel that faces the same bus (R130). -/
  kept     : List (ChReq × Option Nat) := []
  flight   : List Flight := []
  /-- Requests whose part completed and whose next part has not been issued (R123). -/
  between  : List ChReq := []
  held     : List HeldResult := []
  tid      : Nat := 0
  /-- Transaction IDs marked as timed out (R131). -/
  expired  : List Nat := []
  /-- The bytes of the read-ahead buffer that have not been consumed, keyed by window offset (R126). -/
  ahead    : SMap Nat := []
  filling  : Bool := false
  /-- The instant at which the fill ended (R127). -/
  filled   : Option Nat := none
  /-- The tid of the part that was on the far side when a write discarded the fill: the write waits for it (R129). -/
  waitPart : Option Nat := none
  targets  : List Target := []
  /-- Transfers that received RETRY; the serving program has been told (R140). -/
  crossing : List Target := []
  evtSeq   : Nat := 0
  /-- The serving engine has stopped, or PORT_STOP holds the channel (R145, R463). -/
  noServer : Bool := false
  stopped  : Bool := false
  deriving DecidableEq, Repr

/-! ### The switch core and the transit path (chapter 05) -/

/-- A frame that waits at an input of the switch core, with how it is classified and, when a bridge lookup classified it,
the epoch and the class it carries and the channel whose record it is (R146, R150, R153, R162). -/
structure SwIn where
  frame : Frame
  route : SwRoute
  epoch : Option Nat := none
  cls   : Option Nat := none
  chan  : Option Nat := none
  /-- The node time (2⁻¹⁶ ns) at which it came to the input (R178). -/
  since : Option Nat := none
  deriving DecidableEq, Repr

/-- A frame in the buffer: its cells, the copies not yet gone, its epoch and the channel whose record it is (R146, R159,
R175). -/
structure SwBuf where
  cells  : Nat
  copies : Nat
  epoch  : Nat
  chan   : Option Nat := none
  deriving DecidableEq, Repr

/-- A copy in an output queue (R163): its frame, class, input and entry time (2⁻¹⁶ ns); the epoch, index and bits of its
entry; its place at the output. -/
structure SwCopy where
  id       : Nat
  frame    : Frame
  cells    : Nat
  cls      : Nat
  input    : Nat
  entered  : Nat
  epoch    : Nat
  index    : Nat := 0
  grouped  : Bool := false
  ack      : Bool := false
  capture  : Bool := false
  /-- Channel, host queue, template, core pair or vector at the output. -/
  sub      : Nat := 0
  /-- The flow asks for a launch hold; the launch instant (1/256 ns, 56-bit window) once it is known (R319). -/
  launch   : Bool := false
  due      : Option Nat := none
  /-- The copy is held until its launch instant. -/
  holding  : Bool := false
  /-- The eligible time (1/16 ns) of a shaped copy (R339), and whether the wheel has it (R340). -/
  eligible : Option Nat := none
  onWheel  : Bool := false
  /-- Counted in ETH_GWAIT (R332). -/
  waited   : Bool := false
  deriving DecidableEq, Repr

/-- What classification makes of a frame (R168 to R172): class, entry bits, deadline budget, the flow that shapes it, and
the copies to make: output, sub-queue, place there, frame. -/
structure SwPlan where
  cls     : Nat
  index   : Nat := 0
  grouped : Bool := false
  ack     : Bool := false
  capture : Bool := false
  launch  : Bool := false
  shaped  : Option Nat := none
  budget  : Nat := 0
  outs    : List (Nat × Nat × Nat × Frame)
  deriving DecidableEq, Repr

/-- The switch core beside its registers. Output queues are keyed (9 o + u) 8 + c for output o, sub-queue u (R164) and
class c. -/
structure SwSt where
  /-- Frames held at the host, cores and region inputs by credit (R162). -/
  held     : SMap (List SwIn) := []
  frames   : SMap SwBuf := []
  nextId   : Nat := 0
  queues   : SMap (List SwCopy) := []
  /-- The deficit of class c at output o, keyed 8 o + c, the class whose turn it is at output o, and the sub-queue whose turn
  it is in class c of output o (R165). -/
  deficit  : SMap Nat := []
  turn     : SMap Nat := []
  subTurn  : SMap Nat := []
  /-- Draining versions of table words, keyed by the address of the live word (R152, R173). -/
  drainVer : SMap Nat := []
  /-- A flush is in force (R177). -/
  flushing : Bool := false
  capSeq   : Nat := 0
  /-- Captures lost since the last entry was written (R183). -/
  capLost  : Nat := 0
  /-- The microsecond in which captures were last written, and how many (R157, R183). -/
  capRate  : Nat × Nat := (0, 0)
  /-- Of the acknowledged frames sent on the ring: 1 for each key of `noticeKey` whose last frame came from the host port
  (R180). -/
  fromHost : SMap Nat := []
  /-- Flow and group sequence numbers at this source (R234). -/
  flowSeq  : SMap Nat := []
  groupSeq : SMap Nat := []
  /-- A local frame that ring output p is sending (R188, R191). -/
  sending  : SMap (Option SwCopy) := []
  deriving DecidableEq, Repr

/-- What of a transit frame waits, or is sent again (R187, R208, R209): the frame, the word of its first received sheet at which it
starts, the first of its sheets that is meant and the one, if any, that was not accepted, and whether its last sheet also holds
the words of the next transit frame. -/
structure TransitEntry where
  frame : Frame
  w0    : Nat
  skip  : Nat := 0
  bad   : Option Nat := none
  more  : Bool := false
  /-- It has waited in the FIFO: a sheet of it that was not accepted had not started (R209). -/
  queued : Bool := false
  /-- Of a SYNC: its ingress stamp and the residence that was measured for it (R300). -/
  rx    : Option (Nat × Nat) := none
  deriving DecidableEq, Repr

/-- The transit path of one direction: the FIFO, oldest first (R187), and a frame that stands unfinished on the outgoing port, as
received, with the sheet from which the upstream retry goes on (R209). -/
structure Transit where
  fifo : List TransitEntry := []
  redo : Option (Frame × Nat) := none
  deriving DecidableEq, Repr

/-! ### The Chogen link (chapter 06) -/

/-- A sheet in the replay buffer, with the instant it was last sent (R203, R206). -/
structure Sent where
  sheet : Sheet
  at_   : Nat
  deriving DecidableEq, Repr

/-- A lane switch under way (R221, R222): physical lane j and the spare that takes its place, whether it does not wait for a seam,
whether this end asked for it, whether the blocks of j leave on both, the instant its mirror was confirmed, whether this
receiver has switched, and whether the peer's has. -/
structure LaneMirror where
  j         : Nat
  spare     : Nat
  now       : Bool
  asked     : Bool
  on        : Bool := false
  confirmed : Option Nat := none
  taken     : Bool := false
  peerTook  : Bool := false
  deriving DecidableEq, Repr

/-- A sheet that waits to be sent (R208, R213): its start map and cont, whether it ends with STOMP, whether it is a link-management
sheet, its payload, and the transit direction whose next frame may still add words to it. -/
structure OutSheet where
  starts  : Nat
  cont    : Bool
  stomp   : Bool := false
  link    : Bool := false
  payload : List Nat
  open_   : Option Nat := none
  deriving DecidableEq, Repr

/-- A ring port's link beside its registers. -/
structure LinkSt where
  /-- The instant at which the present training state was entered (R217). -/
  entered  : Nat := 0
  /-- The down command holds the port in DOWN (R217). -/
  downCmd  : Bool := false
  /-- Frames handed over for sending, oldest first, and what is left of the one being sent (R198). -/
  frames   : List (List Nat) := []
  partial_ : List Nat := []
  /-- Sheets of transit frames and of link management that wait (R208, R213). -/
  mirrors  : List OutSheet := []
  mgmt     : List OutSheet := []
  /-- A frame on this port is to be ended stomped by a sheet with cont = 0 (R201). -/
  stop     : Bool := false
  /-- The logical lane that the next block goes to (R194). -/
  nextLane : Nat := 0
  replay   : List Sent := []
  seq      : Nat := 0
  /-- The seq from which a replay still resends (R205). -/
  resend   : Option Nat := none
  tries    : Nat := 0
  txCtr    : Nat := 0
  expect   : Nat := 0
  accepted : Option Nat := none
  naked    : Option Nat := none
  /-- Sheets accepted and not acknowledged, and since when (R204). -/
  unacked  : Nat := 0
  since    : Option Nat := none
  /-- Bytes of a frame received in part (R198). -/
  rxPart   : Option (List Nat) := none
  /-- The word in which that frame started in its first sheet (R208). -/
  rxWord   : Nat := 0
  rxCtr    : Nat := 0
  rxPhase  : Nat := 0
  tagFails : List Nat := []
  /-- The IV salt of each key phase in the two directions (R212 to R214); the keys are in the crucible's link session slots. -/
  txSalts  : SMap (List Nat) := []
  rxSalts  : SMap (List Nat) := []
  /-- The private key of the exchange under way (R213). -/
  ephemeral : List Nat := []
  /-- The link salt was 48 zero bytes: MGMT and TIME only (R403). -/
  restricted : Bool := false
  /-- A rekey runs: since when, and whether a parent key's invalidation forced it (R214). -/
  rekey    : Option (Nat × Bool) := none
  ackCoal  : Bool := false
  /-- How many times in a row the peer's capability word came alike (R218). -/
  alike    : Nat := 0
  amCount  : Nat := 0
  /-- When the next alignment markers are due, in 1/25 ns (R195). -/
  amDue    : Nat := 0
  /-- When the capability word was last sent (R217). -/
  capAt    : Nat := 0
  amMissed : List Nat := [0, 0, 0, 0, 0]
  signal   : Nat := 0
  mirror   : Option LaneMirror := none
  fidleAsked : Bool := false
  /-- When the sender sent FIDLE exit (R225). -/
  exitAt   : Option Nat := none
  /-- NAKs outside the unacknowledged sheets (R205). -/
  nakOut   : Nat := 0
  /-- The wake tone is being sent, since when (R226). -/
  tone     : Option Nat := none
  deriving DecidableEq, Repr

/-! ### The ring domain (chapter 07) -/

/-- A learned address of the Ethernet bridge: VLAN, MAC, the node and port behind which it lies, and when it was last seen
(R259). -/
structure MacEntry where
  vlan : Nat
  mac  : Nat
  node : Nat
  port : Nat
  seen : Nat
  deriving DecidableEq, Repr

/-- The ring domain beside its registers. Map entries are keyed by node: word 0 of RING_MAP and the casting ID. -/
structure RingSt where
  /-- This node is spliced out or leaves: it starts no local ring frame but MGMT and TIME (R245). -/
  left      : Bool := false
  /-- The newest map and its epoch, where CYCLE_START has not yet brought it into use (R231). -/
  draft     : Option (Nat × SMap (Nat × Nat)) := none
  /-- The casting ID that the head's casting lists for each node (R232). -/
  castIds   : SMap Nat := []
  /-- The ring is wrapped, as the last CYCLE_START said (R236). -/
  wrapped   : Bool := false
  /-- The cycle start (ns since the PTP epoch) of the cycle that CYCLE_TICK last entered; of the last cycle for which
  CYCLE_START was sent, was received, was tested for, and at which WIT_GRANT was sampled and WIT_HEALTH toggled. -/
  cycleAt   : Option Nat := none
  sentAt    : Option Nat := none
  gotAt     : Option Nat := none
  testedAt  : Option Nat := none
  sampledAt : Option Nat := none
  toggledAt : Option Nat := none
  /-- Cycles in a row without a CYCLE_START, and the instant of the last one received (R248). -/
  misses    : Nat := 0
  lastStart : Nat := 0
  /-- The slot of this cycle has been answered, or counted as missed, East and West (R238). -/
  answered  : List Bool := [false, false]
  /-- The cycle whose seam has been opened (R240). -/
  seamAt    : Option Nat := none
  /-- On the head: the links (node, port) that are HELD and wait to be spliced in (R244). -/
  joins     : List (Nat × Nat) := []
  /-- Nodes to splice out at the next seam, on the head; this node has asked to leave (R245). -/
  leaves    : List Nat := []
  leaving   : Bool := false
  /-- revert_now and release wait for the next seam (R262). -/
  revertAsked  : Bool := false
  releaseAsked : Bool := false
  /-- The level that this head drives on WIT_HEALTH. -/
  witHealth : Bool := false
  /-- The lease: its holder and when it was last renewed (R253). -/
  lease     : Option (Nat × Nat) := none
  /-- The updates sent to the standby and not acknowledged, oldest first: the cycles since, and how many of the requests that wait for
  their entry's acknowledgement have it in the update; these requests; no common mirror version was found (R252). -/
  updates   : List (Nat × Nat) := []
  heldReqs  : List Frame := []
  mismatch  : Bool := false
  /-- The last mirror update received, and the open slots of the former head that have no result yet (R251). -/
  mirror    : Option MirrorRec := none
  mirrored  : List Nat := []
  /-- The active head has released the grant to this head; this former head completes its open window reads (R256). -/
  offered   : Bool := false
  handing   : Bool := false
  /-- Loop frames that came back East and West; since when this standby has been healthy (R256, R257). -/
  loopOk    : List Bool := [false, false]
  healthy   : Option Nat := none
  /-- This standby's last test showed a failure (R253). -/
  failing   : Bool := false
  /-- On the active head and the witness: the standby's last report, its seconds healthy, and whether it is cast preferred (R251,
  R256, R257). -/
  peerReport : Option Nat := none
  peerSecs  : Nat := 0
  peerPref  : Bool := false
  macs      : List MacEntry := []
  deriving DecidableEq, Repr

/-! ### The head and the mailboxes (chapter 08) -/

/-- A host read of the window BAR that waits for its COMPL (R273): PCIe tag, domain address, size in bytes, the bytes read
so far, the instant (ns since power-on) at which the head received it, and that at which its present READ frame left the switch core.
A read whose size is no power of two goes as naturally
aligned READ frames one after the other (R234, R269). -/
structure WinRead where
  tag  : Nat
  addr : Nat
  size : Nat
  data : List Nat
  recv : Nat
  left : Option Nat := none
  deriving DecidableEq, Repr

/-- When the ring-side timeout of a window read runs out: 40 µs after its READ frame has left, and 42 µs after the head received it at the
latest (R273). -/
def WinRead.due (r : WinRead) : Nat :=
  match r.left with
  | some t => min (r.recv + 42000) (t + 40000)
  | none => r.recv + 42000

/-- A transaction slot beside its registers: an open request and the instant it times out (R275). -/
structure Slot where
  due   : Option Nat := none
  addr  : Nat := 0
  write : Bool := false
  /-- The cycle in which its last result completed (R277). -/
  doneAt : Option Nat := none
  deriving DecidableEq, Repr

/-- A host ring beside its registers: entries not yet freed, passes completed, and, for a receive queue, entries not yet
announced and the instant of the last vector (R278, R279). -/
structure HostRing where
  used  : Nat := 0
  pass  : Nat := 0
  waits : Nat := 0
  sent  : Option Nat := none
  deriving DecidableEq, Repr

/-- The host interface beside its registers. -/
structure HostSt where
  /-- PERST_N released and the PCIe link trained (R264). -/
  linkUp : Bool := false
  /-- Max_Payload_Size in bytes (R265). -/
  mps    : Nat := 128
  /-- The MSI-X function mask (R279). -/
  fnMask : Bool := false
  /-- The AER uncorrectable error status (R265, R271). -/
  aer    : Nat := 0
  reads  : List WinRead := []
  slots  : SMap Slot := []
  rqs    : SMap HostRing := []
  evq    : HostRing := {}
  errSeq : Nat := 0
  deriving DecidableEq, Repr

/-- A mailbox beside its registers: the code and tag of the command that runs (R282). -/
structure Mbx where
  code : Nat := 0
  tag  : Nat := 0
  deriving DecidableEq, Repr
/-! ### Domain time (chapter 09) -/

/-- A servo on a time source of a head (R303, R307, R310): its state, the measurements in a row within the lock threshold, the instant of
the last one, node time minus the source as it stands, with what is being slewed (2⁻¹⁶ ns), and since when it has been LOCKED without a break. -/
structure SrcServo where
  state    : Nat := 0
  inLock   : Nat := 0
  measured : Nat := 0
  ofs      : Int := 0
  since    : Option Nat := none
  deriving DecidableEq, Repr

/-- The slave-only PTP clock of a source (R318): the master it has chosen (sourcePortIdentity), its data set, when it was last heard and
after how many ns of silence it is no master any more; a two-step Sync that waits for its Follow_Up (number, ingress stamp, correction);
the last difference of master to clock; the request under way (number, egress stamp) and, of peer delay, what its response gave
(receipt stamp, ingress stamp of the response); the mean path delay. Times are in 2⁻¹⁶ ns. -/
structure PtpClock where
  master  : Option Nat := none
  dataSet : List Nat := []
  heard   : Nat := 0
  silence : Nat := 0
  sync    : Option (Nat × Nat × Int) := none
  forth   : Option Int := none
  seq     : Nat := 0
  request : Option (Nat × Nat) := none
  answer  : Option (Int × Nat) := none
  path    : Option Int := none
  deriving DecidableEq, Repr

/-- The link delay of a ring port: the samples taken since the average started (2⁻¹⁶ ns), their mean, rejections in a row,
the request under way (sequence number and t1), and the sequence number and instant of the last request (R295 to R297). -/
structure LinkDelay where
  samples  : Nat := 0
  sum      : Int := 0
  mean     : Int := 0
  rejected : Nat := 0
  request  : Option (Nat × Nat) := none
  seq      : Nat := 0
  /-- The number of the last response sent (R298). -/
  respSeq  : Nat := 0
  sentAt   : Option Nat := none
  deriving DecidableEq, Repr

/-- A two-step Sync that left an Ethernet port: its domain, source port identity and sequenceId, the amount to add, when
(R317). -/
structure TwoStep where
  key    : List Nat
  amount : Nat
  at_    : Nat
  deriving DecidableEq, Repr

/-- The time unit beside its registers. Offsets are in 2⁻¹⁶ ns. -/
structure TimSt where
  /-- Steering: 2⁻¹⁶ ns that each TIMECLK cycle adds to its 1 ns, of which a frequency and a phase part (R291, R303, R305); what a blend
  still has to slew (R309). -/
  steer    : Int := 0
  phase    : Int := 0
  slew     : Int := 0
  delays   : SMap LinkDelay := []
  /-- The transit path's own copy of the receive delays, East and West (R300). -/
  transitDelay : List Int := [0, 0]
  /-- Measurements in a row within the lock threshold; the instant of the last one (R303). -/
  inLock   : Nat := 0
  measured : Nat := 0
  /-- The offset and the origin time of a SYNC from East and from West whose copy from the other direction has not come; SYNC intervals in
  a row with a difference above 10 ns (R302). -/
  dirOfs   : List (Option (Int × Nat)) := [none, none]
  apart    : Nat := 0
  /-- This head has been active since node reset (R304). -/
  wasActive : Bool := false
  /-- The servos on the primary source and on the second grandmaster, and the PTP clocks of the two domains (R307, R310, R313, R318). -/
  pri      : SrcServo := {}
  sec      : SrcServo := {}
  clocks   : List PtpClock := [{}, {}]
  /-- A switch to the secondary (true) or back waits for the next cycle start (R309, R310). -/
  want     : Option Bool := none
  /-- What is left to blend; the cycle of the last blend step. -/
  blendLeft : Int := 0
  blendAt  : Option Nat := none
  /-- The node time that TIM_NOW0 latched (R322). -/
  latched  : Option Nat := none
  syncSeq  : List Nat := [0, 0]
  syncAt   : List (Option Nat) := [none, none]
  twoStep  : SMap (List TwoStep) := []
  /-- When each Ethernet port last sent a peer delay request (R316). -/
  pdelayAt : List (Option Nat) := [none, none]
  deriving DecidableEq, Repr

/-! ### Time gates and the shaping wheel (chapter 10) -/

/-- The gates and the wheel beside their registers. -/
structure GateSt where
  /-- The list cycle start (ns since the PTP epoch) at which the pending change of gate list g takes effect (R336). -/
  changeAt : SMap (Option Nat) := []
  /-- Byte rate of ETH0 and ETH1 in Mbit/s, by link mode (R330). -/
  ethRate  : List Nat := [10000, 10000]
  /-- Link mode of ETH0 and ETH1 in the order of R294: 10GBASE-R, 1000BASE-X, SGMII at 1,000, 100 and 10 Mbit/s. -/
  ethMode  : List Nat := [0, 0]
  ptr      : Nat := 0
  /-- Queues on the wheel, each with its slot; queues on the overflow list, each with its eligible time in 1/16 ns (R340). -/
  wheel    : List (Nat × Nat) := []
  overflow : List (Nat × Nat) := []
  /-- The next time of each shaped flow in 1/16 ns; none: unset (R339). -/
  next     : SMap (Option Int) := []
  deriving DecidableEq, Repr

/-! ### Casting and boot (chapter 11), core pairs and update (chapter 12) -/

/-- An entry of the KEYREF section (R397): purpose, preferred slot, key ID, pair mask. -/
structure KeyRef where
  purpose : Nat
  slot    : Nat
  keyId   : Nat
  pairs   : Nat
  deriving DecidableEq, Repr

/-- The one flash write that runs (R357): a casting install for mailbox m into a copy; a settings save with its bytes; an
activation's preparation; the erase of an INGOT OPEN; the write of ingot i. -/
inductive FlashJob where
  | install (m copy : Nat)
  | save (copy seq : Nat) (bytes : List Nat)
  | prepare (m copy : Nat) (hitless : Bool)
  | openImage (m id kind size : Nat) (manifest : List Nat)
  | ingot (m i : Nat) (bytes : List Nat)
  deriving DecidableEq, Repr

/-- An activation after its preparation (R384, R385): its mailbox and form, t0 (ns since power-on), the firmware copy
written; pause form: the boot ROM runs, which assay codes are known; hitless form: the new Dregrim runs in shadow, it has been in
step since an instant (ns of node time). -/
structure Activation where
  m       : Nat
  hitless : Bool
  t0      : Nat
  copy    : Nat
  inRom   : Bool := false
  newCode : Option Nat := none
  oldCode : Option Nat := none
  shadow  : Bool := false
  inStep  : Option Nat := none
  /-- The opening (ns of node time) of the seam in which the role moves: no other mailbox command ran at it (R385). -/
  moving  : Option Nat := none
  deriving DecidableEq, Repr

/-- The casting, flash, boot sequence and update beside their registers. -/
structure CastSt where
  /-- The casting has committed: RWL fields ignore writes (R8). -/
  committed : Bool := false
  /-- The bytes of the flash that are not 0xFF, keyed by flash offset (R344; log 21). -/
  flash     : SMap Nat := []
  job       : Option FlashJob := none
  /-- What the record sector says of the staged image: ID, kind, size (R379). -/
  staged    : Option (Nat × Nat × Nat) := none
  /-- A CASTING_INSTALL that waits for a settings save: its mailbox and copy (R357). -/
  waits     : Option (Nat × Nat) := none
  /-- The sections of the running casting: type, instance and CRC (R348, R363). -/
  sections  : List (Nat × Nat × Nat) := []
  /-- The autostart mask of each cluster, and the live words of the cast routes (R23, R350). -/
  autostart : SMap Nat := []
  routes    : SMap Nat := []
  /-- SETTINGS entries: offset, mask, default (R350, R359). -/
  settings  : List (Nat × Nat × Nat) := []
  keyrefs   : List KeyRef := []
  /-- Fields that the running casting writes itself, by key (R351). -/
  written   : SMap Nat := []
  /-- BOOT: the boot ROM runs, since when; settings have been applied; the node ends BOOT in TAMPERED (R361). -/
  romAt     : Option Nat := none
  applied   : Bool := false
  tampered  : Bool := false
  /-- The firmware copy that runs, and its sequence (R378, R383). -/
  fwCopy    : Option Nat := none
  fwSeq     : Nat := 0
  /-- RECAST: the copy, its mailbox's acceptance instant, clusters done (R363). -/
  recast    : Option (Nat × Nat) := none
  /-- The clusters whose recast is under way, until their time copies have locked and their autostart engines have started (R364). -/
  recasts   : List Nat := []
  act       : Option Activation := none
  /-- A manager restart runs (R370). -/
  restart   : Bool := false
  /-- The customer pairs that a pause had halted when the restart ended it (R370, R387). -/
  paused    : List Nat := []
  deriving DecidableEq, Repr

/-- The core pairs beside their registers (R367, R370, R374). Memory is keyed by 0x100000 p plus the offset in the TCM window
of pair p (R390). -/
structure CoreSt where
  mem     : SMap Nat := []
  /-- Unread entries of each pair's event ring (R373). -/
  unread  : SMap Nat := []
  /-- When the watchdog was last restarted; none while it is suspended or no manager runs (R374). -/
  wdog    : Option Nat := none
  deriving DecidableEq, Repr

/-! ### The crucible (chapter 13) -/

/-- A record of the slot store (R396): key ID, class, algorithm, parent, pair mask, purpose, material, and whether the key was
generated inside the crucible (R413). -/
structure Stored where
  keyId   : Nat
  cls     : Nat
  alg     : Nat
  parent  : Nat
  pairs   : Nat
  purpose : Nat
  mat     : List Nat
  made    : Bool := false
  /-- In the store: its GMAC tag, of header and material (R396). -/
  tag     : List Nat := []
  /-- A role without material: the slot is EMPTY with its key ID (R407). -/
  vacant  : Bool := false
  deriving DecidableEq, Repr

/-- An operation of a port (R409, R410): what was commanded; whether it runs or waits for its turn, the slot whose key it uses,
its status, its result, and for a derivation the new key. -/
structure KeyOp where
  op      : Nat
  key     : Nat
  src     : Nat
  len     : Nat
  aad     : Nat
  dst     : Nat
  aux     : Nat
  running : Bool := false
  slot    : Option Nat := none
  status  : Nat := 0
  out     : List Nat := []
  newKey  : Option Stored := none
  deriving DecidableEq, Repr

/-- The crucible and the always-on island beside their registers. -/
structure CruSt where
  /-- The root, while the node is out of reset and unlocked; it is in no slot (R392). -/
  root     : List Nat := []
  /-- Working copies of key material, keyed by slot (R406). -/
  mat      : SMap (List Nat) := []
  /-- Slots whose key was generated inside the crucible (R413). -/
  made     : List Nat := []
  /-- The slot store on die S, kept without power (R396), and the slots that have become BAD (R407). -/
  store    : SMap Stored := []
  bad      : List Nat := []
  /-- When each provisioning ephemeral was made, by slot (R400). -/
  born     : SMap (Option Nat) := []
  /-- How often scrambling key and mask of a slot were renewed (R406). -/
  renewed  : SMap Nat := []
  /-- Slots whose renewal waits for the end of an operation (R406). -/
  renewDue : List Nat := []
  /-- A health test of the entropy source has failed, and the source has not passed since (R411). -/
  noEntropy : Bool := false
  /-- The stored tamper policy: responses of sources 0 to 5 (R418). -/
  policy   : List Nat := [2, 0, 2, 2, 1, 2]
  ops      : SMap (Option KeyOp) := []
  /-- The port whose turn it is (R409). -/
  turn     : Nat := 0
  /-- Reset with bench authority (R414 to R416). -/
  bench    : Bool := false
  /-- A tamper or a bench entry came before unlock of this start-up (R361, R415, R419). -/
  early    : Bool := false
  /-- The last recorded node time (R420). -/
  aonTime  : Nat := 0
  /-- Entries of the tamper log that the bench log has, and the records in its sector (R420). -/
  appended : List Nat := []
  benchLog : Nat := 0
  deriving DecidableEq, Repr

/-! ### Sleep and the bellows (chapter 14) -/

/-- A sleeping cluster: the instant (ns of node time) by which it must run and whether it is the scheduled target, until its wake
begins; and, until it runs again, what it
held when it went to sleep (R33): its pad output enables and values, its pad input levels and its time copy. -/
structure Nap where
  target : Option (Nat × Bool)
  outs   : Nat × Nat
  levels : Nat
  window : Nat
  deriving DecidableEq, Repr

/-- Sleep and the bellows beside their registers. -/
structure SleepSt where
  /-- When the node entered its sleep state, and the ns not yet counted as a ms in each state (R442). -/
  since   : Nat := 0
  rest    : SMap Nat := []
  naps    : SMap (Option Nap) := []
  /-- Clusters whose next start is the one of the node's admission, after which their autostart engines start (R36, R439). -/
  firsts  : List Nat := []
  /-- Accesses to a cluster in NAP or GATED that complete after its wake (R436): cluster and command. -/
  accesses : List (Nat × Instr) := []
  /-- Frames in the ingress buffer of each ring port (R426). -/
  ingress : SMap (List Frame) := []
  stowed  : Bool := false
  /-- A stowed node is being woken (R437, R441). -/
  waking  : Bool := false
  /-- Units that wait for a start, by kind of R439, in their order, and the instant of the last start of each kind. -/
  wanted  : SMap (List Nat) := []
  started : SMap (Option Nat) := []
  deriving DecidableEq, Repr

/-! ### Card power and feeds (chapter 15) -/

/-- What die W keeps of a FET, the card's or a feed's, beside its registers. Instants are in ns since power-on. -/
structure Fet where
  /-- Ticks that the fault timer holds from before limitAt; since when the limit is active; when it last went inactive for
  1 ms (R447). -/
  timer   : Nat := 0
  limitAt : Option Nat := none
  clearAt : Option Nat := none
  /-- When the gate was last commanded off, and the retries made (R448). -/
  offAt   : Option Nat := none
  retries : Nat := 0
  /-- The model's rise in °C (R450). -/
  rise    : Rat := 0
  /-- WAIT_TEMP was entered from SEAT; when FET_TSENSE was last measured (R451). -/
  cold    : Bool := false
  measAt  : Option Nat := none
  /-- When ON was entered; when power good asserted (R453, R454). -/
  onAt    : Option Nat := none
  pgAt    : Option Nat := none
  deriving DecidableEq, Repr

/-- Die W beside its registers. FETs are keyed by unit: feed n, 16 for the card (R459). -/
structure PowerSt where
  /-- Dies S, P0 and P1 have no power (R443). -/
  dieOff  : Bool := false
  fets    : SMap Fet := []
  /-- Since when REG_EN[i] is high (R455). -/
  enAt    : SMap (Option Nat) := []
  /-- Reports that wait for die S (R448, R461). -/
  waiting : List FaultInfo := []
  deriving DecidableEq, Repr
/-! ### Faults and quench (chapter 16) -/

/-- What a quench latched (R32, R478): node time, the register contents, and the units whose views are not registers. -/
structure Snapshot where
  time     : Nat
  regs     : SMap Nat
  pes      : SMap PE
  queues   : SMap Queue
  clusters : SMap Cluster
  chans    : SMap Chan
  sw       : SwSt
  /-- Output enables and values of the pads of each cluster (R478, kind 0x07). -/
  pads     : List (Nat × Nat)
  /-- The clusters that were asleep (R33). -/
  naps     : SMap (Option Nap)
  deriving DecidableEq, Repr

/-- The collector and the quench unit beside their registers. -/
structure FaultSt where
  /-- Sequence number of the next record (R460). -/
  seq       : Nat := 0
  /-- The instant (ns since power-on) at which the running FAULT_N pulse ends (R468). -/
  pulseEnd  : Option Nat := none
  /-- A NODE_RESET reaction waits for the end of the running pulse (R464). -/
  resetPending : Bool := false
  /-- The fault interrupt of the manager pair is raised (R466). -/
  irq       : Bool := false
  /-- Sequence numbers of the records that found no active head in the map, oldest first (R467). -/
  unsent    : List Nat := []
  /-- The snapshot held (R473). -/
  snap      : Option Snapshot := none
  /-- The instant taken at the last arming of the time match (R475). -/
  tmatch    : Nat := 0
  /-- The time match was armed by a ring broadcast (R476). -/
  byRing    : Bool := false
  /-- What a QUENCH command that armed the match said of broadcasts (R477). -/
  byCommand : Bool := false
  /-- Faults detected within this command that have not yet been through the collector, oldest first. -/
  due       : List FaultInfo := []
  /-- The level of the QUENCH ball, once it has lasted 20 ns (R472). -/
  pin       : Bool := false
  deriving DecidableEq, Repr
/-! ### Spares and anneal (chapter 17) -/

/-- What the wear unit keeps of an element: its score, the raw value of its lowest monitor, and its scores with the powered
hour of each (R481, R482, R499). -/
structure Gauge where
  score : Nat := 255
  raw   : Nat := 0
  hist  : List (Nat × Nat) := []
  deriving DecidableEq, Repr

/-- Wear beside its registers. Elements are keyed as Element.key (Machine/Wear.lean) says: by unit ID (R459) where they have one. -/
structure WearSt where
  gauges   : SMap Gauge := []
  /-- What the wear store holds of them, and the instant (ns since power-on) up to which WEAR_HOURS counts (R482). -/
  saved    : SMap Gauge := []
  written  : Nat := 0
  /-- Elements that WEAR_CTL.anneal made due (R498), and elements that anneals have retired (R485). -/
  forced   : List Nat := []
  retired  : List Nat := []
  /-- The bank that is being copied to the spare bank (R492). -/
  copying  : Option Nat := none
  /-- The seam (its opening, ns of node time) of the last anneal, and the pools annealed in it (R485). -/
  seam     : Option Nat := none
  pools    : List Nat := []
  deriving DecidableEq, Repr

/-- What the rule for a write and a hardware update in one cycle needs (R9): the fields that software has written in this
TIMECLK cycle, by key, and the bits of W1C fields that hardware has set in it, by key. -/
structure Race where
  wrote : List Nat := []
  set_  : SMap Nat := []
  deriving DecidableEq, Repr

/-- What leaves the block: completions of accesses, frames, records, messages and pin pulses, oldest first. -/
inductive Emit where
  /-- A register or memory access of `who` completes with status, detail, failing part index and data (R11, R124, R144). -/
  | done (who : Origin) (status detail idx : Nat) (data : List Nat)
  /-- A target-role channel makes an access to a domain address (R138). -/
  | access (who : Origin) (write acked : Bool) (addr size : Nat) (data : List Nat)
  /-- A frame leaves the switch core at an output: port, sub-queue or index there, frame (R166). -/
  | deliver (port sub : Nat) (f : Frame)
  /-- Ring port p sends a sheet (R197): the physical lane of each of its blocks (R194), and of a mirror that runs the lane and
  the spare that both carry its blocks (R221). -/
  | sheet (p : Nat) (x : Sheet) (lanes : List Nat) (mirror : Option (Nat × Nat))
  /-- Ring port p sends an ACK, LANE or FIDLE block between sheets: block type, payload, and its lane and a running mirror as for a
  sheet (R194, R196). -/
  | block (p type payload lane : Nat) (mirror : Option (Nat × Nat))
  /-- Ring port p sends an AM, a CAP block or, with type 0, the wake tone on physical lane l (R195, R217, R226). -/
  | laneBlock (p l type payload : Nat)
  /-- Ring port p sends IDLE blocks on these physical lanes: n on each, or from now on (R217, R220, R225). -/
  | idle (p : Nat) (lanes : List Nat) (n : Option Nat)
  /-- A whole frame has arrived on ring port p (R210). -/
  | received (p : Nat) (f : Frame)
  /-- A frame partly sent or received on ring port p is ended stomped (R201). -/
  | stomped (p : Nat)
  /-- A posted write into host memory (R278). -/
  | hostWrite (addr : Nat) (bytes : List Nat)
  /-- An MSI-X message: vector, address and data (R279). -/
  | msix (vector addr data : Nat)
  /-- A PCIe completion: tag, whether it is a Completer Abort, and the data (R273). -/
  | completion (tag : Nat) (abort : Bool) (data : List Nat)
  /-- A load or store of core c raises an access fault in it (R368). -/
  | accessFault (c : Nat) (store : Bool)
  /-- The boot ROM reports that a customer entry names pair p, which is not cast customer (R378). -/
  | pairIgnored (p : Nat)
  /-- An interrupt line of a core pair or of a cluster rises. -/
  | irq (unit : Nat) (line : Nat)
  /-- Die S sends a keep-alive to die P0, P1 or W: 0, 1, 2 (R21). -/
  | keepalive (die : Nat)
  /-- WIT_HEALTH changes level (R253). -/
  | witHealth (high : Bool)
  /-- FAULT_N changes level (R468). -/
  | faultN (low : Bool)
  /-- Die W drives the gate of FET u (feed u, 16 the card) on or off (R443, R457). -/
  | gate (u : Nat) (on : Bool)
  /-- Die W drives REG_EN[i] (R455). -/
  | regEn (i : Nat) (high : Bool)
  /-- CARD_PG changes level (R453). -/
  | cardPg (high : Bool)
  /-- EJECT_REQ_N is driven low (R452). -/
  | eject (low : Bool)
  deriving DecidableEq, Repr

/-- The block. -/
structure State where
  /-- The commands that wait, first in, first out. -/
  pending  : List Instr
  /-- What has left the block, oldest first. -/
  out      : List Emit
  /-- Node time in units of 2⁻¹⁶ ns since the PTP epoch (R289, R291). -/
  time     : Nat
  /-- Nanoseconds since power-on, for the timers that do not run on node time. -/
  now      : Nat
  /-- How many free values have been drawn. -/
  draws    : Nat
  /-- The registers that do not hold their reset value, keyed by bit address. -/
  regs     : SMap Nat
  /-- Memory: the bytes that are not 0, keyed by address. -/
  mem      : List Host.Cell
  lev      : LevelSt
  pes      : SMap PE
  cans     : SMap Can
  queues   : SMap Queue
  clusters : SMap Cluster
  chans    : SMap Chan
  sw       : SwSt
  transit  : SMap Transit
  gates    : GateSt
  links    : SMap LinkSt
  ring     : RingSt
  tim      : TimSt
  cst      : CastSt
  core     : CoreSt
  cru      : CruSt
  slp      : SleepSt
  pow      : PowerSt
  flt      : FaultSt
  wear     : WearSt
  host     : HostSt
  mbx      : SMap Mbx
  race     : Race
  deriving DecidableEq, Repr

/-- The block right after power-on reset: every register at its reset value (R10), every memory byte 0, no command
waiting. -/
def State.reset : State where
  pending  := []
  out      := []
  time     := 0
  now      := 0
  draws    := 0
  regs     := []
  mem      := []
  lev      := {}
  pes      := []
  cans     := []
  queues   := []
  clusters := []
  chans    := []
  sw       := {}
  transit  := []
  gates    := {}
  links    := []
  ring     := {}
  tim      := {}
  cst      := {}
  core     := {}
  cru      := {}
  slp      := {}
  pow      := {}
  flt      := {}
  wear     := {}
  host     := {}
  mbx      := []
  race     := {}

/-- Why a command could stop the machine. -/
inductive Fault where
  /-- Raised by no meaning: what the spec calls an error is a status, a count or a fault record (R11, R460). Safe. -/
  | none
  deriving DecidableEq, Repr

/-- Why a command could have no meaning. -/
inductive Refusal where
  /-- Raised by the arm of a command that has no meaning yet. Safe. -/
  | notModelled (mnemonic : String)
  deriving DecidableEq, Repr

end Sys2Proof.Machine
end

