-- ==== Sys2Proof/Machine/Ops.lean ====
section
/-! DEFINITION. Machine/Ops.lean: the named operations over registers, memory, time and what leaves the block, which
every meaning is written over. -/

namespace Sys2Proof.Machine

/-- The outcomes of a command (Host/Core.lean). -/
abbrev Out := Host.Outcome State Fault Refusal

/-! ### Registers -/

/-- The value of a field (R8, read). -/
def State.get (s : State) (f : Fld) : Nat := SMap.getD s.regs f.key f.reset

/-- Set a field, narrowed to its width. -/
def State.put (s : State) (f : Fld) (v : Nat) : State :=
  { s with regs := SMap.set s.regs f.key (v % 2 ^ f.width) f.reset }

/-- Set fields in turn. -/
def State.puts (s : State) : List (Fld × Nat) → State
  | [] => s
  | (f, v) :: l => (s.put f v).puts l

/-- A one-bit field as a Bool. -/
def State.flag (s : State) (f : Fld) : Bool := s.get f != 0

/-- Set a one-bit field to 1. -/
def State.raise (s : State) (f : Fld) : State := s.put f 1

/-- Hardware updates a field; one that software has written in the same cycle keeps the written value (R9). -/
def State.hw (s : State) (f : Fld) (v : Nat) : State := if s.race.wrote.contains f.key then s else s.put f v

/-- Hardware has a set event for these bits of a W1C field: they are 1, and a write of the same cycle does not clear them (R9). -/
def State.setEvent (s : State) (f : Fld) (v : Nat := 1) : State :=
  let t := s.put f (s.get f ||| v)
  { t with race := { t.race with set_ := SMap.insert t.race.set_ f.key (SMap.getD t.race.set_ f.key 0 ||| v) } }

/-- Clear a field. -/
def State.zero (s : State) (f : Fld) : State := s.put f 0

/-- Add n to a counter that stops at its greatest value. -/
def State.bumpBy (s : State) (f : Fld) (n : Nat) : State := s.hw f (min (s.get f + n) (2 ^ f.width - 1))

/-- Add 1 to a counter that stops at its greatest value. -/
def State.bump (s : State) (f : Fld) : State := s.bumpBy f 1

/-- Add 1 to a counter that wraps. -/
def State.bumpWrap (s : State) (f : Fld) : State := s.hw f (s.get f + 1)

/-- Keep only the register contents whose byte address satisfies p; every other register takes its reset value. -/
def State.keepRegs (s : State) (p : Nat → Bool) : State := { s with regs := s.regs.filter (fun e => p (e.1 / 8)) }

/-! ### What leaves the block -/

/-- Something leaves the block. -/
def State.emit (s : State) (e : Emit) : State := { s with out := s.out ++ [e] }

/-- An access or command of `who` completes with a status (R11), a detail and data. -/
def State.done (s : State) (who : Origin) (status : Nat) (detail : Nat := 0) (data : List Nat := []) (idx : Nat := 0) :
    State :=
  s.emit (.done who status detail idx data)

/-- A fault is detected; it goes through the collector before the command ends (R459). -/
def State.report (s : State) (f : FaultInfo) : State := { s with flt := { s.flt with due := s.flt.due ++ [f] } }

/-- The status codes (R11). -/
abbrev stOK : Nat := 0x00
abbrev stILLEGAL : Nat := 0x01
abbrev stSTATE : Nat := 0x02
abbrev stBUSY : Nat := 0x03
abbrev stRANGE : Nat := 0x04
abbrev stAUTH : Nat := 0x05
abbrev stFAULT : Nat := 0x06
abbrev stRETRY : Nat := 0x07
abbrev stTIMEOUT : Nat := 0x08
abbrev stNO_NODE : Nat := 0x09
abbrev stDISCARDED : Nat := 0x0A
abbrev stPARTIAL : Nat := 0x0B
abbrev stEMPTY : Nat := 0x0C

/-- An access is refused with STATE: it has no side effect but the block's refused counter (R12). -/
def State.refuse (s : State) (who : Origin) (counter : Fld) : State := (s.bump counter).done who stSTATE

/-! ### Originators -/

/-- The 16-bit unit ID of an originator (R459). -/
def originUnit : Origin → Nat
  | .host => 0x0020
  | .slot => 0x0021
  | .bench => 0x0002
  | .bootRom => 0x0001
  | .core c => 0x0400 + c.val
  | .channel c => 0x0300 + c.val

/-- The core pair that holds the manager role (R24, R371): CORE_ROLE.manager. -/
def State.managerPair (s : State) : Nat := s.get CORE_ROLE.manager

/-- The originator is a core of a pair other than the live manager pair: its writes to a guarded register complete with
AUTH (R24). -/
def State.foreignCore (s : State) : Origin → Bool
  | .core c => c.val / 2 != s.managerPair
  | _ => false

/-! ### Time -/

/-- Nanoseconds since the PTP epoch (R289). -/
def State.ns (s : State) : Nat := s.time / 65536

/-- Node time in units of 125 ps. -/
def State.t125 (s : State) : Nat := s.time / 8192

/-- The 48-bit nanosecond window of node time (R290); every locked cluster copy reads it (R86, R291). -/
def State.window (s : State) : Nat := s.time / 65536 % 2 ^ 48

/-- The TIMECLK tick that node time is in. -/
def State.tick (s : State) : Nat := s.time / 65536

/-- Time t of a w-bit window is reached at time now of the same window (R51). -/
def reached (w now t : Nat) : Bool := (now + 2 ^ w - t % 2 ^ w) % 2 ^ w < 2 ^ (w - 1)

/-- Seconds, nanoseconds and fraction of a node time (R289). -/
def timeSec (t : Nat) : Nat := t / 65536 / 1000000000
def timeNs (t : Nat) : Nat := t / 65536 % 1000000000
def timeFrac (t : Nat) : Nat := t % 65536

/-- The 14 bytes of a time in memory (R289). -/
def timeBytes (t : Nat) : List Nat := leBytes 2 (timeFrac t) ++ leBytes 4 (timeNs t) ++ leBytes 8 (timeSec t)

/-! ### Memory -/

/-- Every entry is a byte that is not 0, at strictly rising addresses. -/
def Memory.wf (m : List Host.Cell) : Bool := SMap.sorted m && m.all (fun e => e.2 != 0)

/-- Read one byte; an unlisted byte reads as 0 (log 4). -/
def State.byte (s : State) (a : Nat) : Nat := (SMap.getD s.mem a (0 : BitVec 8)).toNat

/-- Write one byte, keeping the canonical form. -/
def State.setByte (s : State) (a v : Nat) : State :=
  { s with mem := SMap.set s.mem a (BitVec.ofNat 8 v) 0 }

/-- Read n bytes from a. -/
def State.bytes (s : State) (a n : Nat) : List Nat := (List.range n).map (fun i => s.byte (a + i))

/-- Write bytes from a on. -/
def State.setBytes (s : State) (a : Nat) : List Nat → State
  | [] => s
  | b :: bs => (s.setByte a b).setBytes (a + 1) bs

/-! ### Units -/

/-- Engine n of cluster k. -/
def State.pe (s : State) (k n : Nat) : PE := SMap.getD s.pes (9 * k + n) {}
def State.setPe (s : State) (k n : Nat) (p : PE) : State := { s with pes := SMap.set s.pes (9 * k + n) p {} }

/-- Queue q of cluster k. -/
def State.queue (s : State) (k q : Nat) : Queue := SMap.getD s.queues (32 * k + q) {}
def State.setQueue (s : State) (k q : Nat) (x : Queue) : State :=
  { s with queues := SMap.set s.queues (32 * k + q) x {} }

/-- CAN FD controller j of cluster k. -/
def State.can (s : State) (k j : Nat) : Can := SMap.getD s.cans (2 * k + j) {}
def State.setCan (s : State) (k j : Nat) (x : Can) : State := { s with cans := SMap.set s.cans (2 * k + j) x {} }

/-- Cluster k. -/
def State.cluster (s : State) (k : Nat) : Cluster := SMap.getD s.clusters k {}
def State.setCluster (s : State) (k : Nat) (c : Cluster) : State := { s with clusters := SMap.set s.clusters k c {} }

/-- Bridge channel c. -/
def State.chan (s : State) (c : Nat) : Chan := SMap.getD s.chans c {}
def State.setChan (s : State) (c : Nat) (x : Chan) : State := { s with chans := SMap.set s.chans c x {} }

/-! ### Node state (R35, R36) -/

/-- The node states, coded as NODE_STATE.state (R288). -/
abbrev nsBOOT : Nat := 0
abbrev nsJOINING : Nat := 1
abbrev nsSERVICE : Nat := 2
abbrev nsORPHAN : Nat := 3
abbrev nsRECAST : Nat := 4
abbrev nsUPDATING : Nat := 5
abbrev nsTAMPERED : Nat := 6
abbrev nsHALTED : Nat := 7

def State.nodeState (s : State) : Nat := s.get NODE_STATE.state

/-- PE programs run in this node state (R35). -/
def State.programsRun (s : State) : Bool :=
  s.nodeState == nsSERVICE || s.nodeState == nsORPHAN || s.nodeState == nsRECAST || s.nodeState == nsUPDATING

/-- This node's ID (R230). -/
def State.nodeId (s : State) : Nat := s.get RING_NODEID.id

/-- The domain address of a node-space offset of this node (R267). -/
def State.domainAddr (s : State) (ofs : Nat) : Nat := s.nodeId * 0x10000000 + ofs

/-- A free value's next draw number. -/
def State.draw (s : State) : State := { s with draws := s.draws + 1 }

/-- The command has been carried out. -/
abbrev next (s : State) : Out := .next s

/-- The ring direction to node n (R172). -/
def State.ringDir (s : State) (n : Nat) : Nat := if s.get (RING_MAP.hops_e n) ≤ s.get (RING_MAP.hops_w n) then 0 else 1

/-- This node's time extension of kind and scale at node time t (R235, R290). -/
def extOf (t : Nat) (launch : Bool) : TimeExt := ⟨t / 65536 % 2 ^ 48, t / 256 % 256, false, launch⟩

/-- A frame waits at an input of the switch core (R162). -/
def State.toSwitch (s : State) (p : Nat) (x : SwIn) : State :=
  { s with sw := { s.sw with held := SMap.set s.sw.held p (SMap.getD s.sw.held p [] ++ [{ x with since := some s.time }]) [] } }

/-- A frame that a unit of this node sends on ring output p waits at the cores input of the switch core (R168, R342; log 293). -/
def State.toRingPort (s : State) (p : Nat) (f : Frame) : State := s.toSwitch 5 { frame := f, route := .port p 0 f.cls }

/-- A message of this node to node f.dst goes towards it (R172); to itself it goes to its cores. -/
def State.toRing (s : State) (f : Frame) : State :=
  if f.dst = s.nodeId then s.toRingPort 5 f else s.toRingPort (s.ringDir f.dst) f

/-- A domain broadcast leaves on both ring ports, as CYCLE_START and SYNC do (R187; log 293). -/
def State.broadcast (s : State) (f : Frame) : State := (s.toRingPort 0 f).toRingPort 1 f

end Sys2Proof.Machine
end

