-- ==== Sys2Proof/Machine/Queues.lean ====
section
/-! DEFINITION. Machine/Queues.lean: the cluster queues (R103 to R114): pushes under the rules of the two classes, pops,
held bus reads and the LEVEL interrupt. -/

namespace Sys2Proof.Machine

/-- Tag bits (R64). -/
abbrev tagEND : Nat := 1
abbrev tagEVENT : Nat := 2
abbrev tagGAP : Nat := 4
abbrev tagERR : Nat := 8

def State.qOn (s : State) (k q : Nat) : Bool := s.flag (CL_QCFG.en k q)
def State.qStream (s : State) (k q : Nat) : Bool := s.flag (CL_QCFG.class_ k q)
def State.qCast (s : State) (k q : Nat) : Nat := s.get (CL_QCFG.depth k q)

/-- The depth, a GAP marker counted (R106). -/
def State.qDepth (s : State) (k q : Nat) : Nat := (s.queue k q).words.length

/-- The queue is full (R106); a disabled one holds nothing and is not (R104). -/
def State.qFull (s : State) (k q : Nat) : Bool :=
  s.qOn k q && if s.qStream k q then decide (s.qCast k q ≤ s.qDepth k q + 1) else decide (s.qCast k q ≤ s.qDepth k q)

/-- A write pointer after one more word; pointers count from the queue's base and wrap at its cast depth. -/
def bumpPtr (cast p : Nat) : Nat := if p + 1 ≥ cast then 0 else p + 1

/-- Note the depth at the start of PORTCLK cycle c, before its first change (R114). -/
def Queue.noted (x : Queue) (c : Nat) : Queue :=
  if x.cyc.any (fun e => e.1 == c) then x else { x with cyc := some (c, x.words.length) }

/-- Append a word. -/
def Queue.add (x : Queue) (cast : Nat) (w : QWord) (gap : Bool) : Queue :=
  { x with words := x.words ++ [w], gapOpen := gap, wr := bumpPtr cast x.wr, wr2 := bumpPtr cast x.wr2 }

/-- The open marker counts one more word; it stops at 0xFF_FFFF (R109). -/
def bumpGap : List QWord → Nat → List QWord
  | [], _ => []
  | [w], n => [{ w with data := w.data / 2 ^ 24 * 2 ^ 24 + min (w.data % 2 ^ 24 + n) 0xFFFFFF }]
  | w :: ws, n => w :: bumpGap ws n

/-- The cluster interrupt of kind bit b of CL_IRQ and CL_IRQEN rises. -/
def State.clusterIrq (s : State) (k : Nat) (f en : Fld) : State :=
  let s := s.setEvent f
  if s.flag en then s.emit (.irq (0x0700 + k) f.lsb) else s

/-- The present PORTCLK cycle. -/
def State.portCycle (s : State) : Nat := s.now / 2

/-- Queue q of cluster k with its depth at the start of the present PORTCLK cycle noted. -/
def State.qNoted (s : State) (k q : Nat) : Queue := (s.queue k q).noted s.portCycle

/-- The depth at the start of the present PORTCLK cycle (R114). -/
def State.qStart (s : State) (k q : Nat) : Nat := ((s.qNoted k q).cyc.map (·.2)).getD 0

/-- The words that a consumer may take: a queue that was empty at the start of the cycle gives none in it (R114). -/
def State.qWords (s : State) (k q : Nat) : List QWord := if s.qStart k q = 0 then [] else (s.queue k q).words

/-- LEVEL, at the end of a PORTCLK cycle: the bit is set when the depth went from below LEVEL to LEVEL or more over the cycle
(R113, R114). -/
def State.qLevel (s : State) (k q before : Nat) : State :=
  let lv := s.get (CL_QCTL.level k q)
  if lv ≠ 0 ∧ before < lv ∧ lv ≤ s.qDepth k q then
    let s := s.setEvent (CL_QIRQ.level k) (2 ^ q)
    if bit (s.get (CL_QIRQEN.level_en k)) q then s.emit (.irq (0x0700 + k) (32 + q)) else s
  else s

/-- Take the oldest word out. -/
def State.qTake (s : State) (k q : Nat) : State :=
  let x := s.qNoted k q
  s.setQueue k q { x with
    words := x.words.tail, gapOpen := x.gapOpen && x.words.length ≥ 2,
    rd := bumpPtr (s.qCast k q) x.rd, rd2 := bumpPtr (s.qCast k q) x.rd2 }

/-- The status word of a pop (R111): tag, status and depth left. -/
def popWord (tag status depth : Nat) : Nat := tag + 256 * status + 65536 * depth

/-- Pop up to n units of a burst read into data and status word pairs; an empty queue gives EMPTY (R269). -/
def State.popUnits (s : State) (k q : Nat) : Nat → State × List Nat
  | 0 => (s, [])
  | n + 1 =>
    match (s.queue k q).words with
    | [] =>
      let r := s.popUnits k q n
      (r.1, 0 :: popWord 0 stEMPTY 0 :: r.2)
    | w :: _ =>
      let s := s.qTake k q
      let here := [w.data, popWord w.tag stOK (s.qDepth k q)]
      let r := s.popUnits k q n
      (r.1, here ++ r.2)

/-- A bus read pops: a single pop copies the data into CL_QDATA, a burst read leaves it (R111, R269). -/
def State.busPop (s : State) (k q : Nat) (h : HeldRead) : State :=
  match h.burst with
  | none =>
    match (s.queue k q).words with
    | [] => (s.zero (CL_QDATA.data k q)).done h.who stOK 0 [popWord 0 stEMPTY 0]
    | w :: _ =>
      let s := (s.qTake k q).put (CL_QDATA.data k q) w.data
      s.done h.who stOK 0 [popWord w.tag stOK (s.qDepth k q)]
  | some n =>
    let r := s.popUnits k q n
    r.1.done h.who stOK 0 r.2

/-- n units without a word. -/
def emptyUnits (n status : Nat) : List Nat := (List.range n).flatMap (fun _ => [0, popWord 0 status 0])

/-- A held read ends with EMPTY (R110, R111). -/
def State.endRead (s : State) (k q : Nat) (h : HeldRead) : State :=
  match h.burst with
  | none => (s.zero (CL_QDATA.data k q)).done h.who stOK 0 [popWord 0 stEMPTY 0]
  | some n => s.done h.who stOK 0 (emptyUnits n stEMPTY)

/-- Held reads take the words that arrived in the cycle before, the oldest read first; one whose wait had passed before that cycle
ends with EMPTY (R110, R114). -/
def State.qServe (s : State) (k q : Nat) : Nat → State
  | 0 => s
  | n + 1 =>
    let x := s.queue k q
    match x.held, x.words with
    | h :: hs, _ :: _ =>
      let s := s.setQueue k q { x with held := hs }
      (if h.until_ + 2 < s.now then s.endRead k q h else s.busPop k q h).qServe k q n
    | _, _ => s

/-- A push that the queue takes now: a disabled queue discards and counts it (R104), a stream queue applies R108, a control
queue stores it. Where a CAN FD record has taken the reserved slot, there is no place for a marker and the word is
only counted (R101; DESIGN CHOICE, log 253). -/
def State.qPush (s : State) (k q : Nat) (w : QWord) : State :=
  let x := s.qNoted k q
  let d := x.words.length
  if !s.qOn k q then s.bump (CL_QDROP.drops k q)
  else if s.qStream k q then
    if d + 2 ≤ s.qCast k q then s.setQueue k q (x.add (s.qCast k q) w false)
    else
      let s := s.bump (CL_QDROP.drops k q)
      if x.gapOpen then s.setQueue k q { x with words := bumpGap x.words 1 }
      else if s.qCast k q ≤ d then s
      else s.setQueue k q (x.add (s.qCast k q) ⟨1, tagGAP⟩ true)
  else s.setQueue k q (x.add (s.qCast k q) w false)

/-- A word pushed now enters the queue and is not dropped (R104, R108). -/
def State.qTakes (s : State) (k q : Nat) : Bool :=
  s.qOn k q && (!s.qStream k q || decide (s.qDepth k q + 2 ≤ s.qCast k q))

/-- A writer other than the bus must wait: the queue is an enabled control queue that is full (R107). -/
def State.qHolds (s : State) (k q : Nat) : Bool := s.qOn k q && !s.qStream k q && s.qFull k q

/-- A push that waits for nothing: one of the bus is ignored with overrun when the control queue is full (R107); a word with an
event interrupt raises it as it enters (R67). -/
def State.qPushNow (s : State) (k q : Nat) (l : LatePush) : State :=
  if l.bus && s.qHolds k q then
    ((s.setEvent (CL_QSTAT.overrun k q)).clusterIrq k (CL_IRQ.overrun k) (CL_IRQEN.overrun k)).bump (CL_QDROP.drops k q)
  else
    let t := s.qPush k q l.word
    if l.raise_ && s.qTakes k q then t.clusterIrq k (CL_IRQ.event k) (CL_IRQEN.event k) else t

/-- A push meets the queue: into a full queue without an open marker it is decided at the end of the cycle, and so are those that come
after it (R114). -/
def State.qOffer (s : State) (k q : Nat) (l : LatePush) : State :=
  let x := s.queue k q
  if x.late ≠ [] ∨ (s.qFull k q = true ∧ x.gapOpen = false) then s.setQueue k q { x with late := x.late ++ [l] }
  else s.qPushNow k q l

/-- The end of a PORTCLK cycle at queue q: the pushes that found it full are decided, and LEVEL is tested (R113, R114). -/
def State.qCycleEnd (s : State) (k q : Nat) : State :=
  let late := (s.queue k q).late
  let s := s.setQueue k q { s.queue k q with late := [] }
  let s := late.foldl (fun s l => s.qPushNow k q l) s
  match (s.queue k q).cyc with
  | none => s
  | some e => (s.setQueue k q { s.queue k q with cyc := none }).qLevel k q e.2

/-- The queues that any command has touched. -/
def State.clusterQueues (s : State) : List (Nat × Nat) := s.queues.map (fun e => (e.1 / 32, e.1 % 32))

/-- The begin of a PORTCLK cycle: the one before it ends at every queue, and held reads take what has arrived (R110, R114). -/
def State.queuesCycle (s : State) : State :=
  let qs := s.clusterQueues
  let s := qs.foldl (fun s e => s.qCycleEnd e.1 e.2) s
  qs.foldl (fun s e => s.qServe e.1 e.2 (s.queue e.1 e.2).held.length) s

/-- A push of the bus (R107, R114). -/
def State.qBusPush (s : State) (k q : Nat) (w : QWord) : State := s.qOffer k q { word := w, bus := true }

/-- Push several words in order. -/
def State.qPushAll (s : State) (k q : Nat) : List QWord → State
  | [] => s
  | w :: ws => (s.qPush k q w).qPushAll k q ws

/-- There is room for n words, the reserved slot of a stream queue counted (R101). -/
def State.qRoom (s : State) (k q n : Nat) : Bool := s.qOn k q && decide (s.qDepth k q + n ≤ s.qCast k q)

/-- Empty the queue without a marker (R112, q_reset). -/
def State.qClear (s : State) (k q : Nat) : State :=
  let x := s.qNoted k q
  s.setQueue k q { x with words := [], late := [], gapOpen := false, rd := 0, wr := 0, rd2 := 0, wr2 := 0 }

end Sys2Proof.Machine
end

