-- ==== Sys2Proof/Machine/Channels.lean ====
section
/-! DEFINITION. Machine/Channels.lean: a bridge channel's configuration, the completion of its requests, its held results and
read-ahead buffer, and what happens when its server stops (R116, R127, R133 to R136, R143, R145). -/

namespace Sys2Proof.Machine

/-- The unit ID of channel c (R459). -/
def unitCHAN (c : Nat) : Nat := 0x0300 + c

/-- A channel's cast fields. -/
def State.chMode (s : State) (c : Nat) : Nat := s.get (BRG_CHCFG.mode (c / 8) (c % 8))
def State.chTarget (s : State) (c : Nat) : Bool := s.flag (BRG_CHCFG.role (c / 8) (c % 8))
def State.chCluster (s : State) (c : Nat) : Nat := 3 * (c / 8) + s.get (BRG_CHCFG.cluster (c / 8) (c % 8)) % 3
def State.chUnit (s : State) (c : Nat) : Nat := 2 ^ s.get (BRG_CHCFG.unit (c / 8) (c % 8))
def State.chOutQ (s : State) (c : Nat) : Nat := s.get (BRG_CHQ.out_q (c / 8) (c % 8))
def State.chInQ (s : State) (c : Nat) : Nat := s.get (BRG_CHQ.in_q (c / 8) (c % 8))

/-- The read-ahead size S in bytes: PLAIN windows only (R125). Codes 5 to 7, which have no meaning, are no read-ahead (DESIGN CHOICE,
log 288). -/
def State.chAhead (s : State) (c : Nat) : Nat :=
  if s.flag (BRG_CHCFG.effect (c / 8) (c % 8)) then 0
  else match s.get (BRG_CHCFG.ra (c / 8) (c % 8)) with
    | 1 => 8
    | 2 => 16
    | 3 => 32
    | 4 => 64
    | _ => 0

/-- A controller-role channel in window mode: it serves its window (R122). -/
def State.chServes (s : State) (c : Nat) : Bool := s.chMode c == 1 && !s.chTarget c

/-- Non-posted requests open on a channel: between parts or on the far side, their requested bytes not yet complete, and those of a
target-role channel that wait for their result (R130). One that waits in the line is not yet open (R137, R145). -/
def Chan.openCount (x : Chan) : Nat :=
  let np := fun (r : ChReq) => (!r.write || r.acked) && !r.answered
  (x.between.filter np).length + ((x.flight.map (·.req)).filter np).length +
    ((x.targets.filter (fun y => y.result.isNone)).length + x.crossing.length)

/-- The domain address of an offset of window c (R121). -/
def State.windowAddr (s : State) (c ofs : Nat) : Nat := s.domainAddr (0x3000000 + c * 0x100000 + ofs)

/-- The window timers in ns (R127, R131, R135). -/
def clampTimer (v : Nat) : Nat := if v = 0 then 1 else min v 10000
def State.farTo (s : State) (c : Nat) : Nat := 1000 * clampTimer (s.get (BRG_CHTIMER.far_to (c / 8) (c % 8)))
def State.raLife (s : State) (c : Nat) : Nat := 1000 * max 1 (s.get (BRG_CHTIMER.ra_life (c / 8) (c % 8)))
def State.discardTimer (s : State) (c : Nat) : Nat := 10000 * clampTimer (s.get (BRG_DISCARD.timer (c / 8)))

/-- BRG_CHERR holds the channel's latest failure (R143). -/
def State.chError (s : State) (c status detail idx extra node ofs : Nat) : State :=
  let r := c / 8
  let n := c % 8
  (s.setEvent (BRG_CHERR1.valid r n)).puts [(BRG_CHERR0.status r n, status), (BRG_CHERR0.detail r n, detail), (BRG_CHERR0.index r n, idx),
    (BRG_CHERR0.extra r n, extra), (BRG_CHERR1.offset r n, ofs), (BRG_CHERR1.node r n, node)]

/-- A failure with no open request: fault source 0x11 (R143). -/
def State.farFault (s : State) (c status detail idx ofs acc : Nat) : State :=
  s.report { src := 0x11, master := unitCHAN c, addr := s.windowAddr c ofs, acc := acc, status := status, detail := detail
             extra := idx }

/-- Records and posted writes dropped (R120, R145, R148). -/
def State.chDrop (s : State) (c : Nat) : State := s.bump (BRG_CHCNT0.drop (c / 8) (c % 8))

/-- A held result is discarded: fault source 0x13 (R135). -/
def State.discardHeld (s : State) (c : Nat) (h : HeldResult) : State :=
  (s.bump (BRG_CHCNT0.discard (c / 8) (c % 8))).report
    { src := 0x13, master := originUnit h.who, addr := s.windowAddr c h.ofs, acc := 1, status := stDISCARDED, detail := 0x11
      extra := c }

/-- Keep a result as a held result, or discard it when the channel holds 4 (R133). -/
def State.holdResult (s : State) (c : Nat) (h : HeldResult) : State :=
  let x := s.chan c
  if 4 ≤ x.held.length then s.discardHeld c h else s.setChan c { x with held := x.held ++ [h] }

/-- BRG_CHSTAT.last_status (R156). -/
def State.lastStatus (s : State) (c status : Nat) : State := s.put (BRG_CHSTAT.last_status (c / 8) (c % 8)) status

/-- A load of core k from an offset of a node completed with a status other than OK (R143, R368). -/
def State.coreFault (s : State) (k node ofs status detail : Nat) : State :=
  let p := k / 2
  (s.puts [(CORE_FAULT0.status p, status), (CORE_FAULT0.detail p, detail), (CORE_FAULT0.core p, k % 2), (CORE_FAULT0.node p, node),
    (CORE_FAULT1.offset p, ofs)]).emit (.accessFault k false)

/-- A request is answered; a read by a core of this node that fails is a load access fault (R133, R143). -/
def State.chAnswer (s : State) (c : Nat) (r : ChReq) (status detail : Nat) (data : List Nat) (idx : Nat) : State :=
  let s := match r.who with
    | .core k =>
      if !r.write && r.node == s.nodeId && status != stOK then
        s.coreFault k s.nodeId (0x3000000 + c * 0x100000 + r.ofs) status detail
      else s
    | _ => s
  s.done r.who status detail data idx

/-- The result of a non-posted request goes to its originator, or is held when the deadline has passed (R133); one that a
later write overlaps is discarded instead (R136). -/
def State.chReturn (s : State) (c : Nat) (r : ChReq) (status detail : Nat) (data : List Nat) (idx : Nat) (exc : Nat := 0) : State :=
  let s := s.lastStatus c status
  if r.late then
    let h : HeldResult := ⟨r.who, r.node, r.ofs, r.size, status, detail, idx, data, s.now, exc⟩
    if r.stale then s.discardHeld c h else s.holdResult c h
  else s.chAnswer c r status detail data idx

/-- A request completes with a status (R124, R133, R143): to its originator, as a held result when its deadline has passed,
and as a fault record when no request is open. -/
def State.chFinish (s : State) (c : Nat) (r : ChReq) (status detail extra idx : Nat) (data : List Nat) : State :=
  let s := if status = stOK then s else s.chError c status detail idx extra r.node r.ofs
  if r.write && !r.acked then
    let s := s.lastStatus c status
    if status = stOK then s else s.farFault c status detail idx r.ofs 2
  else
    let s := if r.late && status != stOK then s.farFault c status detail idx r.ofs 1 else s
    s.chReturn c r status detail data idx extra

/-- Discard the read-ahead buffer; bytes never consumed are reported as source 0x12 (R127). -/
def State.dropAhead (s : State) (c : Nat) : State :=
  let x := s.chan c
  match x.ahead with
  | [] => s.setChan c { x with filled := none }
  | (a, _) :: _ =>
    let s := s.setChan c { x with ahead := [], filled := none }
    (s.bump (BRG_CHCNT1.pf_disc (c / 8) (c % 8))).report
      { src := 0x12, master := unitCHAN c, addr := s.windowAddr c a, acc := 1, extra := x.ahead.length }

/-- A posted item that waits in the channel is dropped and counted, and reported with a detail if asked (R28, R145). -/
def State.dropPosted (s : State) (c detail : Nat) (report : Bool) : ChItem → State
  | .write r =>
    let s := s.chDrop c
    if report then (s.chError c stFAULT detail 0 0 r.node r.ofs).farFault c stFAULT detail 0 r.ofs 2 else s
  | .record _ => s.chDrop c

/-- The result of a target access is known: the channel's status, and its failure if it is one (R143, R156). -/
def State.targetNote (s : State) (c : Nat) (y : Target) (e : TargetEnd) : State :=
  let s := s.lastStatus c e.status
  if e.status = stOK then s else s.chError c e.status e.detail e.idx e.exc s.nodeId y.ofs

/-- The held result of a read whose far master has gone (R133, R142). -/
def State.heldOf (s : State) (c : Nat) (y : Target) (e : TargetEnd) : HeldResult :=
  ⟨.channel (Fin.ofNat 32 c), s.nodeId, y.ofs, y.size, e.status, e.detail, e.idx, leBytes y.size e.value, s.now, e.exc⟩

/-- The result of a transfer that had received RETRY: a read's becomes a held result, or is discarded where a later write overlaps
it, and a failure is a fault record (R136, R142, R143). -/
def State.crossingDone (s : State) (c : Nat) (y : Target) (e : TargetEnd) : State :=
  let s := s.targetNote c y e
  let s := if e.status = stOK then s else s.farFault c e.status e.detail e.idx y.ofs (if y.write then 2 else 1)
  if y.write then s else if y.stale then s.discardHeld c (s.heldOf c y e) else s.holdResult c (s.heldOf c y e)

/-- The open accesses of a target-role channel complete with FAULT and a detail (R145): in their response records, and those
in back-off as R142 says of a transfer whose far master has gone. -/
def State.abortTargets (s : State) (c detail : Nat) : State :=
  let x := s.chan c
  let e : TargetEnd := { status := stFAULT, detail := detail }
  let open_ := x.targets.filter (fun y => y.result.isNone)
  let s := s.setChan c { x with
    targets := x.targets.map (fun y => if y.result.isNone then { y with result := some e } else y), crossing := [] }
  let s := open_.foldl (fun s y => s.targetNote c y e) s
  x.crossing.foldl (fun s y => s.crossingDone c y e) s

/-- Every open request of the channel completes with FAULT and a detail, every posted item that waits is dropped (R28,
R145). A request whose bytes have been returned and that only reads ahead ends quietly (R128). -/
def State.chAbort (s : State) (c detail : Nat) (report : Bool) : State :=
  let x := s.chan c
  let reqs := (x.flight.map (·.req) ++ x.between ++ x.line).filter (fun r => !r.answered)
  let s := s.setChan c { x with
    posted := [], line := [], flight := [], between := [], filling := false, waitPart := none
    filled := if x.filling then some s.now else x.filled }
  let s := reqs.foldl (fun s r => s.chFinish c r stFAULT detail 0 r.done (List.replicate r.size 0)) s
  (x.posted.foldl (fun s i => s.dropPosted c detail report i) s).abortTargets c detail

/-- The window-mode channels that engine n of cluster k serves: its RX port reads their out queue (R116, R145). -/
def State.servedBy (s : State) (k n : Nat) : List Nat :=
  ((List.range 8).map (fun m => 8 * (k / 3) + m)).filter (fun c =>
    s.chMode c == 1 && s.chCluster c == k && s.flag (PE_QBIND.rx_en k n) && s.get (PE_QBIND.rx_queue k n) == s.chOutQ c)

/-- The serving engine stops (R145). -/
def State.serverStops (s : State) (k n : Nat) : State :=
  (s.servedBy k n).foldl (fun s c =>
    let s := s.chAbort c 0x0B true
    s.setChan c { s.chan c with noServer := true }) s

/-- The serving engine is started again (R145). -/
def State.serverStarts (s : State) (k n : Nat) : State :=
  (s.servedBy k n).foldl (fun s c => s.setChan c { s.chan c with noServer := false }) s

/-- Open transactions towards cluster k complete with "reset of serving cluster" (R28). -/
def State.clusterTransactions (s : State) (k : Nat) : State :=
  ((List.range 8).map (fun m => 8 * (k / 3) + m)).foldl (fun s c =>
    if s.chMode c != 0 && s.chCluster c == k then s.chAbort c 0x0A false else s) s

/-- PORT_STOP of channel c (R463). -/
def State.chanStop (s : State) (c : Nat) : State :=
  let s := s.chAbort c 0x0B true
  s.setChan c { s.chan c with stopped := true }

/-- Unit reset of channel c (R23, R145): open requests fail with detail 0x10, posted writes are dropped and counted, held
results and the read-ahead buffer are freed without a report, event numbers start again (R147). The responses of a target-role
channel's requests are still to be written; what waits in the switch core stays there (R130); an engine that has stopped stays
so. -/
def State.chanReset (s : State) (c : Nat) : State :=
  let t := (s.setChan c { s.chan c with held := [] }).chAbort c 0x10 false
  t.setChan c { targets := (t.chan c).targets, kept := (s.chan c).kept, noServer := (s.chan c).noServer }

end Sys2Proof.Machine
end

