-- ==== Sys2Proof/Machine/Records.lean ====
section
/-! DEFINITION. Machine/Records.lean: records of queue words: frame records of CAN FD controllers and routing channels (R99,
R148), requests and responses (R118, R119). -/

namespace Sys2Proof.Machine

/-- Tag tests (R64). -/
def hasEnd (w : QWord) : Bool := bit w.tag 0
def hasEvent (w : QWord) : Bool := bit w.tag 1
def hasGap (w : QWord) : Bool := bit w.tag 2
def hasErr (w : QWord) : Bool := bit w.tag 3

/-- The words up to and including the first END, and the rest; none while no END has come. -/
def takeRecord : List QWord → Option (List QWord × List QWord)
  | [] => none
  | w :: ws => if hasEnd w then some ([w], ws) else (takeRecord ws).map (fun r => (w :: r.1, r.2))

/-- The data bytes of a DLC: CAN FD frames go beyond 8 (ISO 11898-1). -/
def dlcBytes (fd : Bool) (dlc : Nat) : Nat :=
  if dlc ≤ 8 then dlc else if fd then [12, 16, 20, 24, 32, 48, 64].getD (dlc - 9) 64 else 8

/-- The words of a frame record by its first two words: the launch or stamp words and the data of its DLC (R99). -/
def recordLen (w0 w1 : Nat) : Nat :=
  2 + (if bit w1 6 then 2 else 0) + (dlcBytes (bit w0 30) (w1 % 16) + 3) / 4

/-- A whole frame record: its length fits its DLC, word 1 has no reserved bit, only the last word has END, none is a
marker or an EVENT (R99, R148). R99 names the word count and the END: that bits [31:7] of word 1 are judged, and that a marker or an
EVENT word makes the record malformed, is the model's (DESIGN CHOICE, log 247). -/
def recordOk (ws : List QWord) : Bool :=
  match ws with
  | a :: b :: _ => decide (ws.length = recordLen a.data b.data) && decide (b.data < 128) &&
      ws.all (fun w => !hasGap w && !hasEvent w)
  | _ => false

/-- The launch time in LDT format of a record (R65): units of 125 ps in the 51-bit window. -/
def launchOf (lo hi : Nat) : Nat := 8 * (lo + 2 ^ 32 * (hi % 2 ^ 16)) + bits hi 16 3

/-- Take n words out of a queue. -/
def State.qTakeN (s : State) (k q : Nat) : Nat → State
  | 0 => s
  | n + 1 => (s.qTake k q).qTakeN k q n

/-- The words of a record as bytes, first byte first. -/
def recordBytes (ws : List QWord) : List Nat := ws.flatMap (fun w => leBytes 4 w.data)

/-- A record of words, END on the last. -/
def endLast (ws : List Nat) : List QWord := ws.zipIdx.map (fun e => ⟨e.1, if e.2 + 1 = ws.length then tagEND else 0⟩)

/-- A record whose words are those bytes, END on the last. -/
def bytesRecord (bs : List Nat) : List QWord := endLast (toWords bs)

/-- A routed record's bytes as a transmit record: launch = 0 and no stamp words (R99, R148, R149). -/
def toTransmit (bs : List Nat) : List QWord :=
  match toWords bs with
  | a :: b :: rest => if bit b 6 then endLast (a :: (b - 64) :: rest.drop 2) else endLast (a :: b :: rest)
  | ws => endLast ws

end Sys2Proof.Machine
end

