-- ==== Sys2Proof/Machine/CanFrame.lean ====
section
/-! DEFINITION. Machine/CanFrame.lean: the bit times of the CAN FD controllers (R97) and the bits of their frames (R96), which R96
takes from ISO 11898-1:2015 (log 252). -/

namespace Sys2Proof.Machine

/-- The nominal time quantum and bit time of a controller in ns of cluster time (R97), and those of its data phase. -/
def State.canQuantum (s : State) (k j : Nat) : Nat := s.get (CL_CANNBT.nbrp k j) + 1
def State.canBitTime (s : State) (k j : Nat) : Nat :=
  s.canQuantum k j * (3 + s.get (CL_CANNBT.nseg1 k j) + s.get (CL_CANNBT.nseg2 k j))
def State.canDataQuantum (s : State) (k j : Nat) : Nat := s.get (CL_CANDBT.dbrp k j) + 1
def State.canDataBitTime (s : State) (k j : Nat) : Nat :=
  s.canDataQuantum k j * (3 + s.get (CL_CANDBT.dseg1 k j) + s.get (CL_CANDBT.dseg2 k j))

/-- The sample points in ns after the begin of a bit: the ends of seg1 (R97). -/
def State.canSample (s : State) (k j : Nat) : Nat := s.canQuantum k j * (2 + s.get (CL_CANNBT.nseg1 k j))
def State.canDataSample (s : State) (k j : Nat) : Nat := s.canDataQuantum k j * (2 + s.get (CL_CANDBT.dseg1 k j))

/-- The n low bits of a value, most significant first; true is recessive. -/
def msbBits (n v : Nat) : List Bool := (List.range n).map (fun i => bit v (n - 1 - i))

/-- How long a bit lasts: a nominal bit, a data-phase bit, the BRS bit and the CRC delimiter of a frame that switches its rate (the
rate changes at their sample points). -/
inductive CanPhase where
  | nominal | data | brs | delimiter
  deriving DecidableEq, Repr

/-- Bits of a frame with their phases. -/
abbrev CanBits := List (Bool × CanPhase)

/-- The identifier of a frame up to its IDE bit, or past the extension: base, then SRR, IDE and 18 more bits (R96, R99). -/
def canIdBits (w0 : Nat) (remote : Bool) : List Bool :=
  if bit w0 29 then msbBits 11 (w0 / 2 ^ 18) ++ [true, true] ++ msbBits 18 w0 ++ [remote]
  else msbBits 11 w0 ++ [remote, false]

/-- The bits of a frame from SOF to its last data bit, without stuff bits: classical (RTR, IDE, the reserved bits, DLC) or CAN FD
(RRS, FDF, the reserved bit, BRS, ESI, DLC). A remote frame has no data. -/
def canHeader (w0 w1 : Nat) (esi : Bool) (data : List Nat) : CanBits :=
  let fd := bit w0 30
  let fast := bit w0 31
  let body := msbBits 4 w1 ++ (if !fd && bit w1 5 then [] else (data.take (dlcBytes fd (w1 % 16))).flatMap (msbBits 8))
  if fd then
    let after := if fast then CanPhase.data else .nominal
    ([false] ++ canIdBits w0 false ++ [true, false]).map (fun b => (b, .nominal)) ++ [(fast, if fast then .brs else .nominal)] ++
      (esi :: body).map (fun b => (b, after))
  else
    ([false] ++ canIdBits w0 (bit w1 5) ++ (if bit w0 29 then [false, false] else [false]) ++ body).map (fun b => (b, .nominal))

/-- Dynamic stuffing: after five equal bits one of the other level, in the phase of the last of them. run counts the equal bits so
far; the end of the list gets one too only where last says so. Answers the bits and how many were stuffed. -/
def canStuff (last : Bool) : Option Bool → Nat → CanBits → CanBits × Nat
  | _, _, [] => ([], 0)
  | prev, run, (b, p) :: bs =>
    let run := if prev = some b then run + 1 else 1
    if run = 5 && (last || !bs.isEmpty) then
      let r := canStuff last (some !b) 1 bs
      ((b, p) :: ((!b), if p = .brs then .data else p) :: r.1, r.2 + 1)
    else
      let r := canStuff last (some b) run bs
      ((b, p) :: r.1, r.2)

/-- The CRC of n bits with polynomial poly over a list of bits, from a start value. -/
def canCrc (n poly start : Nat) (bs : List Bool) : Nat :=
  bs.foldl (fun c b =>
    let c' := c * 2 % 2 ^ n
    if bit c (n - 1) != b then c' ^^^ poly else c') start

/-- The stuff count of a CAN FD frame: the count modulo 8 in Gray code, and its even parity. -/
def canStuffCount (n : Nat) : List Bool :=
  let g := n % 8 ^^^ n % 8 / 2
  msbBits 3 g ++ [(bit g 0 != bit g 1) != bit g 2]

/-- The CRC field of a CAN FD frame with its fixed stuff bits: one in front and one after every four bits, each the inverse of the
bit before it. -/
def canFixedStuff (prev : Bool) : Nat → List Bool → List Bool
  | _, [] => []
  | i, b :: bs => if i % 4 = 0 then (!prev) :: b :: canFixedStuff b (i + 1) bs else b :: canFixedStuff b (i + 1) bs

/-- The bits of a frame from SOF to the last bit of its CRC: CRC-15 over the unstuffed bits of a classical frame; over the stuffed
bits and the stuff count of a CAN FD frame CRC-17, or CRC-21 with more than 16 data bytes (R96). -/
def canStuffed (w0 w1 : Nat) (esi : Bool) (data : List Nat) : CanBits :=
  let head := canHeader w0 w1 esi data
  if bit w0 30 then
    let r := canStuff false none 0 head
    let count := canStuffCount r.2
    let bits := r.1.map Prod.fst ++ count
    let crc := if dlcBytes true (w1 % 16) ≤ 16 then msbBits 17 (canCrc 17 0x1685B 0x10000 bits)
      else msbBits 21 (canCrc 21 0x102899 0x100000 bits)
    let phase := if bit w0 31 then CanPhase.data else .nominal
    r.1 ++ (canFixedStuff ((r.1.getLastD (true, .nominal)).1) 0 (count ++ crc)).map (fun b => (b, phase))
  else
    (canStuff true none 0 (head ++ (msbBits 15 (canCrc 15 0x4599 0 (head.map Prod.fst))).map (fun b => (b, .nominal)))).1

/-- A frame as its transmitter sends it: after the CRC its delimiter, and a recessive ACK slot, ACK delimiter and end of frame. -/
def canFrame (w0 w1 : Nat) (esi : Bool) (data : List Nat) : CanBits :=
  canStuffed w0 w1 esi data ++ [(true, if bit w0 31 then .delimiter else .nominal)] ++ List.replicate 9 (true, .nominal)

/-- How long a bit lasts in ns (R97): the bit rate switches at the sample points of BRS and of the CRC delimiter. -/
def State.canPhaseTime (s : State) (k j : Nat) : CanPhase → Nat
  | .nominal => s.canBitTime k j
  | .data => s.canDataBitTime k j
  | .brs => s.canSample k j + (s.canDataBitTime k j - s.canDataSample k j)
  | .delimiter => s.canDataSample k j + (s.canBitTime k j - s.canSample k j)

/-- The level of a sequence of bits at a time in 1/8 ns after its first begins; recessive after the last. -/
def State.canLevelAt (s : State) (k j : Nat) : CanBits → Nat → Bool
  | [], _ => true
  | (b, p) :: bs, t => if t < 8 * s.canPhaseTime k j p then b else s.canLevelAt k j bs (t - 8 * s.canPhaseTime k j p)

/-- The data bytes of a transmit record (R99). -/
def recordData (ws : List QWord) : List Nat :=
  recordBytes (ws.drop (if bit (ws.getD 1 ⟨0, 0⟩).data 6 then 4 else 2))

/-- The level that controller j sends now: the bits of its record from the start of its frame on. ESI is recessive in error passive,
else as the record says (R96, R99). -/
def State.canSentLevel (s : State) (k j : Nat) : Bool :=
  let c := s.can k j
  match c.record with
  | some ws =>
    let w1 := (ws.getD 1 ⟨0, 0⟩).data
    let esi := bit w1 4 || s.get (CL_CANSTAT.bus k j) == 1
    s.canLevelAt k j (canFrame (ws.headD ⟨0, 0⟩).data w1 esi (recordData ws)) (s.t125 - c.sof)
  | none => true

/-- Controller j drives the bus dominant outside a frame of its own: an ACK slot or an active error flag (R96). -/
def State.canDominant (s : State) (k j : Nat) : Bool :=
  (s.can k j).dominant.any (fun d => decide (d.1 ≤ s.t125) && decide (s.t125 < d.2))

/-- An active error flag starts: six dominant bits, in the normal mode and in error active only (R96). -/
def State.canErrorFlag (s : State) (k j bus : Nat) : State :=
  if s.get (CL_CANCFG.mode k j) == 1 && bus == 0 && !s.flag (CL_CANCFG.loopback k j) then
    s.setCan k j { s.can k j with dominant := some (s.t125, s.t125 + 48 * s.canBitTime k j) }
  else s

/-- A receiver acknowledges the frame that began at sof: the ACK slot is dominant, in the normal and the restricted mode (R96). -/
def State.canAck (s : State) (k j w0 w1 sof : Nat) (data : List Nat) : State :=
  let m := s.get (CL_CANCFG.mode k j)
  if m == 1 || m == 2 then
    let n := (canStuffed w0 w1 (bit w1 4) data ++ [(true, if bit w0 31 then CanPhase.delimiter else .nominal)]).foldl
      (fun t b => t + 8 * s.canPhaseTime k j b.2) sof
    s.setCan k j { s.can k j with dominant := some (n, n + 8 * s.canBitTime k j) }
  else s

end Sys2Proof.Machine
end

