-- ==== Sys2Proof/Machine/Pads.lean ====
section
/-! DEFINITION. Machine/Pads.lean: what a pad drives, what its receiver sees, and the capture of its edges
(R49, R59 to R62, R88 to R95). -/

namespace Sys2Proof.Machine

/-- The map fields of slot sl of Kk.PEn (PE_PADMAP0 and PE_PADMAP1). -/
def PE_PADMAP.pad (k n sl : Nat) : Fld := ⟨PE_PADMAP0.addr k n + sl / 4 * 4, 8 * (sl % 4), 5, 0⟩
def PE_PADMAP.en (k n sl : Nat) : Fld := ⟨PE_PADMAP0.addr k n + sl / 4 * 4, 8 * (sl % 4) + 7, 1, 0⟩

/-- The pad is the odd pad of an LVDS pair (R92). -/
def State.oddLvds (s : State) (k p : Nat) : Bool := p % 2 == 1 && s.get (CL_PADCFG.drive k p) == 3

/-- The pad that a slot names; an odd LVDS pad cannot be mapped (R59, R92). -/
def State.slotPad (s : State) (k n sl : Nat) : Option Nat :=
  let p := s.get (PE_PADMAP.pad k n sl)
  if s.flag (PE_PADMAP.en k n sl) && !s.oddLvds k p then some p else none

/-- The engine owns the pad of slot sl (R60): judged by that slot's own bit, whatever other slots name the pad (R62; DESIGN
CHOICE, log 240). -/
def State.ownsSlot (s : State) (k n sl : Nat) : Bool := bit (s.get (PE_OWN.own k n)) sl

/-- The driver of an engine on a pad (R61). -/
def State.peDriver (s : State) (k n p : Nat) : Option Bool := SMap.getD (s.pe k n).drv p none

/-- The drivers of CAN FD controller j on a pad: its transmit pad is recessive outside a frame and in loopback, and in a frame has
its bits, beside them its ACK slots and error flags (R96); the standby level is open (R98, log 11). A controller under PORT_STOP drives none (R29). -/
def State.canDriver (s : State) (k j p : Nat) : Option Bool :=
  let off := s.get (CL_CANCFG.mode k j) == 0
  let sends := (s.can k j).arbitrating && !s.flag (CL_CANCFG.loopback k j)
  let level := (!sends || s.canSentLevel k j) && !s.canDominant k j
  if (s.can k j).stopped then none
  else if s.flag (CL_CANPAD.tx_en k j) && s.get (CL_CANPAD.tx_pad k j) == p && !off then
    some level
  else if s.flag (CL_CANPAD.stb_en k j) && s.get (CL_CANPAD.stb_pad k j) == p then some (Config.standbyLevel off)
  else none

/-- The values of the enabled drivers of a pad. -/
def State.driverValues (s : State) (k p : Nat) : List Bool :=
  ((List.range 9).filterMap (fun n => s.peDriver k n p)) ++ ((List.range 2).filterMap (fun j => s.canDriver k j p))

/-- What the drivers of a pad make together: none when it is not driven (R61). On an open-drain pad the OR or the AND of the
contributions is taken first, and its 1 is released (DESIGN CHOICE, log 239). -/
def State.padResolved (s : State) (k p : Nat) : Option Bool :=
  let drive := s.get (CL_PADCFG.drive k p)
  match s.driverValues k p with
  | [] => none
  | v :: vs =>
    let r := match s.get (CL_PADCFG.share k p) with
      | 1 => (v :: vs).any id
      | 2 => (v :: vs).all id
      | _ => v
    if drive = 0 then none else if drive = 2 && r then none else some r

/-- Every pad of the cluster is parked, whatever its drivers (R21, R35, R38, R87, R89, R463). -/
def State.clusterParked (s : State) (k : Nat) : Bool :=
  let c := s.cluster k
  s.flag (CL_STATUS.parked k) || c.dieParked || c.faultPark ||
    s.nodeState == nsBOOT || s.nodeState == nsTAMPERED || s.nodeState == nsHALTED ||
    (s.nodeState == nsJOINING && c.heldOut.isNone)

/-- What a pad drives: nothing while it is parked or its bank has not passed its check (R88, R89), the held value or
nothing under a hold (R90), else what its drivers make. -/
def State.padOutput (s : State) (k p : Nat) : Option Bool :=
  if s.clusterParked k || !bit (s.get (CL_STATUS.bank_ok k)) (p / 16) then none
  else match (s.cluster k).heldOut with
    | some (en, val) => if s.flag (CL_PADCFG.hold k p) || !bit en p then none else some (bit val p)
    | none => s.padResolved k p

/-- The output enables and values of the 32 pads. -/
def State.padOutputs (s : State) (k : Nat) : Nat × Nat :=
  (List.range 32).foldl (fun a p => match s.padOutput k p with
    | none => a
    | some v => (a.1 + 2 ^ p, a.2 + b2n v * 2 ^ p)) (0, 0)

/-- CAN FD controller j owns pad p (R60, R98). -/
def State.canOwns (s : State) (k j p : Nat) : Bool :=
  (s.flag (CL_CANPAD.tx_en k j) && s.get (CL_CANPAD.tx_pad k j) == p) ||
    (s.flag (CL_CANPAD.stb_en k j) && s.get (CL_CANPAD.stb_pad k j) == p)

/-- Pad p is parked: with its cluster, its bank, under a hold that parks it, or with the unit that owns it (R29, R75, R80, R88 to
R90). -/
def State.padParked (s : State) (k p : Nat) : Bool :=
  s.clusterParked k || !bit (s.get (CL_STATUS.bank_ok k)) (p / 16) ||
    ((s.cluster k).heldOut.isSome && s.flag (CL_PADCFG.hold k p)) || (s.cluster k).padPark.contains p ||
    (List.range 2).any (fun j => (s.can k j).stopped && s.canOwns k j p)

/-- The level of a line that the hub does not drive: what the field side puts there; where that has let go, what the pull
makes unless the pad is parked, else a level that nothing gives (R89, R90; log 48). -/
def State.lineLevel (s : State) (k p : Nat) : Bool :=
  if bit (s.cluster k).loose p then
    if s.padParked k p then Config.floatLevel k p
    else match s.get (CL_PADCFG.pull k p) with
      | 1 => true
      | 2 => false
      | _ => Config.floatLevel k p
  else bit (s.cluster k).ext p

/-- The level at the input receiver: what the pad drives, else the level of the line; 0 on an odd LVDS pad (R61, R92). -/
def State.padLevel (s : State) (k p : Nat) : Bool :=
  if s.oddLvds k p then false else (s.padOutput k p).getD (s.lineLevel k p)

/-- The levels of the 32 receivers. -/
def State.levels (s : State) (k : Nat) : Nat :=
  (List.range 32).foldl (fun a p => a + b2n (s.padLevel k p) * 2 ^ p) 0

/-- The synchronised level of a pad i ticks ago: the level at the receiver exactly 4 ns before, a change of that very instant
counted (R49; log 49). The newest entry of the history is the tick before the present one. -/
def State.syncLevel (s : State) (k p : Nat) (i : Nat := 0) : Bool := bit (nth (s.cluster k).hist (3 + i)) p

/-- The synchronised level of a slot; an unmapped slot reads as 0 (R59). -/
def State.slotLevel (s : State) (k n sl : Nat) (i : Nat := 0) : Bool :=
  match s.slotPad k n sl with
  | some p => s.syncLevel k p i
  | none => false

/-- The pad's time-to-digital converter runs (R93, R428). -/
def State.stamps (s : State) (k p : Nat) : Bool :=
  let depth := s.get (NODE_CLSLEEP.depth k)
  bit (s.get (CL_STATUS.bank_ok k)) (p / 16) && !s.oddLvds k p &&
    (depth ≤ 1 || (depth == 2 && s.flag (NODE_CLSLEEP.wake_en k) && s.get (NODE_CLSLEEP.wake_pad k) == p))

/-- The captured edges of pad p: rising, falling, and whether the last one rose (R95). -/
def State.caught (s : State) (k p : Nat) : Nat × Nat × Bool := SMap.getD (s.cluster k).caught p (0, 0, false)

/-- One more captured edge of pad p (R95). -/
def State.countEdge (s : State) (k p : Nat) (rise : Bool) : State :=
  let c := s.cluster k
  let n := s.caught k p
  s.setCluster k { c with caught := SMap.set c.caught p (n.1 + b2n rise, n.2.1 + b2n (!rise), rise) (0, 0, false) }

/-- Count an edge and write its stamp into CL_PADSTAMP (R93, R95). -/
def State.putStamp (s : State) (k p : Nat) (rise : Bool) (t : Nat) : State :=
  let ns := t / 8
  let s := s.countEdge k p rise
  if rise then
    s.puts [(CL_PADSTAMP0.rise_lo k p, ns), (CL_PADSTAMP1.rise_hi k p, ns / 2 ^ 32), (CL_PADSTAMP1.rise_fine k p, t),
      (CL_PADSTAMP1.rise_valid k p, 1)]
  else
    s.puts [(CL_PADSTAMP2.fall_lo k p, ns), (CL_PADSTAMP3.fall_hi k p, ns / 2 ^ 32), (CL_PADSTAMP3.fall_fine k p, t),
      (CL_PADSTAMP3.fall_valid k p, 1)]

/-- Engine n waits at a STAMP without latest (opcode 0x0D) whose pad and polarity the edge meets: it takes the first edge
later than its issue (R66). -/
def State.hitStamp (s : State) (k p : Nat) (rise : Bool) (t n : Nat) : State :=
  let e := s.pe k n
  let bank := s.get (PE_STATUS.active_bank k n)
  let w := s.get (PE_PROG.word k n (64 * bank + s.get (PE_STATUS.pc k n)))
  let pol := bits w 16 2
  let meets := s.get (PE_STATUS.run k n) == 2 && s.get (PE_STATUS.wait_op k n) == 0x0D &&
    s.slotPad k n (bits w 21 3) == some p && (pol == 2 || (pol == 0) == rise) &&
    e.stampHit.isNone && (e.issued.getD 0 < t)
  let c := s.caught k p
  if meets then s.setPe k n { e with stampHit := some (t, rise), hitCounts := (c.1, c.2.1) } else s

/-- An edge at a pad's receiver at time t (125 ps): captured when the pad stamps and 2 ns have passed since its previous
edge, else counted (R93, R94). -/
def State.captureEdge (s : State) (k p : Nat) (rise : Bool) (t : Nat) : State :=
  if !s.stamps k p then s
  else
    let c := s.cluster k
    let soon := match SMap.getD c.edge p none with
      | some u => decide (t < u + 16)
      | none => false
    let s := s.setCluster k { c with edge := SMap.set c.edge p (some t) none }
    if soon then (s.bump (CL_PADLOST.lost k p)).bump (CL_EDGELOST.lost k)
    else (List.range 9).foldl (fun s n => s.hitStamp k p rise t n) (s.putStamp k p rise t)

/-- Keep the levels at the start of the present tick, before an edge later inside it changes them (R49, log 49). -/
def State.keepTickLevels (s : State) (k : Nat) : State :=
  let c := s.cluster k
  match c.tickLev with
  | some _ => s
  | none => s.setCluster k { c with tickLev := some (s.levels k) }

/-- Carry out a change of what drives the pads of cluster k at time t (125 ps), and capture the edges it makes. -/
def State.withEdges (s : State) (k t : Nat) (f : State → State) : State :=
  let s := if s.t125 < t then s.keepTickLevels k else s
  let s' := f s
  (List.range 32).foldl (fun r p =>
    if s.padLevel k p == s'.padLevel k p then r else r.captureEdge k p (s'.padLevel k p) t) s'

/-- The level history grows by one tick, by the levels at its start; six ticks are enough for R48 and R49. -/
def State.sampleLevels (s : State) (k : Nat) : State :=
  let c := s.cluster k
  s.setCluster k { c with hist := (c.tickLev.getD (s.levels k) :: c.hist).take 6, tickLev := none }

end Sys2Proof.Machine
end

