-- ==== Sys2Proof/Machine/Engines.lean ====
section
/-! DEFINITION. Machine/Engines.lean: stopping an engine, parking its pads, breaking its barriers, and its unit reset
(R23, R68 to R75, R80, R84). -/

namespace Sys2Proof.Machine

/-- Causes of a stop (R84). -/
abbrev hcHALT : Nat := 0x1
abbrev hcCOMMAND : Nat := 0x2
abbrev hcILLEGAL : Nat := 0x3
abbrev hcOVERRUN : Nat := 0x4
abbrev hcUNDERRUN : Nat := 0x5
abbrev hcSLOT : Nat := 0x6
abbrev hcMISMATCH : Nat := 0x7
abbrev hcBROKEN : Nat := 0x8
abbrev hcPORTSTOP : Nat := 0x9
abbrev hcPARK : Nat := 0xA
abbrev hcSTEP : Nat := 0xB
abbrev hcSTATE : Nat := 0xC

def State.peRunning (s : State) (k n : Nat) : Bool := s.get (PE_STATUS.run k n) != 0

/-- The word of the active bank at the PC. -/
def State.peWord (s : State) (k n : Nat) : Nat :=
  s.get (PE_PROG.word k n (64 * s.get (PE_STATUS.active_bank k n) + s.get (PE_STATUS.pc k n)))

/-- Engine n waits at SYNC: its barrier and mask (R68). -/
def State.peSync (s : State) (k n : Nat) : Option (Nat × Nat) :=
  if s.get (PE_STATUS.run k n) == 2 && s.get (PE_STATUS.wait_op k n) == 0x10 then
    let w := s.peWord k n
    some (bits w 21 2, bits w 0 8)
  else none

/-- A swap: the banks are exchanged and the request is taken (R73, R76). -/
def State.swapBanks (s : State) (k n : Nat) : State :=
  s.puts [(PE_STATUS.active_bank k n, 1 - s.get (PE_STATUS.active_bank k n)),
    (PE_STATUS.swap_pending k n, 0), (PE_STATUS.force_pending k n, 0), (PE_CTL.swap_req k n, 0), (PE_CTL.force k n, 0)]

/-- Stop an engine that runs or waits: its waiting instruction is abandoned; shifters, ports and queued actions stay
(R80, R81). A pending swap happens at once, since the engine is now halted (R73), and the channels it serves fail their
requests (R145). -/
def State.peStop (s : State) (k n cause : Nat) : State :=
  if s.peRunning k n then
    let s := s.setPe k n { s.pe k n with issued := none, stampHit := none, stepping := false }
    let s := s.puts [(PE_STATUS.run k n, 0), (PE_STATUS.wait_op k n, 0), (PE_STATUS.halt_cause k n, cause)]
    let s := if s.flag (PE_STATUS.swap_pending k n) then s.swapBanks k n else s
    s.serverStops k n
  else s

/-- The unit ID of Kk.PEn (R459). -/
def unitPE (k n : Nat) : Nat := 0x0100 + 9 * k + n

/-- Source 0x01 for a program error of an engine with a cause (R81, R461). -/
def State.reportPe (s : State) (k n cause : Nat) : State :=
  s.report { src := 0x01, master := unitPE k n, addr := s.domainAddr (PE_CTL.addr k n), extra := cause }

/-- Logical engine l has left its program: every engine that waits at a barrier whose mask names it stops with
SYNC_BROKEN, a program error (log 47), and so does every engine that waits for one of those (R70). -/
def State.breakBarriers (s : State) (k : Nat) : Nat → Nat → State
  | 0, _ => s
  | fuel + 1, l =>
    (List.range 9).foldl (fun s n =>
      match s.peSync k n with
      | some (_, mask) =>
        if bit mask l then
          let s := (s.peStop k n hcBROKEN).reportPe k n hcBROKEN
          s.breakBarriers k fuel (s.get (PE_STATUS.logical k n))
        else s
      | none => s) s

/-- An engine halts, stops or leaves its program: it stops, and the barriers that name it break (R70). -/
def State.peLeave (s : State) (k n cause : Nat) : State :=
  if s.peRunning k n then
    let l := s.get (PE_STATUS.logical k n)
    let s := s.peStop k n cause
    if l < 8 then s.breakBarriers k 9 l else s
  else s

/-- The pads of one driver that the engine owns: they are parked when it is (R60, R75). -/
def State.ownPads (s : State) (k n : Nat) : List Nat :=
  ((List.range 8).filterMap (fun sl => if s.ownsSlot k n sl then s.slotPad k n sl else none)).filter
    (fun p => s.get (CL_PADCFG.share k p) == 0)

/-- Park the pads the engine owns: every pad it drives is released; a pad with no other driver stays parked until an action drives it
(R29, R75, R80). Outputs of SET and OUT on their way to the pads are withdrawn (DESIGN CHOICE, log 280). -/
def State.pePark (s : State) (k n : Nat) : State :=
  let e := s.pe k n
  let own := s.ownPads k n
  if e.drv.isEmpty && e.untimed.isEmpty && own.isEmpty then s
  else s.withEdges k s.t125 (fun s =>
    let c := s.cluster k
    (s.setCluster k { c with padPark := c.padPark ++ own.filter (fun p => !c.padPark.contains p) }).setPe k n
      { e with drv := [], untimed := [] })

/-- The pads of an engine are no longer parked. -/
def State.peUnpark (s : State) (k : Nat) (ps : List Nat) : State :=
  let c := s.cluster k
  if c.padPark.any (fun p => ps.contains p) then
    s.setCluster k { c with padPark := c.padPark.filter (fun p => !ps.contains p) } else s

/-- The engine state registers and shifters at their reset values. -/
def State.peClearRegs (s : State) (k n : Nat) : State :=
  s.puts [(PE_X.x k n, 0), (PE_Y.y k n, 0), (PE_C.c0 k n, 0), (PE_C.c1 k n, 0), (PE_T_LO.t_lo k n, 0),
    (PE_T_HI.t_hi k n, 0), (PE_T_HI.t_fine k n, 0), (PE_SHIN.shin k n, 0), (PE_SHOUT.shout k n, 0),
    (PE_SHCNT.in_count k n, 0), (PE_SHCNT.out_count k n, 0), (PE_TAG.tag k n, 0),
    (PE_FLAGS.late k n, 0), (PE_FLAGS.own_err k n, 0), (PE_FLAGS.collide k n, 0), (PE_FLAGS.forced k n, 0),
    (PE_FLAGS.stamp_stale k n, 0), (PE_ERRCNT.late k n, 0), (PE_ERRCNT.own k n, 0), (PE_CTL.start_pc k n, 0)]

/-- Unit reset of an engine (R23, R80): registers, shifters and counters cleared, queued actions and port words
discarded and counted in PE_LASTABORT, a swap request withdrawn, owned pads parked, halted with cause 0. The banks, the
active bank and the cast fields stay (log 12). -/
def State.peUnitReset (s : State) (k n : Nat) : State :=
  let e := s.pe k n
  let words := e.tx.length + e.rx.length
  let l := s.get (PE_STATUS.logical k n)
  let was := s.peRunning k n
  let s := (s.pePark k n).setPe k n {}
  let s := s.peClearRegs k n
  let s := s.puts [(PE_STATUS.run k n, 0), (PE_STATUS.wait_op k n, 0), (PE_STATUS.pc k n, 0),
    (PE_STATUS.halt_cause k n, 0), (PE_STATUS.swap_pending k n, 0), (PE_STATUS.force_pending k n, 0),
    (PE_CTL.swap_req k n, 0), (PE_CTL.force k n, 0),
    (PE_LASTABORT.in_count k n, 0), (PE_LASTABORT.out_count k n, 0), (PE_LASTABORT.pc k n, 0),
    (PE_LASTABORT.port_words k n, words), (PE_LASTABORT.valid k n, 1)]
  let s := if was then s.serverStops k n else s
  if was && l < 8 then s.breakBarriers k 9 l else s

/-- PORT_STOP of an engine: it stops, its pads go to their park values, until it is started again (R29, R463). -/
def State.pePortStop (s : State) (k n : Nat) : State :=
  let s := (s.peLeave k n hcPORTSTOP).pePark k n
  s.setPe k n { s.pe k n with stopped := true }

/-- Halt every engine of a cluster. -/
def State.haltCluster (s : State) (k cause : Nat) : State :=
  (List.range 9).foldl (fun s n => s.peStop k n cause) s

/-- CAN FD controller j goes off: it drops its record and its bus reads off (R29, R463). -/
def State.canStop (s : State) (k j : Nat) : State :=
  s.withEdges k s.t125 (fun s => s.setCan k j { s.can k j with arbitrating := false, stopped := true })

/-- CLUSTER_PARK: all pads parked, engines halted, controllers stopped, until a cluster reset (R29, R463). -/
def State.parkCluster (s : State) (k : Nat) : State :=
  let s := s.withEdges k s.t125 (fun s => s.setCluster k { s.cluster k with faultPark := true })
  (List.range 2).foldl (fun s j => s.canStop k j) (s.haltCluster k hcPARK)

/-- Hold every field output at its cast hold state: the outputs of the moment are kept (R29, R35, R90). -/
def State.holdOutputs (s : State) : State :=
  (List.range 12).foldl (fun s k =>
    let c := s.cluster k
    match c.heldOut with
    | some _ => s
    | none => s.withEdges k s.t125 (fun s => s.setCluster k { c with heldOut := some (s.padOutputs k) })) s

/-- The engine drives a pad: one of its mapped slots is its own (R60). -/
def State.peOutput (s : State) (k n : Nat) : Bool :=
  (List.range 8).any (fun sl => (s.slotPad k n sl).isSome && s.ownsSlot k n sl)

/-- NODE_HOLD stops the engines that drive pads with cause 0xA, all at once; input engines keep running, but for those that wait at
a barrier that names a stopped one (R29, R70, R84; log 248). -/
def State.holdEngines (s : State) : State :=
  (List.range 12).foldl (fun s k =>
    let ns := (List.range 9).filter (fun n => s.peRunning k n && s.peOutput k n)
    let s := ns.foldl (fun s n => s.peStop k n hcPARK) s
    ns.foldl (fun s n =>
      let l := s.get (PE_STATUS.logical k n)
      if l < 8 then s.breakBarriers k 9 l else s) s) s

/-- End the hold: the pads take the present driver state. -/
def State.releaseOutputs (s : State) : State :=
  (List.range 12).foldl (fun s k =>
    match (s.cluster k).heldOut with
    | none => s
    | some _ => s.withEdges k s.t125 (fun s => s.setCluster k { s.cluster k with heldOut := none })) s

/-- The node leaves a state in which programs run: engines halt with cause 0xC and release their pads (R35, R84). -/
def State.haltEngines (s : State) (cause : Nat) : State :=
  (List.range 12).foldl (fun s k =>
    (List.range 9).foldl (fun s n => (s.peStop k n cause).pePark k n) s) s

/-- The node takes state ns; the edges that parking or releasing its pads makes are captured (R35, R36). -/
def State.setNodeState (s : State) (ns : Nat) : State :=
  let t := s.put NODE_STATE.state ns
  (List.range 12).foldl (fun r k =>
    (List.range 32).foldl (fun r p =>
      if s.padLevel k p == t.padLevel k p then r else r.captureEdge k p (t.padLevel k p) s.t125) r) t

/-- Entry to a state in which programs do not run and pads are parked: engines halt, holds end (R35, R84). -/
def State.parkNode (s : State) (ns : Nat) : State :=
  ((s.haltEngines hcSTATE).releaseOutputs).setNodeState ns

end Sys2Proof.Machine
end

