-- ==== Sys2Proof/Machine/Operands.lean ====
section
/-! DEFINITION. Machine/Operands.lean: the fields of an engine's instruction word, which words are legal, and the operand
registers with the two shifters (R43 to R47, R50, R56 to R58). -/

namespace Sys2Proof.Machine

/-- The fields of an instruction word (R43). -/
def opcodeOf (w : Nat) : Nat := bits w 26 6
def fieldA (w : Nat) : Nat := bits w 21 5
def fieldB (w : Nat) : Nat := bits w 16 5
def fieldImm (w : Nat) : Nat := bits w 0 16

/-- Register codes (R45). -/
abbrev rNULL : Nat := 0
abbrev rX : Nat := 1
abbrev rY : Nat := 2
abbrev rC0 : Nat := 3
abbrev rC1 : Nat := 4
abbrev rT : Nat := 5
abbrev rNOW : Nat := 6
abbrev rSHIN : Nat := 7
abbrev rSHOUT : Nat := 8
abbrev rPINS : Nat := 9
abbrev rTAG : Nat := 10

/-- A register code that may be written (R45). -/
def destOk (c : Nat) : Bool := decide (c ≤ 8) && c != rNOW

/-- A register code that may be read (R45). -/
def srcOk (c : Nat) : Bool := decide (c ≤ 10)

/-- The word is an instruction: no reserved opcode, code, condition or action, no unused field that is not 0, no write to a
read-only register, no operand outside those the opcode table allows, n of OUT and IN from 1 to 8 (R44, R46, R58). A part of a
used field that the action does not use may hold any value: the values of RELEASE and TOGGLE, the data slot of DRIVE and RELEASE, the
fine offset of an AT that takes it from T (DESIGN CHOICE, log 237). -/
def legalWord (w : Nat) : Bool :=
  let a := fieldA w
  let b := fieldB w
  let i := fieldImm w
  match opcodeOf w with
  | 0x00 => a == 0 && b == 0 && i == 0
  | 0x01 => a == 0 && b == 0 && i == 0
  | 0x02 => decide (a ≤ 2) && b == 0
  | 0x03 => decide (a ≤ 7) && b == 0 && decide (1 ≤ i) && decide (i ≤ 8)
  | 0x04 => decide (a ≤ 7) && b == 0 && decide (1 ≤ i) && decide (i ≤ 8)
  | 0x05 => decide (a ≤ 7) && decide (b ≤ 4) && i == 0
  | 0x06 => a == 0 && b == 0 && i == 0
  | 0x07 => decide (b ≤ 15)
  | 0x08 => decide (a ≤ 7) && (if a = 3 then decide (b ≤ 15) else b == 0) && decide (i ≤ 63)
  | 0x09 => (a == rSHOUT || a == rX || a == rY) && b == 0 && i == 0
  | 0x0A => a == 0 && (b == rSHIN || b == rX || b == rY || b == rNOW) && (i == 0 || i == 1 || i == 8 || i == 9)
  | 0x0B => destOk a && srcOk b && i == 0
  | 0x0C => destOk a && srcOk b
  | 0x0D => decide (a ≤ 7) && decide (b ≤ 7) && b % 4 != 3 && i == 0
  | 0x0E => a == 0 && b == 0 && i == 0
  | 0x0F => decide (a ≤ 1) && srcOk b
  | 0x10 => decide (a ≤ 3) && b == 0 && decide (i ≤ 255)
  | 0x11 => a == 0 && b == 0 && decide (i ≤ 63)
  | _ => false

/-- A shifter's length in force: in_len and out_len run from 1 to 32 (R56; log 13 for other values). -/
def shiftLen (n : Nat) : Nat := if n = 0 ∨ 32 < n then 32 else n

def State.inLen (s : State) (k n : Nat) : Nat := shiftLen (s.get (PE_CFG.in_len k n))
def State.outLen (s : State) (k n : Nat) : Nat := shiftLen (s.get (PE_CFG.out_len k n))

/-- Bits that SHIN holds or has promised: those received and those that pending INBITs reserved (R57, R58). -/
def State.shinPlaces (s : State) (k n : Nat) : Nat := s.get (PE_SHCNT.in_count k n) + (s.pe k n).resv.length

/-- SHIN with one more place that holds b: MSB-first the new bit comes in at bit 0, LSB-first above the others (R56). -/
def shinAppend (msb : Bool) (places shin : Nat) (b : Bool) : Nat :=
  if msb then (2 * shin + b2n b) % 2 ^ 32 else setBit shin places b % 2 ^ 32

/-- Shift a received bit into SHIN (R56). -/
def State.shinIn (s : State) (k n : Nat) (b : Bool) : State :=
  let v := shinAppend (s.flag (PE_CFG.in_msb k n)) (s.shinPlaces k n) (s.get (PE_SHIN.shin k n)) b
  (s.put (PE_SHIN.shin k n) v).put (PE_SHCNT.in_count k n) (s.get (PE_SHCNT.in_count k n) + 1)

/-- An INBIT issues: it reserves the next place of SHIN (R57). -/
def State.shinReserve (s : State) (k n : Nat) : State :=
  let p := s.shinPlaces k n
  let v := shinAppend (s.flag (PE_CFG.in_msb k n)) p (s.get (PE_SHIN.shin k n)) false
  (s.put (PE_SHIN.shin k n) v).setPe k n { s.pe k n with resv := (s.pe k n).resv ++ [p] }

/-- The oldest pending INBIT fills its place (R57). -/
def State.shinFill (s : State) (k n : Nat) (b : Bool) : State :=
  match (s.pe k n).resv with
  | [] => s
  | p :: ps =>
    let i := if s.flag (PE_CFG.in_msb k n) then s.shinPlaces k n - 1 - p else p
    let s := s.put (PE_SHIN.shin k n) (setBit (s.get (PE_SHIN.shin k n)) i b)
    let s := s.put (PE_SHCNT.in_count k n) (s.get (PE_SHCNT.in_count k n) + 1)
    s.setPe k n { s.pe k n with resv := ps }

/-- The bits received so far, right-justified (R45). The places that pending INBITs hold count among them, for EVENT, which does
not wait for them (DESIGN CHOICE, log 243). -/
def State.shinBits (s : State) (k n : Nat) : Nat := s.get (PE_SHIN.shin k n) % 2 ^ s.shinPlaces k n

/-- Take the next bit of SHOUT: MSB-first from the top of the bits left, LSB-first from bit 0 (R56). -/
def State.shoutTake (s : State) (k n : Nat) : State × Bool :=
  let v := s.get (PE_SHOUT.shout k n)
  let c := s.get (PE_SHCNT.out_count k n)
  let t := s.put (PE_SHCNT.out_count k n) (c - 1)
  if s.flag (PE_CFG.out_msb k n) then (t.put (PE_SHOUT.shout k n) (v % 2 ^ (c - 1)), bit v (c - 1))
  else (t.put (PE_SHOUT.shout k n) (v / 2), bit v 0)

/-- Take the next m bits of SHOUT, first bit first. -/
def State.shoutTakeN (s : State) (k n : Nat) : Nat → State × List Bool
  | 0 => (s, [])
  | m + 1 =>
    let r := s.shoutTake k n
    let q := r.1.shoutTakeN k n m
    (q.1, r.2 :: q.2)

/-- The bits not yet sent, right-justified (R45); LSB-first they lie below out_len less those sent. -/
def State.shoutBits (s : State) (k n : Nat) : Nat :=
  s.get (PE_SHOUT.shout k n) % 2 ^ s.get (PE_SHCNT.out_count k n)

/-- T as 48 bits (R50). -/
def State.peT (s : State) (k n : Nat) : Nat := s.get (PE_T_LO.t_lo k n) + 2 ^ 32 * s.get (PE_T_HI.t_hi k n)

/-- Set the 48 bits and the fine bits of T. -/
def State.putT (s : State) (k n t fine : Nat) : State :=
  s.puts [(PE_T_LO.t_lo k n, t), (PE_T_HI.t_hi k n, t / 2 ^ 32), (PE_T_HI.t_fine k n, fine)]

/-- What a read of a register gives (R45). -/
def State.readOp (s : State) (k n c : Nat) : Nat :=
  match c with
  | 1 => s.get (PE_X.x k n)
  | 2 => s.get (PE_Y.y k n)
  | 3 => s.get (PE_C.c0 k n)
  | 4 => s.get (PE_C.c1 k n)
  | 5 => s.get (PE_T_LO.t_lo k n)
  | 6 => s.window % 2 ^ 32
  | 7 => s.shinBits k n
  | 8 => s.shoutBits k n
  | 9 => (List.range 8).foldl (fun v sl => v + b2n (s.slotLevel k n sl) * 2 ^ sl) 0
  | 10 => s.get (PE_TAG.tag k n)
  | _ => 0

/-- What a register gives as a source for T: all 48 bits of T and NOW (R45). -/
def State.readOpT (s : State) (k n c : Nat) : Nat :=
  if c = rT then s.peT k n else if c = rNOW then s.window else s.readOp k n c

/-- A write of a register other than T (R45): SHIN takes the value with count 0, SHOUT with count out_len. -/
def State.writeOp (s : State) (k n c v : Nat) : State :=
  match c with
  | 1 => s.put (PE_X.x k n) v
  | 2 => s.put (PE_Y.y k n) v
  | 3 => s.put (PE_C.c0 k n) v
  | 4 => s.put (PE_C.c1 k n) v
  | 7 => (s.put (PE_SHIN.shin k n) v).put (PE_SHCNT.in_count k n) 0
  | 8 => (s.put (PE_SHOUT.shout k n) v).put (PE_SHCNT.out_count k n) (s.outLen k n)
  | _ => s

end Sys2Proof.Machine
end

