-- ==== Sys2Proof/Machine/Flags.lean ====
section
/-! DEFINITION. Machine/Flags.lean: the conditions an engine tests and the flags and counters it sets
(R47, R48, R53, R55, R62, R66). -/

namespace Sys2Proof.Machine

/-- Two actions of one driver met, or one action gave a pad two values: the flag and the count (R55). -/
def State.flagCollide (s : State) (k n : Nat) : State := (s.setEvent (PE_FLAGS.collide k n)).bump (PE_ERRCNT.own k n)

/-- An action on a pad the engine does not own (R62). -/
def State.flagOwn (s : State) (k n : Nat) : State := (s.setEvent (PE_FLAGS.own_err k n)).bump (PE_ERRCNT.own k n)

/-- A late action (R53). -/
def State.flagLate (s : State) (k n : Nat) : State := (s.setEvent (PE_FLAGS.late k n)).bump (PE_ERRCNT.late k n)

/-- The condition of a JMP (R47). -/
def State.jmpCond (s : State) (k n cond b : Nat) : Bool :=
  match cond with
  | 0 => true
  | 1 => s.get (PE_C.c0 k n) != 0
  | 2 => s.get (PE_C.c1 k n) != 0
  | 3 => s.slotLevel k n (b % 8) != bit b 3
  | 4 => s.get (PE_SHCNT.in_count k n) == s.inLen k n
  | 5 => s.get (PE_SHCNT.out_count k n) == 0
  | 6 => s.get (PE_X.x k n) == s.get (PE_Y.y k n)
  | 7 => s.get (PE_X.x k n) != 0
  | _ => false

/-- The side effect of a JMP that jumps: C0NZ and C1NZ count down (R47). -/
def State.jmpEffect (s : State) (k n cond : Nat) : State :=
  match cond with
  | 1 => s.put (PE_C.c0 k n) (s.get (PE_C.c0 k n) - 1)
  | 2 => s.put (PE_C.c1 k n) (s.get (PE_C.c1 k n) - 1)
  | _ => s

/-- The condition of WAITP: a level, or a change between two consecutive synchronised samples, 2 ns apart, the later of
which is taken after WAITP issued (R48). -/
def State.waitpCond (s : State) (k n sl cond : Nat) : Bool :=
  let v := s.slotLevel k n sl
  let u := s.slotLevel k n sl 2
  let later := match (s.pe k n).issued with
    | some t => decide (t < s.t125)
    | none => false
  match cond with
  | 0 => !v
  | 1 => v
  | 2 => later && v && !u
  | 3 => later && !v && u
  | 4 => later && v != u
  | _ => false

end Sys2Proof.Machine
end

