-- ==== Sys2Proof/Machine/HostOps.lean ====
section
/-! DEFINITION. Machine/HostOps.lean: what a head writes into host memory: receive queue entries, event messages, error
log entries and MSI-X messages (R278, R279, R287). -/

namespace Sys2Proof.Machine

/-- The length of a frame: header, extension and payload (R233). -/
def frameLen (f : Frame) : Nat := 16 + (if f.ext.isSome then 8 else 0) + f.payload.length

/-- The 8 bytes of a time extension (R235). -/
def extBytes (e : TimeExt) : List Nat := leBytes 6 e.ns ++ [e.frac % 256, b2n e.scale + 2 * b2n e.launch]

/-- The bytes of a frame (R233). -/
def frameBytes (f : Frame) : List Nat :=
  [f.ftype % 16 + 16 * (f.cls % 8) + 128 * b2n f.cm,
   f.dst % 64 + 64 * b2n f.ext.isSome + 128 * b2n f.ack,
   f.src % 64 + 128 * b2n f.wrapped, f.hops % 128] ++
  leBytes 2 (frameLen f) ++ leBytes 2 f.a ++ (List.range 8).map (nth f.b) ++
  (match f.ext with
    | some e => extBytes e
    | none => []) ++ f.payload

/-- Bits of the AER uncorrectable error status (R265; their places PRESUMED from the PCI Express Base Specification, log 297). -/
abbrev aerABORT : Nat := 15
abbrev aerMALFORMED : Nat := 18

/-- An error is reported through AER (R265, R271). -/
def State.aerError (s : State) (b : Nat) : State := { s with host := { s.host with aer := setBit s.host.aer b true } }

/-- Send vector v: as a message, or as a pending bit while it is masked (R279, PCIe MSI-X). -/
def State.vector (s : State) (v : Nat) : State :=
  if s.host.fnMask || bit (s.get (MSIX_TABLE.word v 3)) 0 then
    s.put (MSIX_PBA.word (v / 32)) (setBit (s.get (MSIX_PBA.word (v / 32))) (v % 32) true)
  else
    s.emit (.msix v (s.get (MSIX_TABLE.word v 0) + 2 ^ 32 * s.get (MSIX_TABLE.word v 1)) (s.get (MSIX_TABLE.word v 2)))

/-- Host interface version 1.1 is agreed (R280). -/
def State.v11 (s : State) : Bool := s.get HOST_IF_VERSION.agreed == 0x11

/-- A new error log entry: status, detail, part index, write flag, slot, domain address; vector 0 follows (R287). -/
def State.errLog (s : State) (status detail idx : Nat) (write : Bool) (slot : Option Nat) (addr : Nat) : State :=
  let i := s.get HOST_ERRLOG_WR.next
  let bs := [status, detail, idx % 8 + 8 * b2n write + 16 * b2n slot.isSome, slot.getD 0] ++ leBytes 5 addr ++ [0, 0, 0] ++
    leBytes 4 s.host.errSeq ++ (if s.v11 then timeBytes s.time else List.replicate 14 0) ++ [0, 0]
  let ws := toWords bs
  let s := (List.range 8).foldl (fun s w => s.put (HOST_ERRLOG.word i w) (nth ws w)) s
  let s := if s.host.errSeq ≥ 64 then s.bump HOST_ERRLOG_WR.overwritten else s
  let s := { s with host := { s.host with errSeq := (s.host.errSeq + 1) % 2 ^ 32 } }
  (s.put HOST_ERRLOG_WR.next (i + 1)).vector 0

def State.rq (s : State) (j : Nat) : HostRing := SMap.getD s.host.rqs j {}
def State.setRq (s : State) (j : Nat) (r : HostRing) : State :=
  { s with host := { s.host with rqs := SMap.set s.host.rqs j r {} } }

/-- Entries of receive queue j. -/
def State.rqSize (s : State) (j : Nat) : Nat := 2 ^ (s.get (HOST_RQ_CFG.n j) + 6)

/-- Receive queue j can take an entry. -/
def State.rqOpen (s : State) (j : Nat) : Bool := s.flag (HOST_RQ_CFG.en j) && decide ((s.rq j).used < s.rqSize j)

/-- Send the vector of receive queue j if its moderation allows; the waiting entries are then announced (R279). -/
def State.rqAnnounce (s : State) (j : Nat) : State :=
  let r := s.rq j
  let us := if s.v11 then s.get (HOST_RQ_MOD.us j) else 0
  let free := match r.sent with
    | some t => decide (t + 1000 * us ≤ s.now)
    | none => true
  if r.waits = 0 ∨ (us ≠ 0 ∧ !free) then s
  else (s.setRq j { r with waits := 0, sent := some s.now }).vector (s.get (HOST_RQ_CFG.vector j))

/-- The 16 bytes before the frame in a receive queue entry (R278). -/
def rqHead (f : Frame) (idx : Nat) (trunc phase v11 : Bool) : List Nat :=
  leBytes 2 (frameLen f) ++ [f.ftype, b2n trunc + 128 * b2n phase, f.src, f.cls] ++ leBytes 2 idx ++
    (match f.ext, v11 with
      | some e, true => extBytes e
      | _, _ => List.replicate 8 0)

/-- A frame enters host receive queue j as one entry of its ring, or is dropped and counted when the ring is full or not
enabled (R278). -/
def State.rqEnter (s : State) (j : Nat) (f : Frame) (idx : Nat) : State :=
  if !s.rqOpen j then s.bump (HOST_RQ_DROP.count j)
  else
    let r := s.rq j
    let wr := s.get (HOST_RQ_WR.wr j)
    let size := 256 * 2 ^ s.get (HOST_RQ_CFG.e j)
    let base := 256 * s.get (HOST_RQ_BASE_LO.base j) + 2 ^ 32 * s.get (HOST_RQ_BASE_HI.base j)
    let all := frameBytes f
    let bs := rqHead f idx (decide (size < 16 + all.length)) (r.pass % 2 == 0) s.v11 ++ all.take (size - 16)
    let s := s.emit (.hostWrite (base + wr * size) bs)
    let last := wr + 1 ≥ s.rqSize j
    let s := s.setRq j { r with used := r.used + 1, pass := if last then r.pass + 1 else r.pass, waits := r.waits + 1 }
    (s.put (HOST_RQ_WR.wr j) (if last then 0 else wr + 1)).rqAnnounce j

/-- The host frees entries of a ring by moving its read index from old to new (R278). -/
def ringFree (r : HostRing) (size old new : Nat) : HostRing :=
  { r with used := r.used - (new % size + size - old % size) % size }

/-- An event message is written into the event ring and its vector sent, or dropped and counted (R278). -/
def State.evqEnter (s : State) (vec : Nat) (msg : List Nat) : State :=
  let size := 2 ^ (s.get HOST_EVQ_CFG.n + 6)
  let r := s.host.evq
  if !s.flag HOST_EVQ_CFG.en || decide (size ≤ r.used) then s.bump HOST_EVQ_DROP.count
  else
    let wr := s.get HOST_EVQ_WR.wr
    let base := 16 * s.get HOST_EVQ_BASE_LO.base + 2 ^ 32 * s.get HOST_EVQ_BASE_HI.base
    let phase := b2n (r.pass % 2 == 0)
    let bs := msg.take 15 ++ [nth msg 15 % 128 + 128 * phase]
    let last := wr + 1 ≥ size
    let s := s.emit (.hostWrite (base + 16 * wr) bs)
    let s := { s with host := { s.host with evq :=
      { r with used := r.used + 1, pass := if last then r.pass + 1 else r.pass } } }
    (s.put HOST_EVQ_WR.wr (if last then 0 else wr + 1)).vector vec

/-- A change of this head's role or a new map epoch sends vector 2 (R279). -/
def State.roleVector (s : State) : State := s.vector 2

end Sys2Proof.Machine
end

