-- ==== Sys2Proof/Machine/Quench.lean ====
section
/-! DEFINITION. Machine/Quench.lean: the latch of a snapshot and the quench broadcast (R472 to R477). -/

namespace Sys2Proof.Machine

/-- The bits of QCH_STATUS.srcs (R480). -/
abbrev qsPIN : Nat := 0
abbrev qsTIME : Nat := 1
abbrev qsFAULT : Nat := 2
abbrev qsSOFT : Nat := 3
abbrev qsRING : Nat := 4

/-- An adjustment held within ±200 ppm of 1 ns, in 2⁻¹⁶ ns (R291). -/
def clampRate (i : Int) : Int := max (-13) (min 13 i)

/-- What one TIMECLK cycle adds to node time: 1 ns, the steering and what a blend slews (R291, R309). -/
def State.tickStep (s : State) : Nat := (65536 + clampRate (s.tim.steer + s.tim.phase + s.tim.slew)).toNat

/-- What is left to slew after a TIMECLK cycle. -/
def State.slewLeft (s : State) : Int := s.tim.slew - (clampRate (s.tim.steer + s.tim.phase + s.tim.slew) - clampRate (s.tim.steer + s.tim.phase))

/-- Node time at the next TIMECLK edge. -/
def State.nextEdge (s : State) : Nat := s.time + s.tickStep

/-- The quench broadcast: a MGMT frame of subtype 0x31 to every node, class 6; instant 0 means at arrival (R476). -/
def State.quenchBroadcast (s : State) (instant : Nat) : State :=
  s.broadcast { ftype := 0xA, cls := 6, dst := s.nodeId, src := s.nodeId, a := 0x31, b := leBytes 6 instant ++ [0, 0] }

/-- The snapshot of this moment (R32, R478). -/
def State.snapshot (s : State) (edge : Nat) : Snapshot :=
  { time := edge, regs := s.regs, pes := s.pes, queues := s.queues, clusters := s.clusters, chans := s.chans
    sw := s.sw
    pads := (List.range 12).map s.padOutputs, naps := s.slp.naps }

/-- Latch on the TIMECLK edge at node time `edge` for trigger sources `srcs` (a mask): a trigger while a snapshot is held
is ignored and counted, unless it falls on the same edge (R472, R473). -/
def State.latch (s : State) (srcs fault edge : Nat) : State :=
  let add := fun (s : State) => s.puts
    [(QCH_STATUS.srcs, s.get QCH_STATUS.srcs ||| srcs),
     (QCH_STATUS.fault, if bit srcs qsFAULT then fault else s.get QCH_STATUS.fault)]
  if s.flag QCH_STATUS.held then
    match s.flt.snap with
    | some sn => if sn.time = edge then add s else s.bump QCH_IGNORED.count
    | none => s.bump QCH_IGNORED.count
  else
    let s := { s with flt := { s.flt with snap := some (s.snapshot edge) } }
    let s := s.puts [(QCH_STATUS.held, 1), (QCH_STATUS.srcs, 0), (QCH_STATUS.fault, 0),
      (QCH_TIME.word 0, timeFrac edge), (QCH_TIME.word 1, timeNs edge), (QCH_TIME.word 2, timeSec edge),
      (QCH_TIME.word 3, timeSec edge / 2 ^ 32)]
    let s := add s
    if s.flag SW_CAPCFG.stop_on_quench then s.setEvent SW_CAPCFG.stopped else s

/-- A trigger of this node: latch, and send the broadcast that QCH_CFG.bcast_out asks for when the trigger latched
(R476). -/
def State.trigger (s : State) (src fault edge : Nat) : State :=
  let fresh := !s.flag QCH_STATUS.held
  let s := s.latch (2 ^ src) fault edge
  if fresh && s.flag QCH_CFG.bcast_out then s.quenchBroadcast 0 else s

end Sys2Proof.Machine
end

