-- ==== Sys2Proof/Machine/Crypto.lean ====
section
/-! DEFINITION. Machine/Crypto.lean: the symmetric standards that the spec names: SHA-384 and HKDF with it, AES-256 and its
Galois/counter mode (R212, R213, R345, R394, R401). The spec names FIPS 180-4, RFC 5869, FIPS 197 and SP 800-38D and does not
restate them: what stands here is PRESUMED from those standards (log 261). -/

namespace Sys2Proof.Machine

/-- The number that bytes give most significant first. -/
def beBytes (bs : List Nat) : Nat := bs.foldl (fun a b => 256 * a + b % 256) 0

/-- The n bytes of a number, most significant first. -/
def toBe (n v : Nat) : List Nat := (leBytes n v).reverse

/-- Split a list into blocks of n; the first argument bounds their number. -/
def blocksOf {α : Type} (n : Nat) : Nat → List α → List (List α)
  | 0, _ => []
  | fuel + 1, bs => if bs.isEmpty then [] else bs.take n :: blocksOf n fuel (bs.drop n)

/-! ### SHA-384 (FIPS 180-4) -/

/-- The 80 round constants. -/
def shaK : List Nat :=
  [0x428A2F98D728AE22, 0x7137449123EF65CD, 0xB5C0FBCFEC4D3B2F, 0xE9B5DBA58189DBBC, 0x3956C25BF348B538] ++
  [0x59F111F1B605D019, 0x923F82A4AF194F9B, 0xAB1C5ED5DA6D8118, 0xD807AA98A3030242, 0x12835B0145706FBE] ++
  [0x243185BE4EE4B28C, 0x550C7DC3D5FFB4E2, 0x72BE5D74F27B896F, 0x80DEB1FE3B1696B1, 0x9BDC06A725C71235] ++
  [0xC19BF174CF692694, 0xE49B69C19EF14AD2, 0xEFBE4786384F25E3, 0x0FC19DC68B8CD5B5, 0x240CA1CC77AC9C65] ++
  [0x2DE92C6F592B0275, 0x4A7484AA6EA6E483, 0x5CB0A9DCBD41FBD4, 0x76F988DA831153B5, 0x983E5152EE66DFAB] ++
  [0xA831C66D2DB43210, 0xB00327C898FB213F, 0xBF597FC7BEEF0EE4, 0xC6E00BF33DA88FC2, 0xD5A79147930AA725] ++
  [0x06CA6351E003826F, 0x142929670A0E6E70, 0x27B70A8546D22FFC, 0x2E1B21385C26C926, 0x4D2C6DFC5AC42AED] ++
  [0x53380D139D95B3DF, 0x650A73548BAF63DE, 0x766A0ABB3C77B2A8, 0x81C2C92E47EDAEE6, 0x92722C851482353B] ++
  [0xA2BFE8A14CF10364, 0xA81A664BBC423001, 0xC24B8B70D0F89791, 0xC76C51A30654BE30, 0xD192E819D6EF5218] ++
  [0xD69906245565A910, 0xF40E35855771202A, 0x106AA07032BBD1B8, 0x19A4C116B8D2D0C8, 0x1E376C085141AB53] ++
  [0x2748774CDF8EEB99, 0x34B0BCB5E19B48A8, 0x391C0CB3C5C95A63, 0x4ED8AA4AE3418ACB, 0x5B9CCA4F7763E373] ++
  [0x682E6FF3D6B2B8A3, 0x748F82EE5DEFB2FC, 0x78A5636F43172F60, 0x84C87814A1F0AB72, 0x8CC702081A6439EC] ++
  [0x90BEFFFA23631E28, 0xA4506CEBDE82BDE9, 0xBEF9A3F7B2C67915, 0xC67178F2E372532B, 0xCA273ECEEA26619C] ++
  [0xD186B8C721C0C207, 0xEADA7DD6CDE0EB1E, 0xF57D4F7FEE6ED178, 0x06F067AA72176FBA, 0x0A637DC5A2C898A6] ++
  [0x113F9804BEF90DAE, 0x1B710B35131C471B, 0x28DB77F523047D84, 0x32CAAB7B40C72493, 0x3C9EBE0A15C9BEBC] ++
  [0x431D67C49C100D4C, 0x4CC5D4BECB3E42B6, 0x597F299CFC657E2A, 0x5FCB6FAB3AD6FAEC, 0x6C44198C4A475817]

/-- The initial hash value of SHA-384. -/
def shaInit : List Nat :=
  [0xCBBB9D5DC1059ED8, 0x629A292A367CD507, 0x9159015A3070DD17, 0x152FECD8F70E5939, 0x67332667FFC00B31] ++
  [0x8EB44A8768581511, 0xDB0C2E0D64F98FA7, 0x47B5481DBEFA4FA4]

/-- A 64-bit word turned right by n places. -/
def rotr (x n : Nat) : Nat := (x / 2 ^ n + x % 2 ^ n * 2 ^ (64 - n)) % 2 ^ 64

/-- The 80 words of the message schedule of a block of 16 words. -/
def shaSchedule (ws : List Nat) : List Nat :=
  (List.range 64).foldl (fun w t =>
    let a := nth w (t + 1)
    let b := nth w (t + 14)
    w ++ [(nth w t + (rotr a 1 ^^^ rotr a 8 ^^^ a / 2 ^ 7) + nth w (t + 9) + (rotr b 19 ^^^ rotr b 61 ^^^ b / 2 ^ 6)) % 2 ^ 64]) ws

/-- One round on the eight working words, with its schedule word and constant. -/
def shaRound (h : List Nat) (wk : Nat × Nat) : List Nat :=
  let a := nth h 0
  let b := nth h 1
  let c := nth h 2
  let e := nth h 4
  let choose := (e &&& nth h 5) ^^^ ((2 ^ 64 - 1 - e) &&& nth h 6)
  let most := (a &&& b) ^^^ (a &&& c) ^^^ (b &&& c)
  let t := nth h 7 + (rotr e 14 ^^^ rotr e 18 ^^^ rotr e 41) + choose + wk.2 + wk.1
  [(t + (rotr a 28 ^^^ rotr a 34 ^^^ rotr a 39) + most) % 2 ^ 64, a, b, c, (nth h 3 + t) % 2 ^ 64, e, nth h 5, nth h 6]

/-- One block of 128 bytes into the hash value. -/
def shaBlock (h block : List Nat) : List Nat :=
  let ws := (List.range 16).map (fun i => beBytes ((block.drop (8 * i)).take 8))
  (h.zip (((shaSchedule ws).zip shaK).foldl shaRound h)).map (fun x => (x.1 + x.2) % 2 ^ 64)

/-- The SHA-384 digest of bytes: 48 bytes. -/
def sha384 (bs : List Nat) : List Nat :=
  let n := bs.length
  let padded := bs ++ [0x80] ++ List.replicate ((239 - n % 128) % 128) 0 ++ toBe 16 (8 * n)
  (((blocksOf 128 (n / 128 + 2) padded).foldl shaBlock shaInit).take 6).flatMap (toBe 8)

/-- HMAC with SHA-384 (FIPS 198-1). -/
def hmac384 (key bs : List Nat) : List Nat :=
  let k := if 128 < key.length then sha384 key else key
  let k := k ++ List.replicate (128 - k.length) 0
  sha384 (k.map (fun b => b ^^^ 0x5C) ++ sha384 (k.map (fun b => b ^^^ 0x36) ++ bs))

/-- The output blocks of HKDF from block i on, after the previous block (RFC 5869). -/
def hkdfBlocks (prk info : List Nat) : Nat → Nat → List Nat → List Nat
  | 0, _, _ => []
  | fuel + 1, i, prev =>
    let t := hmac384 prk (prev ++ info ++ [i])
    t ++ hkdfBlocks prk info fuel (i + 1) t

/-- HKDF with SHA-384: salt, secret, info and length; no salt stands for 48 zero bytes (RFC 5869). -/
def hkdf384 (salt secret info : List Nat) (n : Nat) : List Nat :=
  (hkdfBlocks (hmac384 (if salt.isEmpty then List.replicate 48 0 else salt) secret) info ((n + 47) / 48) 1 []).take n

/-- The bytes of an ASCII string. -/
def ascii (t : String) : List Nat := t.toList.map Char.toNat

/-! ### AES-256 (FIPS 197) -/

/-- The S-box: 32 bytes a row, the byte for the lowest value least significant. -/
def sboxRows : List Nat := [0xC072A49CAFA2D4ADF04759FA7DC982CA76ABD7FE2B670130C56F6BF27B777C63,
  0x75B227EBE28012079A059618C323C7041531D871F1E5A534CCF73F362693FDB7,
  0xCF584C4A39BECB6A5BB1FC20ED00D153842FE329B3D63B52A05A6E1B1A2C8309,
  0xD2F3FF1021DAB6BCF5389D928F40A351A89F3C507F02F94585334D43FBAAEFD0,
  0xDB0B5EDE14B8EE4688902A22DC4F816073195D643D7EA7C41744975FEC130CCD,
  0x08AE7A65EAF4566CA94ED58D6D37C8E779E4959162ACD3C25C2406490A3A32E0,
  0x9E1DC186B95735610EF6034866B53E708A8BBD4B1F74DDE8C6B4A61C2E2578BA,
  0x16BB54B00F2D99416842E6BF0D89A18CDF2855CEE9871E9B948ED9691198F8E1]

def sbox (b : Nat) : Nat := nth sboxRows (b / 32) / 256 ^ (b % 32) % 256

/-- The double of a byte in the field of AES. -/
def xtime (b : Nat) : Nat := if b < 128 then 2 * b else (2 * b) % 256 ^^^ 0x1B

/-- Two byte lists combined. -/
def xorBytes (a b : List Nat) : List Nat := List.zipWith (fun x y => x ^^^ y) a b

/-- The next word of the key schedule: word i of those so far, each 4 bytes. -/
def keyWord (w : List (List Nat)) (i : Nat) : List Nat :=
  let prev := w.getD (i - 1) []
  let t := if i % 8 = 0 then
      let r := (prev.drop 1 ++ prev.take 1).map sbox
      (nth r 0 ^^^ 2 ^ (i / 8 - 1)) :: r.drop 1
    else if i % 8 = 4 then prev.map sbox
    else prev
  xorBytes (w.getD (i - 8) []) t

/-- The 15 round keys of a 32-byte key. -/
def roundKeys (key : List Nat) : List (List Nat) :=
  let ws := (List.range 52).foldl (fun w j => w ++ [keyWord w (j + 8)]) (blocksOf 4 8 key)
  (blocksOf 4 15 ws).map List.flatten

/-- Byte i of the state after its rows have been shifted: bytes stand column by column. -/
def shiftRows (x : List Nat) : List Nat := (List.range 16).map (fun i => nth x ((i + 4 * (i % 4)) % 16))

/-- One column of four bytes mixed. -/
def mixColumn (c : List Nat) : List Nat :=
  (List.range 4).map (fun i =>
    let a := nth c i
    let b := nth c ((i + 1) % 4)
    xtime a ^^^ (xtime b ^^^ b) ^^^ nth c ((i + 2) % 4) ^^^ nth c ((i + 3) % 4))

/-- AES-256 of one block of 16 bytes under a 32-byte key. -/
def aesBlock (key block : List Nat) : List Nat :=
  let ks := roundKeys key
  let s := (List.range 13).foldl (fun x r =>
    xorBytes ((blocksOf 4 4 (shiftRows (x.map sbox))).flatMap mixColumn) (ks.getD (r + 1) [])) (xorBytes block (ks.getD 0 []))
  xorBytes (shiftRows (s.map sbox)) (ks.getD 14 [])

/-! ### Galois/counter mode (SP 800-38D) -/

/-- The product of two blocks in the field of GCM, as numbers whose most significant bit is the first. -/
def gfMul (x y : Nat) : Nat :=
  ((List.range 128).foldl (fun (zv : Nat × Nat) i =>
    (if x / 2 ^ (127 - i) % 2 = 1 then zv.1 ^^^ zv.2 else zv.1,
     if zv.2 % 2 = 1 then (zv.2 / 2) ^^^ (0xE1 * 2 ^ 120) else zv.2 / 2)) (0, y)).1

/-- GHASH under the hash key h of whole blocks. -/
def ghash (h : Nat) (bs : List Nat) : Nat :=
  (blocksOf 16 (bs.length / 16 + 1) bs).foldl (fun y b => gfMul (y ^^^ beBytes b) h) 0

/-- Bytes padded with 0 to whole blocks. -/
def padBlock (bs : List Nat) : List Nat := bs ++ List.replicate ((16 - bs.length % 16) % 16) 0

/-- The counter block of a 12-byte IV with count n. -/
def gcmCounter (iv : List Nat) (n : Nat) : List Nat := iv ++ toBe 4 n

/-- AES-256-GCM: the bytes under key and 12-byte IV; the same for encryption and decryption. -/
def gcmCipher (key iv bs : List Nat) : List Nat :=
  ((blocksOf 16 (bs.length / 16 + 1) bs).zipIdx).flatMap (fun b => xorBytes b.1 (aesBlock key (gcmCounter iv (b.2 + 2))))

/-- The 16-byte tag of AES-256-GCM over additional data and ciphertext. -/
def gcmTag (key iv aad ct : List Nat) : List Nat :=
  let h := beBytes (aesBlock key (List.replicate 16 0))
  let y := ghash h (padBlock aad ++ padBlock ct ++ toBe 8 (8 * aad.length) ++ toBe 8 (8 * ct.length))
  xorBytes (toBe 16 y) (aesBlock key (gcmCounter iv 1))

end Sys2Proof.Machine
end

