-- ==== Sys2Proof/Machine/Ecc.lean ====
section
/-! DEFINITION. Machine/Ecc.lean: the curve P-384 of SP 800-186, ECDH of SP 800-56A and ECDSA of FIPS 186-5 with SHA-384, which the spec
names and does not restate (R213, R346, R394, R409). Numbers are big-endian in 48 bytes; a public key is 0x04 and two of them. -/

namespace Sys2Proof.Machine

/-- The field prime, the order of the base point, the coefficient b and the base point of P-384. -/
def eccP : Nat := 2 ^ 384 - 2 ^ 128 - 2 ^ 96 + 2 ^ 32 - 1
def eccN : Nat := 0xFFFFFFFFFFFFFFFFFFFFFFFFFFFFFFFFFFFFFFFFFFFFFFFFC7634D81F4372DDF581A0DB248B0A77AECEC196ACCC52973
def eccB : Nat := 0xB3312FA7E23EE7E4988E056BE3F82D19181D9C6EFE8141120314088F5013875AC656398D8A2ED19D2A85C8EDD3EC2AEF
def eccG : Nat × Nat :=
  (0xAA87CA22BE8B05378EB1C71EF320AD746E1D3B628BA79B9859F741E082542A385502F25DBF55296C3A545E3872760AB7,
   0x3617DE4A96262C6F5D9E98BF9292DC29F8F41DBD289A147CE9DA3113B5F0B8C00A60B1CE1D7E819D7A431D7C90EA0E5F)

/-- b to the power e modulo m, by the low n bits of e. -/
def powMod (m : Nat) : Nat → Nat → Nat → Nat
  | 0, _, _ => 1
  | n + 1, b, e =>
    let r := powMod m n (b * b % m) (e / 2)
    if e % 2 = 1 then b * r % m else r

/-- The inverse modulo a 384-bit prime. -/
def invMod (m a : Nat) : Nat := powMod m 384 (a % m) (m - 2)

/-- a - b modulo the field prime. -/
def eccSub (a b : Nat) : Nat := (a + (eccP - b % eccP)) % eccP

/-- A point in Jacobian coordinates; z = 0 is the point at infinity. -/
structure EccPoint where
  x : Nat
  y : Nat
  z : Nat
  deriving DecidableEq, Repr

def eccZero : EccPoint := ⟨1, 1, 0⟩

/-- Twice a point, for the coefficient a = -3. -/
def EccPoint.double (p : EccPoint) : EccPoint :=
  let delta := p.z * p.z % eccP
  let gamma := p.y * p.y % eccP
  let beta := p.x * gamma % eccP
  let alpha := 3 * (eccSub p.x delta * (p.x + delta)) % eccP
  let x := eccSub (alpha * alpha) (8 * beta)
  ⟨x, eccSub (alpha * eccSub (4 * beta) x) (8 * (gamma * gamma)), eccSub ((p.y + p.z) * (p.y + p.z)) (gamma + delta)⟩

/-- The sum of two points. -/
def EccPoint.add (p q : EccPoint) : EccPoint :=
  if p.z = 0 then q
  else if q.z = 0 then p
  else
    let zp := p.z * p.z % eccP
    let zq := q.z * q.z % eccP
    let u1 := p.x * zq % eccP
    let u2 := q.x * zp % eccP
    let s1 := p.y * zq * q.z % eccP
    let s2 := q.y * zp * p.z % eccP
    if u1 = u2 then (if s1 = s2 then p.double else eccZero)
    else
      let h := eccSub u2 u1
      let r := eccSub s2 s1
      let hh := h * h % eccP
      let v := u1 * hh % eccP
      let x := eccSub (r * r) (hh * h + 2 * v)
      ⟨x, eccSub (r * eccSub v x) (s1 * (hh * h % eccP)), h * p.z * q.z % eccP⟩

/-- k times a point, by the low n bits of k. -/
def EccPoint.times (p : EccPoint) : Nat → Nat → EccPoint
  | 0, _ => eccZero
  | n + 1, k =>
    let r := (p.times n (k / 2)).double
    if k % 2 = 1 then r.add p else r

/-- Affine coordinates. -/
def EccPoint.affine (p : EccPoint) : Nat × Nat :=
  let i := invMod eccP p.z
  let ii := i * i % eccP
  (p.x * ii % eccP, p.y * (ii * i % eccP) % eccP)

/-- The base point. -/
def eccBase : EccPoint := ⟨eccG.1, eccG.2, 1⟩

/-- The point of a public key, where the key is one of the curve. -/
def eccPoint (pub : List Nat) : Option EccPoint :=
  let x := beBytes ((pub.drop 1).take 48)
  let y := beBytes ((pub.drop 49).take 48)
  if nth pub 0 = 4 ∧ pub.length = 97 ∧ x < eccP ∧ y < eccP ∧ y * y % eccP = eccSub (x * x * x + eccB) (3 * x) then some ⟨x, y, 1⟩ else none

/-- The number of a private key. -/
def eccPrivate (key : List Nat) : Nat := beBytes key % eccN

/-- The public key of a private key. -/
def eccPublic (key : List Nat) : List Nat :=
  let p := (eccBase.times 384 (eccPrivate key)).affine
  4 :: (toBe 48 p.1 ++ toBe 48 p.2)

/-- The ECDH secret: the x coordinate; none for a public key that is no point of the curve. -/
def ecdh (key pub : List Nat) : List Nat :=
  match eccPoint pub with
  | some q => toBe 48 (q.times 384 (eccPrivate key)).affine.1
  | none => []

/-- An ECDSA signature, r and s, under a private key, with a random number. -/
def ecdsaSign (key msg random : List Nat) : List Nat :=
  let k := eccPrivate random
  let r := (eccBase.times 384 k).affine.1 % eccN
  let s := invMod eccN k * (beBytes (sha384 msg) + r * eccPrivate key) % eccN
  toBe 48 r ++ toBe 48 s

/-- An ECDSA signature verifies. -/
def ecdsaVerifies (pub msg sig : List Nat) : Bool :=
  let r := beBytes (sig.take 48)
  let s := beBytes ((sig.drop 48).take 48)
  match eccPoint pub with
  | none => false
  | some q =>
    let w := invMod eccN s
    let p := (eccBase.times 384 (beBytes (sha384 msg) * w % eccN)).add (q.times 384 (r * w % eccN))
    decide (0 < r) && decide (r < eccN) && decide (0 < s) && decide (s < eccN) && sig.length == 96 && p.z != 0 &&
      p.affine.1 % eccN == r

end Sys2Proof.Machine
end

