-- ==== Sys2Proof/Machine/MlDsa.lean ====
section
/-! DEFINITION. Machine/MlDsa.lean: SHAKE of FIPS 202 and ML-DSA-65 of FIPS 204, which the spec names and does not restate (R213, R346,
R394, R409): the pure form with an empty context. -/

namespace Sys2Proof.Machine

/-! ### SHAKE (FIPS 202) -/

/-- The round constants of Keccak-f[1600]. -/
def keccakRC : List Nat :=
  [0x0000000000000001, 0x0000000000008082, 0x800000000000808A, 0x8000000080008000] ++
  [0x000000000000808B, 0x0000000080000001, 0x8000000080008081, 0x8000000000008009] ++
  [0x000000000000008A, 0x0000000000000088, 0x0000000080008009, 0x000000008000000A] ++
  [0x000000008000808B, 0x800000000000008B, 0x8000000000008089, 0x8000000000008003] ++
  [0x8000000000008002, 0x8000000000000080, 0x000000000000800A, 0x800000008000000A] ++
  [0x8000000080008081, 0x8000000000008080, 0x0000000080000001, 0x8000000080008008]

/-- The rotations of its lanes. -/
def keccakRot : List Nat :=
  [0, 1, 62, 28, 27] ++
  [36, 44, 6, 55, 20] ++
  [3, 10, 43, 25, 39] ++
  [41, 45, 15, 21, 8] ++
  [18, 2, 61, 56, 14]

/-- A 64-bit word turned left by n places. -/
def rotl (x n : Nat) : Nat := rotr x ((64 - n) % 64)

/-- One round on the 25 lanes. -/
def keccakRound (a : List Nat) (rc : Nat) : List Nat :=
  let lane := fun (l : List Nat) (x y : Nat) => nth l (x % 5 + 5 * (y % 5))
  let c := (List.range 5).map (fun x => (List.range 5).foldl (fun v y => v ^^^ lane a x y) 0)
  let d := (List.range 5).map (fun x => nth c ((x + 4) % 5) ^^^ rotl (nth c ((x + 1) % 5)) 1)
  let a := (List.range 25).map (fun i => rotl (nth a i ^^^ nth d (i % 5)) (nth keccakRot i))
  let b := (List.range 25).map (fun i => lane a (i % 5 + 3 * (i / 5)) (i % 5))
  let a := (List.range 25).map (fun i =>
    let x := i % 5
    let y := i / 5
    lane b x y ^^^ ((2 ^ 64 - 1 - lane b (x + 1) y) &&& lane b (x + 2) y))
  a.set 0 (nth a 0 ^^^ rc)

/-- The permutation. -/
def keccak (a : List Nat) : List Nat := keccakRC.foldl keccakRound a

/-- A block of bytes into the lanes. -/
def keccakAbsorb (a block : List Nat) : List Nat :=
  keccak ((List.range 25).map (fun i => nth a i ^^^ ofBytes ((block.drop (8 * i)).take 8)))

/-- n blocks of output of `rate` bytes. -/
def keccakSqueeze (rate : Nat) : Nat → List Nat → List Nat
  | 0, _ => []
  | n + 1, a => (a.flatMap (leBytes 8)).take rate ++ keccakSqueeze rate n (keccak a)

/-- SHAKE with a rate of 168 bytes (SHAKE128) or 136 (SHAKE256): n bytes. -/
def shake (rate : Nat) (bs : List Nat) (n : Nat) : List Nat :=
  let room := rate - bs.length % rate
  let pad := if room = 1 then [0x9F] else 0x1F :: (List.replicate (room - 2) 0 ++ [0x80])
  let a := (blocksOf rate (bs.length / rate + 1) (bs ++ pad)).foldl keccakAbsorb (List.replicate 25 0)
  (keccakSqueeze rate ((n + rate - 1) / rate) a).take n

/-- The hash H of FIPS 204. -/
def shakeH (bs : List Nat) (n : Nat) : List Nat := shake 136 bs n

/-! ### Polynomials modulo q and X^256 + 1 -/

/-- The prime q of ML-DSA. -/
def mldsaQ : Nat := 8380417

def polyAdd (a b : List Nat) : List Nat := List.zipWith (fun x y => (x + y) % mldsaQ) a b
def polySub (a b : List Nat) : List Nat := List.zipWith (fun x y => (x + mldsaQ - y) % mldsaQ) a b
def polyMul (a b : List Nat) : List Nat := List.zipWith (fun x y => x * y % mldsaQ) a b
def polyScale (k : Nat) (a : List Nat) : List Nat := a.map (fun x => k * x % mldsaQ)

/-- A power modulo q, by the low 9 bits of the exponent. -/
def zetaPow (e : Nat) : Nat := (List.range 9).foldl (fun r i => if e / 2 ^ (8 - i) % 2 = 1 then r * r % mldsaQ * 1753 % mldsaQ else r * r % mldsaQ) 1

/-- The 8 bits of m in reverse order. -/
def rev8 (m : Nat) : Nat := (List.range 8).foldl (fun r i => 2 * r + m / 2 ^ i % 2) 0

/-- The number-theoretic transform of FIPS 204: the part of 2^n coefficients whose root has the number m. -/
def nttPart : Nat → Nat → List Nat → List Nat
  | 0, _, w => w
  | n + 1, m, w =>
    let lo := w.take (2 ^ n)
    let t := polyScale (zetaPow (rev8 m)) (w.drop (2 ^ n))
    nttPart n (2 * m) (polyAdd lo t) ++ nttPart n (2 * m + 1) (polySub lo t)

def ntt (w : List Nat) : List Nat := nttPart 8 1 w

/-- Its inverse, without the division by 256. -/
def nttBackPart : Nat → Nat → List Nat → List Nat
  | 0, _, w => w
  | n + 1, m, w =>
    let l := nttBackPart n (2 * m) (w.take (2 ^ n))
    let r := nttBackPart n (2 * m + 1) (w.drop (2 ^ n))
    polyAdd l r ++ polyScale (zetaPow (512 - rev8 m)) (polySub l r)

def nttBack (w : List Nat) : List Nat := polyScale 8347681 (nttBackPart 8 1 w)

/-- The sum of the products of two vectors of transforms. -/
def nttDot (a b : List (List Nat)) : List Nat :=
  (List.zipWith polyMul a b).foldl polyAdd (List.replicate 256 0)

/-! ### Bytes and coefficients -/

/-- Values of n bits each, from bytes. -/
def bitUnpack (n count : Nat) (bs : List Nat) : List Nat :=
  let v := ofBytes bs
  (List.range count).map (fun i => v / 2 ^ (n * i) % 2 ^ n)

/-- Values of n bits each, to bytes. -/
def bitPack (n : Nat) (vs : List Nat) : List Nat :=
  leBytes (n * vs.length / 8) (vs.foldr (fun v r => r * 2 ^ n + v) 0)

/-- Of polynomial i of n bytes each. -/
def polyBytes (n i : Nat) (bs : List Nat) : List Nat := (bs.drop (n * i)).take n

/-- a - v modulo q. -/
def modSub (a v : Nat) : Nat := (a + mldsaQ - v % mldsaQ) % mldsaQ

/-- The size of a coefficient, as the nearest to 0 of its class. -/
def coefSize (v : Nat) : Nat := min (v % mldsaQ) (mldsaQ - v % mldsaQ)

/-! ### Sampling -/

/-- RejNTTPoly: 3 bytes a candidate, of at most 448 (FIPS 204 sets no fewer than 298). -/
def rejNtt (seed : List Nat) : List Nat :=
  let bs := shake 168 seed 1344
  ((((List.range 448).map (fun i => nth bs (3 * i) + 256 * nth bs (3 * i + 1) + 65536 * (nth bs (3 * i + 2) % 128))).filter
    (fun v => decide (v < mldsaQ))).take 256)

/-- Row r of the matrix of a seed. -/
def matrixRow (rho : List Nat) (r : Nat) : List (List Nat) := (List.range 5).map (fun s => rejNtt (rho ++ [s, r]))

/-- SampleInBall: from the bytes that follow, each of 49 places in turn. -/
def ballPlaces : List Nat → List Nat → Nat → List Nat → List Nat
  | [], c, _, _ => c
  | i :: is, c, h, bs =>
    match bs.dropWhile (fun j => decide (i < j)) with
    | [] => c
    | j :: rest => ballPlaces is ((c.set i (nth c j)).set j (if h % 2 = 1 then mldsaQ - 1 else 1)) (h / 2) rest

def sampleInBall (seed : List Nat) : List Nat :=
  let bs := shakeH seed 544
  ballPlaces ((List.range 49).map (fun i => 207 + i)) (List.replicate 256 0) (ofBytes (bs.take 8)) (bs.drop 8)

/-- ExpandMask: polynomial r of the mask of a seed and counter. -/
def expandMask (seed : List Nat) (n : Nat) : List Nat :=
  (bitUnpack 20 256 (shakeH (seed ++ leBytes 2 n) 640)).map (fun v => modSub (2 ^ 19) v)

/-! ### Rounding -/

/-- Twice gamma2. -/
def mldsaAlpha : Nat := (mldsaQ - 1) / 16

/-- The high part of a coefficient, and its low part as a number modulo q (Decompose). -/
def decompose (v : Nat) : Nat × Nat :=
  let r := v % mldsaQ
  let r0 := r % mldsaAlpha
  let up := decide (mldsaAlpha / 2 < r0)
  let low := if up then modSub r0 mldsaAlpha else r0
  let high := if up then r - r0 + mldsaAlpha else r - r0
  if high = mldsaQ - 1 then (0, modSub low 1) else (high / mldsaAlpha, low)

/-- UseHint. -/
def useHint (h : Bool) (v : Nat) : Nat :=
  let d := decompose v
  if !h then d.1
  else if 0 < d.2 ∧ d.2 ≤ mldsaAlpha / 2 then (d.1 + 1) % 16
  else (d.1 + 15) % 16

/-- Power2Round: the high and the low part, with 13 bits. -/
def power2Round (v : Nat) : Nat × Nat :=
  let r := v % mldsaQ
  let r0 := r % 8192
  if 4096 < r0 then ((r - r0) / 8192 + 1, modSub r0 8192) else (r / 8192, r0)

/-- HintBitUnpack, from place `from_` of the list of places: polynomials in turn, places strictly rising, the rest 0. -/
def hintPolys (places : List Nat) : List Nat → Nat → Option (List (List Nat))
  | [], from_ => if (places.drop from_).all (· == 0) then some [] else none
  | e :: es, from_ =>
    let l := (places.take e).drop from_
    if e < from_ ∨ 55 < e ∨ (l.zip l.tail).any (fun x => decide (x.2 ≤ x.1)) = true then none
    else (hintPolys places es e).map (fun r => l :: r)

def hintUnpack (bs : List Nat) : Option (List (List Nat)) := hintPolys (bs.take 55) ((bs.drop 55).take 6) 0

def hintPack (hs : List (List Nat)) : List Nat :=
  let places := hs.flatten
  places ++ List.replicate (55 - places.length) 0 ++ (hs.foldl (fun (r : Nat × List Nat) l => (r.1 + l.length, r.2 ++ [r.1 + l.length])) (0, [])).2

/-! ### Keys and signatures -/

/-- What a signature covers: the message with an empty context. -/
def mldsaMu (tr msg : List Nat) : List Nat := shakeH (tr ++ [0, 0] ++ msg) 64

/-- Small polynomials of a private key: s1 and s2, with 4 bits a coefficient. -/
def shortPolys (bs : List Nat) (n : Nat) : List (List Nat) :=
  (List.range n).map (fun i => (bitUnpack 4 256 (polyBytes 128 i bs)).map (fun v => modSub 4 v))

/-- The public key of a private key. -/
def mldsaPublic (key : List Nat) : List Nat :=
  let rho := key.take 32
  let s1 := (shortPolys (key.drop 128) 5).map ntt
  let s2 := shortPolys (key.drop 768) 6
  rho ++ (s2.zipIdx.flatMap (fun e =>
    let t := polyAdd (nttBack (nttDot (matrixRow rho e.2) s1)) e.1
    bitPack 10 (t.map (fun v => (power2Round v).1))))

/-- An ML-DSA-65 signature verifies. -/
def mldsaVerifies (pub msg sig : List Nat) : Bool :=
  let rho := pub.take 32
  let seed := sig.take 48
  let z := (List.range 5).map (fun i => (bitUnpack 20 256 (polyBytes 640 i (sig.drop 48))).map (fun v => modSub (2 ^ 19) v))
  match hintUnpack (sig.drop 3248) with
  | none => false
  | some h =>
    let mu := mldsaMu (shakeH pub 64) msg
    let c := ntt (sampleInBall seed)
    let zs := z.map ntt
    let w := h.zipIdx.flatMap (fun e =>
      let t := ntt (polyScale 8192 (bitUnpack 10 256 (polyBytes 320 e.2 (pub.drop 32))))
      let r := nttBack (polySub (nttDot (matrixRow rho e.2) zs) (polyMul c t))
      bitPack 4 (r.zipIdx.map (fun x => useHint (e.1.contains x.2) x.1)))
    sig.length == 3309 && pub.length == 1952 && z.all (fun p => p.all (fun v => decide (coefSize v < 2 ^ 19 - 196))) &&
      shakeH (mu ++ w) 48 == seed

/-- One attempt of the signing loop, with the counter of its mask (FIPS 204). -/
def mldsaAttempt (key mu mask : List Nat) (n : Nat) : Option (List Nat) :=
  let rho := key.take 32
  let s1 := shortPolys (key.drop 128) 5
  let s2 := shortPolys (key.drop 768) 6
  let t0 := (List.range 6).map (fun i => (bitUnpack 13 256 (polyBytes 416 i (key.drop 1536))).map (fun v => modSub 4096 v))
  let y := (List.range 5).map (fun r => expandMask mask (n + r))
  let ys := y.map ntt
  let w := (List.range 6).map (fun r => nttBack (nttDot (matrixRow rho r) ys))
  let seed := shakeH (mu ++ w.flatMap (fun p => bitPack 4 (p.map (fun v => (decompose v).1)))) 48
  let c := ntt (sampleInBall seed)
  let times := fun (p : List Nat) => nttBack (polyMul c (ntt p))
  let z := List.zipWith (fun a b => polyAdd a (times b)) y s1
  let r := List.zipWith (fun a b => polySub a (times b)) w s2
  let ct := t0.map times
  let h := List.zipWith (fun a t => ((polyAdd a t).zip a).zipIdx.filterMap (fun x =>
    if (decompose x.1.1).1 = (decompose x.1.2).1 then none else some x.2)) r ct
  let within := fun (ps : List (List Nat)) (b : Nat) => ps.all (fun p => p.all (fun v => decide (coefSize v < b)))
  if within z (2 ^ 19 - 196) && within (r.map (fun p => p.map (fun v => (decompose v).2))) (mldsaAlpha / 2 - 196) &&
      within ct (mldsaAlpha / 2) && decide (h.flatten.length ≤ 55) then
    some (seed ++ z.flatMap (fun p => bitPack 20 (p.map (fun v => modSub (2 ^ 19) v))) ++ hintPack h)
  else none

/-- The attempts in turn. -/
def mldsaLoop (key mu mask : List Nat) : Nat → Nat → List Nat
  | 0, _ => []
  | fuel + 1, n => (mldsaAttempt key mu mask n).getD (mldsaLoop key mu mask fuel (n + 5))

/-- An ML-DSA-65 signature under a private key, with 32 random bytes; FIPS 204 sets no fewer than 814 attempts. -/
def mldsaSign (key msg random : List Nat) : List Nat :=
  let mu := mldsaMu ((key.drop 64).take 64) msg
  mldsaLoop key mu (shakeH ((key.drop 32).take 32 ++ random ++ mu) 64) 814 0

end Sys2Proof.Machine
end

