-- ==== Sys2Proof/Machine/Slots.lean ====
section
/-! DEFINITION. Machine/Slots.lean: the slots of the crucible: key IDs, algorithms, installation, the link session slots, and the
touchmark certificate (R393 to R398, R404, R421). -/

namespace Sys2Proof.Machine

/-- The slot states (R421). -/
abbrev slEMPTY : Nat := 0
abbrev slLIVE : Nat := 1
abbrev slREFUSING : Nat := 3
abbrev slBAD : Nat := 4

/-- The key IDs that the hub reserves (R393). -/
abbrev idTOUCHMARK : Nat := 0xFFF0
abbrev idDOMAIN : Nat := 0xFFF2
abbrev idSALT : Nat := 0xFFF3
def isEphemeral (id : Nat) : Bool := decide (0xFFD0 ≤ id) && decide (id ≤ 0xFFD7)

/-- Bytes of key material of an algorithm (R394); 0 for a code that is none. -/
def algBytes (alg : Nat) : Nat := match alg with
  | 1 => 32
  | 2 => 48
  | 3 => 48
  | 4 => 48
  | 5 => 4032
  | 6 => 97
  | 7 => 1952
  | _ => 0

/-- The algorithms that a purpose takes (R397). -/
def purposeAlgs (purpose : Nat) : List Nat := match purpose with
  | 1 => [6, 7]
  | 2 => [6, 7]
  | 3 => [2]
  | 4 => [1]
  | 5 => [1]
  | 6 => [3, 5, 6, 7]
  | 7 => [4]
  | 8 => [2]
  | _ => []

/-- The class of a key of a purpose (R395). -/
def purposeClass (purpose : Nat) : Nat := if purpose < 3 then 1 else if purpose < 5 then 2 else 3

/-- The parent of a key of a purpose, where it is not derived (R395). -/
def purposeParent (purpose : Nat) : Nat := if purpose < 3 then 0 else if purpose = 3 then idTOUCHMARK else idDOMAIN

def State.slotState (s : State) (i : Nat) : Nat := s.get (CRU_SLOT0.state i)
def State.slotId (s : State) (i : Nat) : Nat := s.get (CRU_SLOT0.key_id i)
def State.slotAlg (s : State) (i : Nat) : Nat := s.get (CRU_SLOT0.alg i)
def State.slotMat (s : State) (i : Nat) : List Nat := SMap.getD s.cru.mat i []
def slots : List Nat := List.range 64

/-- The KEYREF entry that names a key, and the pairs that may use it through their ports (R397). -/
def State.keyRef (s : State) (id : Nat) : Option KeyRef := s.cst.keyrefs.find? (fun r => r.keyId == id)
def State.keyPairs (s : State) (id : Nat) : Nat := ((s.keyRef id).map (·.pairs)).getD 0

/-- The live slot that holds a key ID with one of these algorithms (R393). -/
def State.keySlot (s : State) (id : Nat) (algs : List Nat) : Option Nat :=
  slots.find? (fun i => s.slotState i == slLIVE && s.slotId i == id && algs.contains (s.slotAlg i))

/-- Any algorithm. -/
def allAlgs : List Nat := [1, 2, 3, 4, 5, 6, 7]

/-- The slot that a new key takes: one recorded for its ID, the preferred one of its KEYREF entry, or the first free one of
the pool (R393, R397, R407). -/
def State.freeSlot (s : State) (id : Nat) : Option Nat :=
  let free := (slots.drop 2).filter (fun i => s.slotState i == slEMPTY)
  let pref := ((s.keyRef id).map (·.slot)).getD 0xFF
  (free.find? (fun i => s.slotId i == id)).orElse (fun _ =>
    (free.find? (fun i => i == pref && s.slotId i == 0)).orElse (fun _ => free.find? (fun i => s.slotId i == 0)))

/-- Slot i holds this key, in a state. -/
def State.putSlot (s : State) (i st : Nat) (r : Stored) (persistent : Bool) : State :=
  let made := s.cru.made.filter (· != i)
  let s := { s with cru := { s.cru with
    mat := SMap.set s.cru.mat i r.mat [], made := if r.made then made ++ [i] else made } }
  s.puts [(CRU_SLOT0.key_id i, r.keyId), (CRU_SLOT0.class_ i, r.cls), (CRU_SLOT0.alg i, r.alg), (CRU_SLOT0.state i, st),
    (CRU_SLOT0.persistent i, b2n persistent), (CRU_SLOT1.parent i, r.parent), (CRU_SLOT1.pairs i, r.pairs),
    (CRU_SLOT2.uses i, 0), (CRU_SLOT3.purpose i, r.purpose)]

/-- What HKDF-SHA-384 makes of the PUF response and the fused seed: the root, and from it the storage and the integrity key (R392). -/
def deviceRoot : List Nat := hkdf384 Config.fusedSeed Config.pufResponse (Config.rootInfo 0) 48
def storageKey (root : List Nat) : List Nat := hkdf384 [] root (Config.rootInfo 1) 32
def integrityKey (root : List Nat) : List Nat := hkdf384 [] root (Config.rootInfo 2) 32

/-- The header of a slot's record as its tag covers it (R396). -/
def Stored.header (r : Stored) : List Nat :=
  leBytes 2 r.keyId ++ [r.cls, r.alg] ++ leBytes 2 r.parent ++ leBytes 2 r.pairs ++ [r.purpose, b2n r.made, b2n r.vacant]

/-- The GMAC tag of a record whose material stands unencrypted (R396). -/
def Stored.gmac (r : Stored) (root : List Nat) (i : Nat) : List Nat :=
  gcmTag (integrityKey root) (Config.storeNonce i) (r.header ++ r.mat) []

/-- A record as the store holds it, and as it is read: material encrypted under the storage key, with its tag (R396). -/
def Stored.sealed (r : Stored) (root : List Nat) (i : Nat) : Stored :=
  { r with mat := gcmCipher (storageKey root) (Config.storeNonce i) r.mat, tag := r.gmac root i }
def Stored.opened (r : Stored) (root : List Nat) (i : Nat) : Stored :=
  { r with mat := gcmCipher (storageKey root) (Config.storeNonce i) r.mat }

/-- The slot's record is written to the store (R396), or erased. -/
def State.storeSlot (s : State) (i : Nat) (r : Stored) : State :=
  { s with cru := { s.cru with store := SMap.insert s.cru.store i (r.sealed s.cru.root i) } }
def State.unstoreSlot (s : State) (i : Nat) : State :=
  { s with cru := { s.cru with store := SMap.erase s.cru.store i } }

/-- Slot i becomes EMPTY and zeroised, in SRAM and in the store. -/
def State.clearSlot (s : State) (i : Nat) : State :=
  let s := s.putSlot i slEMPTY { keyId := 0, cls := 0, alg := 0, parent := 0, pairs := 0, purpose := 0, mat := [] } false
  { s.unstoreSlot i with cru := { (s.unstoreSlot i).cru with born := SMap.set s.cru.born i none none } }

/-- A key is installed under R404 through a shadow slot: the known-answer test and the slot assay pass or fail. The answer is the
state, the status and result word 0; with no free slot, FAULT. -/
def State.installKey (s : State) (r : Stored) (persistent kat assay : Bool) : State × Nat × Nat :=
  match s.freeSlot r.keyId with
  | none => (s, stFAULT, 1)
  | some i =>
    if !kat then (s, stFAULT, 2)
    else if !assay then (s, stFAULT, 3)
    else
      let old := s.keySlot r.keyId [r.alg]
      let s := s.putSlot i slLIVE r persistent
      let s := if persistent then s.storeSlot i r else s
      (match old with
        | some j => s.clearSlot j
        | none => s, stOK, 0)

/-! ### Link session keys (R213, R393) -/

/-- The key ID of a session key of port p: direction 0 send, 1 receive (R393). -/
def sessionId (p dir phase : Nat) : Nat := 0xFFE0 + 4 * p + 2 * dir + phase % 2

/-- A key ID is one of the link session keys of port p. -/
def isSession (p id : Nat) : Bool := decide (0xFFE0 + 4 * p ≤ id) && decide (id < 0xFFE4 + 4 * p)

/-- The key of a direction and phase of port p, while its slot is live; with `held`, in REFUSING too (R214, R405; log 262). -/
def State.sessionKey (s : State) (p dir phase : Nat) (held : Bool) : Option (List Nat) :=
  (slots.find? (fun i => s.slotId i == sessionId p dir phase && s.slotAlg i == 1 &&
    (s.slotState i == slLIVE || (held && s.slotState i == slREFUSING)))).map s.slotMat

/-- The session key of a direction and phase is dropped (R214). -/
def State.dropSession (s : State) (p dir phase : Nat) : State :=
  (slots.filter (fun i => s.slotId i == sessionId p dir phase)).foldl (fun s i => s.clearSlot i) s

/-- Every session key of port p is dropped. -/
def State.dropSessions (s : State) (p : Nat) : State :=
  (slots.filter (fun i => isSession p (s.slotId i))).foldl (fun s i => s.clearSlot i) s

/-- A session key takes a link session slot; false where no slot is free (R213, R395). -/
def State.addSession (s : State) (p dir phase : Nat) (mat : List Nat) : State × Bool :=
  let r := s.installKey { keyId := sessionId p dir phase, cls := 2, alg := 1, parent := idSALT, pairs := 0, purpose := 0
                          mat := mat } false true true
  (r.1, r.2.1 == stOK)

/-- The registers and the material of the link session slots of a state, put into another: the links run on through node reset
(R23, R190; log 262). -/
def State.keepSessions (s t : State) : State :=
  (slots.filter (fun i => isSession 0 (s.slotId i) || isSession 1 (s.slotId i))).foldl (fun t i =>
    let t := t.putSlot i (s.slotState i)
      { keyId := s.slotId i, cls := 2, alg := s.slotAlg i, parent := s.get (CRU_SLOT1.parent i), pairs := 0, purpose := 0
        mat := s.slotMat i } false
    t.put (CRU_SLOT2.uses i) (s.get (CRU_SLOT2.uses i))) t

/-! ### Public keys and signatures (R213, R346, R394, R409) -/

/-- The public key of a private key of an algorithm (R394). -/
def publicKey (alg : Nat) (key : List Nat) : List Nat := if alg = 5 then mldsaPublic key else eccPublic key

/-- A signature verifies: algorithm (3 ECDSA P-384, 5 ML-DSA-65), public key, message, signature. -/
def verifies (alg : Nat) (pub msg sig : List Nat) : Bool :=
  if alg = 5 then mldsaVerifies pub msg sig else ecdsaVerifies pub msg sig

/-- A signature of an algorithm over a message, with random bytes of the n-th draw from the DRBG (R411). -/
def signature (alg : Nat) (key msg : List Nat) (n : Nat) : List Nat :=
  if alg = 5 then mldsaSign key msg (Config.drbg n 32) else ecdsaSign key msg (Config.drbg n 48)

/-! ### The touchmark (R398) -/

/-- A byte of the touchmark certificate (R346, R398): its keys are the public keys of the touchmark. -/
def certByte (i : Nat) : Nat :=
  let key := fun (alg o : Nat) => nth (publicKey alg (Config.touchmarkKey alg deviceRoot)) (i - o) % 256
  if i < 8 then nth [0x50, 0x4C, 0x47, 0x4D, 1, 0, 0, 0] i
  else if i = 16 then 0x64
  else if i = 17 then 0x96
  else if i = 23 ∨ i = 34 ∨ i = 35 ∨ 133 ≤ i ∧ i < 136 then 0
  else if 36 ≤ i ∧ i < 133 then key 3 36
  else if 136 ≤ i ∧ i < 2088 then key 5 136
  else if 2088 ≤ i ∧ i < 2092 then nth [0x50, 0x4C, 0x47, 0x53] (i - 2088)
  else if i = 2092 ∨ i = 2093 then Config.certField (i - 2060) % 256
  else if i = 2094 ∨ i = 2095 ∨ 5501 ≤ i then 0
  else Config.certField i % 256

/-- Bytes of the touchmark certificate (R398). -/
def State.cert (_s : State) (o n : Nat) : List Nat := (List.range n).map (fun i => certByte (o + i))

/-- The low 16 bits of SHA-384 of the certificate (R218, R399). -/
def certTag (cert : List Nat) : Nat := beBytes ((sha384 cert).drop 46)

end Sys2Proof.Machine
end

