-- ==== Sys2Proof/Machine/Resets.lean ====
section
/-! DEFINITION. Machine/Resets.lean: node reset, power-on reset and the strap balls: what each clears and keeps (R23 to R28,
R37, R455, R507, R508). -/

namespace Sys2Proof.Machine

/-- The registers of die W's logic that a reset of W clears (R23): the refused-command counter, the last status of each feed
command and the counts of trips and of VIN out of its window. -/
def logicOfW (a : Nat) : Bool :=
  a == PWR_REFUSED.addr || a == PWR_CARDCNT.addr || (decide (0x50100 ≤ a) && (a % 0x20 == 0 || a % 0x20 == 0x1C))

/-- A register of a link set that counts or shows commands: the links run on through node reset, these do not (R10, R229). -/
def countsOfLink (a : Nat) : Bool := a % 0x1000 == 0x24 || (decide (0x40 ≤ a % 0x1000) && decide (a % 0x1000 < 0x80))

/-- The register addresses that node reset keeps (R23, R26): those of the transit path and of the links it runs on, of die W but
for its logic, of the tamper log and the bench count, the certificate, and what the wear store holds. -/
def keptAtReset (a : Nat) : Bool :=
  (decide (0x100100 ≤ a) && decide (a < 0x100140)) ||
  (decide (0x208000 ≤ a) && decide (a < 0x20A000) && !countsOfLink a) ||
  (decide (0x50000 ≤ a) && decide (a < 0x51000) && !logicOfW a) ||
  (decide (0x30100 ≤ a) && decide (a ≤ 0x30180)) || a == CRU_BENCH.addr || (decide (0x38000 ≤ a) && decide (a < 0x3A000)) ||
  a == WEAR_HOURS.addr || (decide (0x60140 ≤ a) && decide (a < 0x60180)) || (decide (0x60200 ≤ a) && decide (a < 0x60500))

/-- The register addresses that power-on reset keeps while VAUX stays: die W and the always-on island (R19, R420, R443), the
fuses and what is stored without power. -/
def keptWithVaux (a : Nat) : Bool :=
  keptAtReset a && !(decide (0x100000 ≤ a) && decide (a < 0x300000))

/-- The register addresses that no reset clears: fuses, the bench count, the certificate and the wear store. -/
def keptAlways (a : Nat) : Bool :=
  a == CRU_BENCH.addr || (decide (0x38000 ≤ a) && decide (a < 0x3A000)) || a == WEAR_HOURS.addr ||
  (decide (0x60140 ≤ a) && decide (a < 0x60180)) || (decide (0x60200 ≤ a) && decide (a < 0x60500))

/-- What a link keeps through node reset: local frames are dropped, one in progress ends stomped, and a lane switch that has not
been made is abandoned (R26, R27, R191, R201). -/
def LinkSt.atReset (x : LinkSt) : LinkSt :=
  { x with frames := [], partial_ := [], mirror := none, stop := x.stop || !x.partial_.isEmpty }

/-- What the crucible keeps without power: the slot store, the stored policy and the always-on island (R396, R418, R420). -/
def CruSt.atReset (c : CruSt) : CruSt :=
  { store := c.store, bad := c.bad, policy := c.policy, aonTime := c.aonTime, appended := c.appended
    benchLog := c.benchLog, bench := c.bench }

/-- What the wear unit keeps without power: the wear store (R482). -/
def WearSt.atReset (w : WearSt) (now : Nat) : WearSt :=
  { gauges := w.saved, saved := w.saved, retired := w.retired, written := now }

/-- What the field side of a cluster keeps through any reset: the levels on its pads and its supplies. -/
def Cluster.atReset (c : Cluster) : Cluster := { ext := c.ext, loose := c.loose, vddio := c.vddio }

/-- The state of a splice after node reset: an open splice is abandoned (R27, R244). -/
def spliceAtReset (v : Nat) : Nat := if v = 2 then 1 else if v = 4 then 3 else v

/-- The repairs of the wear store are applied: an annealed engine's logical number is its spare's, and the spare buffer bank is in
use (R482, R486, R487, R492). -/
def State.applyRepairs (s : State) : State :=
  s.wear.retired.foldl (fun s u =>
    let i := u % 256
    if u / 256 = 1 then
      s.puts [(PE_STATUS.logical (i / 9) 8, i % 9), (PE_STATUS.logical (i / 9) (i % 9), 14), (CL_STATUS.spare_pe (i / 9), 0xF)]
    else if u / 256 = 6 then s.put SW_STATUS.spare_bank 0x1F
    else s) s

/-- A bank's copy that has not been switched is abandoned, and its spare is free again (R485, R492). -/
def State.abandonCopy (s : State) (copying : Option Nat) : State :=
  match copying with
  | some _ => { s.bump (WEAR_POOL.left 15) with wear := { s.wear with copying := none } }
  | none => s

/-- Node reset (R23, R25 to R28): it takes effect at once; transit, the always-on island and die W's power states stay. The
straps hold their last read until the release reads them again (R507). -/
def State.nodeReset (s : State) : State :=
  let s := (List.range 12).foldl (fun s k => s.clusterTransactions k) s
  let low := s.flt.pulseEnd.isSome || s.flag FLT_PIN.hold
  let ports := [0, 1].filter (fun p => !(SMap.getD s.links p {}).partial_.isEmpty)
  let t : State := {
    State.reset with
    pending := s.pending, out := s.out, now := s.now, draws := s.draws
    regs := s.regs.filter (fun e => keptAtReset (e.1 / 8) || (s.lev.wLost && logicOfW (e.1 / 8) && e.1 / 8 / 0x1000 == 0x50))
    lev := { s.lev with inReset := true, strapsDue := true, sent := [s.now, s.now, s.now] }
    clusters := s.clusters.map (fun e => (e.1, e.2.atReset)), transit := s.transit
    links := s.links.map (fun e => (e.1, e.2.atReset))
    tim := { transitDelay := s.tim.transitDelay }
    cst := { flash := s.cst.flash, staged := s.cst.staged }, cru := s.cru.atReset, pow := s.pow, wear := s.wear.atReset s.now
    flt := { pin := s.flt.pin } }
  let t := t.puts [(RING_SPLICE.east, spliceAtReset (s.get RING_SPLICE.east)),
    (RING_SPLICE.west, spliceAtReset (s.get RING_SPLICE.west)), (RING_STATUS.east_wrap, s.get RING_STATUS.east_wrap),
    (RING_STATUS.west_wrap, s.get RING_STATUS.west_wrap), (SW_OSTAT.up 0, s.get (SW_OSTAT.up 0)),
    (SW_OSTAT.up 1, s.get (SW_OSTAT.up 1)), (RING_NODEID.strap, s.lev.straps.nodeId),
    (RING_NODEID.id, s.lev.straps.nodeId), (HOST_CFG.head_sel, b2n s.lev.straps.headSel),
    (NODE_SLEEPSTAT.slow_src, s.get NODE_SLEEPSTAT.slow_src)]
  let t := [0, 1].foldl (fun (t : State) p => (List.range 5).foldl (fun t l => t.zero (RING_LANE.hdr_err p l))
    (t.puts [(RING_LCTL.lane p, 0), (RING_LSTAT.last_status p, 0)])) t
  let t := ((s.keepSessions t).applyRepairs).abandonCopy s.wear.copying
  let t := ports.foldl (fun t p => t.emit (.stomped p)) t
  if low then t.emit (.faultN false) else t

/-- The majority of three reads (R508). -/
def maj (a b c : Bool) : Bool := (a && b) || (a && c) || (b && c)

/-- The value that at least two of three reads of each strap ball agree on (R508). -/
def majority (a b c : Straps) : Straps where
  nodeId := (List.range 6).foldl (fun v i => setBit v i (maj (bit a.nodeId i) (bit b.nodeId i) (bit c.nodeId i))) 0
  headSel := maj a.headSel b.headSel c.headSel
  benchEn := maj a.benchEn b.benchEn c.benchEn
  lidOpen := maj a.lidOpen b.lidOpen c.lidOpen
  slowSel := maj a.slowSel b.slowSel c.slowSel

/-- The straps are read at a release; SLOW_SEL only at that of power-on reset (R507). BENCH_EN low ends bench authority
(R416). -/
def State.readStraps (s : State) (a b c : Straps) (powerOn : Bool) : State :=
  let v := majority a b c
  let v := if powerOn then v else { v with slowSel := s.lev.straps.slowSel }
  let s := { s with
    lev := { s.lev with straps := v, strapsDue := false }
    cru := { s.cru with bench := s.cru.bench && v.benchEn } }
  s.puts [(RING_NODEID.strap, v.nodeId), (RING_NODEID.id, v.nodeId), (HOST_CFG.head_sel, b2n v.headSel),
    (NODE_SLEEPSTAT.slow_src, b2n v.slowSel)]

/-- Without VAUX die W lets go of its balls: gates off, the enables and CARD_PG low, EJECT_REQ_N released (R37). -/
def State.outsideReleased (s t : State) : State :=
  let t := (List.range 16).foldl (fun (t : State) n => if s.get (FEED_STAT.state n) = 3 ∨ s.get (FEED_STAT.state n) = 4 then
    t.emit (.gate n false) else t) t
  let t := if s.get PWR_STATUS.card_state = 3 ∨ s.get PWR_STATUS.card_state = 4 then t.emit (.gate 16 false) else t
  let t := (members 4 (s.get PWR_STATUS.reg_en)).foldl (fun (t : State) i => t.emit (.regEn i false)) t
  let t := if s.flag PWR_STATUS.card_pg then t.emit (.cardPg false) else t
  if s.flag PWR_STATUS.eject then t.emit (.eject false) else t

/-- Power-on reset of die S and the port dies (R23): everything but fuses, the bench count and what is stored without power;
while VAUX stays, die W and the always-on island go on (R420, R443). The links go down. -/
def State.powerReset (s : State) (vaux : Bool) : State :=
  let low := s.flt.pulseEnd.isSome || s.flag FLT_PIN.hold
  let t : State := {
    State.reset with
    pending := s.pending, out := s.out, now := s.now, draws := s.draws
    regs := s.regs.filter (fun e => if vaux then keptAlways (e.1 / 8) else keptWithVaux (e.1 / 8))
    lev := {
      strapsDue := true, straps := s.lev.straps, rstLow := s.lev.rstLow, dieOff := s.lev.dieOff, sent := [s.now, s.now, s.now] }
    clusters := s.clusters.map (fun e => (e.1, e.2.atReset))
    cst := { flash := s.cst.flash, staged := s.cst.staged }
    cru := if vaux then { store := s.cru.store, bad := s.cru.bad, policy := s.cru.policy, benchLog := s.cru.benchLog } else s.cru.atReset
    pow := if vaux then { dieOff := true } else s.pow
    wear := s.wear.atReset s.now, flt := { pin := s.flt.pin } }
  let t := t.puts [(RING_NODEID.strap, s.lev.straps.nodeId), (RING_NODEID.id, s.lev.straps.nodeId),
    (HOST_CFG.head_sel, b2n s.lev.straps.headSel), (NODE_SLEEPSTAT.slow_src, s.get NODE_SLEEPSTAT.slow_src)]
  let t := if vaux then s.outsideReleased (t.puts [(PWR_STATUS.card_state, 0), (PWR_STATUS.card_pg, 0), (PWR_STATUS.reg_pg, 0),
    (PWR_STATUS.reg_en, 0)]) else t
  let t := (t.applyRepairs).abandonCopy s.wear.copying
  if low then t.emit (.faultN false) else t

end Sys2Proof.Machine
end

