-- ==== Sys2Proof/Machine/Faults.lean ====
section
/-! DEFINITION. Machine/Faults.lean: one fault through the collector: its record, log, capture, count, FAULT_N pulse,
forwarding, quench and reaction (R459 to R471). -/

namespace Sys2Proof.Machine

/-- Unit IDs (R459); the engines' stands in Engines.lean. -/
def unitCAN (k j : Nat) : Nat := 0x0200 + 2 * k + j
def unitCORE (c : Nat) : Nat := 0x0400 + c
def unitCLUSTER (k : Nat) : Nat := 0x0700 + k
def unitDIE (d : Nat) : Nat := 0x0900 + d
def unitPORT (p : Nat) : Nat := 0x0B00 + p

/-- The clusters of region r (R17). -/
def regionClusters (r : Nat) : List Nat := [3 * r, 3 * r + 1, 3 * r + 2]

/-- The clusters of port die d, 1 for P0 and 2 for P1 (R17). -/
def dieClusters (d : Nat) : List Nat :=
  if d = 1 then [0, 1, 2, 3, 4, 5] else if d = 2 then [6, 7, 8, 9, 10, 11] else []

/-- The clusters that CLUSTER_PARK of a scope reaches from cluster k. -/
def scopeClusters (scope k : Nat) : List Nat :=
  if scope = 0 then [k] else if scope = 1 then regionClusters (k / 3) else dieClusters (k / 6 + 1)

/-- The clusters of a CLUSTER_PARK reaction, counted from the place of the master (R462); none when the place lies on no
port die. A bridge channel's place is the cluster it serves (log 62), and a spares-exhausted fault's the instance of its pool
(R483, R497). -/
def State.parkReach (s : State) (f : FaultInfo) (scope : Nat) : List Nat :=
  let kind := f.master / 256
  let i := f.master % 256
  let pool := f.pool
  if f.src = 0xA2 then
    if pool < 12 then scopeClusters scope pool
    else if 26 ≤ pool ∧ pool ≤ 37 then scopeClusters scope (pool - 26)
    else if pool = 17 ∨ pool = 20 ∨ pool = 21 then dieClusters 1
    else if pool = 18 ∨ pool = 22 ∨ pool = 23 then dieClusters 2
    else []
  else match kind with
    | 1 => scopeClusters scope (i / 9)
    | 2 => scopeClusters scope (i / 2)
    | 3 => scopeClusters scope (s.chCluster i)
    | 7 => scopeClusters scope i
    | 8 => if scope = 2 then dieClusters (i / 2 + 1) else regionClusters i
    | 9 => dieClusters i
    | _ => []

/-- The reaction class that a fault takes: PORT_STOP needs a PE, CAN FD controller or bridge channel, CLUSTER_PARK a place
on a port die (R462). -/
def State.reactionOf (s : State) (f : FaultInfo) : Nat :=
  match s.get (FLT_REACT.class_ f.src) with
  | 1 => if 1 ≤ f.master / 256 ∧ f.master / 256 ≤ 3 then 1 else 0
  | 2 => if s.parkReach f (s.get (FLT_REACT.scope f.src)) = [] then 0 else 2
  | 3 => 3
  | 4 => 4
  | _ => 0

/-- The 32 bytes of a fault record (R460): byte 15 holds the reaction, INJ, record-only and the meeting bit. -/
def State.faultRecord (s : State) (f : FaultInfo) (byte15 : Nat) : List Nat :=
  timeBytes s.time ++ [f.src, byte15] ++ leBytes 5 f.addr ++ [f.acc] ++ leBytes 2 f.master ++
    [f.status, f.detail, f.extra, s.nodeId] ++ leBytes 4 s.flt.seq

/-- PORT_STOP of the unit: an engine, a CAN FD controller or a bridge channel (R29, R463). -/
def State.portStop (s : State) (master : Nat) : State :=
  let i := master % 256
  match master / 256 with
  | 1 => s.pePortStop (i / 9) (i % 9)
  | 2 => s.canStop (i / 2) (i % 2)
  | 3 => s.chanStop i
  | _ => s

/-- NODE_HOLD: every field output takes its cast hold state until the hold is cleared (R29, R463). -/
def State.nodeHold (s : State) : State := ((s.raise FLT_STATUS.node_hold).holdOutputs).holdEngines

/-- Apply a reaction class to its reach (R29, R463, R464). `pulsed` tells that a FAULT_N pulse carries the fault: node
reset then waits for the pulse's end. -/
def State.react (s : State) (f : FaultInfo) (cls : Nat) (pulsed : Bool) : State :=
  match cls with
  | 1 => s.portStop f.master
  | 2 => (s.parkReach f (s.get (FLT_REACT.scope f.src))).foldl (fun s k => s.parkCluster k) s
  | 3 => s.nodeHold
  | 4 =>
    let s := s.nodeHold
    if pulsed then { s with flt := { s.flt with resetPending := true } } else s.nodeReset
  | _ => s

/-- The node that the map shows as the active head (R231, R467). -/
def State.mapHead (s : State) : Option Nat :=
  (List.range 64).find? (fun n => s.flag (RING_MAP.present n) && s.get (RING_MAP.role n) == 1 &&
    !s.flag (RING_MAP.failed_over n))

/-- This node is the active head. -/
def State.activeHead (s : State) : Bool := s.get RING_STATUS.role == 1

/-- A record as a MGMT frame of subtype 0x30, class 6 (R467). -/
def State.recordFrame (s : State) (dst : Nat) (bs : List Nat) : Frame :=
  { ftype := 0xA, cls := 6, dst := dst, src := s.nodeId, a := 0x30, payload := bs }

/-- The active head enters a record into the receive queue of FLT_FWDQ, or counts it as lost (R467). -/
def State.enterRecord (s : State) (f : Frame) : State :=
  let q := s.get FLT_FWDQ.queue
  if s.flag FLT_FWDQ.en && s.flag (HOST_RQ_CFG.en q) then s.rqEnter q f 0 else s.bump FLT_FWDLOST.count

/-- Forward a record: into the head's own queue, to the head of the map, or not yet (R467). -/
def State.forward (s : State) (seq : Nat) (bs : List Nat) : State :=
  if s.activeHead then s.enterRecord (s.recordFrame s.nodeId bs)
  else match s.mapHead with
    | some h => s.toRing (s.recordFrame h bs)
    | none => { s with flt := { s.flt with unsent := s.flt.unsent ++ [seq] } }

/-- FAULT_N as the pulse and the hold make it (R468). -/
def State.driveFaultN (s : State) : State :=
  s.emit (.faultN (s.flt.pulseEnd.isSome || s.flag FLT_PIN.hold))

/-- Length of a FAULT_N pulse in ns (R468). -/
def State.pulseLen (s : State) : Nat :=
  let us := s.get FLT_PULSE.us
  1000 * (if us = 0 then 1 else min us 1000)

/-- The capture takes or merges the fault (R465). -/
def State.capture (s : State) (src : Nat) (ws : List Nat) : State :=
  let cb := 2 ^ (src / 16)
  if s.flag FLT_STATUS.handling then (s.bump FLT_CAPX.merges).put FLT_CAPX.classes (s.get FLT_CAPX.classes ||| cb)
  else
    let s := (List.range 8).foldl (fun s w => s.put (FLT_CAP.word w) (nth ws w)) s
    s.puts [(FLT_STATUS.valid, 1), (FLT_STATUS.handling, 1), (FLT_CAPX.merges, 0), (FLT_CAPX.classes, cb)]

/-- The fault log takes the record (R466). -/
def State.logRecord (s : State) (ws : List Nat) : State :=
  let i := s.get FLT_LOGWR.next
  let s := (List.range 8).foldl (fun s w => s.put (FLT_LOG.word i w) (nth ws w)) s
  let s := s.put FLT_LOGWR.next (i + 1)
  { s with flt := { s.flt with seq := (s.flt.seq + 1) % 2 ^ 32 } }

/-- FAULT_N for a pulse-enabled fault: a new pulse, or merged into the running one (R468). -/
def State.pulse (s : State) : State :=
  if s.flt.pulseEnd.isSome then s.bump FLT_PINCNT.merged
  else
    let s := { s with flt := { s.flt with pulseEnd := some (s.now + s.pulseLen) } }
    ((s.raise FLT_PIN.pulsing).bump FLT_PINCNT.pulses).driveFaultN

/-- One fault through the collector, but for its reaction. `inj`: it was injected; `only`: record-only; `met`: a real and an
injected fault of the source met; `cls` is the reaction it takes (R460 to R471). -/
def State.record (s : State) (f : FaultInfo) (cls : Nat) (inj only met : Bool) : State :=
  let bs := s.faultRecord f (cls + 8 * b2n inj + 16 * b2n only + 32 * b2n met)
  let ws := toWords bs
  let seq := s.flt.seq
  let s := (s.logRecord ws).capture f.src ws
  let s := if inj || met then s.bump (FLT_CNT.inj f.src) else s
  let s := if inj then s else s.bump (FLT_CNT.real f.src)
  let s := if s.flag (FLT_REACT.irq f.src) then
      ({ s with flt := { s.flt with irq := true } }).emit (.irq (0x0400 + 2 * s.managerPair) 0) else s
  let s := if s.flag (FLT_REACT.pulse f.src) then s.pulse else s
  let s := if s.flag (FLT_REACT.fwd f.src) then s.forward seq bs else s
  if s.flag (FLT_REACT.quench f.src) then s.trigger qsFAULT f.src s.nextEdge else s

/-- One fault through the collector with its reaction. -/
def State.collect (s : State) (f : FaultInfo) (cls : Nat) (inj only met : Bool) : State :=
  let cls := if only then 0 else cls
  (s.record f cls inj only met).react f cls (s.flag (FLT_REACT.pulse f.src))

/-- A real fault of a source whose reaction FLT_REACT gives (R462). -/
def State.fault (s : State) (f : FaultInfo) : State := s.collect f (s.reactionOf f) false false false

/-- The clusters that a reaction reaches (R29); none stands for the whole node. -/
def State.reach (s : State) (f : FaultInfo) (cls : Nat) : Option (List Nat) :=
  if 3 ≤ cls then none
  else if cls = 2 then some (s.parkReach f (s.get (FLT_REACT.scope f.src)))
  else if f.master / 256 = 3 then some []
  else some (s.parkReach f 0)

/-- Reactions that are applied cover this one: where reaches overlap, the one that reaches furthest is applied once (R31). -/
def State.covered (s : State) (applied : List (FaultInfo × Nat)) (f : FaultInfo) (cls : Nat) : Bool :=
  applied.any (fun e => match s.reach e.1 e.2, s.reach f cls with
    | none, _ => true
    | some a, some b => decide (2 ≤ e.2) && !b.isEmpty && b.all a.contains
    | some _, none => false)

/-- Put a fault and its reaction into a list by furthest reaction, then lowest source code (R465). -/
def insertFault (x : FaultInfo × Nat) : List (FaultInfo × Nat) → List (FaultInfo × Nat)
  | [] => [x]
  | y :: l =>
    if y.2 < x.2 ∨ (y.2 = x.2 ∧ x.1.src < y.1.src) then x :: y :: l else y :: insertFault x l

/-- The faults that the command detected go through the collector: all are recorded, then the reactions that no other covers
are applied (R31, R465); the reactions may detect more. -/
def State.settle (s : State) : Nat → State
  | 0 => s
  | n + 1 =>
    if s.flt.due.isEmpty then s
    else
      let fs := s.flt.due.foldl (fun l f => insertFault (f, s.reactionOf f) l) []
      let s := { s with flt := { s.flt with due := [] } }
      let s := fs.foldl (fun s e => s.record e.1 e.2 false false false) s
      let r := fs.foldl (fun (r : State × List (FaultInfo × Nat)) e =>
        if r.1.covered r.2 e.1 e.2 then r
        else (r.1.react e.1 e.2 (r.1.flag (FLT_REACT.pulse e.1.src)), r.2 ++ [e])) (s, [])
      r.1.settle n

/-- The command has been carried out, and its faults have been through the collector. -/
def fin (s : State) : Out := .next (s.settle 64)

/-! ### Spare pools (R483, R497) -/

/-- The master kind, the level code and the instance of pool i (R483, R497). -/
def poolKind (i : Nat) : Nat :=
  if i ≤ 11 then 1 else if i ≤ 13 then 5 else if i = 14 then 4 else if i = 15 then 6 else if i ≤ 25 then 9 else 7
def poolLevel (i : Nat) : Nat := if i ≤ 11 ∨ 26 ≤ i then 1 else 3
def poolInstance (i : Nat) : Nat :=
  if i ≤ 11 then i else if i ≤ 13 then i - 12 else if i ≤ 15 then 0 else if i ≤ 19 then i - 16 else if i ≤ 25 then i - 20 else i - 26

/-- Source 0xA2 for pool i: its last spare was taken, or an element of the empty pool became due (R461, R497). -/
def State.poolReport (s : State) (i : Nat) (empty : Bool) : State :=
  s.report {
    src := 0xA2, master := 256 * poolKind i + 0xFF, addr := s.domainAddr (WEAR_POOL.addr i)
    extra := poolLevel i + 8 * b2n empty + 16 * poolInstance i, pool := i }

/-- A spare of pool i is taken (R483, R497). -/
def State.takePool (s : State) (i : Nat) : State :=
  let left := s.get (WEAR_POOL.left i)
  let s := s.put (WEAR_POOL.left i) (left - 1)
  if left = 1 then s.poolReport i false else s

/-- An engine stops on a program error: the fault report, the cause and the broken barriers (R70, R81). -/
def State.peError (s : State) (k n cause : Nat) : State := (s.reportPe k n cause).peLeave k n cause

end Sys2Proof.Machine
end

