-- ==== Sys2Proof/Machine/RegAccess.lean ====
section
/-! DEFINITION. Machine/RegAccess.lean: access to a register by its address: the blocks of node space (R268), the effect
of a write by access code (R6 to R9), and the word that a read returns. -/

namespace Sys2Proof.Machine

/-- The indices of the instance at distance d from a row's first register. -/
def locate : List (Nat × Nat) → Nat → Option (List Nat)
  | [], d => if d = 0 then some [] else none
  | (n, st) :: ds, d => if d / st < n then (locate ds (d % st)).map (d / st :: ·) else none

/-- The fields of the register at a node-space offset, none where no register lies. -/
def RegRow.at_ (r : RegRow) (a : Nat) : Option (List (Fld × Access)) :=
  if a < r.base then none
  else (locate r.dims (a - r.base)).map (fun is => r.flds (nth is 0) (nth is 1) (nth is 2))

/-- The register at a node-space offset. -/
def regAt (a : Nat) : Option (List (Fld × Access)) := regRows.findSome? (fun r => r.at_ a)

/-- This hub is a head (R263): the casting decides, or the strap. -/
def State.isHead (s : State) : Bool :=
  match s.get HOST_CFG.head_cast with
  | 1 => true
  | 2 => false
  | _ => s.flag HOST_CFG.head_sel

/-- The offset lies in a block of the node space (R268). -/
def State.mapped (s : State) (a : Nat) : Bool :=
  decide (a < 0x80000) ||
  (decide (0x100000 ≤ a) && decide (a < 0x200000)) ||
  (decide (0x200000 ≤ a) && decide (a < 0x300000)) ||
  (decide (0x300000 ≤ a) && decide (a < 0x400000) && s.isHead) ||
  (decide (0x400000 ≤ a) && decide (a < 0x500000)) ||
  (decide (0x800000 ≤ a) && decide (a < 0x1000000)) ||
  (decide (0x1000000 ≤ a) && decide (a < 0x1C00000)) ||
  (decide (0x2000000 ≤ a) && decide (a < 0x3000000)) ||
  (decide (0x3000000 ≤ a) && decide (a < 0x5000000)) ||
  (decide (0x8000000 ≤ a) && decide (a < 0x8600000)) ||
  (decide (0xC000000 ≤ a) && decide (a < 0xC200000)) ||
  (decide (0xE000000 ≤ a) && decide (a < 0xF000000))

/-- n bytes from a node-space offset lie in bulk RAM (R270). -/
def inBulk (a n : Nat) : Bool := decide (0xC000000 ≤ a) && decide (a + n ≤ 0xC200000)

/-- The offset lies in a block of registers: not in bulk RAM, a bridge or TCM window, a burst view or the staging view (R268). -/
def registerOfs (a : Nat) : Bool :=
  decide (a < 0xC00000) || (decide (0x1000000 ≤ a) && decide (a < 0x3000000))

/-- A read of n bytes at a node-space offset keeps R6: a register is read by a 32-bit aligned access. -/
def readLegal (a n : Nat) : Bool := !registerOfs a || (n == 4 && a % 4 == 0)

/-- An access to an offset that no block covers: the fault source ADDR, and FAULT with detail 0x0F to a request that
carries a status (R268). -/
def State.addrFault (s : State) (o : Origin) (a acc : Nat) : State :=
  let s := s.fault
    { src := 0x21, master := originUnit o, addr := s.domainAddr a, acc := acc, status := stFAULT, detail := 0x0F }
  match o with
  | .host => s.done o stOK 0 [0]
  | .bench => s.done o stOK 0 [0]
  | _ => s.done o stFAULT 0x0F [0]

/-- The written word would change an RWL field (R8). -/
def State.changesRwl (s : State) (fs : List (Fld × Access)) (w : Nat) : Bool :=
  fs.any (fun e => e.2 == .rwl && s.get e.1 != bits w e.1.lsb e.1.width)

/-- The effect of a write on one field by its access code (R8, R9): a W1C bit that hardware has set in this cycle stays 1. -/
def State.writeField (s : State) (w : Nat) (e : Fld × Access) : State :=
  let v := bits w e.1.lsb e.1.width
  match e.2 with
  | .rw => { s.put e.1 v with race := { s.race with wrote := e.1.key :: s.race.wrote } }
  | .rwl => if s.cst.committed then s else s.put e.1 v
  | .w1c => s.put e.1 ((s.get e.1 - (s.get e.1 &&& v)) ||| (s.get e.1 &&& SMap.getD s.race.set_ e.1.key 0))
  | .w1s => s.put e.1 (s.get e.1 ||| v)
  | .ro => s
  | .wo => s

/-- The effect of a write on all fields of a register; a write that would change a committed RWL field is logged as
source 0x22 (R8). -/
def State.writeReg (s : State) (o : Origin) (a w : Nat) : State :=
  match regAt a with
  | none => s
  | some fs =>
    let t := fs.foldl (fun s e => s.writeField w e) s
    if s.cst.committed && s.changesRwl fs w then
      t.fault { src := 0x22, master := originUnit o, addr := s.domainAddr a, acc := 2 }
    else t

/-- Host mailbox m serves this originator (R282). -/
def State.mailboxOf (s : State) (o : Origin) (m : Nat) : Bool :=
  match o with
  | .core c => m == 0 && c.val / 2 == s.managerPair
  | .host => m == 1
  | .slot => m == 1
  | .bench => m == 2
  | _ => false

/-- Fields that show typed state, brought up to date before a read. -/
def State.refresh (s : State) (a : Nat) : State :=
  if 0x1000000 ≤ a ∧ a < 0x1C00000 then
    let k := (a - 0x1000000) / 0x100000
    let o := a % 0x100000
    if 0x1000 ≤ o ∧ o < 0x1800 ∧ o % 0x40 = 8 then
      let q := (o - 0x1000) / 0x40
      s.puts [(CL_QSTAT.depth k q, s.qDepth k q), (CL_QSTAT.full k q, b2n (s.qFull k q)),
        (CL_QSTAT.gap_open k q, b2n (s.queue k q).gapOpen)]
    else if o = 0x20 then
      s.put (CL_PADLVL.level k) ((List.range 32).foldl (fun v p => v + b2n (s.syncLevel k p) * 2 ^ p) 0)
    else if 0x80000 ≤ o ∧ o < 0x89000 ∧ o % 0x1000 = 4 then
      let n := (o - 0x80000) / 0x1000
      s.put (PE_STATUS.actions k n) (s.pe k n).actions.length
    else s
  else if 0x2000000 ≤ a ∧ a < 0x3000000 ∧ 0x1000 ≤ a % 0x400000 ∧ a % 0x400000 < 0x1800 ∧ a % 0x100 = 0x18 then
    let r := (a - 0x2000000) / 0x400000
    let n := (a % 0x400000 - 0x1000) / 0x100
    let x := s.chan (8 * r + n)
    s.puts [(BRG_CHSTAT.open_ r n, x.openCount), (BRG_CHSTAT.held r n, x.held.length),
      (BRG_CHSTAT.posted r n, x.posted.countP ChItem.isWrite), (BRG_CHSTAT.ra_valid r n, b2n (!x.ahead.isEmpty)),
      (BRG_CHSTAT.cross_wait r n, b2n (x.crossing.any (fun y => y.backoff.isSome)))]
  else s

/-- The word that a read of a register returns (R7, R8); no field is changed by it. -/
def State.readWord (s : State) (a : Nat) : Nat :=
  match regAt a with
  | none => 0
  | some fs =>
    let t := s.refresh a
    fs.foldl (fun v e => if e.2 == .wo then v else v + t.get e.1 * 2 ^ e.1.lsb) 0

end Sys2Proof.Machine
end

