-- ==== Sys2Proof/Machine/PeIssue.lean ====
section
/-! DEFINITION. Machine/PeIssue.lean: issuing an instruction of an engine, pad actions, and the action queue
(R42, R48, R52 to R58, R62). -/

namespace Sys2Proof.Machine

/-- What an instruction does at its issue: go on, at the next address or at a target; wait; stop with a cause; or stop by
itself (HALT). -/
inductive Eff where
  | go (s : State)
  | jump (s : State) (pc : Nat)
  | wait
  | stop (cause : Nat)
  | halt (s : State)

/-- The engine's next instruction is at address pc (R42). -/
def State.peAdvance (s : State) (k n pc : Nat) : State :=
  let s := s.setPe k n { s.pe k n with issued := none, stampHit := none }
  s.puts [(PE_STATUS.pc k n, pc % 64), (PE_STATUS.run k n, 1), (PE_STATUS.wait_op k n, 0)]

/-- A step command ends with its instruction (R80). -/
def State.peStepEnd (s : State) (k n : Nat) : State := if (s.pe k n).stepping then s.peLeave k n hcSTEP else s

/-- The engine goes on at address pc; a step command halts it there (R42, R80). -/
def State.peGoOn (s : State) (k n pc : Nat) : State := (s.peAdvance k n pc).peStepEnd k n

/-- The address after the present one (R42). -/
def State.pcNext (s : State) (k n : Nat) : Nat := (s.get (PE_STATUS.pc k n) + 1) % 64

/-- Carry out the effect of the instruction with opcode op. A program error leaves the PC at the failing instruction (DESIGN CHOICE,
log 281). A step whose one instruction is HALT leaves cause 0x1, not 0xB (R84
lists both; DESIGN CHOICE, log 245). -/
def State.peApply (s : State) (k n op : Nat) : Eff → State
  | .go t => t.peGoOn k n (s.pcNext k n)
  | .jump t pc => t.peGoOn k n pc
  | .wait => s.puts [(PE_STATUS.run k n, 2), (PE_STATUS.wait_op k n, op)]
  | .stop cause => s.peError k n cause
  | .halt t => (t.put (PE_STATUS.pc k n) (s.pcNext k n)).peLeave k n hcHALT

/-- The engine runs or waits, its cluster sleeps no deeper than DOZE (R428) and its time copy has locked (R87), and the word at its PC has opcode op: the
instruction of this command is the one it issues. -/
def State.issues (s : State) (k n op : Nat) : Bool :=
  s.peRunning k n && opcodeOf (s.peWord k n) == op && decide (s.get (NODE_CLSLEEP.depth k) < 2) && s.flag (CL_STATUS.time_lock k)

/-- Note the time at which an instruction first issues (R48, R66): its first cycle at that address. A STAMP that a full TX port holds
back has issued in that cycle, and an edge that comes while it waits counts (DESIGN CHOICE, log 279). -/
def State.noteIssue (s : State) (k n : Nat) : State :=
  match (s.pe k n).issued with
  | some _ => s
  | none => s.setPe k n { s.pe k n with issued := some s.t125 }

/-- One PORTCLK cycle of an engine at an instruction with opcode op: an illegal word stops it (R46), a legal one has its
effect. Where the engine is not at such an instruction the event has not happened (log 6). -/
def State.peIssue (s : State) (k n op : Nat) (eff : State → Nat → Eff) : State :=
  if s.issues k n op then
    let w := s.peWord k n
    if legalWord w then
      let s := s.noteIssue k n
      s.peApply k n op (eff s w)
    else s.peError k n hcILLEGAL
  else s

/-! ### Pad actions -/

/-- Of the actions of one instruction the last one for each pad stands (R55). -/
def lastActs : List (Nat × PadAct) → List (Nat × PadAct)
  | [] => []
  | x :: rest => if rest.any (fun e => e.1 == x.1) then lastActs rest else x :: lastActs rest

/-- The pads for which the actions of one instruction differ, each once (R55). -/
def splitPads (acts : List (Nat × PadAct)) : List Nat :=
  ((lastActs acts).filter (fun x => acts.any (fun e => e.1 == x.1 && e.2 != x.2))).map (·.1)

/-- The pad actions of a list of slot actions, lowest slot first: unmapped slots have none (R59), unowned pads are flagged
(R62), a pad that several slots name takes the highest slot's, and collides once where they differ (R55). -/
def State.padActs (s : State) (k n : Nat) (slots : List (Nat × PadAct)) : State × List (Nat × PadAct) :=
  let mapped := slots.filterMap (fun x => (s.slotPad k n x.1).map (fun p => (x.1, p, x.2)))
  let own := (mapped.filter (fun x => s.ownsSlot k n x.1)).map (·.2)
  let s := (mapped.filter (fun x => !s.ownsSlot k n x.1)).foldl (fun s _ => s.flagOwn k n) s
  ((splitPads own).foldl (fun s _ => s.flagCollide k n) s, lastActs own)

/-- The next place in an engine's issue order. -/
def State.nextSeq (s : State) (k n : Nat) : State := s.setPe k n { s.pe k n with seq := (s.pe k n).seq + 1 }

/-- SET and OUT: the pads change 2 PORTCLK cycles, 4 ns of unsteered time, after issue (R49). -/
def State.untimed (s : State) (k n : Nat) (slots : List (Nat × PadAct)) : State :=
  let r := (s.nextSeq k n).padActs k n slots
  let e := r.1.pe k n
  r.1.setPe k n { e with untimed := e.untimed ++ [⟨s.now + 4, e.seq, r.2⟩] }

/-- The slots that a queued action drives, its data slot among them for OUTBIT. -/
def actionSlots (a : Action) : List Nat :=
  (List.range 8).filter (fun sl => bit a.mask sl || (a.act == 2 && sl == a.slot))

/-- What the masked slots of a queued action do (R52). -/
def slotActs (a : Action) : List (Nat × PadAct) :=
  (actionSlots a).map (fun sl =>
    (sl, if a.act = 1 then .release else if a.act = 2 ∧ sl = a.slot then .drive a.obit else .drive (bit a.vals sl)))

/-- The full instant of a queued action in the 51-bit window of 125 ps (R52). -/
def Action.instant (a : Action) : Nat := (8 * a.t + a.fine) % 2 ^ 51

/-- The action came to the head of the queue after its instant (R53). -/
def Action.late (a : Action) (headAt : Nat) : Bool :=
  reached 51 headAt a.instant && headAt % 2 ^ 51 != a.instant

/-- The queued actions that will be applied, each with its time (125 ps, 51-bit window), when the first comes to the head at time
`headAt`: a late one is applied as it comes to the head, and with `drop` not at all (R53). -/
def appliedActions (drop : Bool) : Nat → List Action → List (Nat × Action)
  | _, [] => []
  | headAt, a :: rest =>
    if a.late headAt then
      (if drop then appliedActions drop headAt rest else (headAt % 2 ^ 51, a) :: appliedActions drop headAt rest)
    else (a.instant, a) :: appliedActions drop a.instant rest

/-- An action of the same driver for pad p that the program issued later falls in the tick of time t (125 ps) and is still to be
applied: one on a pad the engine does not own, or one that late_drop drops, is none (R53, R55, R62). -/
def State.supersededBy (s : State) (k n p seq t : Nat) : Bool :=
  let e := s.pe k n
  e.untimed.any (fun u => decide (seq < u.seq) && u.due == s.now && t / 8 == s.t125 / 8 && u.acts.any (fun x => x.1 == p)) ||
  (appliedActions (s.flag (PE_CFG.late_drop k n)) t e.actions).any (fun a => decide (seq < a.2.seq) && a.1 / 8 == t / 8 % 2 ^ 48 &&
    (actionSlots a.2).any (fun sl => s.slotPad k n sl == some p && s.ownsSlot k n sl))

/-- Apply one action to one pad at time t (125 ps): the value driven is kept for TOGGLE; in one tick only the action issued
later is applied, and the meeting is flagged (R44, R55). TOGGLE inverts the value last applied: an action still queued, or one
that R55 suppressed, has commanded none (DESIGN CHOICE, log 236). An engine under PORT_STOP moves no pad (R29). -/
def State.applyPad (s : State) (k n seq t : Nat) (x : Nat × PadAct) : State :=
  let p := x.1
  let tick := t / 8 % 2 ^ 48
  let e := s.pe k n
  let met := match SMap.getD e.applied p none with
    | some (t, q) => if t = tick then some q else none
    | none => none
  if e.stopped then s
  else if s.supersededBy k n p seq t then s.flagCollide k n
  else if met.any (fun q => decide (seq < q)) then s.flagCollide k n
  else
    let s := if met.isSome then s.flagCollide k n else s
    let e := s.pe k n
    let prior := SMap.getD e.last p none
    let val := match x.2 with
      | .release => none
      | .drive v => some v
      | .toggle => some (match prior with
        | some v => !v
        | none => true)
    (s.peUnpark k [p]).setPe k n { e with
      drv := SMap.set e.drv p val none
      last := SMap.set e.last p (if val.isSome then val else prior) none
      applied := SMap.set e.applied p (some (tick, seq)) none }

/-- Apply the pad actions of one action at time t (125 ps), with the edges they make. -/
def State.applyActs (s : State) (k n seq t : Nat) (acts : List (Nat × PadAct)) : State :=
  s.withEdges k t (fun s => acts.foldl (fun s x => s.applyPad k n seq t x) s)

/-- The untimed outputs of an engine that are due are applied, in issue order (R49). -/
def State.applyDue (s : State) (k n : Nat) : State :=
  let e := s.pe k n
  let due := e.untimed.filter (fun u => decide (u.due ≤ s.now))
  if due.isEmpty then s
  else
    let s := s.setPe k n { e with untimed := e.untimed.filter (fun u => !decide (u.due ≤ s.now)) }
    due.foldl (fun s u => s.applyActs k n u.seq s.t125 u.acts) s

/-- The time (125 ps, not wrapped) of a queued action whose nanosecond has begun. -/
def State.actionTime (s : State) (a : Action) : Nat :=
  s.t125 + 8 - (s.t125 + 8 + 2 ^ 51 - a.instant) % 2 ^ 51

/-- Carry out an action at time t (125 ps): an INBIT first shifts its data slot's level in (R52). -/
def State.applyAction (s : State) (k n t : Nat) (a : Action) : State :=
  let s := if a.act = 3 then
      s.shinFill k n (match s.slotPad k n a.slot with
        | some p => s.padLevel k p
        | none => false)
    else s
  let r := s.padActs k n (slotActs a)
  r.1.applyActs k n a.seq t r.2

end Sys2Proof.Machine
end

