-- ==== Sys2Proof/Machine/Pe.lean ====
section
/-! DEFINITION. Machine/Pe.lean: the instructions of the port engines (R44 to R70) and the queued actions. A command of
engine n of cluster k is one PORTCLK cycle in which the engine stands at that instruction. -/

namespace Sys2Proof.Machine

/-- HALT (R81). -/
def effHalt (s : State) (_w : Nat) : Eff := .halt s
def execHalt (k : Fin 12) (n : Fin 9) (s : State) : Out := fin (s.peIssue k n 0x00 effHalt)

/-- NOP (R44). -/
def effNop (s : State) (_w : Nat) : Eff := .go s
def execNop (k : Fin 12) (n : Fin 9) (s : State) : Out := fin (s.peIssue k n 0x01 effNop)

/-- SET (R44, R49): DRIVE, RELEASE or TOGGLE of the masked slots. -/
def effSet (k n : Nat) (s : State) (w : Nat) : Eff :=
  let i := fieldImm w
  let act := fun sl => if fieldA w = 0 then PadAct.drive (bit i sl) else if fieldA w = 1 then .release else .toggle
  .go (s.untimed k n ((members 8 (i / 256)).map (fun sl => (sl, act sl))))
def execSet (k : Fin 12) (n : Fin 9) (s : State) : Out := fin (s.peIssue k n 0x02 (effSet k n))

/-- OUT (R44, R56, R58): the next n bits of SHOUT onto consecutive slots, first bit to the first slot. One that breaks both the
slot range and the shifter's check reports SLOT_RANGE, as IN does (DESIGN CHOICE, log 238). -/
def effOut (k n : Nat) (s : State) (w : Nat) : Eff :=
  let first := fieldA w
  let m := fieldImm w
  if 8 < first + m then .stop hcSLOT
  else if s.get (PE_SHCNT.out_count k n) < m then .stop hcUNDERRUN
  else
    let r := s.shoutTakeN k n m
    .go (r.1.untimed k n ((List.range m).map (fun i => (first + i, PadAct.drive (r.2.getD i false)))))
def execOut (k : Fin 12) (n : Fin 9) (s : State) : Out := fin (s.peIssue k n 0x03 (effOut k n))

/-- IN (R44, R49, R56, R58): the synchronised levels of consecutive slots into SHIN, first slot first. -/
def effIn (k n : Nat) (s : State) (w : Nat) : Eff :=
  let first := fieldA w
  let m := fieldImm w
  if 8 < first + m then .stop hcSLOT
  else if s.inLen k n < s.shinPlaces k n + m then .stop hcOVERRUN
  else .go ((List.range m).foldl (fun t i => t.shinIn k n (s.slotLevel k n (first + i))) s)
def execIn (k : Fin 12) (n : Fin 9) (s : State) : Out := fin (s.peIssue k n 0x04 (effIn k n))

/-- WAITP (R48). -/
def effWaitp (k n : Nat) (s : State) (w : Nat) : Eff :=
  if s.waitpCond k n (fieldA w) (fieldB w) then .go s else .wait
def execWaitp (k : Fin 12) (n : Fin 9) (s : State) : Out := fin (s.peIssue k n 0x05 (effWaitp k n))

/-- WAITT (R51): the fine bits are ignored. -/
def effWaitt (k n : Nat) (s : State) (_w : Nat) : Eff := if reached 48 s.window (s.peT k n) then .go s else .wait
def execWaitt (k : Fin 12) (n : Fin 9) (s : State) : Out := fin (s.peIssue k n 0x06 (effWaitt k n))

/-- The queue entry that an AT makes (R52). -/
def State.atEntry (s : State) (k n w : Nat) (obit : Bool) : Action :=
  { t := s.peT k n, fine := if bit (fieldB w) 3 then s.get (PE_T_HI.t_fine k n) else fieldB w % 8
    act := fieldA w % 4, slot := fieldA w / 4, mask := fieldImm w / 256, vals := fieldImm w % 256, obit := obit
    seq := (s.pe k n).seq }

/-- Enter an action into the queue; one that finds it empty is at its head at once (R52, R53). -/
def State.enqueue (s : State) (k n : Nat) (a : Action) : State :=
  let e := s.pe k n
  s.setPe k n { e with actions := e.actions ++ [a], headAt := if e.actions.isEmpty then s.t125 else e.headAt }

/-- AT (R52, R57, R58): OUTBIT takes its bit and INBIT reserves its place at issue; the queue holds four entries. -/
def effAt (k n : Nat) (s : State) (w : Nat) : Eff :=
  if 4 ≤ (s.pe k n).actions.length then .wait
  else
    let t := s.nextSeq k n
    match fieldA w % 4 with
    | 2 =>
      if s.get (PE_SHCNT.out_count k n) = 0 then .stop hcUNDERRUN
      else
        let r := t.shoutTake k n
        .go (r.1.enqueue k n (r.1.atEntry k n w r.2))
    | 3 =>
      if s.inLen k n < s.shinPlaces k n + 1 then .stop hcOVERRUN
      else .go ((t.shinReserve k n).enqueue k n (t.atEntry k n w false))
    | _ => .go (t.enqueue k n (t.atEntry k n w false))
def execAt (k : Fin 12) (n : Fin 9) (s : State) : Out := fin (s.peIssue k n 0x07 (effAt k n))

/-- JMP (R47): JMP SHIN_FULL waits while an INBIT is pending (R48). -/
def effJmp (k n : Nat) (s : State) (w : Nat) : Eff :=
  if fieldA w = 4 ∧ (s.pe k n).resv ≠ [] then .wait
  else if s.jmpCond k n (fieldA w) (fieldB w) then .jump (s.jmpEffect k n (fieldA w)) (fieldImm w % 64)
  else .go s
def execJmp (k : Fin 12) (n : Fin 9) (s : State) : Out := fin (s.peIssue k n 0x08 (effJmp k n))

/-- PULL (R63, R64): one word from the RX port; TAG takes its tag. -/
def effPull (k n : Nat) (s : State) (w : Nat) : Eff :=
  match (s.pe k n).rx with
  | [] => .wait
  | x :: xs =>
    let s := s.setPe k n { s.pe k n with rx := xs }
    .go ((s.writeOp k n (fieldA w) x.data).put (PE_TAG.tag k n) x.tag)
def execPull (k : Fin 12) (n : Fin 9) (s : State) : Out := fin (s.peIssue k n 0x09 (effPull k n))

/-- The TX port has room for m words; an unbound port accepts and discards (R63). -/
def State.txRoom (s : State) (k n m : Nat) : Bool :=
  !s.flag (PE_QBIND.tx_en k n) || decide ((s.pe k n).tx.length + m ≤ 8)

/-- Put a word into the TX port (R63). -/
def State.txPut (s : State) (k n : Nat) (w : QWord) (raise : Bool) : State :=
  if s.flag (PE_QBIND.tx_en k n) then s.setPe k n { s.pe k n with tx := (s.pe k n).tx ++ [(w, raise)] } else s

/-- PUSH (R48, R56, R64): PUSH from SHIN waits for pending INBITs, sends the bits received and clears the count. -/
def effPush (k n : Nat) (s : State) (w : Nat) : Eff :=
  let src := fieldB w
  if !s.txRoom k n 1 then .wait
  else if src = rSHIN ∧ (s.pe k n).resv ≠ [] then .wait
  else
    let s' := s.txPut k n ⟨s.readOp k n src, fieldImm w % 16⟩ false
    .go (if src = rSHIN then s'.put (PE_SHCNT.in_count k n) 0 else s')
def execPush (k : Fin 12) (n : Fin 9) (s : State) : Out := fin (s.peIssue k n 0x0A (effPush k n))

/-- MOV or ADD from or into SHIN waits while an INBIT is pending (R48). -/
def State.shinBusy (s : State) (k n w : Nat) : Bool :=
  (fieldA w == rSHIN || fieldB w == rSHIN) && !(s.pe k n).resv.isEmpty

/-- MOV (R45, R50). -/
def effMov (k n : Nat) (s : State) (w : Nat) : Eff :=
  let a := fieldA w
  let b := fieldB w
  if s.shinBusy k n w then .wait
  else if a = rT then .go (s.putT k n (s.readOpT k n b) (if b = rT then s.get (PE_T_HI.t_fine k n) else 0))
  else .go (s.writeOp k n a (s.readOp k n b))
def execMov (k : Fin 12) (n : Fin 9) (s : State) : Out := fin (s.peIssue k n 0x0B (effMov k n))

/-- ADD (R50): T modulo 2^48, every other register modulo 2^32. -/
def effAdd (k n : Nat) (s : State) (w : Nat) : Eff :=
  let a := fieldA w
  let b := fieldB w
  let imm := sext 16 (fieldImm w)
  if s.shinBusy k n w then .wait
  else if a = rT then
    .go (s.putT k n (wrap 48 ((s.readOpT k n b : Int) + imm)) (if b = rT then s.get (PE_T_HI.t_fine k n) else 0))
  else .go (s.writeOp k n a (wrap 32 ((s.readOp k n b : Int) + imm)))
def execAdd (k : Fin 12) (n : Fin 9) (s : State) : Out := fin (s.peIssue k n 0x0C (effAdd k n))

/-- The most recent captured edge of a polarity (0 rising, 1 falling, 2 either): its time in 125 ps and whether it rose
(R66, R95). -/
def State.latestEdge (s : State) (k p pol : Nat) : Option (Nat × Bool) :=
  let rise := if s.flag (CL_PADSTAMP1.rise_valid k p) then
      some (8 * (s.get (CL_PADSTAMP0.rise_lo k p) + 2 ^ 32 * s.get (CL_PADSTAMP1.rise_hi k p)) +
        s.get (CL_PADSTAMP1.rise_fine k p), true) else none
  let fall := if s.flag (CL_PADSTAMP3.fall_valid k p) then
      some (8 * (s.get (CL_PADSTAMP2.fall_lo k p) + 2 ^ 32 * s.get (CL_PADSTAMP3.fall_hi k p)) +
        s.get (CL_PADSTAMP3.fall_fine k p), false) else none
  match pol, rise, fall with
  | 0, r, _ => r
  | 1, _, f => f
  | _, some r, some f => if (s.caught k p).2.2 then some r else some f
  | _, some r, none => some r
  | _, none, f => f

/-- The two words of a STAMP (R66). -/
def stampWords (t : Nat) (rise : Bool) (slot : Nat) (stale : Bool) : Nat × Nat :=
  (t / 8 % 2 ^ 32, t / 8 / 2 ^ 32 % 2 ^ 16 + t % 8 * 2 ^ 16 + b2n rise * 2 ^ 19 + slot * 2 ^ 20 + b2n stale * 2 ^ 23)

/-- The captured edges of a polarity among counts of rising and falling ones. -/
def edgesOf (pol : Nat) (c : Nat × Nat) : Nat := if pol = 0 then c.1 else if pol = 1 then c.2 else c.1 + c.2

/-- The captured edges of a slot's pad, rising and falling (R95). -/
def State.slotEdges (s : State) (k n sl : Nat) : Nat × Nat :=
  match s.slotPad k n sl with
  | some p => ((s.caught k p).1, (s.caught k p).2.1)
  | none => (0, 0)

/-- Put a stamp into the TX port and note the edges of the slot's pad up to it (R66, R95). -/
def State.putStampWords (s : State) (k n sl t : Nat) (rise stale : Bool) (seen : Nat × Nat) : State :=
  let ws := stampWords t rise sl stale
  let s := (s.txPut k n ⟨ws.1, 0⟩ false).txPut k n ⟨ws.2, 0⟩ false
  let e := s.pe k n
  s.setPe k n { e with stamped := SMap.set e.stamped sl (some seen) none }

/-- STAMP (R48, R66): with latest, the most recent edge, stale when none of the polarity came since this engine's last STAMP of
the slot; without, the first edge after issue. Where no edge was ever captured, latest sends time 0 with stale set, rising for
polarity rising only; a first STAMP that finds an edge is not stale (DESIGN CHOICE, log 241). -/
def effStamp (k n : Nat) (s : State) (w : Nat) : Eff :=
  let sl := fieldA w
  let pol := fieldB w % 4
  if !s.txRoom k n 2 then .wait
  else if bit (fieldB w) 2 then
    let edge := (s.slotPad k n sl).bind (fun p => s.latestEdge k p pol)
    match edge with
    | none => .go ((s.setEvent (PE_FLAGS.stamp_stale k n)).putStampWords k n sl 0 (pol == 0) true (s.slotEdges k n sl))
    | some (t, rise) =>
      let stale := match SMap.getD (s.pe k n).stamped sl none with
        | some c => edgesOf pol c == edgesOf pol (s.slotEdges k n sl)
        | none => false
      let s := if stale then s.setEvent (PE_FLAGS.stamp_stale k n) else s
      .go (s.putStampWords k n sl t rise stale (s.slotEdges k n sl))
  else match (s.pe k n).stampHit with
    | none => .wait
    | some (t, rise) => .go (s.putStampWords k n sl t rise false (s.pe k n).hitCounts)
def execStamp (k : Fin 12) (n : Fin 9) (s : State) : Out := fin (s.peIssue k n 0x0D (effStamp k n))

/-- LDT (R65): two words from the RX port into T; TAG takes the second's tag. -/
def effLdt (k n : Nat) (s : State) (_w : Nat) : Eff :=
  match (s.pe k n).rx with
  | x :: y :: xs =>
    let s := s.setPe k n { s.pe k n with rx := xs }
    .go ((s.putT k n (x.data % 2 ^ 32 + 2 ^ 32 * bits y.data 0 16) (bits y.data 16 3)).put (PE_TAG.tag k n) y.tag)
  | _ => .wait
def execLdt (k : Fin 12) (n : Fin 9) (s : State) : Out := fin (s.peIssue k n 0x0E (effLdt k n))

/-- The EVENT word of an engine (R67): three bits hold the logical number modulo 8, so the spare sends 7 and a retired engine 6
(DESIGN CHOICE, log 242). -/
def State.eventWord (s : State) (k n w : Nat) : Nat :=
  fieldImm w + s.get (PE_STATUS.logical k n) % 8 * 2 ^ 16 + k * 2 ^ 20 + s.readOp k n (fieldB w) % 256 * 2 ^ 24

/-- EVENT (R67). -/
def effEvent (k n : Nat) (s : State) (w : Nat) : Eff :=
  if !s.txRoom k n 1 then .wait
  else .go (s.txPut k n ⟨s.eventWord k n w, tagEVENT⟩ (bit (fieldA w) 0))
def execEvent (k : Fin 12) (n : Fin 9) (s : State) : Out := fin (s.peIssue k n 0x0F (effEvent k n))

/-- The engines, n apart, that wait at barrier b of cluster k. -/
def State.atBarrier (s : State) (k n b : Nat) : List Nat :=
  (List.range 9).filter (fun m => m != n && (s.peSync k m).any (fun x => x.1 == b))

/-- Engines stop together with SYNC_MISMATCH, each a program error; then the barriers that name them break (R69, R70). -/
def State.syncMismatch (s : State) (k : Nat) (ms : List Nat) : State :=
  let s := ms.foldl (fun s m => (s.peStop k m hcMISMATCH).reportPe k m hcMISMATCH) s
  ms.foldl (fun s m =>
    let l := s.get (PE_STATUS.logical k m)
    if l < 8 then s.breakBarriers k 9 l else s) s

/-- SYNC (R68, R69): the last of the masked engines to arrive lets all of them go on. -/
def effSync (k n : Nat) (s : State) (w : Nat) : Eff :=
  let mask := fieldImm w
  let own := s.get (PE_STATUS.logical k n)
  let others := s.atBarrier k n (fieldA w)
  if 8 ≤ own ∨ bit mask own = false then .stop hcMISMATCH
  else if (members 8 mask).all (fun l => l == own || others.any (fun m => s.get (PE_STATUS.logical k m) == l)) then
    let s := others.foldl (fun s m => s.peAdvance k m (s.pcNext k m)) s
    .go (others.foldl (fun s m => s.peStepEnd k m) s)
  else .wait

/-- A SYNC that meets a waiting SYNC with another mask (R69). -/
def State.syncClash (s : State) (k n : Nat) : Bool :=
  let w := s.peWord k n
  s.issues k n 0x10 && legalWord w &&
    (s.atBarrier k n (fieldA w)).any (fun m => (s.peSync k m).any (fun x => x.2 != fieldImm w))

def execSync (k : Fin 12) (n : Fin 9) (s : State) : Out :=
  fin (if s.syncClash k n then s.syncMismatch k (n.val :: s.atBarrier k n (fieldA (s.peWord k n)))
    else s.peIssue k n 0x10 (effSync k n))

/-- YIELD (R73, R76): a pending swap is taken at the entry address; otherwise a NOP. -/
def effYield (k n : Nat) (s : State) (w : Nat) : Eff :=
  if s.flag (PE_STATUS.swap_pending k n) then .jump (s.swapBanks k n) (fieldImm w % 64) else .go s
def execYield (k : Fin 12) (n : Fin 9) (s : State) : Out := fin (s.peIssue k n 0x11 (effYield k n))

/-- RESERVED_OPCODE (R46): a word that is no legal instruction stops the engine with ILLEGAL_OP. -/
def execReservedOpcode (k : Fin 12) (n : Fin 9) (s : State) : Out :=
  fin (if s.peRunning k n && !legalWord (s.peWord k n) then s.peError k n hcILLEGAL else s)

/-- TIMED_ACTION_APPLY (R52, R53): the head entry leaves the queue at its instant; a late one is applied or dropped, as
PE_CFG.late_drop says, and a dropped INBIT shifts in a 0. -/
def execTimedActionApply (k : Fin 12) (n : Fin 9) (s : State) : Out :=
  let e := s.pe k n
  match e.actions with
  | [] => fin s
  | a :: rest =>
    if reached 48 s.window a.t && decide (s.get (NODE_CLSLEEP.depth k) < 2) && s.flag (CL_STATUS.time_lock k) then
      let late := a.late e.headAt
      let at_ := if late then s.t125 else s.actionTime a
      let s := s.setPe k n { e with actions := rest, headAt := at_ }
      let s := if late then s.flagLate k n else s
      if late && s.flag (PE_CFG.late_drop k n) then fin (if a.act = 3 then s.shinFill k n false else s)
      else fin (s.applyAction k n at_ a)
    else fin s

/-- The oldest word of a TX port goes to queue q, and raises the event interrupt as it enters (R67). -/
def State.portPush (s : State) (k n q : Nat) (w : QWord) (raise : Bool) (rest : List (QWord × Bool)) : State :=
  (s.setPe k n { s.pe k n with tx := rest }).qOffer k q { word := w, bus := false, raise_ := raise }

/-- TX_PORT_DELIVER (R63, R67): the oldest word of the TX port enters its queue; a full control queue holds it. The event
interrupt rises for a word that enters, not for one that the queue drops. -/
def execTxPortDeliver (k : Fin 12) (n : Fin 9) (s : State) : Out :=
  let q := s.get (PE_QBIND.tx_queue k n)
  match (s.pe k n).tx with
  | [] => fin s
  | (w, raise) :: rest =>
    if !s.flag (PE_QBIND.tx_en k n) then fin (s.setPe k n { s.pe k n with tx := rest })
    else if s.qHolds k q then fin s
    else
      fin (s.portPush k n q w raise rest)

/-- RX_PORT_FETCH (R63, R114): a word ahead from the bound queue, up to 8 in the port. -/
def execRxPortFetch (k : Fin 12) (n : Fin 9) (s : State) : Out :=
  let q := s.get (PE_QBIND.rx_queue k n)
  let e := s.pe k n
  match s.qWords k q with
  | [] => fin s
  | w :: _ =>
    if s.flag (PE_QBIND.rx_en k n) && decide (e.rx.length < 8) then
      fin ((s.setPe k n { e with rx := e.rx ++ [w] }).qTake k q)
    else fin s

end Sys2Proof.Machine
end

