-- ==== Sys2Proof/Machine/PeCtl.lean ====
section
/-! DEFINITION. Machine/PeCtl.lean: the commands of PE_CTL, idle swaps, and writes to program and engine state registers
(R71 to R84). The operands of a register write are the originator o and the written word w. -/

namespace Sys2Proof.Machine

/-- A write is refused with STATE: the cluster counts it, and a host write is logged in the head's error log (R12, R72). An engine
state register logs as a program word does (DESIGN CHOICE, log 246). -/
def State.refuseWrite (s : State) (o : Origin) (counter : Fld) (a : Nat) : State :=
  let s := s.refuse o counter
  if o = .host ∧ s.isHead then s.errLog stSTATE 0 0 true none (s.domainAddr a) else s

/-- The engine is idle (R74). -/
def State.peIdle (s : State) (k n : Nat) : Bool :=
  let op := s.get (PE_STATUS.wait_op k n)
  s.get (PE_STATUS.run k n) == 2 && (op == 0x09 || op == 0x0E || op == 0x06 || op == 0x05) &&
    s.get (PE_SHCNT.in_count k n) == 0 && s.get (PE_SHCNT.out_count k n) == 0 &&
    !(s.pe k n).actions.any (fun a => a.act == 2 || a.act == 3) && (s.peSync k n).isNone

/-- The new program starts at address 0; the waiting instruction is abandoned (R73, R74). A step that waited in it ends there,
with cause 0xB; after a forced swap it goes on to one instruction of the new program (DESIGN CHOICE, log 244). -/
def State.idleSwap (s : State) (k n : Nat) : State := (s.swapBanks k n).peGoOn k n 0

/-- A forced swap in mid-shift (R75): the abort is recorded, the shifters and the action queue are discarded, the owned pads
are released, barriers that name the engine break, and the new program starts at address 0. -/
def State.forceSwap (s : State) (k n : Nat) : State :=
  let s := (s.setEvent (PE_FLAGS.forced k n)).puts [(PE_LASTABORT.in_count k n, s.get (PE_SHCNT.in_count k n)),
    (PE_LASTABORT.out_count k n, s.get (PE_SHCNT.out_count k n)), (PE_LASTABORT.pc k n, s.get (PE_STATUS.pc k n)),
    (PE_LASTABORT.valid k n, 1), (PE_SHIN.shin k n, 0), (PE_SHOUT.shout k n, 0),
    (PE_SHCNT.in_count k n, 0), (PE_SHCNT.out_count k n, 0)]
  let s := s.pePark k n
  let s := s.setPe k n { s.pe k n with actions := [], resv := [], issued := none, stampHit := none, forceAt := none }
  let l := s.get (PE_STATUS.logical k n)
  let s := (s.swapBanks k n).puts [(PE_STATUS.pc k n, 0), (PE_STATUS.run k n, 1), (PE_STATUS.wait_op k n, 0)]
  if l < 8 then s.breakBarriers k 9 l else s

/-- A forced request of this engine that is due happens, unless a YIELD took it or it was withdrawn (R75, R76). -/
def State.forceDue (s : State) (k n : Nat) : State :=
  match (s.pe k n).forceAt with
  | none => s
  | some t =>
    if s.now < t + 2 then s
    else
      let s := s.setPe k n { s.pe k n with forceAt := none }
      if s.flag (PE_STATUS.force_pending k n) && s.peRunning k n then s.forceSwap k n else s

/-- The swap bits of a write (R73, R75, R76, R79): a request is pending from now, a forced one of a running engine that is
not idle happens in the next PORTCLK cycle, one of a halted engine at once. -/
def State.peSwapBits (s : State) (k n w : Nat) : State :=
  let s := if bit w 3 then s.puts [(PE_CTL.swap_req k n, 1), (PE_STATUS.swap_pending k n, 1)] else s
  let s := if bit w 4 then (s.puts [(PE_CTL.swap_req k n, 0), (PE_STATUS.swap_pending k n, 0), (PE_CTL.force k n, 0),
      (PE_STATUS.force_pending k n, 0)]).setPe k n { s.pe k n with forceAt := none } else s
  let s := if bit w 5 && s.flag (PE_STATUS.swap_pending k n) then
      s.puts [(PE_CTL.force k n, 1), (PE_STATUS.force_pending k n, 1)] else s
  if !s.flag (PE_STATUS.swap_pending k n) then s
  else if !s.peRunning k n then s.swapBanks k n
  else if s.flag (PE_STATUS.force_pending k n) then
    if s.peIdle k n then s.idleSwap k n
    else s.setPe k n { s.pe k n with forceAt := some ((s.pe k n).forceAt.getD s.now) }
  else s

/-- start and step (R80): the engine runs from start_pc, or runs one instruction from its PC; a start also ends a PORT_STOP and the
park of its pads (R463). -/
def State.peRun (s : State) (k n : Nat) (step : Bool) : State :=
  let s := s.setPe k n { s.pe k n with stepping := step, stopped := (s.pe k n).stopped && step, issued := none, stampHit := none }
  let pc := if step then s.get (PE_STATUS.pc k n) else s.get (PE_CTL.start_pc k n)
  let s := if step then s else s.withEdges k s.t125 (fun s => s.peUnpark k (s.ownPads k n))
  (s.puts [(PE_STATUS.pc k n, pc), (PE_STATUS.run k n, 1), (PE_STATUS.wait_op k n, 0)]).serverStarts k n

/-- Engine n is halted and may run: its cluster is not in reset and its die is not parked (R21, R80, R87). -/
def State.peStartable (s : State) (k n : Nat) : Bool :=
  !s.peRunning k n && !s.flag (CL_STATUS.in_reset k) && !(s.cluster k).dieParked

/-- A write of PE_CTL with word w (R80). -/
def State.peCtlWrite (s : State) (k n : Nat) (o : Origin) (w : Nat) : State :=
  let runs := b2n (bit w 0) + b2n (bit w 1) + b2n (bit w 2)
  if bit w 31 then (s.peUnitReset k n).done o stOK
  else if 1 < runs ∨ (bit w 3 && bit w 4) then s.done o stILLEGAL
  else if (bit w 0 && !(s.peStartable k n && s.programsRun)) || (bit w 2 && !s.peStartable k n) then
    s.refuse o (CL_REFUSED.count k)
  else
    let s := s.put (PE_CTL.start_pc k n) (bits w 16 6)
    let s := s.peSwapBits k n w
    let s := if bit w 0 then s.peRun k n false else if bit w 2 then s.peRun k n true else s
    let s := if bit w 1 then s.peLeave k n hcCOMMAND else s
    s.done o stOK

/-- The written word has the command's bit set. -/
def withBit (w i : Nat) : Nat := setBit w i true

/-- PE_START (R80). -/
def accPeStart (k : Fin 12) (n : Fin 9) (o : Origin) (w : Nat) (s : State) : Out := fin (s.peCtlWrite k n o (withBit w 0))

/-- PE_HALT (R80). -/
def accPeHalt (k : Fin 12) (n : Fin 9) (o : Origin) (w : Nat) (s : State) : Out := fin (s.peCtlWrite k n o (withBit w 1))

/-- PE_STEP (R80). -/
def accPeStep (k : Fin 12) (n : Fin 9) (o : Origin) (w : Nat) (s : State) : Out := fin (s.peCtlWrite k n o (withBit w 2))

/-- SWAP_REQ (R73). -/
def accSwapReq (k : Fin 12) (n : Fin 9) (o : Origin) (w : Nat) (s : State) : Out := fin (s.peCtlWrite k n o (withBit w 3))

/-- SWAP_CANCEL (R73). -/
def accSwapCancel (k : Fin 12) (n : Fin 9) (o : Origin) (w : Nat) (s : State) : Out :=
  fin (s.peCtlWrite k n o (withBit w 4))

/-- FORCE (R75, R79). -/
def accForce (k : Fin 12) (n : Fin 9) (o : Origin) (w : Nat) (s : State) : Out := fin (s.peCtlWrite k n o (withBit w 5))

/-- PE_UNIT_RESET (R23, R80). -/
def accPeUnitReset (k : Fin 12) (n : Fin 9) (o : Origin) (w : Nat) (s : State) : Out :=
  fin (s.peCtlWrite k n o (withBit w 31))

/-- IDLE_SWAP (R74): a pending swap of an engine that has become idle. -/
def execIdleSwap (k : Fin 12) (n : Fin 9) (s : State) : Out :=
  fin (if s.flag (PE_STATUS.swap_pending k n) && s.peIdle k n then s.idleSwap k n else s)

/-- A write to a program word is accepted: to the shadow bank without a pending swap, or to the active bank of a halted
engine (R71, R72, R77). -/
def State.progOpen (s : State) (k n i : Nat) : Bool :=
  if i / 64 = s.get (PE_STATUS.active_bank k n) then !s.peRunning k n else !s.flag (PE_STATUS.swap_pending k n)

/-- PE_PROG_WRITE of word i (R71, R72, R77). -/
def accPeProgWrite (k : Fin 12) (n : Fin 9) (i : Fin 128) (o : Origin) (w : Nat) (s : State) : Out :=
  fin (if s.progOpen k n i then (s.put (PE_PROG.word k n i) w).done o stOK
    else s.refuseWrite o (CL_REFUSED.count k) (PE_PROG.word k n i).addr)

/-- PE_STATE_WRITE of the r-th engine state register, PE_X to PE_TAG (R82). A write of PE_SHIN or PE_SHOUT stores the value and leaves
PE_SHCNT (DESIGN CHOICE, log 283). -/
def accPeStateWrite (k : Fin 12) (n : Fin 9) (r : Fin 9) (o : Origin) (w : Nat) (s : State) : Out :=
  let a := PE_X.addr k n + 4 * r
  let busy := (r = 5 ∨ r = 7) ∧ (s.pe k n).resv ≠ []
  fin (if s.peRunning k n = true ∨ busy then s.refuseWrite o (CL_REFUSED.count k) a
    else (s.writeReg o a w).done o stOK)

end Sys2Proof.Machine
end

