-- ==== Sys2Proof/Machine/Cluster.lean ====
section
/-! DEFINITION. Machine/Cluster.lean: cluster reset and relock, VDDIO banks, pad edges, and the bus accesses to queues
(R86 to R95, R103 to R115, R269). -/

namespace Sys2Proof.Machine

/-- The voltage fields of bank b (R88, R115). -/
def bankVolt (k b : Nat) : Fld := if b = 0 then CL_BANKCFG.b0_volt k else CL_BANKCFG.b1_volt k
def bankMeas (k b : Nat) : Fld := if b = 0 then CL_BANKCFG.b0_meas k else CL_BANKCFG.b1_meas k
def bankNoMatch (k b : Nat) : Fld := if b = 0 then CL_BANKCFG.b0_nomatch k else CL_BANKCFG.b1_nomatch k

/-- The band of a measured voltage in mV (R514). -/
def vddioBand (mv : Nat) : Nat :=
  if 1620 ≤ mv ∧ mv ≤ 1980 then 1 else if 2250 ≤ mv ∧ mv ≤ 2750 then 2 else if 2970 ≤ mv ∧ mv ≤ 3630 then 3 else 0

/-- The bottom of the band of a cast voltage in mV (R514). -/
def bandBottom (v : Nat) : Nat := match v with
  | 1 => 1620
  | 2 => 2250
  | 3 => 2970
  | _ => 0

/-- A bank fails its check: its pads stay parked, bank_fault is set and source 0x02 reported (R88). -/
def State.bankFault (s : State) (k b : Nat) : State :=
  let s := s.put (CL_STATUS.bank_ok k) (setBit (s.get (CL_STATUS.bank_ok k)) b false)
  (s.clusterIrq k (CL_IRQ.bank_fault k) (CL_IRQEN.bank_fault k)).report
    { src := 0x02, master := unitCLUSTER k, addr := s.domainAddr (CL_CTL.addr k), extra := b }

/-- The check of bank b of cluster k against its measured voltage; a bank cast not used is not checked (R88). -/
def State.bankCheck (s : State) (k b : Nat) : State :=
  let cast := s.get (bankVolt k b)
  let mv := nth (s.cluster k).vddio b
  if cast = 0 then s.put (CL_STATUS.bank_ok k) (setBit (s.get (CL_STATUS.bank_ok k)) b false)
  else
    let s := s.puts [(bankMeas k b, vddioBand mv), (bankNoMatch k b, b2n (vddioBand mv == 0 && decide (500 ≤ mv)))]
    if vddioBand mv = cast then s.put (CL_STATUS.bank_ok k) (setBit (s.get (CL_STATUS.bank_ok k)) b true)
    else s.bankFault k b

/-- Both bank checks, with the edges they make. -/
def State.bankChecks (s : State) (k : Nat) : State :=
  s.withEdges k s.t125 (fun s => (s.bankCheck k 0).bankCheck k 1)

/-- Unit reset of CAN FD controller j: everything but its cast fields (R23). -/
def State.canReset (s : State) (k j : Nat) : State :=
  (s.setCan k j {}).puts [(CL_CANCFG.mode k j, 0), (CL_CANCFG.loopback k j, 0), (CL_CANSTAT.tec k j, 0),
    (CL_CANSTAT.rec k j, 0), (CL_CANSTAT.bus k j, 0), (CL_CANSTAT.tdcv k j, 0)]

/-- The captured stamps of a pad are cleared. -/
def State.clearStamps (s : State) (k p : Nat) : State :=
  s.puts [(CL_PADSTAMP0.rise_lo k p, 0), (CL_PADSTAMP1.rise_hi k p, 0), (CL_PADSTAMP1.rise_fine k p, 0),
    (CL_PADSTAMP1.rise_valid k p, 0), (CL_PADSTAMP2.fall_lo k p, 0), (CL_PADSTAMP3.fall_hi k p, 0),
    (CL_PADSTAMP3.fall_fine k p, 0), (CL_PADSTAMP3.fall_valid k p, 0)]

/-- Cluster reset (R23, R28, R87, R88): open transactions fail, engines and CAN FD controllers take their unit resets, queue
contents and captures are cleared, the time copy relocks, and the pads are parked while it lasts. CLUSTER_PARK ends
(R463). -/
def State.clusterReset (s : State) (k : Nat) : State :=
  let s := s.clusterTransactions k
  let s := s.withEdges k s.t125 (fun s =>
    let s := s.puts [(CL_STATUS.time_lock k, 0), (CL_STATUS.in_reset k, 1), (CL_STATUS.parked k, 1)]
    let s := (List.range 9).foldl (fun s n => s.peUnitReset k n) s
    (s.canReset k 0).canReset k 1)
  let s := (List.range 32).foldl (fun s q => s.qClear k q) s
  let s := (List.range 32).foldl (fun s p => s.clearStamps k p) s
  let s := s.setCluster k { s.cluster k with edge := [], frozen := [], faultPark := false, resetAt := s.time }
  s.bankChecks k

/-- CL_RESET: a write of CL_CTL.cl_reset (R24, R87, R115). -/
def accClReset (k : Fin 12) (o : Origin) (s : State) : Out :=
  fin (if s.foreignCore o then s.done o stAUTH else (s.clusterReset k).done o stOK)

/-- The port die of Kk has not started: BOOT has not ended, or the bellows has not reached the die (R361, R439; log 65). -/
def State.dieWaits (s : State) (k : Nat) : Bool :=
  s.nodeState == nsBOOT || (SMap.getD s.slp.wanted 0 []).contains (k / 6 + 1)

/-- VDDIO_FALL: the VDDIO of bank b is now mv; below the lower limit of its cast value it fails as at its check (R88). -/
def execVddioFall (k : Fin 12) (b : Fin 2) (mv : Nat) (s : State) : Out :=
  let c := s.cluster k
  let cast := s.get (bankVolt k b)
  let s := s.setCluster k { c with vddio := setNth c.vddio b mv }
  fin (if cast ≠ 0 ∧ bit (s.get (CL_STATUS.bank_ok k)) b ∧ mv < bandBottom cast then
      let s := s.puts [(bankMeas k b, vddioBand mv), (bankNoMatch k b, b2n (vddioBand mv == 0 && decide (500 ≤ mv)))]
      s.withEdges k s.t125 (fun s => s.bankFault k b)
    else s)

/-- PAD_EDGE: the field side brings pad p to a level, or lets go of it (none), `fine` units of 125 ps into this nanosecond
(R90, R93, R94). -/
def execPadEdge (k : Fin 12) (p : Fin 32) (level : Option Bool) (fine : Fin 8) (s : State) : Out :=
  fin (s.withEdges k (s.t125 / 8 * 8 + fine) (fun s =>
    let c := s.cluster k
    s.setCluster k { c with ext := setBit c.ext p (level.getD false), loose := setBit c.loose p level.isNone }))

/-- The high word of a polarity's stamp (0 rising, 1 falling), and its address. -/
def stampHi (s : State) (k p pol : Nat) : Nat :=
  s.readWord ((if pol = 0 then CL_PADSTAMP1.addr k p else CL_PADSTAMP3.addr k p))

/-- PADSTAMP_READ of word r of pad p: a low word freezes the high word of its polarity until that is read (R115). -/
def accPadstampRead (k : Fin 12) (p : Fin 32) (r : Fin 4) (o : Origin) (s : State) : Out :=
  let pol := r.val / 2
  let key := 2 * p.val + pol
  let c := s.cluster k
  if r.val % 2 = 0 then
    let v := s.readWord (CL_PADSTAMP0.addr k p + 4 * r)
    fin ((s.setCluster k { c with frozen := SMap.set c.frozen key (some (stampHi s k p pol)) none }).done o stOK 0 [v])
  else
    let v := (SMap.getD c.frozen key none).getD (stampHi s k p pol)
    fin ((s.setCluster k { c with frozen := SMap.set c.frozen key none none }).done o stOK 0 [v])

/-! ### Queues -/

/-- A writer's place in the rotation (R105). -/
def writerPlace : Writer → Nat
  | .pe n => n
  | .can j => 9 + j
  | .channel n => 11 + n
  | .bus _ => 19

/-- The offers in the order of the rotation from place t on. -/
def rotate (offers : List (Writer × QWord)) (t : Nat) : List (Writer × QWord) :=
  (List.range 20).filterMap (fun i => offers.find? (fun e => writerPlace e.1 == (t + i) % 20))

/-- A full control queue holds this writer back: an engine or a channel (R107). -/
def heldWriter : Writer → Bool
  | .pe _ => true
  | .channel _ => true
  | _ => false

/-- One writer's word meets the queue (R107). The rotation starts at PE0, and each QUEUE_PUSH moves it past its winner; a push made
alone leaves it (DESIGN CHOICE, log 285). A control queue that is full holds back an engine or a channel, and ignores a bus
write or a controller's word with overrun. -/
def State.offer (s : State) (k q : Nat) (e : Writer × QWord) : State :=
  let next := fun (s : State) => s.setQueue k q { s.queue k q with turn := (writerPlace e.1 + 1) % 20 }
  match e.1 with
  | .bus o => next ((s.qBusPush k q e.2).done o stOK)
  | .can _ => next (s.qBusPush k q e.2)
  | .pe n =>
    match (s.pe k n).tx with
    | [] => s
    | (w, raise) :: rest =>
      if s.qHolds k q || !(s.flag (PE_QBIND.tx_en k n) && s.get (PE_QBIND.tx_queue k n) == q) then s
      else
        next (s.portPush k n q w raise rest)
  | _ => if s.qHolds k q then s else next (s.qOffer k q { word := e.2, bus := false })

/-- QUEUE_PUSH: the pushes offered to queue q in one PORTCLK cycle. A disabled queue discards all of them (R104); an
enabled one takes the writer whose turn it is, of those that a full control queue does not hold back (R105, R107). An engine's
word is the oldest of its TX port. -/
def execQueuePush (k : Fin 12) (q : Fin 32) (offers : List (Writer × QWord)) (s : State) : Out :=
  if s.qOn k q then
    match (rotate offers (s.queue k q).turn).filter (fun e => !(s.qHolds k q && heldWriter e.1)) with
    | [] => fin s
    | e :: _ => fin (s.offer k q e)
  else fin (offers.foldl (fun s e => match e.1 with
    | .pe n => (s.setPe k n { s.pe k n with tx := (s.pe k n).tx.tail }).qPush k q e.2
    | .bus o => (s.qPush k q e.2).done o stOK
    | _ => s.qPush k q e.2) s)

/-- QPUSH: the value with tag 0 (R107). -/
def accQpush (k : Fin 12) (q : Fin 32) (o : Origin) (w : Nat) (s : State) : Out :=
  fin ((s.qBusPush k q ⟨w % 2 ^ 32, 0⟩).done o stOK)

/-- QPUSHEND: the value with tag END (R107). -/
def accQpushend (k : Fin 12) (q : Fin 32) (o : Origin) (w : Nat) (s : State) : Out :=
  fin ((s.qBusPush k q ⟨w % 2 ^ 32, tagEND⟩).done o stOK)

/-- QPUSHERR: the value with tag ERR (R107). -/
def accQpusherr (k : Fin 12) (q : Fin 32) (o : Origin) (w : Nat) (s : State) : Out :=
  fin ((s.qBusPush k q ⟨w % 2 ^ 32, tagERR⟩).done o stOK)

/-- The bus consumes this queue (R104). -/
def State.busQueue (s : State) (k q : Nat) : Bool := s.qOn k q && s.get (CL_QCTL.consumer k q) == 0

/-- QUEUE_READ_WAIT in ns (R110). -/
def State.readWait (s : State) (k : Nat) : Nat :=
  let w := s.get (CL_QREADWAIT.wait k)
  100 * (if w = 0 then 1 else min w 200)

/-- A bus read takes a word at once, or is held (R110, R111). -/
def State.busRead (s : State) (k q : Nat) (o : Origin) (burst : Option Nat) : State :=
  let x := s.queue k q
  let h : HeldRead := ⟨o, s.now + s.readWait k, burst⟩
  if s.qWords k q = [] ∨ x.held ≠ [] then s.setQueue k q { x with held := x.held ++ [h] } else s.busPop k q h

/-- QPOP (R104, R110, R111). -/
def accQpop (k : Fin 12) (q : Fin 32) (o : Origin) (s : State) : Out :=
  fin (if s.busQueue k q then s.busRead k q o none
    else ((s.zero (CL_QDATA.data k q)).bump (CL_REFUSED.count k)).done o stOK 0 [popWord 0 stSTATE 0])

/-- QUEUE_READ_WAIT_EXPIRE: of the held reads whose wait has ended, and for which no word has arrived, the oldest completes with EMPTY
(R110, R111). -/
def execQueueReadWaitExpire (k : Fin 12) (q : Fin 32) (s : State) : Out :=
  let x := s.queue k q
  match (x.held.drop x.words.length).find? (fun h => decide (h.until_ ≤ s.now)) with
  | none => fin s
  | some h => fin ((s.setQueue k q { x with held := x.held.erase h }).endRead k q h)

/-- QUEUE_POINTER_MISMATCH; `refused` tells that a push was refused in the mismatch cycle (R112). The marker comes into an
emptied queue, so with LEVEL = 1 it sets CL_QIRQ (R113). -/
def execQueuePointerMismatch (k : Fin 12) (q : Fin 32) (refused : Bool) (s : State) : Out :=
  if !s.qOn k q then fin s
  else
    let s := s.qClear k q
    let s := if s.qStream k q then
        s.setQueue k q { (s.queue k q).add (s.qCast k q) ⟨2 ^ 24 + b2n refused, tagGAP⟩ true with cyc := some (s.portCycle, 0) }
      else s
    let s := (s.setEvent (CL_QSTAT.reset_seen k q)).clusterIrq k (CL_IRQ.qreset k) (CL_IRQEN.qreset k)
    fin (s.report { src := 0x03, master := unitCLUSTER k, addr := s.domainAddr (CL_CTL.addr k), extra := q })

/-- Q_RESET: a write of CL_QCTL with q_reset (R112, R115). -/
def accQReset (k : Fin 12) (q : Fin 32) (o : Origin) (w : Nat) (s : State) : Out :=
  fin (if s.foreignCore o then s.done o stAUTH
    else ((s.writeReg o (CL_QCTL.addr k q) w).qClear k q).done o stOK)

/-- BURST_READ of len bytes at offset ofs of queue q's view (R269). -/
def accBurstRead (k : Fin 12) (q : Fin 32) (o : Origin) (ofs len : Nat) (s : State) : Out :=
  let n := len / 8
  fin (if len % 8 ≠ 0 ∨ ofs % 8 ≠ 0 ∨ len = 0 ∨ 4096 < len then s.done o stILLEGAL
    else if s.busQueue k q && s.qStream k q then s.busRead k q o (some n)
    else (s.bumpBy (CL_REFUSED.count k) n).done o stOK 0 (emptyUnits n stSTATE))

end Sys2Proof.Machine
end

