-- ==== Sys2Proof/Machine/Can.lean ====
section
/-! DEFINITION. Machine/Can.lean: the CAN FD controllers (R96 to R102). -/

namespace Sys2Proof.Machine

/-- Queues of controller j of cluster k. -/
def State.canTxQ (s : State) (k j : Nat) : Nat := s.get (CL_CANQ.tx_queue k j)
def State.canRxQ (s : State) (k j : Nat) : Nat := s.get (CL_CANQ.rx_queue k j)

/-- The controller is on and not under PORT_STOP (R463). -/
def State.canOn (s : State) (k j : Nat) : Bool :=
  s.get (CL_CANCFG.mode k j) != 0 && !(s.can k j).stopped && !(s.cluster k).faultPark && !(s.cluster k).dieParked

/-- Write words that form one record (R101): whole when there is room, the reserved slot of a stream queue counted; else they
are dropped and counted, in the GAP marker of a stream queue or with overrun in a control queue. Answers whether they were
written. -/
def State.canWords (s : State) (k q : Nat) (ws : List QWord) : State × Bool :=
  let x := s.qNoted k q
  let n := ws.length
  if s.qRoom k q n then (s.setQueue k q (ws.foldl (fun x w => x.add (s.qCast k q) w false) x), true)
  else
    let s := s.bumpBy (CL_QDROP.drops k q) n
    if !s.qOn k q then (s, false)
    else if s.qStream k q then
      if x.gapOpen then (s.setQueue k q { x with words := bumpGap x.words n }, false)
      else if x.words.length < s.qCast k q then
        (s.setQueue k q (x.add (s.qCast k q) ⟨min n 0xFFFFFF, tagGAP⟩ true), false)
      else (s, false)
    else ((s.setEvent (CL_QSTAT.overrun k q)).clusterIrq k (CL_IRQ.overrun k) (CL_IRQEN.overrun k), false)

/-- An EVENT word of the controller into its receive queue (R102). -/
def State.canEvent (s : State) (k j code : Nat) (err : Bool) : State :=
  if !s.flag (CL_CANQ.rx_en k j) then s
  else
    let data := code + j * 2 ^ 16 + 2 ^ 19 + k * 2 ^ 20 + (s.can k j).tec % 256 * 2 ^ 24
    let r := s.canWords k (s.canRxQ k j) [⟨data, tagEVENT + if err then tagERR else 0⟩]
    if r.2 then
      if j = 0 then r.1.clusterIrq k (CL_IRQ.can0 k) (CL_IRQEN.can0 k)
      else r.1.clusterIrq k (CL_IRQ.can1 k) (CL_IRQEN.can1 k)
    else r.1

/-- Discard words up to and including the next END; while it has not come, words are discarded as they arrive (R99). -/
def State.canDiscard (s : State) (k j : Nat) : State :=
  let q := s.canTxQ k j
  match takeRecord (s.qWords k q) with
  | some r =>
    let s := s.qTakeN k q r.1.length
    (s.setCan k j { s.can k j with discarding := false }).canEvent k j 0x0006 true
  | none =>
    let s := s.qTakeN k q (s.qWords k q).length
    s.setCan k j { s.can k j with discarding := true }

/-- Words 0 and 1 name a frame that the controller has: RTR only in classical frames, BRS only in CAN FD ones, and no CAN FD frame
while they are not allowed (R96, R99, R115; logs 14, 249). -/
def State.canFormat (s : State) (k j w0 w1 : Nat) : Bool :=
  (s.flag (CL_CANCFG.fd_en k j) || !bit w0 30) && !(bit w0 30 && bit w1 5) && (bit w0 30 || !bit w0 31)

/-- A record the controller may send: whole, and of a frame that it has (R96, R99). -/
def State.canSendable (s : State) (k j : Nat) (ws : List QWord) : Bool :=
  recordOk ws && s.canFormat k j (ws.headD ⟨0, 0⟩).data (ws.getD 1 ⟨0, 0⟩).data

/-- The front of the queue cannot become a whole record: it has gone past the length its first words give, or a marker or an
EVENT stands in it. -/
def recordLost (ws : List QWord) : Bool :=
  match ws with
  | a :: b :: _ => decide (recordLen a.data b.data ≤ ws.length) || ws.any (fun w => hasGap w || hasEvent w)
  | [a] => hasGap a || hasEvent a
  | [] => false

/-- CAN_TRANSMIT_RECORD (R99): the controller takes the next record, or discards a malformed one. -/
def execCanTransmitRecord (k : Fin 12) (j : Fin 2) (s : State) : Out :=
  let q := s.canTxQ k j
  let c := s.can k j
  if !s.canOn k j || !s.flag (CL_CANQ.tx_en k j) || c.record.isSome then fin s
  else if c.discarding then fin (s.canDiscard k j)
  else match takeRecord (s.qWords k q) with
    | some r =>
      if s.canSendable k j r.1 then
        fin ((s.qTakeN k q r.1.length).setCan k j { c with record := some r.1, arbitrating := false })
      else fin (s.canDiscard k j)
    | none => fin (if recordLost (s.qWords k q) then s.canDiscard k j else s)

/-- The launch condition of a record (R100). -/
def State.canDue (s : State) (ws : List QWord) : Bool :=
  match ws with
  | _ :: b :: lo :: hi :: _ => !bit b.data 6 || reached 48 s.window (launchOf lo.data hi.data / 8)
  | _ => true

/-- The controller reaches the bus through its transmit pad, or runs in internal loopback (R96, R98). -/
def State.canSends (s : State) (k j : Nat) : Bool := s.flag (CL_CANPAD.tx_en k j) || s.flag (CL_CANCFG.loopback k j)

/-- CAN_LAUNCH (R98, R100): arbitration starts; only the normal mode sends, and not in bus-off. -/
def execCanLaunch (k : Fin 12) (j : Fin 2) (s : State) : Out :=
  let c := s.can k j
  match c.record with
  | none => fin s
  | some ws =>
    fin (if s.canOn k j && s.get (CL_CANCFG.mode k j) == 1 && s.get (CL_CANSTAT.bus k j) != 2 && s.canSends k j && s.canDue ws then
        s.withEdges k s.t125 (fun s => s.setCan k j { c with arbitrating := true, sof := s.t125 })
      else s)

/-- The receive record of a frame: identifier word, DLC word with its stamp bit set, SOF stamp, data (R99). -/
def canRecord (w0 w1 sof : Nat) (data : List Nat) : List QWord :=
  let ns := sof / 8 % 2 ^ 48
  bytesRecord (leBytes 4 w0 ++ leBytes 4 (w1 % 64 + 64) ++ leBytes 4 ns ++ leBytes 4 (ns / 2 ^ 32 + sof % 8 * 2 ^ 16) ++
    data.take (dlcBytes (bit w0 30) (w1 % 16)))

/-- A received frame is written as a record, or reported as dropped (R101, R102). -/
def State.canTake (s : State) (k j w0 w1 sof : Nat) (data : List Nat) : State :=
  if !s.flag (CL_CANQ.rx_en k j) then s
  else
    let r := s.canWords k (s.canRxQ k j) (canRecord w0 w1 sof data)
    if r.2 then r.1 else r.1.canEvent k j 0x0005 false

/-- The bus state of error counts (ISO 11898-1): error active, error passive from 128, bus-off above 255. -/
def busState (tec rec_ : Nat) : Nat := if 255 < tec then 2 else if 127 < tec ∨ 127 < rec_ then 1 else 0

/-- The recovery from bus-off starts (R102). -/
def State.canRecovers (s : State) (k j : Nat) : State :=
  if (s.can k j).recovering then s else s.setCan k j { s.can k j with recovering := true, recoverAt := s.ns }

/-- The error counts are now tec and rec_: a change of bus state is written as an EVENT word. Bus-off ends sending, and starts the
recovery where auto_rec says so (R102). -/
def State.canCounts (s : State) (k j tec rec_ : Nat) : State :=
  let old := s.get (CL_CANSTAT.bus k j)
  let st := busState tec rec_
  let s := s.setCan k j { s.can k j with tec := tec, rec_ := rec_ }
  let s := s.puts [(CL_CANSTAT.tec k j, min tec 255), (CL_CANSTAT.rec k j, min rec_ 255), (CL_CANSTAT.bus k j, st)]
  if st = old then s
  else if st = 2 then
    let s := s.withEdges k s.t125 (fun s => s.setCan k j { s.can k j with arbitrating := false })
    (if s.flag (CL_CANCFG.auto_rec k j) then s.canRecovers k j else s).canEvent k j 0x0003 false
  else s.canEvent k j (if st = 1 then 0x0001 else 0x0002) false

/-- A sent frame is received by its own controller in loopback (R96). -/
def State.loopBack (s : State) (k j : Nat) (c : Can) : State :=
  match c.record with
  | some ws =>
    if s.flag (CL_CANCFG.loopback k j) then
      s.canTake k j (ws.headD ⟨0, 0⟩).data (ws.getD 1 ⟨0, 0⟩).data c.sof (recordData ws) else s
  | none => s

/-- A CAN FD frame with bit rate switching measures the transmitter delay: what it measures is open (R96, log 254). -/
def State.measureDelay (s : State) (k j : Nat) (c : Can) : State :=
  match c.record with
  | some (a :: _) => if bit a.data 31 then s.put (CL_CANSTAT.tdcv k j) (Config.transmitDelay k j s.time) else s
  | _ => s

/-- CAN_FRAME_SENT (R96, R100, R102): the frame is done, or will be sent again; the error count follows ISO 11898-1, and the bus state
with it. -/
def execCanFrameSent (k : Fin 12) (j : Fin 2) (r : CanTx) (s : State) : Out :=
  let c := s.can k j
  if !c.arbitrating then fin s
  else
    let s := s.withEdges k s.t125 (fun s => s.setCan k j { c with arbitrating := false })
    fin (match r with
      | .sent =>
        (((s.setCan k j { s.can k j with record := none }).measureDelay k j c).loopBack k j c).canCounts k j (c.tec - 1) c.rec_
      | .lostArbitration => s
      | .error => s.withEdges k s.t125 (fun s => (s.canErrorFlag k j (s.get (CL_CANSTAT.bus k j))).canCounts k j (c.tec + 8) c.rec_))

/-- CAN_RECEIVE of a frame with words 0 and 1, data bytes and SOF time (125 ps), at the receive pad (R98, R101): none in bus-off, in
loopback or of a format that the controller does not take. Its ACK slot is dominant where it still lies ahead (R96). -/
def execCanReceive (k : Fin 12) (j : Fin 2) (w0 w1 sof : Nat) (data : List Nat) (s : State) : Out :=
  if !s.canOn k j || !s.flag (CL_CANPAD.rx_en k j) || s.flag (CL_CANCFG.loopback k j) || s.get (CL_CANSTAT.bus k j) == 2 ||
    !s.canFormat k j w0 w1 then fin s
  else fin ((s.withEdges k s.t125 (fun s => s.canAck k j w0 w1 sof data)).canTake k j w0 w1 sof data)

/-- CAN_BUS_EVENT: the error counts are now tec and rec (R102). A receive count that has risen is an error that a receiver met, which an
error-active controller in the normal mode flags (R96). -/
def execCanBusEvent (k : Fin 12) (j : Fin 2) (tec rec_ : Nat) (s : State) : Out :=
  let old := s.get (CL_CANSTAT.bus k j)
  if !s.canOn k j || old == 2 || old == 3 then fin s
  else
    let s := if (s.can k j).rec_ < rec_ then s.withEdges k s.t125 (fun s => s.canErrorFlag k j old) else s
    fin (s.canCounts k j tec rec_)

/-- A write of CL_CANCFG (R102, R115, R463). Switching the mode off and on clears the error counts and leaves bus-off at once, with no
recovery and no EVENT word (DESIGN CHOICE, log 286). Recover, or auto_rec written 1, starts the recovery from bus-off; a mode takes effect, ends a PORT_STOP,
and off shows as bus state 0b11. -/
def State.canCfgWrite (s : State) (k j : Nat) (o : Origin) (w : Nat) : State :=
  let was := s.get (CL_CANCFG.mode k j)
  let s := s.withEdges k s.t125 (fun s =>
    let s := s.writeReg o (CL_CANCFG.addr k j) w
    s.setCan k j { s.can k j with stopped := false })
  let now := s.get (CL_CANCFG.mode k j)
  let s := if now = 0 then
      (s.setCan k j { s.can k j with arbitrating := false, recovering := false }).put (CL_CANSTAT.bus k j) 3
    else if was = 0 then
      (s.setCan k j { s.can k j with tec := 0, rec_ := 0 }).puts [(CL_CANSTAT.bus k j, 0), (CL_CANSTAT.tec k j, 0),
        (CL_CANSTAT.rec k j, 0)]
    else s
  let starts := (bit w 5 || s.flag (CL_CANCFG.auto_rec k j)) && s.get (CL_CANSTAT.bus k j) == 2
  (if starts then s.canRecovers k j else s).done o stOK

/-- CAN_RECOVER: a write of CL_CANCFG with recover = 1 (R102). -/
def accCanRecover (k : Fin 12) (j : Fin 2) (o : Origin) (w : Nat) (s : State) : Out :=
  fin (s.canCfgWrite k j o (withBit w 5))

/-- CAN_RECOVERY_DONE: 128 × 11 recessive bits have passed, which take at least as many nominal bit times (R97, R102). The end of the
recovery writes code 0x0004 and no 0x0002 (DESIGN CHOICE, log 287). -/
def execCanRecoveryDone (k : Fin 12) (j : Fin 2) (s : State) : Out :=
  let c := s.can k j
  if !c.recovering || decide (s.ns < c.recoverAt + 1408 * s.canBitTime k j) then fin s
  else
    let s := s.setCan k j { c with recovering := false, tec := 0, rec_ := 0 }
    let s := s.puts [(CL_CANSTAT.bus k j, 0), (CL_CANSTAT.tec k j, 0), (CL_CANSTAT.rec k j, 0)]
    fin (s.canEvent k j 0x0004 false)

/-- CAN_MODE_WRITE: a write of CL_CANCFG (R115, R463). -/
def accCanModeWrite (k : Fin 12) (j : Fin 2) (o : Origin) (w : Nat) (s : State) : Out := fin (s.canCfgWrite k j o w)

end Sys2Proof.Machine
end

