-- ==== Sys2Proof/Machine/Bridge.lean ====
section
/-! DEFINITION. Machine/Bridge.lean: the region bridges: window accesses, far-side parts, responses, the target role, event
messages and route lookups (R116 to R156). -/

namespace Sys2Proof.Machine

/-- Far-side parts of a request, read-ahead included. -/
def ChReq.total (r : ChReq) : Nat := r.parts + r.extra

/-- A request of this kind (posted or not) has parts that have not been issued (R123). -/
def Chan.splitting (x : Chan) (posted : Bool) : Bool :=
  let kind := fun (r : ChReq) => (r.write && !r.acked) == posted
  x.between.any kind || x.flight.any (fun f => kind f.req && decide (f.req.done + 1 < f.req.total))

/-- The bytes of [ofs, ofs + n) when all lie in the read-ahead buffer. -/
def aheadBytes (m : SMap Nat) (ofs n : Nat) : Option (List Nat) :=
  (List.range n).foldr (fun i acc => match SMap.find? m (ofs + i), acc with
    | some b, some bs => some (b :: bs)
    | _, _ => none) (some [])

/-- Consume the bytes of [ofs, ofs + n) (R126). -/
def aheadTake (m : SMap Nat) (ofs n : Nat) : SMap Nat := m.filter (fun e => decide (e.1 < ofs) || decide (ofs + n ≤ e.1))

/-- The far-side parts that a read-ahead adds: to the end of the S-aligned block (R126). -/
def State.aheadParts (s : State) (c ofs size : Nat) : Nat :=
  let b := s.chAhead c
  if b = 0 then 0 else ((ofs / b + 1) * b - (ofs + size)) / s.chUnit c

/-- A queue of the channel's cluster has room for n words; a stream queue never holds a writer back (R107). -/
def State.chRoom (s : State) (c q n : Nat) : Bool :=
  let k := s.chCluster c
  !s.qOn k q || s.qStream k q || decide (s.qDepth k q + n ≤ s.qCast k q)

/-- The request record of the next part (R118). -/
def State.requestRecord (s : State) (c : Nat) (r : ChReq) (tid : Nat) : List QWord :=
  let u := s.chUnit c
  let code := s.get (BRG_CHCFG.unit (c / 8) (c % 8))
  let w0 := (r.ofs + r.done * u) % 2 ^ 20 + b2n r.write * 2 ^ 20 + code % 4 * 2 ^ 21 + b2n (r.write && r.acked) * 2 ^ 23 +
    tid % 16 * 2 ^ 24
  if r.write then [⟨w0, 0⟩, ⟨ofBytes ((r.data.drop (r.done * u)).take u), tagEND⟩] else [⟨w0, tagEND⟩]

/-- Held results whose bytes overlap a write are discarded; a read of them that has been issued will be (R136). -/
def State.dropOverlaps (s : State) (c ofs size : Nat) : State :=
  let x := s.chan c
  let meets := fun (a n : Nat) => decide (a < ofs + size) && decide (ofs < a + n)
  let hit := fun (h : HeldResult) => meets h.ofs h.size
  let mark := fun (r : ChReq) => if !r.write && meets r.ofs r.size then { r with stale := true } else r
  (x.held.filter hit).foldl (fun s h => s.discardHeld c h)
    (s.setChan c { x with
      held := x.held.filter (fun h => !hit h), between := x.between.map mark
      flight := x.flight.map (fun f => { f with req := mark f.req })
      crossing := x.crossing.map (fun y =>
        if !y.write && y.backoff.isNone && meets y.ofs y.size then { y with stale := true } else y) })

/-- Issue the next part of a request into the out queue (R118, R120, R131): its far timeout runs from now. A write discards
the read-ahead buffer (R127) and the held results it overlaps (R136); a read with read-ahead fills it (R126). -/
def State.chIssue (s : State) (c : Nat) (r : ChReq) : State :=
  let s := if r.write && r.done == 0 then (s.dropAhead c).dropOverlaps c r.ofs r.size else s
  let x := s.chan c
  let s := s.qPushAll (s.chCluster c) (s.chOutQ c) (s.requestRecord c r x.tid)
  s.setChan c { s.chan c with
    flight := x.flight ++ [⟨r, x.tid, s.now⟩], tid := (x.tid + 1) % 16
    expired := x.expired.filter (fun t => t != x.tid), filling := x.filling || decide (0 < r.extra) }

/-- The words of a request record. -/
def ChReq.words (r : ChReq) : Nat := if r.write then 2 else 1

/-- A write reaches a channel that is reading ahead: the read-ahead is discarded at once, the requested bytes are still
completed, and no further read-ahead part is issued (R129). -/
def State.stopFill (s : State) (c : Nat) : State :=
  let x := s.chan c
  if x.filling then
    let cut := fun (r : ChReq) => { r with extra := 0 }
    (s.setChan c { x with
      filling := false, flight := x.flight.map (fun f => { f with req := cut f.req })
      waitPart := (x.flight.find? (fun f => decide (0 < f.req.extra))).map (·.tid)
      between := (x.between.map cut).filter (fun r => decide (r.done < r.total)) }).dropAhead c
  else s

/-- The domain address of a target access (R138). -/
def State.targetAddr (s : State) (c : Nat) (y : Target) : Nat :=
  s.get (BRG_CHTGT.tgt_base (c / 8) (c % 8)) * 2 ^ 20 + y.ofs

/-- A target access goes to a remote bus: its address lies in a window, of this node or another (R121, R141). -/
def State.toBus (s : State) (c : Nat) (y : Target) : Bool :=
  let ofs := s.targetAddr c y % 2 ^ 28
  decide (0x3000000 ≤ ofs) && decide (ofs < 0x5000000)

/-- The transfers of the target-role channel t that wait on a remote bus: first issued, and issued again (R140, R141). -/
def State.firstWaits (s : State) (t : Nat) (y : Target) : Bool := y.result.isNone && s.toBus t y
def State.againWaits (s : State) (t : Nat) (y : Target) : Bool := y.backoff.isNone && s.toBus t y

/-- A transfer of the target-role channel t waits on a remote bus (R141). -/
def State.waitsRemote (s : State) (t : Nat) : Bool :=
  (s.chan t).targets.any (s.firstWaits t) || (s.chan t).crossing.any (s.againWaits t)

/-- The result that a transfer in back-off shows (R140). -/
def retryEnd : TargetEnd := { status := stRETRY, detail := 0x0D }

/-- A transfer that receives RETRY has been repeated retry_max times (R142). -/
def State.retryOver (s : State) (c : Nat) (y : Target) : Bool := decide (s.get (BRG_CHCFG.retry_max (c / 8) (c % 8)) ≤ y.tries)

/-- After the last try a transfer completes with RETRY, and the fault source 0x14 is reported, which stands for the record of R143 too
(DEDUCED, log 289); the final RETRY of a read whose far master has gone becomes a held result, unless a response record tells it
(R142). -/
def State.retryLimit (s : State) (c : Nat) (y : Target) (told : Bool) : State :=
  let s := s.targetNote c y retryEnd
  let s := s.report { src := 0x14, master := unitCHAN c, addr := s.windowAddr c y.ofs, acc := if y.write then 2 else 1
                      status := stRETRY, detail := 0x0D, extra := y.tries }
  if y.write || told then s
  else if y.stale then s.discardHeld c (s.heldOf c y retryEnd) else s.holdResult c (s.heldOf c y retryEnd)

/-- The transfers of channel t that wait receive RETRY: the serving program will be told, and the back-off runs (R140,
R142). -/
def State.crossingRetry (s : State) (t : Nat) : State :=
  let x := s.chan t
  let due := s.now + 1000 * s.nodeId + 2000
  let last := s.retryOver t
  let again := x.crossing.filter (fun y => s.againWaits t y && last y)
  let first := x.targets.filter (s.firstWaits t)
  let s := s.setChan t { x with
    crossing := (x.crossing.filter (fun y => !s.againWaits t y || !last y)).map (fun y =>
        if s.againWaits t y then { y with backoff := some due } else y) ++
      (first.filter (fun y => !last y)).map (fun y => { y with backoff := some due })
    targets := x.targets.map (fun y => if s.firstWaits t y then { y with result := some retryEnd } else y) }
  let s := again.foldl (fun s y => s.retryLimit t y false) s
  (first.filter last).foldl (fun s y => s.retryLimit t y true) s

/-- The crossing decision for a request of originator o of node nd that needs a bus which channel t also faces (R141): true
when the request goes on. A request of this node that no channel made has no c to compare: it goes on (DESIGN CHOICE, log 256). -/
def State.crossingWins (s : State) (nd : Nat) (o : Origin) (t : Nat) : Bool :=
  match o with
  | .channel m => decide (nd < s.nodeId) || (nd == s.nodeId && decide (m.val < t))
  | _ => decide (nd ≤ s.nodeId)

/-- The request of a window access that is not answered at once enters its line (R130, R137). -/
def State.enterLine (s : State) (c : Nat) (r : ChReq) : State :=
  let x := s.chan c
  let r := { r with seq := x.seq }
  if r.write && !r.acked then s.setChan c { x with seq := x.seq + 1, posted := x.posted ++ [.write r] }
  else s.setChan c { x with seq := x.seq + 1, line := x.line ++ [r] }

/-- A refused access: an answer to a non-posted request, a fault record for a posted one (R143). -/
def State.accessFails (s : State) (c : Nat) (r : ChReq) (status detail : Nat) : State :=
  let s := s.chError c status detail 0 0 r.node r.ofs
  if r.write && !r.acked then (s.lastStatus c status).farFault c status detail 0 r.ofs 2 else s.chReturn c r status detail [] 0

/-- The held result that a read collects: the same originator, offset and width (R134). -/
def Chan.heldFor (x : Chan) (r : ChReq) : Option HeldResult :=
  x.held.find? (fun h => h.who == r.who && h.node == r.node && h.ofs == r.ofs && h.size == r.size)

/-- A read is answered from a held result, which is freed (R134). -/
def State.takeHeld (s : State) (c : Nat) (r : ChReq) (h : HeldResult) : State :=
  let x := s.chan c
  (s.setChan c { x with held := x.held.erase h }).chReturn c r h.status h.detail h.data h.idx h.exc

/-- A window read (R126, R130, R133, R134): from a held result, from the read-ahead buffer, or into the line. -/
def State.windowRead (s : State) (c : Nat) (r : ChReq) : State :=
  let x := s.chan c
  match x.heldFor r with
  | some h => s.takeHeld c r h
  | none =>
    if 4 ≤ x.held.length ∨ 8 ≤ x.openCount then s.chReturn c r stBUSY 0 [] 0
    else if x.filling || !x.posted.isEmpty || !x.line.isEmpty then s.enterLine c r
    else match aheadBytes x.ahead r.ofs r.size with
      | some bs => (s.setChan c { x with ahead := aheadTake x.ahead r.ofs r.size }).chReturn c r stOK 0 bs 0
      | none => s.enterLine c r

/-- The channel takes an access: a write discards what it overtakes (R129, R136) and waits in its line. -/
def State.accept (s : State) (c : Nat) (r : ChReq) : State :=
  if r.write then
    if r.acked && decide (8 ≤ (s.chan c).openCount) then s.chReturn c r stBUSY 0 [] 0
    else ((s.stopFill c).dropOverlaps c r.ofs r.size).enterLine c r
  else s.windowRead c { r with extra := s.aheadParts c r.ofs r.size }

/-- A window access that fits R122 reaches a channel that serves its window: the recast of its cluster (R364), the stopped server, then the crossing decision,
then the channel's lines. -/
def State.windowOpen (s : State) (c : Nat) (r : ChReq) (bus : Option Nat) : State :=
  if s.cst.recasts.contains (s.chCluster c) && (!r.write || r.acked) then s.accessFails c r stRETRY 0x00
  else if (s.chan c).noServer || (s.chan c).stopped then
    (if r.write && !r.acked then s.chDrop c else s).accessFails c r stFAULT 0x0B
  else match bus with
    | none => s.accept c r
    | some t =>
      if !s.waitsRemote t then s.accept c r
      else if s.crossingWins r.node r.who t then (s.crossingRetry t).accept c r
      else s.accessFails c r stRETRY 0x0D

/-- A posted write finds 32 waiting in its channel (R130). -/
def Chan.full (x : Chan) (r : ChReq) : Bool := r.write && !r.acked && decide (32 ≤ x.posted.length)

/-- The accesses kept in the switch core's queue reach the channel in order, up to a posted write that finds 32 waiting (R130). -/
def State.takeKept (s : State) (c : Nat) : Nat → State
  | 0 => s
  | fuel + 1 =>
    match (s.chan c).kept with
    | [] => s
    | (r, bus) :: rest =>
      if (s.chan c).full r then s
      else ((s.setChan c { s.chan c with kept := rest }).windowOpen c r bus).takeKept c fuel

/-- An access comes to a channel: a posted write that finds 32 waiting stays in the switch core's queue for the channel, and
what comes after it stays behind it (R130). -/
def State.windowArrive (s : State) (c : Nat) (r : ChReq) (bus : Option Nat) : State :=
  let x := s.chan c
  if x.kept.isEmpty && !x.full r then s.windowOpen c r bus
  else (s.setChan c { x with kept := x.kept ++ [(r, bus)] }).takeKept c (x.kept.length + 1)

/-- What a read's deadline still leaves (R133): the 40 µs of a host, core or bench-port read less what has passed; none for a
transaction slot. R133 gives a target-role channel no deadline: none (DESIGN CHOICE, log 257). -/
def readLeft (o : Origin) (left : Option Nat) : Option Nat :=
  match o with
  | .slot => none
  | .channel _ => none
  | _ => some (min (left.getD 40000) 40000)

/-- WINDOW_ACCESS of originator o of node nd at offset ofs of window c (R122 to R136, R141, R145). `left` is the time in ns
that a read's deadline of 40 µs still has, all of it by default; `bus` is the target-role channel that faces the same far bus, as the board wires it. One
that R122 refuses opens no request: BRG_CHERR stays (R12; log 46), but for an ILLEGAL posted write, which R143 reports. -/
def execWindowAccess (c : Fin 32) (o : Origin) (nd : Nat) (write acked : Bool) (ofs size : Nat) (data : List Nat)
    (left : Option Nat) (bus : Option (Fin 32)) (s : State) : Out :=
  let posted := write && !acked
  let u := s.chUnit c
  let legal := decide (size = 1 ∨ size = 2 ∨ size = 4 ∨ size = 8) && ofs % size == 0 && decide (u ≤ size) &&
    decide (ofs + size ≤ 2 ^ 20)
  let r : ChReq := {
    who := o, node := nd, write := write, acked := acked, ofs := ofs, size := size, data := if write then data else []
    parts := size / u, due := if write then none else (readLeft o left).map (· + s.now) }
  let refusal := fun (s : State) (st : Nat) => if posted then s else s.done o st
  fin (if !legal then refusal (if posted then s.accessFails c r stILLEGAL 0 else s) stILLEGAL
    else if !s.chServes c then refusal (s.bump (BRG_REFUSED.count (c.val / 8))) stSTATE
    else s.windowArrive c r (bus.map (·.val)))

/-! ### Far-side parts -/

/-- FAR_PART_ISSUE (R123): the next part of a request whose part before completed with OK, when the out queue has room. -/
def execFarPartIssue (c : Fin 32) (s : State) : Out :=
  let x := s.chan c
  match x.between with
  | [] => fin s
  | r :: rest =>
    if s.chRoom c (s.chOutQ c) r.words then fin ((s.setChan c { x with between := rest }).chIssue c r) else fin s

/-- A read-ahead part, or the part that was in progress when a write discarded the fill, is on the far side: a write waits
until it has completed (R129). -/
def Chan.aheadOut (x : Chan) : Bool := x.flight.any (fun f => f.req.answered || x.waitPart == some f.tid)

/-- A posted item that arrived before r has parts that have not entered the out queue (R137). -/
def Chan.postedBefore (x : Chan) (r : ChReq) : Bool :=
  let early := fun (w : ChReq) => w.write && !w.acked && decide (w.seq < r.seq)
  x.posted.any (fun i => match i with
    | .write w => early w
    | .record _ => true) ||
  x.between.any early || x.flight.any (fun f => early f.req && decide (f.req.done + 1 < f.req.total))

/-- The head of the posted line enters the out queue (R137, R149). -/
def State.enterPosted (s : State) (c : Nat) : State :=
  let x := s.chan c
  match x.posted with
  | [] => s
  | .record ws :: rest =>
    if s.chRoom c (s.chOutQ c) ws.length then
      (s.setChan c { x with posted := rest }).qPushAll (s.chCluster c) (s.chOutQ c) ws
    else s
  | .write r :: rest =>
    if x.splitting true || x.aheadOut || !s.chRoom c (s.chOutQ c) r.words then s
    else (s.setChan c { x with posted := rest }).chIssue c r

/-- The head of the non-posted line can go on: no posted item that arrived before it waits, no other request is being split,
fewer than 8 are open, a read does not meet a fill in progress and a write no read-ahead part (R126, R129, R130, R137). -/
def Chan.lineReady (x : Chan) : Bool :=
  match x.line with
  | [] => false
  | r :: _ => !x.postedBefore r && !x.splitting false && decide (x.openCount < 8) &&
    (if r.write then !x.aheadOut else !x.filling)

/-- The head of the non-posted line enters the out queue, or is answered from a held result (R134) or from the read-ahead
buffer; a miss discards the buffer (R126, R127). -/
def State.enterNonPosted (s : State) (c : Nat) : State :=
  let x := s.chan c
  match x.line with
  | [] => s
  | r :: rest =>
    match (if r.write then none else x.heldFor r) with
    | some h => (s.setChan c { x with line := rest }).takeHeld c r h
    | none =>
      match (if r.write then none else aheadBytes x.ahead r.ofs r.size) with
      | some bs =>
        (s.setChan c { x with line := rest, ahead := aheadTake x.ahead r.ofs r.size }).chFinish c r stOK 0 0 0 bs
      | none =>
        if s.chRoom c (s.chOutQ c) r.words then
          let s := s.setChan c { x with line := rest }
          (if r.write then s else s.dropAhead c).chIssue c r
        else s

/-- OUT_QUEUE_ENTER (R137): in arrival order; when the non-posted head cannot go on, a later posted write goes ahead. Then the
accesses that the switch core kept for the channel follow (R130; log 258). -/
def execOutQueueEnter (c : Fin 32) (s : State) : Out :=
  let t := if (s.chan c).lineReady then s.enterNonPosted c else s.enterPosted c
  fin (t.takeKept c (t.chan c).kept.length)

/-- The fill of the read-ahead buffer ends (R127, R128). -/
def State.fillEnds (s : State) (c : Nat) : State :=
  let x := s.chan c
  if x.filling then s.setChan c { x with filling := false, filled := some s.now } else s

/-- A part of a request that reads ahead is in: its bytes go into the buffer, where the fill has not been discarded. -/
def State.fillPart (s : State) (c : Nat) (r : ChReq) (bs : List Nat) : State :=
  let x := s.chan c
  let a := r.ofs + r.done * s.chUnit c
  if x.filling then
    s.setChan c { x with ahead := bs.zipIdx.foldl (fun m e => SMap.insert m (a + e.2) e.1) x.ahead }
  else s

/-- After a part with OK: the next part waits to be issued, or the request ends (R123, R126). -/
def State.partNext (s : State) (c : Nat) (r : ChReq) : State :=
  if r.done < r.total then s.setChan c { s.chan c with between := (s.chan c).between ++ [r] }
  else if 0 < r.extra then s.fillEnds c else s

/-- A part completes with OK and its data (R123, R126). -/
def State.partOk (s : State) (c : Nat) (r : ChReq) (value : Nat) : State :=
  let bs := if r.write then [] else leBytes (s.chUnit c) value
  if r.answered then (s.fillPart c r bs).partNext c { r with done := r.done + 1 }
  else
    let r := { r with done := r.done + 1, data := if r.write then r.data else r.data ++ bs }
    if r.done < r.parts then s.partNext c r
    else (s.chFinish c r stOK 0 0 0 (if r.write then [] else r.data)).partNext c { r with answered := true }

/-- A part fails (R124, R128): parts before it stay done, the rest are never issued; past the requested bytes the failure
only ends the fill. -/
def State.partFail (s : State) (c : Nat) (r : ChReq) (status detail extra : Nat) : State :=
  let s := if 0 < r.extra then s.fillEnds c else s
  if r.answered then s
  else
    let bs := if r.write ∨ r.done = 0 then [] else (r.data ++ List.replicate r.size 0).take r.size
    s.chFinish c r (if r.done = 0 then status else stPARTIAL) detail extra r.done bs

/-- A part of the oldest flights that completes: its flight ends first. -/
def State.partDone (s : State) (c : Nat) (f : Flight) (status detail extra value : Nat) : State :=
  let x := s.chan c
  let s := s.setChan c { x with
    flight := x.flight.erase f, waitPart := if x.waitPart = some f.tid then none else x.waitPart }
  if status = stOK then s.partOk c f.req value else s.partFail c f.req status detail extra

/-- The status of a response: only OK, FAULT, TIMEOUT and RETRY, any other is FAULT with detail 0x0C (R120). -/
def respStatus (w0 : Nat) : Nat × Nat :=
  let st := bits w0 8 8
  if st = stOK ∨ st = stFAULT ∨ st = stTIMEOUT ∨ st = stRETRY then (st, bits w0 16 8) else (stFAULT, 0x0C)

/-- A response record in the shape of R119: reserved bits 0, a known detail, and word 1 exactly where it belongs, with
bits [31:8] of an exception code 0. -/
def respOk (ws : List QWord) (read : Bool) : Bool :=
  match ws with
  | [] => false
  | w :: rest =>
    let st := bits w.data 8 8
    let det := bits w.data 16 8
    let two := (read && st == stOK) || det == 0x09
    bits w.data 4 4 == 0 && bits w.data 24 8 == 0 && decide (det ≤ 0x11) && rest.length == b2n two &&
      (det != 0x09 || rest.all (fun w => decide (w.data < 256))) && (hasErr w || st == stOK) && ws.all (fun w => !hasEvent w && !hasGap w)

/-- A record that no open request belongs to is dropped and reported (R120). -/
def State.strayRecord (s : State) (c : Nat) : State :=
  ((s.chDrop c).chError c stFAULT 0x0C 0 0 s.nodeId 0).farFault c stFAULT 0x0C 0 0 0

/-- Take a response record: a late one is counted, the oldest open request completes (R119, R120, R131). -/
def State.takeResponse (s : State) (c : Nat) (ws : List QWord) : State :=
  let x := s.chan c
  let w0 := (ws.headD ⟨0, 0⟩).data
  let tid := w0 % 16
  if tid ∈ x.expired then
    (s.setChan c { x with expired := x.expired.erase tid }).bump (BRG_CHCNT0.late (c / 8) (c % 8))
  else match x.flight with
    | [] => s.strayRecord c
    | f :: _ =>
      if tid = f.tid ∧ respOk ws (!f.req.write) = true then
        let st := respStatus w0
        let v := ((ws.drop 1).headD ⟨0, 0⟩).data
        s.partDone c f st.1 st.2 (if st.2 = 0x09 then v % 256 else 0) v
      else s.partDone c f stFAULT 0x0C 0 0

/-- The words at the front of the channel's in queue up to an END, when no EVENT word stands first. -/
def State.inRecord (s : State) (c : Nat) : Option (List QWord) :=
  let ws := s.qWords (s.chCluster c) (s.chInQ c)
  match ws with
  | [] => none
  | w :: _ => if hasEvent w then none else (takeRecord ws).map (·.1)

/-- RESPONSE_RECORD (R119, R120). -/
def execResponseRecord (c : Fin 32) (s : State) : Out :=
  if !s.chServes c then fin s
  else match s.inRecord c with
    | none => fin s
    | some ws => fin ((s.qTakeN (s.chCluster c) (s.chInQ c) ws.length).takeResponse c ws)

/-- The first words of the records in a queue. -/
def recordHeads : List QWord → Bool → List QWord
  | [], _ => []
  | w :: ws, first =>
    if first && !hasEvent w then w :: recordHeads ws (hasEnd w) else recordHeads ws (if first then true else hasEnd w)

/-- Word 0 of the response to this flight already stands in the in queue (R132). -/
def State.responseIn (s : State) (c : Nat) (f : Flight) : Bool :=
  let heads := recordHeads (s.queue (s.chCluster c) (s.chInQ c)).words true
  heads.any (fun w => w.data % 16 == f.tid) && !(s.chan c).expired.contains f.tid

/-- FAR_TIMEOUT (R131, R132): the oldest part past the far timeout, whose response has not begun to arrive, completes with
TIMEOUT, and its tid is marked. -/
def execFarTimeout (c : Fin 32) (s : State) : Out :=
  match (s.chan c).flight.find? (fun f => decide (f.since + s.farTo c ≤ s.now) && !s.responseIn c f) with
  | none => fin s
  | some f =>
    let s := s.setChan c { s.chan c with expired := (s.chan c).expired ++ [f.tid] }
    fin (s.partDone c f stTIMEOUT 0x04 0 0)

/-- A read whose deadline is over at t and that has not been answered. -/
def overdue (t : Nat) (r : ChReq) : Bool := !r.write && !r.late && !r.answered && r.due.any (fun d => decide (d ≤ t))

/-- Mark the first overdue read of a list, whose entries hold their request as `req` and `put` say. -/
def markLate {α : Type} (req : α → ChReq) (put : α → ChReq → α) (t : Nat) : List α → Option (ChReq × List α)
  | [] => none
  | e :: es =>
    if overdue t (req e) then some (req e, put e { req e with late := true } :: es)
    else (markLate req put t es).map (fun x => (x.1, e :: x.2))

/-- The oldest overdue read of a channel, marked late where it waits: on the far side, between parts, in the line or in the
switch core's queue. -/
def Chan.takeOverdue (x : Chan) (t : Nat) : Option (ChReq × Chan) :=
  match markLate Flight.req (fun f r => { f with req := r }) t x.flight with
  | some y => some (y.1, { x with flight := y.2 })
  | none => match markLate id (fun _ r => r) t x.between with
    | some y => some (y.1, { x with between := y.2 })
    | none => match markLate id (fun _ r => r) t x.line with
      | some y => some (y.1, { x with line := y.2 })
      | none => (markLate Prod.fst (fun e r => (r, e.2)) t x.kept).map (fun y => (y.1, { x with kept := y.2 }))

/-- READ_DEADLINE (R133): the oldest read past its deadline completes with TIMEOUT, a core's with a load access fault; its
result, when it comes, is held. -/
def execReadDeadline (c : Fin 32) (s : State) : Out :=
  match (s.chan c).takeOverdue s.now with
  | none => fin s
  | some (r, x) =>
    fin ((((s.setChan c x).lastStatus c stTIMEOUT).chError c stTIMEOUT 0x04 0 0 r.node r.ofs).chAnswer c r stTIMEOUT 0x04 [] 0)

/-- DISCARD_TIMER (R135): the first held result past the discard timer is discarded. -/
def execDiscardTimer (c : Fin 32) (s : State) : Out :=
  let x := s.chan c
  match x.held.find? (fun h => decide (h.since + s.discardTimer c ≤ s.now)) with
  | none => fin s
  | some h => fin ((s.setChan c { x with held := x.held.erase h }).discardHeld c h)

/-- READ_AHEAD_LIFE_EXPIRE (R127). -/
def execReadAheadLifeExpire (c : Fin 32) (s : State) : Out :=
  fin (if (s.chan c).filled.any (fun t => decide (t + s.raLife c ≤ s.now)) then s.dropAhead c else s)

/-! ### Target role -/

/-- The response record of a target access (R119, R138): word 1 holds a read's data, or the exception code of detail 0x09. -/
def targetRecord (y : Target) (r : TargetEnd) : List QWord :=
  let err := if r.status = stOK then 0 else tagERR
  let w0 := y.tid % 16 + r.status % 256 * 2 ^ 8 + r.detail % 256 * 2 ^ 16 + r.idx % 8 * 2 ^ 24
  if r.detail = 0x09 then [⟨w0, err⟩, ⟨r.exc % 256, tagEND⟩]
  else if !y.write && r.status == stOK then [⟨w0, err⟩, ⟨r.value % 2 ^ (8 * y.size), tagEND⟩] else [⟨w0, err + tagEND⟩]

/-- Write the responses at the front whose results are known, in request order, while the out queue has room (R138). -/
def State.targetAnswers (s : State) (c : Nat) : Nat → State
  | 0 => s
  | n + 1 =>
    match (s.chan c).targets with
    | [] => s
    | y :: rest =>
      match y.result with
      | none => s
      | some r =>
        let ws := targetRecord y r
        if s.chRoom c (s.chOutQ c) ws.length then
          ((s.setChan c { s.chan c with targets := rest }).qPushAll (s.chCluster c) (s.chOutQ c) ws).targetAnswers c n
        else s

/-- The status of a target access that reaches no block: RANGE beyond the domain (R267), FAULT with detail 0x0F where this
node has no block, NO_NODE at a node that is absent (R139). -/
def State.targetStatus (s : State) (c : Nat) (y : Target) : Option TargetEnd :=
  let a := s.targetAddr c y
  if 2 ^ 34 ≤ a then some { status := stRANGE }
  else if a / 2 ^ 28 = s.nodeId then if s.mapped (a % 2 ^ 28) then none else some { status := stFAULT, detail := 0x0F }
  else if s.flag (RING_MAP.present (a / 2 ^ 28)) then none else some { status := stNO_NODE }

/-- This node reports a target access to an address of its own that no block covers as ADDR (R268). -/
def State.targetAddrFault (s : State) (c : Nat) (y : Target) (e : TargetEnd) : State :=
  if e.detail = 0x0F then
    s.fault { src := 0x21, master := unitCHAN c, addr := s.targetAddr c y, acc := if y.write then 2 else 1, status := stFAULT
              detail := 0x0F }
  else s

/-- The access of a target request leaves (R138); a write first discards the held results that it overlaps (R136). -/
def State.targetIssue (s : State) (c : Nat) (y : Target) : State :=
  (if y.write then s.dropOverlaps c y.ofs y.size else s).emit (.access (.channel (Fin.ofNat 32 c)) y.write y.ack (s.targetAddr c y) y.size
    (if y.write then leBytes y.size y.data else []))

/-- The shape of a request record (R118). -/
def requestOk (ws : List QWord) : Bool :=
  match ws with
  | [] => false
  | w :: rest => bits w.data 28 4 == 0 && bits w.data 21 2 != 3 && rest.length == b2n (bit w.data 20) &&
      ws.all (fun w => !hasEvent w && !hasGap w)

/-- The request in a request record (R118). -/
def recordTarget (ws : List QWord) : Target :=
  let w0 := (ws.headD ⟨0, 0⟩).data
  { tid := bits w0 24 4, write := bit w0 20, ack := bit w0 23, ofs := bits w0 0 20, size := 2 ^ bits w0 21 2
    data := ((ws.drop 1).headD ⟨0, 0⟩).data }

/-- A non-posted target request joins the requests to be answered, with its result if that is known. -/
def State.addTarget (s : State) (c : Nat) (y : Target) (e : Option TargetEnd) : State :=
  let x := s.chan c
  let s := s.setChan c { x with targets := x.targets ++ [{ y with result := e }] }
  match e with
  | none => s
  | some e => s.targetNote c y e

/-- A posted target write fails: a fault record (R143). -/
def State.targetLost (s : State) (c : Nat) (y : Target) (e : TargetEnd) : State :=
  (s.targetNote c y e).farFault c e.status e.detail 0 y.ofs 2

/-- A request of a target-role channel that holds 8 open ones completes at once with BUSY, and so does a read that finds 4 held results
(R130, R134). -/
def Chan.targetBusy (x : Chan) (y : Target) : Bool :=
  if y.write then y.ack && decide (8 ≤ x.openCount) else decide (4 ≤ x.held.length) || decide (8 ≤ x.openCount)

/-- Take a well-formed request record of a target-role channel (R130, R134, R138, R139): with its serving engine stopped it answers
as R145 says; a held result answers a read that matches it. -/
def State.takeRequest (s : State) (c : Nat) (ws : List QWord) : State :=
  let x := s.chan c
  let y := recordTarget ws
  let halted : TargetEnd := { status := stFAULT, detail := 0x0B }
  if x.noServer || x.stopped then
    if y.write && !y.ack then (s.chDrop c).targetLost c y halted else s.addTarget c y (some halted)
  else match x.held.find? (fun h => !y.write && h.ofs == y.ofs && h.size == y.size) with
    | some h => (s.setChan c { x with held := x.held.erase h }).addTarget c y
        (some { status := h.status, detail := h.detail, value := ofBytes h.data, idx := h.idx, exc := h.exc })
    | none =>
      if x.targetBusy y then s.addTarget c y (some { status := stBUSY })
      else match s.targetStatus c y with
      | some e =>
        let s := s.targetAddrFault c y e
        if y.write && !y.ack then s.targetLost c y e else s.addTarget c y (some e)
      | none => (if y.write && !y.ack then s else s.addTarget c y none).targetIssue c y

/-- TARGET_REQUEST (R138): a malformed record is dropped up to its END and reported, as R120 and R148 do (log 15). -/
def execTargetRequest (c : Fin 32) (s : State) : Out :=
  if s.chMode c != 1 || !s.chTarget c then fin s
  else match s.inRecord c with
    | none => fin s
    | some ws =>
      let t := s.qTakeN (s.chCluster c) (s.chInQ c) ws.length
      fin (if requestOk ws then t.takeRequest c ws else t.strayRecord c)

/-- The result of an access comes in (R138, R140, R142): RETRY starts the back-off and tells the serving program, until the
last try has received it. -/
def State.targetResult (s : State) (c : Nat) (r : TargetResult) : State :=
  let x := s.chan c
  let due := s.now + 1000 * s.nodeId + 2000
  let e : TargetEnd := { status := r.status, detail := r.detail, value := r.value, idx := r.idx, exc := r.exc }
  if r.crossing then
    match x.crossing[r.i]? with
    | none => s
    | some y =>
      if y.backoff.isSome then s
      else if r.status = stRETRY ∧ s.retryOver c y = false then
        s.setChan c { x with crossing := x.crossing.set r.i { y with backoff := some due } }
      else
        let s := s.setChan c { x with crossing := x.crossing.eraseIdx r.i }
        if r.status = stRETRY then s.retryLimit c y false else s.crossingDone c y e
  else
    match x.targets[r.i]? with
    | none => s
    | some y =>
      let told := fun (e : TargetEnd) => { x with targets := x.targets.set r.i { y with result := some e } }
      if y.result.isSome then s
      else if r.status = stRETRY then
        if s.retryOver c y then (s.setChan c (told retryEnd)).retryLimit c y true
        else s.setChan c { told retryEnd with crossing := x.crossing ++ [{ y with backoff := some due }] }
      else (s.setChan c (told e)).targetNote c y e

/-- The accesses of a target-role channel to a node that is absent from the map complete with NO_NODE (R245). -/
def State.targetsGone (s : State) (c : Nat) : State :=
  let x := s.chan c
  let e : TargetEnd := { status := stNO_NODE }
  let gone := fun (y : Target) => s.targetStatus c y == some e
  let open_ := x.targets.filter (fun y => y.result.isNone && gone y)
  let s' := s.setChan c { x with
    targets := x.targets.map (fun y => if y.result.isNone && gone y then { y with result := some e } else y)
    crossing := x.crossing.filter (fun y => !gone y) }
  let s' := open_.foldl (fun s y => s.targetNote c y e) s'
  (x.crossing.filter gone).foldl (fun s y => s.crossingDone c y e) s'

/-- TARGET_RESPONSE: a result that has come, if any, then the response records that can be written (R138). -/
def execTargetResponse (c : Fin 32) (r : Option TargetResult) (s : State) : Out :=
  let s := match r with
    | none => s
    | some r => s.targetResult c r
  fin (s.targetAnswers c (s.chan c).targets.length)

/-- A transfer is issued again, or completes where its address has lost its block or node since (R139, R142). -/
def State.targetAgain (s : State) (c i : Nat) (y : Target) : State :=
  let x := s.chan c
  let s := s.bump (BRG_CHCNT1.retries (c / 8) (c % 8))
  match s.targetStatus c y with
  | none =>
    (s.setChan c { x with crossing := x.crossing.set i { y with tries := y.tries + 1, backoff := none, stale := false } }).targetIssue c y
  | some e => ((s.setChan c { x with crossing := x.crossing.eraseIdx i }).targetAddrFault c y e).crossingDone c y e

/-- RETRY_BACKOFF_EXPIRE (R142): the first transfer whose back-off has ended is issued again. -/
def execRetryBackoffExpire (c : Fin 32) (s : State) : Out :=
  let x := s.chan c
  match x.crossing.findIdx? (fun y => y.backoff.any (fun t => decide (t ≤ s.now))) with
  | none => fin s
  | some i =>
    match x.crossing[i]? with
    | none => fin s
    | some y =>
      fin (if s.retryOver c y then (s.setChan c { x with crossing := x.crossing.eraseIdx i }).retryLimit c y false
        else s.targetAgain c i y)

/-! ### Channel commands -/

/-- Every held result is discarded, each reported (R135). -/
def State.dropAllHeld (s : State) (c : Nat) : State :=
  let x := s.chan c
  x.held.foldl (fun s h => s.discardHeld c h) (s.setChan c { x with held := [] })

/-- A write of BRG_CHCTL (R145, R156): a unit reset frees the held results without a report, so it comes first. -/
def State.chCtlWrite (s : State) (c : Nat) (o : Origin) (w : Nat) : State :=
  if s.foreignCore o then s.done o stAUTH
  else
    let s := if bit w 0 then s.chanReset c else s
    let s := if bit w 1 then s.dropAllHeld c else s
    s.done o stOK

/-- CH_RESET (R23, R145, R463). -/
def execChReset (c : Fin 32) (o : Origin) (w : Nat) (s : State) : Out := fin (s.chCtlWrite c o (withBit w 0))

/-- DROP_HELD (R135). -/
def execDropHeld (c : Fin 32) (o : Origin) (w : Nat) (s : State) : Out := fin (s.chCtlWrite c o (withBit w 1))

/-! ### Event messages (R146, R147) -/

/-- The 16 bytes of an event message (R147). -/
def State.eventMessage (s : State) (c word : Nat) : List Nat :=
  leBytes 4 word ++ [c % 32, s.nodeId] ++ leBytes 2 (s.chan c).evtSeq ++ leBytes 6 s.window ++ [0, 0]

/-- The event message goes to the destination cast in BRG_CHEVT, by the ring to a head that is another node (R234); with none, or with no head in the map, it is counted
(R146, log 16). -/
def State.sendEvent (s : State) (c word : Nat) : State :=
  let r := c / 8
  let n := c % 8
  let msg := s.eventMessage c word
  let idx := s.get (BRG_CHEVT.index r n)
  let cls := s.get SW_BUFCFG.addr_class
  let sent := s.setChan c { s.chan c with evtSeq := ((s.chan c).evtSeq + 1) % 65536 }
  let ev : Frame := { ftype := 6, cls := cls, dst := s.nodeId, src := s.nodeId, payload := msg }
  match s.get (BRG_CHEVT.dest r n) with
  | 1 =>
    match s.mapHead with
    | some h =>
      let out := if h = s.nodeId then 2 else s.ringDir h
      sent.toSwitch (6 + r) { frame := { ev with dst := h, a := idx % 256 }, route := .port out (idx % 256) cls }
    | none => s.bump (BRG_CHCNT1.evt_drop r n)
  | 2 => sent.toSwitch (6 + r) { frame := { ev with a := idx + 2 ^ 15 }, route := .port 5 idx cls }
  | 3 => sent.toSwitch (6 + r) { frame := { ev with ftype := 0 }, route := .flow idx, epoch := some (s.get SW_STATUS.live_epoch) }
  | _ => s.bump (BRG_CHCNT1.evt_drop r n)

/-- A record of channel c is on its way: its frame waits at the input of the switch core or has copies there (R146). Every
response is delivered when the channel takes it; a copy that leaves the node's switch core counts as delivered (DESIGN CHOICE,
log 259). -/
def State.recordsOut (s : State) (c : Nat) : Bool :=
  s.sw.held.any (fun h => h.2.any (fun x => x.chan == some c)) || s.sw.frames.any (fun b => b.2.chan == some c)

/-- EVENT_MESSAGE (R146): the EVENT word at the front of the in queue, once every record before it has been delivered; one
with no destination is counted at once. -/
def execEventMessage (c : Fin 32) (s : State) : Out :=
  let k := s.chCluster c
  match s.qWords k (s.chInQ c) with
  | [] => fin s
  | w :: _ =>
    let waits := s.recordsOut c && s.get (BRG_CHEVT.dest (c / 8) (c % 8)) != 0
    fin (if hasEvent w && s.chMode c != 0 && !waits then (s.qTake k (s.chInQ c)).sendEvent c w.data else s)

/-! ### Route lookups (R148 to R155) -/

/-- Word w of the live version of route entry i. -/
def State.route (s : State) (r i w : Nat) : Nat := s.get (BRG_ROUTE.word r i w)

/-- The entry's out_index lies in the range of its out_kind (R150). -/
def State.routeValid (s : State) (r i : Nat) : Bool :=
  let w := s.route r i 3
  match bits w 8 2 with
  | 0 => decide (bits w 10 10 < 32)
  | 1 => true
  | 2 => decide (bits w 10 10 < 256)
  | _ => bits w 10 10 == 0

/-- The entry matches identifier word w0 from channel n (R151). -/
def State.routeMatch (s : State) (r i n w0 : Nat) : Bool :=
  let a := s.route r i 0
  let m := bits (s.route r i 1) 0 29
  let c := s.route r i 3
  bit a 31 && (bit c 3 || c % 8 == n) && bit a 29 == bit w0 29 && (w0 % 2 ^ 29 &&& m) == (a % 2 ^ 29 &&& m)

/-- The lowest matching valid entry, and whether an invalid one matched on the way (R150, R151). -/
def State.routeFind (s : State) (r n w0 : Nat) : Nat → Nat → Option Nat × Bool
  | 0, _ => (none, false)
  | fuel + 1, i =>
    if s.routeMatch r i n w0 then
      if s.routeValid r i then (some i, false) else ((s.routeFind r n w0 fuel (i + 1)).1, true)
    else s.routeFind r n w0 fuel (i + 1)

/-- The record's word 0 under a route entry: the output identifier and IDE, the other flags kept (R149, R150). -/
def State.routeWord (s : State) (r i w0 : Nat) : Nat :=
  let o := s.route r i 2
  if bit o 30 then w0 else w0 / 2 ^ 30 * 2 ^ 30 + o % 2 ^ 30

/-- Where a route entry sends a record (R150). -/
def State.routeOut (s : State) (r i : Nat) : SwRoute :=
  let w := s.route r i 3
  let idx := bits w 10 10
  match bits w 8 2 with
  | 0 => .port (6 + idx / 8) (idx % 8) (bits w 4 3)
  | 1 => .flow idx
  | 2 => .group idx
  | _ => .port 5 0 (bits w 4 3)

/-- A routed record of channel c becomes a frame of a class that carries the live epoch (R150, R153). -/
def State.routedFrame (s : State) (c cls : Nat) (ws : List QWord) (out : SwRoute) : State :=
  let f : Frame := { ftype := 0, cls := cls, dst := s.nodeId, src := s.nodeId, payload := recordBytes ws }
  s.toSwitch (6 + c / 8)
    { frame := f, route := out, epoch := some (s.get SW_STATUS.live_epoch), cls := some cls, chan := some c }

/-- Look a record up and send it on (R148, R151). One with the ERR tag is recorded with status FAULT, detail 0x00 and offset 0, for which
the spec gives none (DESIGN CHOICE, log 290). -/
def State.routeRecord (s : State) (c : Nat) (ws : List QWord) : State :=
  let r := c / 8
  let n := c % 8
  let w0 := (ws.headD ⟨0, 0⟩).data
  let s := if (ws.getLastD ⟨0, 0⟩).tag / 8 % 2 = 1 then
      (s.chError c stFAULT 0 0 0 s.nodeId 0).farFault c stFAULT 0 0 0 0 else s
  let found := s.routeFind r n w0 1024 0
  let s := if found.2 then s.bump (BRG_RTMISS.bad r) else s
  match found.1 with
  | some i =>
    s.routedFrame c (bits (s.route r i 3) 4 3) (ws.set 0 ⟨s.routeWord r i w0, (ws.headD ⟨0, 0⟩).tag⟩) (s.routeOut r i)
  | none =>
    let cls := s.get SW_BUFCFG.addr_class
    if s.flag (BRG_CHCFG.miss r n) then s.routedFrame c cls ws (.port 5 0 cls)
    else s.bump (BRG_RTMISS.miss r)

/-- ROUTE_LOOKUP (R148, R151, R153). -/
def execRouteLookup (c : Fin 32) (s : State) : Out :=
  if s.chMode c != 2 || (s.chan c).stopped then fin s
  else match s.inRecord c with
    | none => fin s
    | some ws =>
      let t := s.qTakeN (s.chCluster c) (s.chInQ c) ws.length
      fin (if recordOk ws then t.routeRecord c ws else t.strayRecord c)

/-- Entry i of a staging map whose words are `map` is marked. -/
def State.marked (s : State) (map : Nat → Fld) (i : Nat) : Bool := bit (s.get (map (i / 32))) (i % 32)

/-- Mark entry i. -/
def State.mark (s : State) (map : Nat → Fld) (i : Nat) : State :=
  s.put (map (i / 32)) (setBit (s.get (map (i / 32))) (i % 32) true)

/-- The staged words of the marked entries take their live values, and the map is cleared. -/
def State.unstage (s : State) (live stg : Nat → Nat → Fld) (map : Nat → Fld) (n : Nat) : State :=
  let s := ((List.range n).filter (fun i => s.marked map i)).foldl (fun s i =>
    (List.range 4).foldl (fun s w => s.put (stg i w) (s.get (live i w))) s) s
  (List.range (n / 32)).foldl (fun s m => s.zero (map m)) s

/-- STAGE_CLEAR of region r (R152, R156). -/
def execStageClear (r : Fin 4) (o : Origin) (s : State) : Out :=
  fin (if s.foreignCore o then s.done o stAUTH
    else (s.unstage (BRG_ROUTE.word r) (BRG_ROUTESTG.word r) (BRG_RTSTGMAP.marked r) 1024).done o stOK)

/-- ROUTE_STAGE_WRITE of word w of entry i (R152, R155). -/
def execRouteStageWrite (r : Fin 4) (i : Fin 1024) (w : Fin 4) (o : Origin) (v : Nat) (s : State) : Out :=
  fin (if s.flag SW_STATUS.committing then s.refuseWrite o (BRG_REFUSED.count r) (BRG_ROUTESTG.word r i w).addr
    else ((s.put (BRG_ROUTESTG.word r i w) v).mark (BRG_RTSTGMAP.marked r) i).done o stOK)

end Sys2Proof.Machine
end

