-- ==== Sys2Proof/Machine/Gates.lean ====
section
/-! DEFINITION. Machine/Gates.lean: the ring cycle and its seams, the gate lists, the fit test, and the shaping wheel
(R236 to R240, R323 to R343). Instants are nanoseconds since the PTP epoch. -/

namespace Sys2Proof.Machine

/-! ### The ring cycle -/

/-- The place of t in a cycle of length len and phase ph. -/
def cyclePos (len ph t : Nat) : Nat := if len = 0 then 0 else (t + len - ph % len) % len

def State.period (s : State) : Nat := s.get RING_CYCPER.period
def State.ringPos (s : State) (t : Nat) : Nat := cyclePos s.period (s.get RING_CYCPHASE.phase) t

/-- The cycle start at or before t (R236); while node time is below the phase it lies before the PTP epoch. -/
def State.startOf (s : State) (t : Nat) : Int := t - s.ringPos t

/-- The cycle start at or before t, or the epoch where that is later. -/
def State.cycleStart (s : State) (t : Nat) : Nat := (s.startOf t).toNat

/-- The number of the cycle that t lies in, counted from the present one (R237). -/
def State.cycleNumAt (s : State) (t : Nat) : Nat :=
  if s.period = 0 then s.get RING_CYCNUM.cycle
  else wrap 32 (s.get RING_CYCNUM.cycle + (s.startOf t - s.startOf s.ns) / s.period)

/-- Cycle n is a seam cycle (R240). -/
def State.isSeamCycle (s : State) (n : Nat) : Bool :=
  let iv := s.get RING_SEAM.interval
  decide (iv ≠ 0) && n % iv == iv - 1

/-- The seam length in ns. -/
def State.seamLen (s : State) : Nat := 1000 * s.get RING_SEAM.len

/-- t lies in a seam (R240). -/
def State.inSeam (s : State) (t : Nat) : Bool :=
  decide (s.period ≠ 0) && s.isSeamCycle (s.cycleNumAt t) && decide (s.period ≤ s.ringPos t + s.seamLen)

/-- Time into the seam, in ns. -/
def State.seamInto (s : State) : Nat := s.ringPos s.ns + s.seamLen - s.period

/-- The opening of the seam that the node is in (R240). -/
def State.seamOpening (s : State) : Nat := s.ns - s.seamInto

/-- The first seam opening after t (R240). -/
def State.nextSeam (s : State) (t : Nat) : Option Nat :=
  let iv := s.get RING_SEAM.interval
  if s.period = 0 ∨ iv = 0 then none
  else
    let n := s.cycleNumAt t
    let a := s.startOf t + (iv - 1 - n % iv : Nat) * s.period + (s.period - s.seamLen : Nat)
    some (if t < a then a else a + iv * s.period).toNat

/-- This node's slot on port p: offset and length (R238). -/
def State.slotOf (s : State) (p : Nat) : Nat × Nat :=
  (s.get (RING_SLOT.offset s.nodeId p), s.get (RING_SLOTLEN.len s.nodeId p))

/-- t lies in this node's slot on port p (R327). -/
def State.inSlot (s : State) (p t : Nat) : Bool :=
  let sl := s.slotOf p
  let pos := s.ringPos t
  decide (s.period ≠ 0) && decide (sl.1 ≤ pos) && decide (pos < sl.1 + sl.2)

/-! ### Gate lists -/

/-- The gated egress of an output (R323). -/
def gateOf (o : Nat) : Option Nat := match o with
  | 0 => some 0
  | 1 => some 1
  | 3 => some 2
  | 4 => some 3
  | _ => none

/-- The entries of a gate list from entry i on, up to the last: gates and interval (R325). -/
def State.gateEntries (s : State) (staged : Bool) (g : Nat) : Nat → Nat → List (Nat × Nat)
  | 0, _ => []
  | fuel + 1, i =>
    let w := fun j => if staged then s.get (ETH_GCLSTG.word g i j) else s.get (ETH_GCL.word g i j)
    let e := (w 0 % 256, w 1 % 2 ^ 24)
    if bit (w 0) 31 then [e] else e :: s.gateEntries staged g fuel (i + 1)

def State.gateList (s : State) (staged : Bool) (g : Nat) : List (Nat × Nat) := s.gateEntries staged g 256 0

/-- The list cycle is the ring cycle (R326). -/
def State.gateSync (s : State) (g : Nat) : Bool := decide (g < 2) || s.flag (ETH_GCFG.sync g)
def State.gateLen (s : State) (g : Nat) : Nat := if s.gateSync g then s.period else s.get (ETH_GCYCLE.cycle g)
def State.gatePhase (s : State) (g : Nat) : Nat :=
  if s.gateSync g then s.get RING_CYCPHASE.phase else s.get (ETH_GPHASE.phase g)
def State.gatePos (s : State) (g t : Nat) : Nat := cyclePos (s.gateLen g) (s.gatePhase g) t

/-- The list cycle start at or before t (R326). -/
def State.listStart (s : State) (g t : Nat) : Int := t - s.gatePos g t

/-- The instant at which the pending change of list g takes effect. -/
def State.changeAt (s : State) (g : Nat) : Option Nat :=
  if s.flag (ETH_GSTAT.pending g) then SMap.getD s.gates.changeAt g none else none

/-- The list in force in the cycle that starts at `start`: the staged one from a fixed change on (R331, R336). -/
def State.listAt (s : State) (g : Nat) (start : Int) : List (Nat × Nat) :=
  s.gateList ((s.changeAt g).any (fun a => decide (a ≤ start))) g

/-- The entry at place pos of a list: its number and gates; past the end, all gates are closed. -/
def entryAt : List (Nat × Nat) → Nat → Nat → Nat × Nat
  | [], _, i => (i, 0)
  | (gates, iv) :: l, pos, i => if pos < iv then (i, gates) else entryAt l (pos - iv) (i + 1)

/-- The list of egress g has a gate open for class c at t (R326). -/
def State.listOpen (s : State) (g c t : Nat) : Bool :=
  bit (entryAt (s.listAt g (s.listStart g t)) (s.gatePos g t) 0).2 c

/-- The list of an egress counts: an Ethernet list that is not enabled leaves every class open (R328), and so does a ring
list, whose casting then gives no node a slot (R327). -/
def State.listOn (s : State) (g : Nat) : Bool := s.flag (ETH_GCFG.en g)

/-- The gate of class c at output o is open at t; `exempt` frames are not held by a seam (R327 to R329). -/
def State.gateOpen (s : State) (o c t : Nat) (exempt : Bool) : Bool :=
  match gateOf o with
  | none => true
  | some g =>
    if g < 2 ∧ c = 7 then s.inSlot g t
    else (!s.listOn g || s.listOpen g c t) && (decide (2 ≤ g) || exempt || !s.inSeam t)

/-- The first instant after t at which a list that runs from `start` closes class c. -/
def closeIn : List (Nat × Nat) → Int → Nat → Nat → Option Nat
  | [], _, _, _ => none
  | (gates, iv) :: l, start, t, c =>
    if start + iv ≤ t then closeIn l (start + iv) t c
    else if bit gates c then closeIn l (start + iv) t c
    else some (max start t).toNat

/-- The first instant after t at which the list of egress g closes class c, followed across cycle starts and into the staged
list once a change is fixed (R331). -/
def State.listClose (s : State) (g c t : Nat) : Option Nat :=
  let cs := s.listStart g t
  let next := cs + s.gateLen g
  match closeIn (s.listAt g cs) cs t c with
  | some e => some e
  | none =>
    match closeIn (s.listAt g next) next t c with
    | some e => some e
    | none => (s.changeAt g).bind (fun a => closeIn (s.gateList true g) a t c)

/-- E of R331: the first instant after t at which the gate of class c closes. -/
def State.gateEnd (s : State) (o c t : Nat) (exempt : Bool) : Option Nat :=
  match gateOf o with
  | none => none
  | some g =>
    if g < 2 ∧ c = 7 then some (s.startOf t + (s.slotOf g).1 + (s.slotOf g).2).toNat
    else
      let l := if s.listOn g then s.listClose g c t else none
      let m := if g < 2 ∧ !exempt then s.nextSeam t else none
      match l, m with
      | some a, some b => some (min a b)
      | some a, none => some a
      | none, b => b

/-- The byte time of a gated egress in units of 1/1280 ns (R330): on a ring port the sheet time of R200 over 256, rounded up
to 1/256 ns. -/
def State.byteTime (s : State) (g : Nat) : Nat :=
  if g < 2 then
    5 * (if s.flag (RING_LSTAT.degraded g) then 30 else if s.flag (RING_LSTAT.protected g) then 23 else 22)
  else match nth s.gates.ethRate (g - 2) with
    | 10000 => 1024
    | 1000 => 10240
    | 100 => 102400
    | _ => 1024000

/-- The time that a frame of L bytes needs, in 1/1280 ns (R330). -/
def State.needed (s : State) (g len : Nat) : Nat := (len + s.get (ETH_GCFG.ovh g)) * s.byteTime g

/-- A frame that starts at t (2⁻¹⁶ ns) fits the window of its class (R331). -/
def State.fitsAt (s : State) (o c len t : Nat) (exempt : Bool) : Bool :=
  match gateOf o with
  | none => true
  | some g => match s.gateEnd o c (t / 65536) exempt with
    | none => true
    | some e => decide (t * 5 + s.needed g len * 256 ≤ e * 327680)

/-- The longest run of open intervals of class c, with what is left of the run at hand. -/
def longestRun (l : List (Nat × Nat)) (c : Nat) : Nat :=
  (l.foldl (fun a e => if bit e.1 c then (a.1 + e.2, max a.2 (a.1 + e.2)) else (0, a.2)) (0, 0)).2

/-- ETH_GWMAX (R333): 0xFF_FFFF where the class never closes. Class 7 of a ring output has no gate in the list (R327). -/
def State.gwMax (s : State) (g c : Nat) : Nat :=
  let l := s.gateList false g
  if !s.listOn g ∨ (g < 2 ∧ c = 7) ∨ l.all (fun e => bit e.1 c) = true then 0xFFFFFF else longestRun (l ++ l) c

/-- The frame can never fit its class's window (R333). -/
def State.oversize (s : State) (o c len : Nat) : Bool :=
  match gateOf o with
  | none => false
  | some g => let w := s.gwMax g c
    w != 0xFFFFFF && decide (w * 1280 < s.needed g len)

/-- The instants at which a window of egress g may begin in the list cycle that starts at a: the slot, or the entry starts. -/
def State.windowStarts (s : State) (g c : Nat) (a : Int) : List Int :=
  if g < 2 ∧ c = 7 then [a + (s.slotOf g).1]
  else ((s.listAt g a).foldl (fun (r : Int × List Int) e => (r.1 + (e.2 : Int), r.2 ++ [r.1])) (a, [])).2

/-- The first instant at which ok holds, of t and of the window starts after t in `fuel` list cycles from that which starts at a. -/
def State.firstWindow (s : State) (g c t : Nat) (ok : Nat → Bool) : Nat → Int → Option Nat
  | 0, _ => none
  | fuel + 1, a =>
    match ((s.windowStarts g c a).filter (fun x => decide ((t : Int) < x))).find? (fun x => ok x.toNat) with
    | some x => some x.toNat
    | none => s.firstWindow g c t ok fuel (a + max 1 (s.gateLen g))

/-- DEADLINE (R334): the earliest instant at which the copy would fit, counting only the gates, ends after its deadline. -/
def State.missesDeadline (s : State) (o c len entered budget : Nat) (exempt : Bool) : Bool :=
  match gateOf o with
  | none => false
  | some g =>
    if budget = 0 ∨ (2 ≤ g ∧ !s.listOn g) then false
    else
      let ok := fun x =>
        let t := max s.time (x * 65536)
        s.gateOpen o c (t / 65536) exempt && s.fitsAt o c len t exempt
      let cycles := budget * 64 / max 1 (s.gateLen g) + 2
      match if ok s.ns then some s.ns else s.firstWindow g c s.ns ok cycles (s.listStart g s.ns) with
      | none => true
      | some x => decide ((entered + budget * 64 * 65536) * 5 < max s.time (x * 65536) * 5 + s.needed g len * 256)

/-! ### Commands on gate lists -/

/-- The gate states and the entry in force of egress g now, with R327 applied (R326, R343). -/
def State.showGates (s : State) (g : Nat) : State :=
  let t := s.ns
  let o := if g < 2 then g else g + 1
  let gates := (List.range 8).foldl (fun v c => v + b2n (s.gateOpen o c t false) * 2 ^ c) 0
  s.puts [(ETH_GSTAT.entry g, if s.listOn g then (entryAt (s.listAt g (s.listStart g t)) (s.gatePos g t) 0).1 else 0),
    (ETH_GSTAT.gates g, gates)]

/-- GATE_ENTRY: the entry in force now and its gates (R326, R343). -/
def execGateEntry (g : Fin 4) (s : State) : Out := next (s.showGates g)

/-- A list opens one of classes 0 to 6 within [a, b) of the cycle. -/
def opensIn : List (Nat × Nat) → Nat → Nat → Nat → Bool
  | [], _, _, _ => false
  | (gates, iv) :: l, start, a, b =>
    (decide (start < b) && decide (a < start + iv) && gates % 128 != 0) || opensIn l (start + iv) a b

/-- The staged list keeps R325, R326 and R327. -/
def State.stagedOk (s : State) (g : Nat) : Bool :=
  let l := s.gateList true g
  let sl := s.slotOf g
  (l.length < 256 || bit (s.get (ETH_GCLSTG.word g 255 0)) 31) &&
    l.all (fun e => decide (16 ≤ e.2) && decide (e.2 ≤ 16000000)) && (l.map (·.2)).sum == s.gateLen g &&
    (s.gateSync g || (decide (1000 ≤ s.gateLen g) && decide (s.gateLen g ≤ 16000000) && decide (s.gatePhase g < s.gateLen g))) &&
    (decide (2 ≤ g) || sl.2 == 0 || !opensIn l 0 sl.1 (sl.1 + sl.2))

/-- The list cycle start at which a commit takes effect: the first at or after the change time and no less than 1 µs from
now (R336, R337). -/
def State.changeStart (s : State) (g : Nat) : Nat :=
  let len := s.gateLen g
  let now := s.ns
  let chg := s.get (ETH_GCHG_LO.chg g) + 2 ^ 32 * s.get (ETH_GCHG_HI.chg g)
  let t := if reached 48 s.window chg then now else now + (chg + 2 ^ 48 - now % 2 ^ 48) % 2 ^ 48
  let p := s.gatePos g t
  let a := if p = 0 then t else t + len - p
  if a * 65536 < s.time + 65536000 then a + len else a

/-- The status of a write of ETH_GCTL (R336), commit and cancel judged at the write; of two statuses the first in the order of R13. -/
def State.gateStatus (s : State) (g w : Nat) : Nat :=
  let pending := s.flag (ETH_GSTAT.pending g)
  if bit w 0 && !pending && !s.stagedOk g then stRANGE
  else if bit w 1 && !pending then stSTATE
  else if bit w 0 && pending then stBUSY
  else stOK

/-- A write of ETH_GCTL (R336, R343); one that is turned away does nothing (R12). -/
def State.gateCtl (s : State) (g : Nat) (o : Origin) (w : Nat) : State :=
  if s.foreignCore o then s.done o stAUTH
  else
    let st := s.gateStatus g w
    let t := s.put (ETH_GSTAT.last_status g) st
    if st = stSTATE then t.refuse o (ETH_GREFUSED.count g)
    else if st ≠ stOK then t.done o st
    else if bit w 1 then (t.put (ETH_GSTAT.pending g) 0).done o st
    else
      let t := { t with gates := { t.gates with changeAt := SMap.set t.gates.changeAt g (some (s.changeStart g)) none } }
      (t.put (ETH_GSTAT.pending g) 1).done o st

/-- GATE_COMMIT (R336). -/
def execGateCommit (g : Fin 4) (o : Origin) (w : Nat) (s : State) : Out := fin (s.gateCtl g o (withBit w 0))

/-- GATE_CANCEL (R336). -/
def execGateCancel (g : Fin 4) (o : Origin) (w : Nat) (s : State) : Out := fin (s.gateCtl g o (withBit w 1))

/-- The operational and the staged list of egress g change places. -/
def State.swapLists (s : State) (g : Nat) : State :=
  (List.range 256).foldl (fun s i => (List.range 2).foldl (fun s w =>
    let a := s.get (ETH_GCL.word g i w)
    let b := s.get (ETH_GCLSTG.word g i w)
    if a = b then s else s.puts [(ETH_GCL.word g i w, b), (ETH_GCLSTG.word g i w, a)]) s) s

/-- GATE_CHANGE (R336): at its list cycle start the staged list becomes operational. -/
def execGateChange (g : Fin 4) (s : State) : Out :=
  next (if (s.changeAt g).any (fun a => decide (a ≤ s.ns)) then (s.swapLists g).zero (ETH_GSTAT.pending g) else s)

/-- GATE_STAGE_WRITE of word w of staged entry i (R336). -/
def execGateStageWrite (g : Fin 4) (i : Fin 256) (w : Fin 2) (o : Origin) (v : Nat) (s : State) : Out :=
  fin (if s.flag (ETH_GSTAT.pending g) then s.refuseWrite o (ETH_GREFUSED.count g) (ETH_GCLSTG.word g i w).addr
    else (s.put (ETH_GCLSTG.word g i w) v).done o stOK)

/-! ### The shaping wheel -/

/-- The key of a queue of the switch core (R164). -/
def queueKey (o u c : Nat) : Nat := (9 * o + u) * 8 + c

/-- The copies in a queue, oldest first. -/
def State.swQueue (s : State) (key : Nat) : List SwCopy := SMap.getD s.sw.queues key []
def State.setSwQueue (s : State) (key : Nat) (l : List SwCopy) : State :=
  { s with sw := { s.sw with queues := SMap.set s.sw.queues key l [] } }

/-- Node time in 1/16 ns. -/
def State.t16 (s : State) : Nat := s.time / 4096

/-- A shaped frame of flow f and L bytes enters its queue: its eligible time in 1/16 ns, and the flow's next time (R339). -/
def State.shape (s : State) (f len : Nat) : State × Nat :=
  let rate := max 1 (s.get (ETH_SHAPE0.rate f))
  let cost := (len + s.get (ETH_SHAPE1.ovh f)) * 128000 / rate
  let floor : Int := s.t16 - (s.get (ETH_SHAPE1.burst f) * 128000 / rate : Nat)
  let base : Int := match SMap.getD s.gates.next f none with
    | none => floor
    | some n => max n floor
  ({ s with gates := { s.gates with next := SMap.set s.gates.next f (some (base + cost)) none } }, (max (s.t16 : Int) base).toNat)

/-- The slot of an eligible time (R340): the first slot boundary not before it. -/
def wheelSlot (e : Nat) : Nat := (e + 1023) / 1024 % 4096

/-- e lies within the horizon of 4,096 slots (R340). -/
def State.inHorizon (s : State) (e : Nat) : Bool := decide ((e + 1023) / 1024 < s.t16 / 1024 + 4096)

/-- The head of this queue is gone: its entry on the wheel or the overflow list goes with it (R341). -/
def State.leaveWheel (s : State) (key : Nat) : State :=
  { s with gates := { s.gates with
    wheel := s.gates.wheel.filter (fun e => e.1 != key), overflow := s.gates.overflow.filter (fun e => e.1 != key) } }

/-- WHEEL_ENTER (R340): the head of a class queue that is shaped and not yet eligible. -/
def execWheelEnter (o : Fin 10) (u : Fin 9) (c : Fin 8) (s : State) : Out :=
  let key := queueKey o u c
  match s.swQueue key with
  | [] => next s
  | x :: rest =>
    match x.eligible with
    | none => next s
    | some e =>
      if e ≤ s.t16 ∨ x.onWheel = true then next s
      else
        let s := s.setSwQueue key ({ x with onWheel := true } :: rest)
        if s.inHorizon e then next { s with gates := { s.gates with wheel := s.gates.wheel ++ [(key, wheelSlot e)] } }
        else
          let s := { s with gates := { s.gates with overflow := s.gates.overflow ++ [(key, e)] } }
          next (s.hw ETH_WOVF.max (max (s.get ETH_WOVF.max) s.gates.overflow.length))

/-- The heads of these queues are eligible. -/
def State.offWheel (s : State) : List Nat → State
  | [] => s
  | key :: ks =>
    match s.swQueue key with
    | [] => s.offWheel ks
    | x :: rest => (s.setSwQueue key ({ x with onWheel := false } :: rest)).offWheel ks

/-- WHEEL_TICK (R340): the pointer follows node time, one slot per 64 ns. -/
def execWheelTick (s : State) : Out :=
  if s.ns / 64 % 4096 = s.gates.ptr then next s
  else
    let p := (s.gates.ptr + 1) % 4096
    let moved := if p = 0 then s.gates.overflow.filter (fun e => s.inHorizon e.2) else []
    let left := if p = 0 then s.gates.overflow.filter (fun e => !s.inHorizon e.2) else s.gates.overflow
    let wheel := s.gates.wheel ++ moved.map (fun e => (e.1, wheelSlot e.2))
    let due := (wheel.filter (fun e => e.2 == p)).map (·.1)
    let s := { s with gates := { s.gates with ptr := p, overflow := left, wheel := wheel.filter (fun e => e.2 != p) } }
    next (s.offWheel due)

end Sys2Proof.Machine
end

