-- ==== Sys2Proof/Machine/LinkTx.lean ====
section
/-! DEFINITION. Machine/LinkTx.lean: sheets of the Chogen link on the sending side: lanes, CRC, protection, the replay buffer,
transit sheets and link management (R194 to R203, R208 to R214). -/

namespace Sys2Proof.Machine

def State.link (s : State) (p : Nat) : LinkSt := SMap.getD s.links p {}
def State.setLink (s : State) (p : Nat) (x : LinkSt) : State := { s with links := SMap.set s.links p x {} }

/-- The link delay measurement of port p; a restart discards the exchange under way (R296, R297). -/
def State.delay (s : State) (p : Nat) : LinkDelay := SMap.getD s.tim.delays p {}
def State.setDelay (s : State) (p : Nat) (x : LinkDelay) : State :=
  { s with tim := { s.tim with delays := SMap.set s.tim.delays p x {} } }
def State.restartDelay (s : State) (p : Nat) : State := s.setDelay p { seq := (s.delay p).seq, respSeq := (s.delay p).respSeq, sentAt := (s.delay p).sentAt }

/-! ### Stamps (R292, R293) -/

/-- The egress stamp of a ring frame whose stamp point is sent now. -/
def State.ringTx (s : State) : Nat := s.time + 1433600

/-- The ingress stamp of a ring frame whose stamp point is received now, with the measured deskew. -/
def State.ringRx (s : State) (p deskew : Nat) : Nat :=
  s.time - (if s.flag (RING_LSTAT.degraded p) then 2375680 else 2269184) - deskew

/-- Node time t in 1/256 ns of the 48-bit window (R290). -/
def stamp56 (t : Nat) : Nat := t / 256 % 2 ^ 56

/-- A SYNC, and a frame of a link delay exchange (R298). -/
def isSync (f : Frame) : Bool := f.ftype == 0xB && f.a % 256 == 0
def isPdelay (f : Frame) : Bool := f.ftype == 0xB && (f.a % 256 == 1 || f.a % 256 == 2)

/-- A TIME frame with egress stamp t and the side of the port on which it leaves (R298). -/
def timeStamped (t p : Nat) (f : Frame) : Frame :=
  { f with ext := some (extOf t false), b := f.b.take 2 ++ [p] ++ f.b.drop 3 }

/-- A local TIME frame as it leaves on port p; the origin time of a SYNC is its egress stamp (R298, R299). -/
def State.timeSent (s : State) (p : Nat) (f : Frame) : Frame :=
  if f.ftype ≠ 0xB then f
  else
    let f := timeStamped s.ringTx p f
    if isSync f then { f with payload := timeBytes s.ringTx ++ f.payload.drop 14 } else f

/-- The request of a link delay exchange leaves on port p: its egress stamp is t1 (R295). -/
def State.noteRequest (s : State) (p : Nat) (f : Frame) : State :=
  if isPdelay f && f.a % 256 == 1 then
    s.setDelay p { s.delay p with request := some (ofBytes (f.b.take 2), stamp56 s.ringTx) }
  else s

/-- A SYNC with time added to its correction (R300). -/
def addCorrection (f : Frame) (i : Int) : Frame :=
  let c := sext 64 (ofBytes ((f.payload.drop 16).take 8))
  { f with payload := f.payload.take 16 ++ leBytes 8 (wrap 64 (c + i)) ++ f.payload.drop 24 }

/-- The states of a ring port (R217). -/
abbrev lsDOWN : Nat := 0
abbrev lsDETECT : Nat := 1
abbrev lsLOCK : Nat := 2
abbrev lsALIGN : Nat := 3
abbrev lsCAPX : Nat := 4
abbrev lsSECURE : Nat := 5
abbrev lsUP : Nat := 6
abbrev lsFIDLE : Nat := 7
abbrev lsSTOWED : Nat := 8

def State.linkState (s : State) (p : Nat) : Nat := s.get (RING_LSTAT.state p)

/-- The link is in service: in UP or in FIDLE (R217). -/
def State.linkUp (s : State) (p : Nat) : Bool := s.linkState p == lsUP || s.linkState p == lsFIDLE

/-- The link carries sheets: in service, or exchanging link-management sheets in SECURE (R213). -/
def State.linkActive (s : State) (p : Nat) : Bool := s.linkUp p || s.linkState p == lsSECURE

/-! ### Lanes (R194) -/

/-- The physical lane of logical lane i (R194). -/
def laneFld (p i : Nat) : Fld := match i with
  | 0 => RING_LANEMAP.l0 p
  | 1 => RING_LANEMAP.l1 p
  | 2 => RING_LANEMAP.l2 p
  | _ => RING_LANEMAP.l3 p

/-- Logical data lanes in use. -/
def State.lanesUsed (s : State) (p : Nat) : List Nat := (List.range 4).take (s.get (RING_LSTAT.lanes p))

/-- The logical lane that physical lane j carries. -/
def State.logicalOf (s : State) (p j : Nat) : Option Nat := (s.lanesUsed p).find? (fun i => s.get (laneFld p i) == j)

/-- The physical lane on which logical lane i leaves: the spare once the peer takes the lane's blocks from it (R194, R221). -/
def State.txLane (s : State) (p i : Nat) : Nat :=
  let l := s.get (laneFld p i)
  match (s.link p).mirror with
  | some m => if m.peerTook && l == m.j then m.spare else l
  | none => l

/-- n blocks are dealt to the logical lanes in turn, across sheets and the control blocks between them; the IDLE between them comes in
whole rounds (R194; log 263): their physical lanes, and the lane of the next block. -/
def State.deal (s : State) (p n : Nat) : List Nat × Nat :=
  let w := max 1 (s.get (RING_LSTAT.lanes p))
  let l := (s.link p).nextLane
  ((List.range n).map (fun i => s.txLane p ((l + i) % w)), (l + n) % w)

/-- The lane and the spare that both carry its blocks while a mirror runs, until the peer takes them from the spare (R221). -/
def LinkSt.copies (x : LinkSt) : Option (Nat × Nat) :=
  match x.mirror with
  | some m => if m.on && !m.peerTook then some (m.j, m.spare) else none
  | none => none

/-- A control block leaves between sheets, dealt to the next lane (R194, R196). -/
def State.sendBlock (s : State) (p type payload : Nat) : State :=
  let d := s.deal p 1
  let x := s.link p
  (s.setLink p { x with nextLane := d.2 }).emit (.block p type payload (d.1.headD 0) x.copies)

/-! ### CRC (R199) -/

/-- One byte into the CRC-32 register of IEEE 802.3. -/
def crcByte (c b : Nat) : Nat :=
  (List.range 8).foldl (fun c _ => if c % 2 = 1 then (c / 2) ^^^ 0xEDB88320 else c / 2) (c ^^^ (b % 256))

/-- The CRC-32 of IEEE 802.3 of a list of bytes. -/
def crc32 (bs : List Nat) : Nat := (bs.foldl crcByte 0xFFFFFFFF) ^^^ 0xFFFFFFFF

/-- The 7 payload bytes of SS (R196). -/
def ssBytes (x : Sheet) : List Nat :=
  leBytes 7 (x.starts % 2 ^ 32 + b2n x.cont * 2 ^ 32 + b2n x.link * 2 ^ 33 + x.phase % 2 * 2 ^ 34 + b2n x.prot * 2 ^ 35 +
    x.ctr % 2 ^ 20 * 2 ^ 36)

/-- The CRC of a sheet's END trailer (R199). -/
def sheetCrc (x : Sheet) : Nat :=
  crc32 (ssBytes x ++ x.payload ++ (if x.prot then x.tag else []) ++ leBytes 3 (x.seq % 4096 + x.ack % 4096 * 4096))

/-- Give a sheet its trailer CRC: a STOMP carries the inverse (R199). -/
def sealSheet (x : Sheet) : Sheet := { x with crc := if x.stomp then sheetCrc x ^^^ 0xFFFFFFFF else sheetCrc x }

/-- The ack that this end sends: the last seq accepted, 0xFFF before the first (R204). -/
def LinkSt.ackField (x : LinkSt) : Nat := x.accepted.getD 0xFFF

/-! ### Sending -/

/-- The bytes of the IV of a sheet (R212): the direction's 4-byte salt, then the 64-bit sheet counter, least significant byte first
(log 264). -/
def sheetIv (salt : List Nat) (ctr : Nat) : List Nat := salt ++ leBytes 8 ctr

/-- Protect a sheet (R212): encrypted payload and the first 8 bytes of the tag. -/
def protect (x : Sheet) (key salt : List Nat) (ctr : Nat) : Sheet :=
  let iv := sheetIv salt ctr
  let ct := gcmCipher key iv x.payload
  { x with payload := ct, tag := (gcmTag key iv (ssBytes x ++ leBytes 2 x.seq) ct).take 8 }

/-- A sheet leaves: its blocks are dealt to the lanes (R194); it ends a request for fast idle and the IDLE after an exit (R225). -/
def State.launchSheet (s : State) (p : Nat) (y : Sheet) : State :=
  let d := s.deal p (if y.prot then 35 else 34)
  let x := s.link p
  let s := s.setLink p { x with nextLane := d.2, unacked := 0, since := none, fidleAsked := false, exitAt := none }
  (s.bumpWrap (RING_TXSHEETS.sheets p)).emit (.sheet p y d.1 x.copies)

/-- A new sheet with these words, start map and cont; a sheet that is not STOMP takes a seq and enters the replay buffer
(R203, R209, R212). A sheet with cont = 0 also ends a frame that was to be ended stomped (R201). -/
def State.sendSheet (s : State) (p starts : Nat) (cont stomp mgmt : Bool) (payload : List Nat) : State :=
  let x := s.link p
  let phase := s.get (RING_LSTAT.key_phase p)
  let prot := s.flag (RING_LSTAT.protected p) && s.linkUp p
  let y : Sheet := {
    starts := starts, cont := cont, link := mgmt, phase := phase, prot := prot
    ctr := if prot then x.txCtr % 2 ^ 20 else 0, payload := (payload ++ List.replicate 256 0).take 256
    stomp := stomp, seq := x.seq, ack := x.ackField, crc := 0 }
  let y := match s.sessionKey p 0 phase true with
    | some k => if prot then protect y k (SMap.getD x.txSalts phase []) x.txCtr else y
    | none => y
  let y := sealSheet y
  let s := if stomp then s.bump (RING_ERR2.stomp_tx p) else s
  let x := { x with
    txCtr := if prot then x.txCtr + 1 else x.txCtr
    replay := if stomp then x.replay else x.replay ++ [⟨y, s.now⟩]
    seq := if stomp then x.seq else (x.seq + 1) % 4096, stop := x.stop && (cont || mgmt || stomp) }
  (s.setLink p x).launchSheet p y

/-- The replay buffer has room for a new sheet (R203). -/
def LinkSt.room (x : LinkSt) : Bool := decide (x.replay.length < 64) && x.resend.isNone

/-- The lanes may carry a sheet: the sending direction is not idle, 400 ns after a FIDLE exit (R225). -/
def State.awake (s : State) (p : Nat) : Bool :=
  !s.flag (RING_LSTAT.fidle_tx p) && (match (s.link p).exitAt with
    | some t => decide (t + 400 ≤ s.now)
    | none => true)

/-- The link may start a sheet with frame words: in service, and on a protected link under a live key (R212, R225, R405). -/
def State.maySend (s : State) (p : Nat) : Bool :=
  s.linkUp p && s.awake p &&
    (!s.flag (RING_LSTAT.protected p) || (s.sessionKey p 0 (s.get (RING_LSTAT.key_phase p)) false).isSome)

/-- The link may start a link-management sheet: in SECURE, or in service under a key that it still holds (R213, R214). -/
def State.mayManage (s : State) (p : Nat) : Bool :=
  s.linkState p == lsSECURE ||
    (s.linkUp p && s.awake p && s.flag (RING_LSTAT.protected p) &&
      (s.sessionKey p 0 (s.get (RING_LSTAT.key_phase p)) true).isSome)

/-- Bytes padded with 0 to whole 8-byte words (R198). -/
def padWord (bs : List Nat) : List Nat := bs ++ List.replicate ((8 - bs.length % 8) % 8) 0

/-- Pack the frame in progress and waiting frames into the 32 words of a sheet: the words, the start map, what is left of the
frame in progress, the frames left (R198). A frame starts at byte `from_` at the earliest, 64 bytes after the one before it: the words
up to there are fill. The IDLE between sheets parts frames of two sheets (R161; log 291). -/
def packSheet : Nat → List Nat → Nat → Nat → List Nat → List (List Nat) → List Nat × Nat × List Nat × List (List Nat)
  | 0, acc, starts, _, part, fs => (acc, starts, part, fs)
  | fuel + 1, acc, starts, from_, part, fs =>
    if 256 ≤ acc.length then (acc, starts, part, fs)
    else match part, fs with
      | [], [] => (acc, starts, [], [])
      | [], f :: fs =>
        if acc.length < from_ then
          packSheet fuel (acc ++ List.replicate (min from_ 256 - acc.length) 0) starts from_ [] (f :: fs)
        else packSheet fuel acc (starts + 2 ^ (acc.length / 8)) (acc.length + 64) (padWord f) fs
      | b :: bs, fs =>
        packSheet fuel (acc ++ (b :: bs).take (256 - acc.length)) starts from_ ((b :: bs).drop (256 - acc.length)) fs

/-- A local frame is handed to the link of port p. -/
def State.giveLink (s : State) (p : Nat) (f : Frame) : State :=
  let x := s.link p
  s.setLink p { x with frames := x.frames ++ [frameBytes f] }

/-! ### Transit sheets (R187, R208, R209) -/

/-- The transit path of the direction received on port d. -/
def State.transitOf (s : State) (d : Nat) : Transit := SMap.getD s.transit d {}

/-- The bytes of a frame before its sheet i (R208). -/
def TransitEntry.before (e : TransitEntry) (i : Nat) : Nat := min (frameLen e.frame) (256 * i - 8 * e.w0)

/-- The bytes of a frame that an entry holds: of whole sheets up to one that was not accepted (R208, R209). -/
def TransitEntry.bytes (e : TransitEntry) : Nat :=
  (match e.bad with
    | none => frameLen e.frame
    | some j => e.before j) - (if e.skip = 0 then 0 else e.before e.skip)

/-- Bytes in the transit FIFO (R187). -/
def Transit.bytes (x : Transit) : Nat := (x.fifo.map TransitEntry.bytes).sum

def State.setTransit (s : State) (d : Nat) (x : Transit) : State :=
  let s := { s with transit := SMap.set s.transit d x {} }
  (s.put (SW_TRLEVEL.bytes d) x.bytes).hw (SW_TRMAX.bytes d) (max (s.get (SW_TRMAX.bytes d)) x.bytes)

/-- This node is wrapped at ring port p (R242). -/
def State.wrapAt (s : State) (p : Nat) : Bool := s.flag (if p = 0 then RING_STATUS.east_wrap else RING_STATUS.west_wrap)

/-- The port on which frames for ring output p leave (R242); with both ports wrapped there is none to turn to. -/
def State.wayOut (s : State) (p : Nat) : Nat := if s.wrapAt p && !s.wrapAt (1 - p) then 1 - p else p

/-- A frame that a link carries before it joins the ring (R244). -/
def heldType (f : Frame) : Bool := f.ftype == 0xA || f.ftype == 0xB

/-- The link of port p is up while the port is wrapped: it carries MGMT and TIME frames (R244). -/
def State.heldLink (s : State) (p : Nat) : Bool := s.wrapAt p && s.linkUp p

/-- A MGMT or TIME frame for a wrapped port is turned, and crosses the port's link too while that is up (R242, R244; DESIGN
CHOICE, log 267). -/
def State.crossHeld (s : State) (o : Nat) (f : Frame) : State :=
  if s.wayOut o ≠ o ∧ s.heldLink o = true ∧ heldType f = true then s.giveLink o f else s

/-- The transit directions whose frames leave on port q, a wrap included (R187, R242). -/
def State.fifosFor (s : State) (q : Nat) : List Nat := [1 - q, q].filter (fun d => s.wayOut (1 - d) == q)

/-- A transit frame of a direction other than d stands unfinished on port q (R209). -/
def State.halfSent (s : State) (q d : Nat) : Bool :=
  (s.fifosFor q).any (fun e => e != d && (s.transitOf e).redo.isSome)

/-- The mirrored sheets of an entry (R208): its words stand where they stood in the received sheets; the one that was not accepted
ends with STOMP, or is never sent where the entry has waited (R209); the last stays open while the next transit frame shares it. -/
def TransitEntry.sheets (d : Nat) (e : TransitEntry) : List OutSheet :=
  let words := List.replicate (8 * e.w0) 0 ++ padWord (frameBytes e.frame)
  let all := (blocksOf 256 40 words).zipIdx
  let last := all.length - 1
  ((all.take (e.bad.elim all.length (fun j => j + b2n (!e.queued)))).drop e.skip).map (fun x => {
    starts := if x.2 = 0 then 2 ^ e.w0 else 0, cont := x.2 != 0, stomp := e.bad == some x.2, payload := x.1
    open_ := if x.2 = last ∧ e.more = true then some d else none })

/-- The words of two frames in one mirrored sheet: the second's stand from its first word on (R208). -/
def OutSheet.join (a b : OutSheet) : OutSheet :=
  { a with starts := a.starts + b.starts, stomp := a.stomp || b.stomp, open_ := b.open_
           payload := a.payload ++ b.payload.drop a.payload.length }

/-- Mirrored sheets join the ones that wait: an open sheet of the same direction takes the first of them, if it goes on in the same
received sheet (R208). -/
def addMirrors (d w0 : Nat) (ms : List OutSheet) (l : List OutSheet) : List OutSheet :=
  match ms.getLast?, l with
  | some m, y :: ys =>
    if m.open_ = some d ∧ y.cont = false ∧ m.payload.length ≤ 8 * w0 then ms.dropLast ++ (m.join y :: ys)
    else ms.dropLast ++ ({ m with open_ := none } :: l)
  | _, _ => ms ++ l

/-- Send the mirrored sheets that wait, as far as the link may and they are whole (R203, R208, R225). -/
def State.drainMirrors (s : State) (p : Nat) : Nat → State
  | 0 => s
  | fuel + 1 =>
    let x := s.link p
    match x.mirrors with
    | [] => s
    | m :: ms =>
      if s.maySend p && x.room && m.open_.isNone then
        ((s.setLink p { x with mirrors := ms }).sendSheet p m.starts m.cont m.stomp false m.payload).drainMirrors p fuel
      else s

/-- The words of an entry go to port p; a STOMP sheet that cannot start now is never sent (R208, R209). -/
def State.sendTransit (s : State) (p d : Nat) (e : TransitEntry) : State :=
  let x := s.link p
  let s := (s.setLink p { x with mirrors := addMirrors d e.w0 x.mirrors (e.sheets d) }).drainMirrors p 64
  let x := s.link p
  s.setLink p { x with mirrors := x.mirrors.filter (fun m => !m.stomp || m.open_.isSome) }

/-- No further frame joins the open mirrored sheet of direction d on port p (R208). -/
def State.closeMirror (s : State) (p d : Nat) : State :=
  let x := s.link p
  if x.mirrors.any (fun m => m.open_ == some d) then
    let ms := x.mirrors.map (fun m => if m.open_ = some d then { m with open_ := none } else m)
    let s := (s.setLink p { x with mirrors := ms }).drainMirrors p 64
    s.setLink p { s.link p with mirrors := (s.link p).mirrors.filter (fun m => !m.stomp || m.open_.isSome) }
  else s

/-- A frame partly sent on port p is ended stomped (R201): a sheet in progress is completed with fill, and the next sheet has
cont = 0. -/
def State.endStomped (s : State) (p : Nat) : State :=
  let s := (s.closeMirror p 0).closeMirror p 1
  (s.setLink p { s.link p with stop := true }).emit (.stomped p)

/-! ### Link management (R213, R214) -/

/-- Bytes as link-management sheets: one stream from word 0 of the first (log 265). -/
def mgmtSheets (bs : List Nat) : List OutSheet :=
  (blocksOf 256 40 bs).zipIdx.map (fun x => {
    starts := if x.2 = 0 then 1 else 0, cont := x.2 != 0, link := true, payload := x.1 })

/-- Send the link-management sheets that wait, between frames and as far as the link may (R203, R213). -/
def State.drainMgmt (s : State) (p : Nat) : Nat → State
  | 0 => s
  | fuel + 1 =>
    let x := s.link p
    match x.mgmt with
    | [] => s
    | m :: ms =>
      if s.mayManage p && x.room && x.partial_.isEmpty && x.mirrors.isEmpty && !s.halfSent p 2 then
        ((s.setLink p { x with mgmt := ms }).sendSheet p m.starts m.cont false true m.payload).drainMgmt p fuel
      else s

/-- Bytes leave in link-management sheets. -/
def State.giveMgmt (s : State) (p : Nat) (bs : List Nat) : State :=
  let x := s.link p
  (s.setLink p { x with mgmt := x.mgmt ++ mgmtSheets bs }).drainMgmt p 64

/-- This end's part of an exchange begins (R213): its certificate and a fresh ECDH P-384 public key. -/
def State.startExchange (s : State) (p : Nat) : State :=
  let key := Config.drbg s.draws 48
  let s := (s.setLink p { s.link p with ephemeral := key }).draw
  s.giveMgmt p (s.cert 0 5504 ++ publicKey 4 key)

/-- A rekey begins, or a running one becomes forced (R214). -/
def State.startRekey (s : State) (p : Nat) (forced : Bool) : State :=
  let x := s.link p
  match x.rekey with
  | some (t, f) => s.setLink p { x with rekey := some (t, f || forced) }
  | none => (s.setLink p { x with rekey := some (s.now, forced) }).startExchange p

end Sys2Proof.Machine
end

