-- ==== Sys2Proof/Machine/Ptp.lean ====
section
/-! DEFINITION. Machine/Ptp.lean: Ethernet frames, the stamps of the Ethernet ports, and PTP messages at them (R294, R314 to R317). -/

namespace Sys2Proof.Machine

/-- The signed difference of two times of a w-bit window. -/
def windowDiff (w a b : Nat) : Int := sext w ((a + 2 ^ w - b % 2 ^ w) % 2 ^ w)

/-- Of an Ethernet frame: destination, source, VLAN tag control where it is tagged, EtherType. -/
def ethDst (bs : List Nat) : Nat := beBytes (bs.take 6)
def ethSrc (bs : List Nat) : Nat := beBytes ((bs.drop 6).take 6)
def ethTci (bs : List Nat) : Option Nat :=
  if beBytes ((bs.drop 12).take 2) = 0x8100 then some (beBytes ((bs.drop 14).take 2)) else none
def ethType (bs : List Nat) : Nat :=
  if (ethTci bs).isSome then beBytes ((bs.drop 16).take 2) else beBytes ((bs.drop 12).take 2)
def ethVlan (bs : List Nat) : Nat := (ethTci bs).getD 0 % 4096

/-- The constants of R294 by link mode in 2⁻¹⁶ ns, truncated (R290): egress, ingress. -/
def ethConst (mode : Nat) : Nat × Nat := match mode with
  | 0 => (2516582, 3460300)
  | 1 => (112 * 65536, 176 * 65536)
  | 2 => (104 * 65536, 152 * 65536)
  | 3 => (1040 * 65536, 1520 * 65536)
  | _ => (10400 * 65536, 15200 * 65536)

/-- The ingress and egress stamps of an Ethernet port at this instant; for SGMII the latencies of the PHY are added (R294). -/
def State.ethRx (s : State) (e : Nat) : Nat :=
  let m := nth s.gates.ethMode e
  s.time - (ethConst m).2 - (if 2 ≤ m then s.get (TIM_ETHPHY.rx e) * 4096 else 0)
def State.ethTx (s : State) (e : Nat) : Nat :=
  let m := nth s.gates.ethMode e
  s.time + (ethConst m).1 + (if 2 ≤ m then s.get (TIM_ETHPHY.tx e) * 4096 else 0)

/-- The place of the PTP header in an Ethernet frame (R314). -/
def ptpAt (bs : List Nat) : Nat := if (ethTci bs).isSome then 18 else 14

/-- The frame carries PTP as R314 has it: EtherType, version 2, minor version 0 or 1. -/
def isPtp (bs : List Nat) : Bool :=
  ethType bs == 0x88F7 && nth bs (ptpAt bs + 1) % 16 == 2 && decide (nth bs (ptpAt bs + 1) / 16 ≤ 1)

/-- Fields of a PTP header (IEEE 1588): messageType, domainNumber, twoStepFlag, the key of R317. -/
def ptpType (bs : List Nat) : Nat := nth bs (ptpAt bs) % 16
def ptpDomain (bs : List Nat) : Nat := nth bs (ptpAt bs + 4)
def ptpTwoStep (bs : List Nat) : Bool := bit (nth bs (ptpAt bs + 6)) 1
def ptpKey (bs : List Nat) : List Nat := ptpDomain bs :: (bs.drop (ptpAt bs + 20)).take 12

/-- Add an amount in 2⁻¹⁶ ns to correctionField, and recompute the FCS (R316). -/
def ptpAdd (bs : List Nat) (amount : Nat) : List Nat :=
  let i := ptpAt bs + 8
  let c := (beBytes ((bs.drop i).take 8) + amount) % 2 ^ 64
  let body := (bs.take i ++ (leBytes 8 c).reverse ++ bs.drop (i + 8)).take (bs.length - 4)
  body ++ leBytes 4 (crc32 body)

/-- The residence of a tunnelled message that leaves port e now (R315). -/
def State.residence (s : State) (e : Nat) (f : Frame) : State × Nat :=
  let t0 := match f.ext with
    | some x => 256 * x.ns + x.frac
    | none => 0
  let r := 256 * (windowDiff 56 (stamp56 (s.ethTx e)) t0).toNat
  if ptpDomain f.payload = s.get TIM_SRC.ptp_dom0 ∧ s.flag TIM_STATUS.sec_in_use = false then
    (s.draw, Config.ratioScaled s.draws r)
  else (s, r)

/-- The two-step table of port e (R317). -/
def State.twoSteps (s : State) (e : Nat) : List TwoStep := SMap.getD s.tim.twoStep e []
def State.setTwoSteps (s : State) (e : Nat) (l : List TwoStep) : State :=
  { s with tim := { s.tim with twoStep := SMap.set s.tim.twoStep e l [] } }

/-- A frame leaves Ethernet port e with these bytes. -/
def State.ethOut (s : State) (e : Nat) (f : Frame) (bs : List Nat) : State := s.emit (.deliver (3 + e) 0 { f with payload := bs })

/-- A Follow_Up takes the recorded amount, or goes unchanged and is counted (R317). -/
def State.followUp (s : State) (e : Nat) (f : Frame) : State :=
  match (s.twoSteps e).find? (fun x => x.key == ptpKey f.payload) with
  | some x => (s.setTwoSteps e ((s.twoSteps e).erase x)).ethOut e f (ptpAdd f.payload x.amount)
  | none => (s.bump (TIM_PTPCNT.fu_unmatched e)).ethOut e f f.payload

/-- A Sync leaves: one-step it is corrected, two-step it is recorded (R316, R317). -/
def State.syncOut (s : State) (e : Nat) (f : Frame) (peer : Nat) : State :=
  let r := s.residence e f
  let amount := r.2 + (if s.flag (TIM_ETHCFG.tc_mode e) then 256 * peer else 0)
  if ptpTwoStep f.payload then
    let l := (r.1.twoSteps e).drop ((r.1.twoSteps e).length + 1 - 64)
    (r.1.setTwoSteps e (l ++ [({ key := ptpKey f.payload, amount := amount, at_ := s.now } : TwoStep)])).ethOut e f f.payload
  else r.1.ethOut e f (ptpAdd f.payload amount)

/-- A PTP message leaves port e: corrected, recorded, dropped and counted, or unchanged (R315 to R317); `peer` is the peer link delay of
its ingress port in 1/256 ns. -/
def State.ptpEgress (s : State) (e : Nat) (f : Frame) (peer : Nat) : State :=
  let bs := f.payload
  let p2p := s.flag (TIM_ETHCFG.tc_mode e)
  if !isPtp bs then s.ethOut e f bs
  else match ptpType bs with
    | 0 => s.syncOut e f peer
    | 8 => s.followUp e f
    | 1 =>
      if p2p then s.bump (TIM_PTPCNT.dropped e)
      else
        let r := s.residence e f
        r.1.ethOut e f (ptpAdd bs r.2)
    | 9 => if p2p then s.bump (TIM_PTPCNT.dropped e) else s.ethOut e f bs
    | 2 => s.bump (TIM_PTPCNT.dropped e)
    | 3 => s.bump (TIM_PTPCNT.dropped e)
    | 10 => s.bump (TIM_PTPCNT.dropped e)
    | _ => s.ethOut e f bs

/-- A PTP message received on port e goes no further (R316): at an E2E port a peer delay message is dropped and counted, at a P2P port it
ends, for the port's own exchange, and a Delay_Req or Delay_Resp is dropped and counted. -/
def State.ptpEnds (s : State) (e : Nat) (bs : List Nat) : Option State :=
  let p2p := s.flag (TIM_ETHCFG.tc_mode e)
  if !isPtp bs then none
  else
    let k := ptpType bs
    if k = 2 ∨ k = 3 ∨ k = 10 then some (if p2p then s else s.bump (TIM_PTPCNT.dropped e))
    else if p2p ∧ (k = 1 ∨ k = 9) then some (s.bump (TIM_PTPCNT.dropped e))
    else none

end Sys2Proof.Machine
end

