-- ==== Sys2Proof/Machine/Switch.lean ====
section
/-! DEFINITION. Machine/Switch.lean: the switch core: classification, admission, scheduling, epochs, lost copies, capture, and
the transit path (R157 to R192, R319, R320, R342). -/

namespace Sys2Proof.Machine

/-! ### Cells and queues -/

/-- The cells of a frame (R159). -/
def frameCells (f : Frame) : Nat := (frameLen f + 255) / 256

/-- Free cells (R159). -/
def State.freeCells (s : State) : Nat := 24576 - (s.sw.frames.map (fun e => e.2.cells)).sum

/-- Cells in a queue. -/
def State.queueCells (s : State) (key : Nat) : Nat := ((s.swQueue key).map (·.cells)).sum

/-- The sub-queue of an output that a sub-queue number stands for: only region outputs have nine (R164). -/
def subQueue (o sub : Nat) : Nat := if 6 ≤ o ∧ o ≤ 9 then min sub 8 else 0

/-- Output o is up (R157). -/
def State.portUp (s : State) (o : Nat) : Bool := s.flag (SW_OSTAT.up o)

/-- Frames that a seam does not hold back (R240). -/
def seamExempt (f : Frame) : Bool := f.ftype == 0xA || f.ftype == 0xB || f.ftype == 0xC

/-- A request that wants a completion (R234). -/
def nonPosted (f : Frame) : Bool := f.ftype == 2 || f.ftype == 4

/-- The domain address and the originator unit of a request (R234). -/
def frameAddr (f : Frame) : Nat := ofBytes ((List.range 5).map (nth f.b))
def frameUnit (f : Frame) : Nat := nth f.b 6 + 256 * nth f.b 7

/-- The completion of a request (R234). -/
def State.complFrame (s : State) (f : Frame) (status detail : Nat) (idx : Nat := 0) (data : List Nat := []) : Frame :=
  { ftype := 5, cls := s.get SW_BUFCFG.addr_class, dst := f.src, src := s.nodeId, a := status + 256 * detail
    b := [idx, 0, 0, 0, 0, nth f.b 5, nth f.b 6, nth f.b 7], payload := data }

/-! ### Lost copies (R178 to R181) -/

/-- The drop reasons. -/
abbrev drFULL : Nat := 1
abbrev drDOWN : Nat := 2
abbrev drDEADLINE : Nat := 3
abbrev drOVERSIZE : Nat := 4
abbrev drFLUSH : Nat := 5
abbrev drTOO_LONG : Nat := 6
abbrev drNO_ROUTE : Nat := 7

/-- The status with which a lost non-posted request completes (R178). -/
def dropStatus (reason o : Nat) : Nat := match reason with
  | 1 => stBUSY
  | 2 => if o < 2 then stNO_NODE else stFAULT
  | 3 => stTIMEOUT
  | 5 => stDISCARDED
  | 6 => stILLEGAL
  | _ => stFAULT

/-- A lost non-posted request completes (R178). -/
def State.answerLost (s : State) (f : Frame) (reason o : Nat) : State :=
  if nonPosted f then s.toSwitch 5 { frame := s.complFrame f (dropStatus reason o) 0, route := .addr } else s

/-- A lost copy increments the drop counters of its output and class (R179, R335). -/
def State.countDrop (s : State) (o c reason : Nat) : State :=
  let s := if reason = drFULL then s.bump (SW_OQDROP.full o c) else s.bump (SW_OQDROP.other o c)
  match gateOf o with
  | none => s
  | some g =>
    if reason = drOVERSIZE then s.bump (ETH_GDROP.oversize g c)
    else if reason = drDEADLINE then s.bump (ETH_GDROP.deadline g c)
    else s

/-- The 32 bytes of a notice of missed outputs with their reasons (R181). -/
def State.noticeBytes (s : State) (f : Frame) (index cls epoch : Nat) (grouped : Bool) (missed : List (Nat × Nat)) :
    List Nat :=
  let mask := (missed.map (fun m => 2 ^ m.1)).sum
  let codes := (missed.map (fun m => m.2 * 16 ^ m.1)).sum
  [if grouped then stPARTIAL else stDISCARDED, s.nodeId] ++ leBytes 2 (index % 1024 + b2n grouped * 2 ^ 15) ++
    leBytes 2 mask ++ [cls, epoch] ++ leBytes 5 codes ++ [0, 0, 0] ++
    (match f.ext with
      | some e => extBytes e
      | none => List.replicate 8 0) ++ (f.payload ++ List.replicate 8 0).take 8

/-! ### Capture (R183 to R186) -/

/-- The 96 bytes of a capture entry (R184). -/
def State.captureBytes (s : State) (f : Frame) (i o c epoch reason index : Nat) (grouped : Bool) : List Nat :=
  let all := frameBytes f
  (all ++ List.replicate 64 0).take 64 ++ timeBytes s.time ++
    [i % 16 + 16 * o, c % 8 + 8 * b2n f.cm + 16 * b2n (reason != 0) + 32 * b2n grouped + 64 * b2n (decide (64 < all.length)),
     epoch, reason] ++
    leBytes 2 all.length ++ leBytes 2 (index % 1024 + b2n grouped * 2 ^ 15) ++ [f.src, f.dst] ++
    leBytes 4 s.sw.capSeq ++ leBytes 4 s.sw.capLost

/-- Captures written in the current microsecond. -/
def State.capturesNow (s : State) : Nat := if s.sw.capRate.1 = s.now / 1000 then s.sw.capRate.2 else 0

/-- Write a capture entry, or lose it when the ring is full (R185) or faster than 100 M entries/s: more than 100 in one
microsecond (R157, R183; log 54). -/
def State.captureWrite (s : State) (bs : List Nat) : State :=
  let wr := s.get SW_CAPWR.wr
  let n := s.capturesNow
  if (!s.flag SW_CAPCFG.wrap && (wr + 1) % 4096 == s.get SW_CAPRD.rd) || decide (100 ≤ n) then
    ({ s with sw := { s.sw with capLost := s.sw.capLost + 1 } }).bump SW_CAPLOST.lost
  else
    let s := { s with sw := { s.sw with capRate := (s.now / 1000, n + 1) } }
    let s := s.setBytes (4096 * s.get SW_CAPBASE.base + 96 * wr) bs
    let s := { s with sw := { s.sw with capSeq := (s.sw.capSeq + 1) % 2 ^ 32, capLost := 0 } }
    s.put SW_CAPWR.wr (wr + 1)

/-- Capture a copy for output o (0xF: an ingress drop) if it is wanted (R183). -/
def State.captureCopy (s : State) (f : Frame) (i o c epoch reason index : Nat) (grouped want : Bool) : State :=
  let chosen := bit (s.get SW_CAPSEL.in_mask) i && bit (s.get SW_CAPSEL.out_mask) o && bit (s.get SW_CAPCLASS.classes) c
  if s.flag SW_CAPCFG.en && !s.flag SW_CAPCFG.stopped &&
      (want || (decide (o < 10) && chosen) || (s.flag SW_CAPCFG.drops && reason != 0)) then
    s.captureWrite (s.captureBytes f i o c epoch reason index grouped)
  else s

/-! ### Classification (R168 to R172) -/

/-- The port and sub-queue that own a node-space offset (R168, R268). -/
def addrPort (ofs : Nat) : Nat × Nat :=
  if 0x3000000 ≤ ofs ∧ ofs < 0x5000000 then
    let c := (ofs - 0x3000000) / 0x100000
    (6 + c / 8, c % 8)
  else if 0x2000000 ≤ ofs ∧ ofs < 0x3000000 then (6 + (ofs - 0x2000000) / 0x400000, 8)
  else if 0x1000000 ≤ ofs ∧ ofs < 0x1C00000 then (6 + (ofs - 0x1000000) / 0x300000, 8)
  else if 0x8000000 ≤ ofs ∧ ofs < 0x8600000 then (6 + (ofs - 0x8000000) / 0x180000, 8)
  else if 0x300000 ≤ ofs ∧ ofs < 0x400000 then (2, 0)
  else (5, 0)

/-- The port and sub-queue at which an originator unit of this node takes its completion. -/
def unitPort (u : Nat) : Nat × Nat :=
  if u = 0x0020 ∨ u = 0x0021 then (2, 0)
  else if u / 256 = 3 then (6 + u % 256 / 8, u % 256 % 8)
  else if u / 256 = 4 then (5, u % 256 / 2)
  else (5, 0)

/-- The node to which a completion for node n goes: the active head, where the map marks n as a former head failed over (R251). -/
def State.compNode (s : State) (n : Nat) : Nat :=
  if n < 64 ∧ s.flag (RING_MAP.failed_over n) = true then s.mapHead.getD n else n

/-- The plan of an address-routed frame (R168). -/
def State.addrPlan (s : State) (f : Frame) : SwPlan :=
  let c := s.get SW_BUFCFG.addr_class
  let n := if f.ftype = 5 then s.compNode f.dst else frameAddr f / 2 ^ 28
  let dest :=
    if n ≠ s.nodeId then (s.ringDir n, 0)
    else if f.ftype = 5 then unitPort (frameUnit f)
    else addrPort (frameAddr f % 2 ^ 28)
  { cls := c, outs := [(dest.1, subQueue dest.1 dest.2, dest.2, { f with cls := c })] }

/-- Word w of an entry under epoch e: a draining version while its epoch drains (R173, R174). -/
def State.tableWord (s : State) (e : Nat) (live : Fld) : Nat :=
  if s.flag SW_STATUS.draining && s.get SW_STATUS.drain_epoch == e then
    SMap.getD s.sw.drainVer live.addr (s.get live)
  else s.get live

/-- The index of a flow entry lies in the range of its port (R169). -/
def flowIndexOk (p idx : Nat) : Bool :=
  if p < 2 ∨ p = 0xE then idx < 1024 else if p < 5 then idx < 64 else if p = 5 then idx < 10 else idx < 8

/-- The plan of a frame of flow entry n under epoch e, from input i; none: invalid (R169, R172). -/
def State.flowPlan (s : State) (i : Nat) (f : Frame) (n e : Nat) : Option SwPlan :=
  let w0 := s.tableWord e (SW_FLOW.word n 0)
  let idx := s.tableWord e (SW_FLOW.word n 1) % 65536
  let p := w0 % 16
  let c := bits w0 4 3
  let node := bits w0 16 6
  let ring := decide (p < 2 ∨ p = 0xE)
  if !bit w0 31 || (decide (9 < p) && p != 0xE) || !flowIndexOk p idx || (ring && node == s.nodeId) then none
  else
    let o := if p = 0xE then s.ringDir node else p
    let g := if ring then
        { f with ftype := if f.ftype = 8 then 8 else 0, cls := c, dst := node, ack := bit w0 7, a := idx, hops := 127
                 b := if i < 2 then f.b else leBytes 4 (SMap.getD s.sw.flowSeq n 0) ++ [0, 0, 0, 0] }
      else { f with cls := c, ack := bit w0 7, a := if f.ftype = 0 then n else f.a }
    some { cls := c, index := n, ack := bit w0 7, capture := bit w0 8, launch := bit w0 10
           shaped := if bit w0 9 then some n else none, budget := s.tableWord e (SW_FLOW.word n 2) % 65536
           outs := [(o, subQueue o idx, idx, g)] }

/-- The plan of a frame of group g under epoch e; a ring input makes copies for ports 2 to 9 only (R170). -/
def State.groupPlan (s : State) (i : Nat) (f : Frame) (g e : Nat) : Option SwPlan :=
  let w := fun j => s.tableWord e (SW_GRP.word g j)
  let c := bits (w 0) 16 3
  if !bit (w 0) 31 then none
  else
    let sub := fun o => match o with
      | 2 => bits (w 1) 16 6
      | 3 => bits (w 2) 0 6
      | 4 => bits (w 2) 8 6
      | 5 => bits (w 2) 16 4
      | _ => bits (w 1) (4 * (o - 6)) 3
    let frameFor := fun o => if o < 2 then
        { f with ftype := 1, cls := c, dst := s.nodeId, ack := bit (w 0) 19, a := g, hops := bits (w 0) 10 6
                 b := leBytes 4 (SMap.getD s.sw.groupSeq g 0) ++ [0, 0, 0, 0] }
      else if f.ftype < 2 then { f with ftype := 1, cls := c, ack := bit (w 0) 19, a := g }
      else { f with cls := c, ack := bit (w 0) 19 }
    let ports := (members 10 (w 0)).filter (fun o => decide (2 ≤ i) || decide (2 ≤ o))
    some { cls := c, index := g, grouped := true, ack := bit (w 0) 19, capture := bit (w 0) 20
           budget := w 3 % 65536
           outs := ports.map (fun o => (o, if o < 2 then 0 else subQueue o (sub o), if o < 2 then 0 else sub o, frameFor o)) }

/-- A flow at its destination node, or a group: what a notice names (R181). -/
def noticeKey (grouped : Bool) (node idx : Nat) : Nat := if grouped then 65536 + idx % 256 else node % 64 * 1024 + idx % 1024

/-- Where a notice goes at its source: to the host port when the frame entered there, else to core pair 0 (R180). A notice does
not name the frame: it stands for the last acknowledged one of its flow or group (DESIGN CHOICE, log 56). -/
def State.noticeRoute (s : State) (f : Frame) : SwRoute :=
  let w := nth f.payload 2 + 256 * nth f.payload 3
  if SMap.getD s.sw.fromHost (noticeKey (bit w 15) (nth f.payload 1) w) 0 = 1 then .port 2 0 f.cls else .port 5 0 f.cls

/-- The acknowledged copies of a frame that leave on the ring or for the host are remembered by the port at which it entered (R180). -/
def State.noteEntry (s : State) (i : Nat) (p : SwPlan) : State :=
  if !p.ack || decide (i < 2) then s
  else p.outs.foldl (fun s out =>
    if out.1 < 3 then { s with sw := { s.sw with
      fromHost := SMap.set s.sw.fromHost
        (noticeKey p.grouped (if out.1 = 2 then s.nodeId else out.2.2.2.dst) (if out.1 = 2 then p.index else out.2.2.2.a))
        (b2n (i == 2)) 0 } } else s) s

/-- How a frame that arrives from the ring is classified (R168, R234). -/
def State.ringRoute (s : State) (f : Frame) : SwRoute := match f.ftype with
  | 0 => .flow (f.a % 1024)
  | 1 => .group (f.a % 256)
  | 2 => .addr
  | 3 => .addr
  | 4 => .addr
  | 5 => .addr
  | 6 => if bit f.a 15 then .port 5 (f.a % 256) f.cls else .port 2 (f.a % 256) f.cls
  | 7 => s.noticeRoute f
  | _ => .port 5 0 f.cls

/-- Ethernet port e is a member of the bridge (R258). -/
def State.member (s : State) (e : Nat) : Bool := s.get (if e = 0 then ETH_BRCFG.mode0 else ETH_BRCFG.mode1) == 1

/-- A copy of a frame that goes round the ring by hop count: a GROUP copy or a flooded Ethernet frame (R170, R260). -/
def ringCopy (f : Frame) : Bool := f.ftype == 1 || (f.ftype == 8 && bit f.a 1)

/-- The plan of an ETH frame from the ring: the port it names, or each member port when it is flooded (R260). -/
def State.ethPlan (s : State) (f : Frame) : SwPlan :=
  { cls := f.cls
    outs := ((List.range 2).filter (fun e => s.member e && (bit f.a 1 || f.a % 2 == e))).map (fun e => (3 + e, 0, 0, f)) }

/-- The plan with the class that a route entry gave the frame: it stays with the frame to its end (R150, R153). -/
def SwPlan.withClass (p : SwPlan) : Option Nat → SwPlan
  | none => p
  | some c => { p with cls := c, outs := p.outs.map (fun o => (o.1, o.2.1, o.2.2.1, { o.2.2.2 with cls := c })) }

/-- The plan that a frame's route makes (R168); none where it meets no valid entry or has a reserved type or TIME subtype
(R169, R234, R298). -/
def State.routePlan (s : State) (i : Nat) (x : SwIn) : Option SwPlan :=
  let e := x.epoch.getD (s.get SW_STATUS.live_epoch)
  if i < 2 ∧ x.frame.ftype = 8 then some (s.ethPlan x.frame)
  else if 0xD ≤ x.frame.ftype ∨ (x.frame.ftype = 0xB ∧ 2 < x.frame.a % 256) then none
  else match (if i < 2 then s.ringRoute x.frame else x.route) with
    | .addr => some (s.addrPlan x.frame)
    | .flow n => s.flowPlan i x.frame (n % 1024) e
    | .group g => s.groupPlan i x.frame (g % 256) e
    | .port p sub c => some { cls := c, outs := [(p, subQueue p sub, sub, { x.frame with cls := c })] }

/-- The plan of a frame (R168). -/
def State.plan (s : State) (i : Nat) (x : SwIn) : Option SwPlan := (s.routePlan i x).map (fun p => p.withClass x.cls)

/-! ### Launch times (R319, R320) -/

/-- Node time in 1/256 ns of the 48-bit window. -/
def State.t56 (s : State) : Nat := s.time / 256 % 2 ^ 56

/-- The launch time of a time extension on the primary scale, in 1/256 ns (R308, R319). -/
def State.launchTime (s : State) (e : TimeExt) : Nat :=
  let t : Nat := (256 * e.ns + e.frac) % 2 ^ 56
  if e.scale then
    wrap 56 (Int.ofNat t - sext 64 (s.get TIM_SECOFS_LO.ofs + 2 ^ 32 * s.get TIM_SECOFS_HI.ofs) / 256)
  else t

/-- The egress stamp of a frame that leaves output o now, in 1/256 ns of the 48-bit window (R293, R294, R319). -/
def State.leaves56 (s : State) (o : Nat) : Nat :=
  stamp56 (if o < 2 then s.ringTx else if o = 3 ∨ o = 4 then s.ethTx (o - 3) else s.time)

/-- A copy whose flow asks for a launch hold has come to the head of its queue at output o (R319, R320). -/
def State.launchHead (s : State) (o : Nat) (x : SwCopy) : State × SwCopy :=
  if !x.launch || x.due.isSome then (s, x)
  else match x.frame.ext with
    | some e =>
      if !e.launch then (s.bump TIM_LAUNCHERR1.missing, { x with launch := false })
      else
        let t := s.launchTime e
        if reached 56 (s.leaves56 o) t then (s, { x with due := some t })
        else if 256000000 * max 1 (s.get TIM_LAUNCH.horizon) < (t + 2 ^ 56 - s.t56) % 2 ^ 56 then
          (s.bump TIM_LAUNCHERR.far, { x with launch := false })
        else (s, { x with due := some t, holding := true })
    | none => (s.bump TIM_LAUNCHERR1.missing, { x with launch := false })

/-! ### Admission -/

/-- A copy of frame `id` has left its output or has been dropped (R159). -/
def State.release (s : State) (id : Nat) : State :=
  match SMap.find? s.sw.frames id with
  | none => s
  | some b =>
    let m := if b.copies ≤ 1 then SMap.erase s.sw.frames id else SMap.insert s.sw.frames id { b with copies := b.copies - 1 }
    { s with sw := { s.sw with frames := m } }

/-- A frame of a type that is routed by its destination node, which is absent from the map (R243). -/
def State.absent (s : State) (o : Nat) (f : Frame) : Bool :=
  let n := if f.ftype = 5 then s.compNode f.dst else f.dst
  decide (o < 2) && f.ftype != 1 && decide (f.ftype ≤ 8) && !(decide (n < 64) && s.flag (RING_MAP.present n))

/-- The length of a frame at output o (R330): on an Ethernet port that of the Ethernet frame, or of the one that template `sub` makes of a
record (R171). -/
def State.lenAt (s : State) (o sub : Nat) (f : Frame) : Nat :=
  if o ≠ 3 ∧ o ≠ 4 then frameLen f
  else if f.ftype = 8 then f.payload.length
  else if f.ftype < 2 then max 60 ((if s.get (SW_ETHTPL.word sub 3) % 65536 = 0 then 14 else 18) + f.payload.length) + 4
  else frameLen f

/-- The reason for which output o drops a copy at enqueue, if any (R163, R178, R335): `since` is its entry into this node. -/
def State.enqueueTest (s : State) (o key c : Nat) (f : Frame) (budget since : Nat) (sub : Nat := 0) : Option Nat :=
  if !s.portUp o || s.absent o f then some drDOWN
  else if s.oversize o c (s.lenAt o sub f) then some drOVERSIZE
  else if s.missesDeadline o c (s.lenAt o sub f) since budget (seamExempt f) then some drDEADLINE
  else if s.get (SW_OQCFG.limit o c) < s.queueCells key + frameCells f then some drFULL
  else none

/-- The copy at the head of a queue: a launch hold begins there (R319). -/
def State.headLaunch (s : State) (key : Nat) : State :=
  match s.swQueue key with
  | [] => s
  | x :: rest =>
    let r := s.launchHead (key / 72) x
    r.1.setSwQueue key (r.2 :: rest)

/-- A copy enters its queue: it is marked when the queue held more than its threshold, and it sets CM where it leaves on a
ring, host or cores port (R182). -/
def State.enqueueCopy (s : State) (o u : Nat) (x : SwCopy) : State :=
  let key := queueKey o u x.cls
  let q := s.swQueue key
  let mark := decide (s.get (SW_OQCFG.mark_thr o x.cls) < s.queueCells key)
  let x := if mark && (decide (o < 3) || o == 5) then { x with frame := { x.frame with cm := true } } else x
  let s := if mark then s.bump (SW_OQMARK.marked o x.cls) else s
  let s := s.captureCopy x.frame x.input o x.cls x.epoch 0 x.index x.grouped x.capture
  let s := s.setSwQueue key (q ++ [x])
  if q.isEmpty then s.headLaunch key else s

/-- Store a frame for n copies (R159); SW_FREE keeps the lowest free count. -/
def State.storeFrame (s : State) (cells copies epoch : Nat) (chan : Option Nat := none) : State :=
  let s := { s with sw := { s.sw with
    frames := SMap.insert s.sw.frames s.sw.nextId ⟨cells, copies, epoch, chan⟩, nextId := s.sw.nextId + 1 } }
  s.hw SW_FREE.min_free (min (s.get SW_FREE.min_free) s.freeCells)

/-- A notice of lost copies goes to the source in class 6, or is counted as not admitted (R180). -/
def State.notice (s : State) (i : Nat) (f : Frame) (index cls epoch : Nat) (grouped : Bool)
    (missed : List (Nat × Nat)) : State :=
  let o := if f.src ≠ s.nodeId then s.ringDir f.src else if i = 2 then 2 else 5
  let n : Frame := {
    ftype := 7, cls := 6, dst := f.src, src := s.nodeId
    payload := s.noticeBytes f index cls epoch grouped missed }
  if decide (1 ≤ s.freeCells) && (s.enqueueTest o (queueKey o 0 6) 6 n 0 s.time).isNone then
    let id := s.sw.nextId
    let s := (s.bump SW_NOTICE.sent).storeFrame 1 1 (s.get SW_STATUS.live_epoch)
    s.enqueueCopy o 0 {
      id := id, frame := n, cells := 1, cls := 6, input := i, entered := s.time, epoch := s.get SW_STATUS.live_epoch }
  else s.bump SW_NOTICE.lost

/-- Offer a frame to each output in turn (R179): the state after it, and the copies lost with their reasons. -/
def State.offerCopies (s : State) (i : Nat) (p : SwPlan) (epoch id since : Nat) :
    List (Nat × Nat × Nat × Frame) → State × List (Nat × Nat)
  | [] => (s, [])
  | (o, u, sub, f) :: l =>
    match s.enqueueTest o (queueKey o u p.cls) p.cls f p.budget since sub with
    | some why =>
      let s := ((s.countDrop o p.cls why).answerLost f why o).captureCopy f i o p.cls epoch why p.index p.grouped p.capture
      let r := s.offerCopies i p epoch id since l
      (r.1.release id, (o, why) :: r.2)
    | none =>
      let sh := match p.shaped with
        | some n => let r := s.shape n (s.lenAt o sub f); (r.1, some r.2)
        | none => (s, none)
      (sh.1.enqueueCopy o u {
        id := id, frame := f, cells := frameCells f, cls := p.cls, input := i, entered := since, epoch := epoch
        index := p.index, grouped := p.grouped, ack := p.ack, capture := p.capture, sub := sub, launch := p.launch
        eligible := sh.2 }).offerCopies i p epoch id since l

/-- The one notice of a frame at this node: its copies lost here, and the ring copy lost at a wrap (R180, R243). -/
def State.noticeOf (s : State) (i : Nat) (x : SwIn) (p : SwPlan) (epoch : Nat) (lost missed : List (Nat × Nat)) : State :=
  if (p.ack && !lost.isEmpty) || (x.frame.ack && !missed.isEmpty) then
    s.notice i x.frame p.index p.cls epoch p.grouped (lost ++ missed)
  else s

/-- Every copy of a frame is lost at its outputs before any is enqueued (R162, R177). -/
def State.dropAll (s : State) (i : Nat) (x : SwIn) (p : SwPlan) (epoch why : Nat) (missed : List (Nat × Nat)) : State :=
  let s := p.outs.foldl (fun s out => s.countDrop out.1 p.cls why) s
  let s := s.answerLost x.frame why (p.outs.headD (5, 0, 0, x.frame)).1
  let s := s.captureCopy x.frame i 0xF p.cls epoch why p.index p.grouped p.capture
  s.noticeOf i x p epoch (p.outs.map (fun out => (out.1, why))) missed

/-- A frame of n cells in class c passes the free-cell test (R162). -/
def State.cellTest (s : State) (c n : Nat) : Bool :=
  if 6 ≤ c then decide (n ≤ s.freeCells) else decide (n + s.get SW_BUFCFG.be_floor ≤ s.freeCells)

/-- The sequence number of a flow or group goes on at its source (R234). -/
def State.countFlow (s : State) (i : Nat) (p : SwPlan) : State :=
  if i < 2 ∨ p.outs.all (fun out => decide (2 ≤ out.1)) = true then s
  else
    let next := fun m => SMap.set m p.index ((SMap.getD m p.index 0 + 1) % 2 ^ 32) 0
    { s with sw := if p.grouped then { s.sw with groupSeq := next s.sw.groupSeq }
                   else { s.sw with flowSeq := next s.sw.flowSeq } }

/-- A frame with a plan has passed the free-cell test. -/
def State.enterPools (s : State) (i : Nat) (x : SwIn) (p : SwPlan) (epoch : Nat) (missed : List (Nat × Nat)) : State :=
  let id := s.sw.nextId
  let s := ((s.countFlow i p).noteEntry i p).storeFrame (frameCells x.frame) p.outs.length epoch x.chan
  let r := s.offerCopies i p epoch id (x.since.getD s.time) p.outs
  (if p.outs.isEmpty then r.1.release id else r.1).noticeOf i x p epoch r.2 missed

/-- The flow or group that classifies a frame at input i, and whether it is a group (R168, R184). -/
def State.tableIndex (s : State) (i : Nat) (x : SwIn) : Nat × Bool :=
  match (if i < 2 then s.ringRoute x.frame else x.route) with
  | .flow n => (n % 1024, false)
  | .group g => (g % 256, true)
  | _ => (0, false)

/-- An ingress drop: TOO_LONG or NO_ROUTE (R158, R169); it is captured with its flow or group and its epoch, and with the class of its
plan where it has one (R184). -/
def State.ingressDrop (s : State) (i : Nat) (x : SwIn) (plan : Option SwPlan) (why : Nat) : State :=
  let s := if why = drTOO_LONG then s.bump SW_INGDROP.too_long else s.bump SW_INGDROP.no_route
  let t := s.tableIndex i x
  (s.answerLost x.frame why 5).captureCopy x.frame i 0xF ((plan.map (·.cls)).getD x.frame.cls)
    (x.epoch.getD (s.get SW_STATUS.live_epoch)) why t.1 t.2 (plan.any (·.capture))

/-- A frame with its plan at input i enters, is dropped, or stays held at its input (none) (R158, R162, R169, R177). `missed`: a
GROUP frame's ring copy was lost at a wrap. -/
def State.ingressPlan (s : State) (i : Nat) (x : SwIn) (plan : Option SwPlan) (missed : List (Nat × Nat)) : Option State :=
  let e := x.epoch.getD (s.get SW_STATUS.live_epoch)
  let alone := fun (s : State) =>
    if x.frame.ack && !missed.isEmpty then s.notice i x.frame (x.frame.a % 256) x.frame.cls e true missed else s
  if 9728 < frameLen x.frame then
    let t := s.ingressDrop i x plan drTOO_LONG
    some (match plan with
      | some p => t.noticeOf i x p e (p.outs.map (fun out => (out.1, drTOO_LONG))) missed
      | none => alone t)
  else match plan with
    | none => some (alone (s.ingressDrop i x none drNO_ROUTE))
    | some p =>
      if s.sw.flushing && s.get SW_STATUS.drain_epoch == e then some (s.dropAll i x p e drFLUSH missed)
      else if s.cellTest p.cls (frameCells x.frame) then some (s.enterPools i x p e missed)
      else if i < 2 ∨ i = 3 ∨ i = 4 then some (s.dropAll i x p e drFULL missed)
      else none

/-- A frame at input i is classified and enters, is dropped, or stays held (R168). -/
def State.ingress (s : State) (i : Nat) (x : SwIn) : Option State := s.ingressPlan i x (s.plan i x) []

/-! ### Learning Ethernet addresses (R259) -/

/-- Learn a source address behind (node, port); a full table of 4,096 counts it (R259). -/
def State.learn (s : State) (bs : List Nat) (node port : Nat) : State :=
  let v := ethVlan bs
  let m := ethSrc bs
  let rest := s.ring.macs.filter (fun e => !(e.vlan == v && e.mac == m))
  if 4096 ≤ rest.length then s.bump ETH_BRLEARN.full
  else
    let s := { s with ring := { s.ring with macs := rest ++ [({ vlan := v, mac := m, node := node, port := port, seen := s.now } : MacEntry)] } }
    s.put ETH_BRLEARN.entries s.ring.macs.length

/-- The source address of an ETH frame from the ring is learned behind the node and the port at which it entered (R259). -/
def State.learnRing (s : State) (i : Nat) (f : Frame) : State :=
  if i < 2 ∧ f.ftype = 8 then s.learn f.payload f.src (bits f.a 8 4 - 3) else s

/-- A frame from the ring, or from an Ethernet port: it enters or is dropped. -/
def State.ingressNow (s : State) (i : Nat) (x : SwIn) : State :=
  let s := s.learnRing i x.frame
  (s.ingress i x).getD s

/-- FRAME_INGRESS at input i (R158 to R164, R168 to R182): of a frame that arrives, or of the oldest frame held there, which keeps the
epoch of its lookup while it is held (R174 to R176). -/
def execFrameIngress (i : Fin 10) (x : Option (Frame × SwRoute)) (s : State) : Out :=
  if s.lev.inReset then fin s
  else if i.val < 2 ∨ i.val = 3 ∨ i.val = 4 then
    fin (match x with
      | some (f, r) => s.ingressNow i { frame := f, route := r }
      | none => s)
  else
    let s := match x with
      | some (f, r) => s.toSwitch i { frame := f, route := r }
      | none => s
    match SMap.getD s.sw.held i [] with
    | [] => fin s
    | y :: rest => match s.ingress i y with
      | none =>
        let y := { y with epoch := some (y.epoch.getD (s.get SW_STATUS.live_epoch)) }
        fin { s with sw := { s.sw with held := SMap.set s.sw.held i (y :: rest) [] } }
      | some t => fin { t with sw := { t.sw with held := SMap.set t.sw.held i rest [] } }

/-! ### Copies lost from their queues -/

/-- A queued copy is dropped: counted, answered, captured, and notified for DOWN and FLUSH (R178 to R180). -/
def State.lateDrop (s : State) (o : Nat) (x : SwCopy) (why : Nat) : State :=
  let s := ((s.countDrop o x.cls why).answerLost x.frame why o).captureCopy x.frame x.input o x.cls x.epoch why x.index
    x.grouped x.capture
  let s := s.release x.id
  if x.ack && (why == drDOWN || why == drFLUSH) then s.notice x.input x.frame x.index x.cls x.epoch x.grouped [(o, why)]
  else s

/-- The copy that has come to the head of a queue: one that no longer fits its class's widest window is dropped there, a
launch hold begins (R319, R333). -/
def State.newHead (s : State) (o u c : Nat) : Nat → State
  | 0 => s
  | fuel + 1 =>
    match s.swQueue (queueKey o u c) with
    | [] => s
    | x :: rest =>
      if s.oversize o c (s.lenAt o x.sub x.frame) then
        ((s.setSwQueue (queueKey o u c) rest).lateDrop o x drOVERSIZE).newHead o u c fuel
      else s.headLaunch (queueKey o u c)

/-- Drop the copies of a queue that satisfy p. -/
def State.dropQueued (s : State) (o u c why : Nat) (p : SwCopy → Bool) : State :=
  let q := s.swQueue (queueKey o u c)
  if q.any p then
    let s := s.setSwQueue (queueKey o u c) (q.filter (fun x => !p x))
    let head := q.head?.any p
    let s := if head then s.leaveWheel (queueKey o u c) else s
    let s := (q.filter p).foldl (fun s x => s.lateDrop o x why) s
    if head then s.newHead o u c (q.length + 1) else s
  else s

/-- The keys of the queues that hold copies. -/
def State.liveQueues (s : State) : List Nat := s.sw.queues.map (·.1)

/-- Drop the copies of the outputs that satisfy `out` and of these that satisfy p. -/
def State.dropWhere (s : State) (why : Nat) (out : Nat → Bool) (p : SwCopy → Bool) : State :=
  s.liveQueues.foldl (fun s k => if out (k / 72) then s.dropQueued (k / 72) (k / 8 % 9) (k % 8) why p else s) s

/-- Output o goes down (R178). -/
def State.outputDown (s : State) (o : Nat) : State :=
  (s.zero (SW_OSTAT.up o)).dropWhere drDOWN (fun x => x == o) (fun _ => true)

/-- OUTPUT_DOWN (R178). -/
def execOutputDown (o : Fin 10) (s : State) : Out := fin (if s.portUp o then s.outputDown o else s)

/-! ### Scheduling (R165, R187 to R189, R342) -/

/-- A splice holds local frames other than MGMT and TIME off ring output p (R244, R245). -/
def State.spliceHolds (s : State) (p : Nat) : Bool :=
  s.get RING_SPLICE.east == 2 || s.get RING_SPLICE.west == 2 ||
  s.get (if p = 0 then RING_SPLICE.east else RING_SPLICE.west) == 4 || s.nodeState == nsJOINING || s.ring.left

/-- The link of port p may carry a frame: under a zero salt, and while this node is in JOINING, MGMT and TIME only (R244, R403). -/
def State.linkTakes (s : State) (p : Nat) (f : Frame) : Bool :=
  heldType f || !((s.link p).restricted || s.nodeState == nsJOINING)

/-- Ring output p may start a local frame of class c (R189, R242, R244, R403). -/
def State.ringMay (s : State) (p c : Nat) (f : Frame) : Bool :=
  s.linkTakes (s.wayOut p) f && (c == 7 || (s.fifosFor (s.wayOut p)).all (fun d => decide ((s.transitOf d).bytes + 9728 ≤ 65536))) &&
  (heldType f || !(s.spliceHolds p || (s.wrapAt 0 && s.wrapAt 1)))

/-- The place that a frame for region output o needs is there: a channel's posted line holds 32 (R130, R137). -/
def State.regionRoom (s : State) (o : Nat) (x : SwCopy) : Bool :=
  decide (o < 6) || decide (8 ≤ x.sub) || !(x.frame.ftype == 0 || x.frame.ftype == 1 || x.frame.ftype == 3) ||
    decide ((s.chan (8 * (o - 6) + x.sub)).posted.length < 32)

/-- The head of a queue, if its gate is open, it is eligible and its launch time is reached (R342). -/
def State.openHead (s : State) (o u c : Nat) : Option SwCopy :=
  match s.swQueue (queueKey o u c) with
  | [] => none
  | x :: _ =>
    if s.gateOpen o c s.ns (seamExempt x.frame) && !x.onWheel && !x.holding && s.regionRoom o x &&
        (match x.eligible with
          | some e => decide (e ≤ s.t16)
          | none => true) && (decide (2 ≤ o) || s.ringMay o c x.frame) then some x
    else none

/-- The head of a queue that takes part in selection (R342). -/
def State.takesPart (s : State) (o u c : Nat) : Option SwCopy :=
  (s.openHead o u c).filter (fun x => s.fitsAt o c (s.lenAt o x.sub x.frame) s.time (seamExempt x.frame))

/-- A head whose gate is open but that does not fit is counted once, whatever else holds it (R332). -/
def State.countWaits (s : State) (o : Nat) : State :=
  match gateOf o with
  | none => s
  | some g => (List.range 8).foldl (fun s c =>
      match s.swQueue (queueKey o 0 c) with
      | x :: rest =>
        if x.waited || !s.gateOpen o c s.ns (seamExempt x.frame) ||
            s.fitsAt o c (s.lenAt o x.sub x.frame) s.time (seamExempt x.frame) then s
        else (s.setSwQueue (queueKey o 0 c) ({ x with waited := true } :: rest)).bump (ETH_GWAIT.waits g)
      | [] => s) s

/-- The sub-queues of an output in the order in which class c looks at them. -/
def State.subOrder (s : State) (o c : Nat) : List Nat :=
  if o < 6 then [0]
  else
    let t := SMap.getD s.sw.subTurn (8 * o + c) 0
    (List.range 9).map (fun j => (t + j) % 9)

/-- The sub-queue whose head class c of output o would send. -/
def State.candidate (s : State) (o c : Nat) : Option (Nat × SwCopy) :=
  (s.subOrder o c).findSome? (fun u => (s.takesPart o u c).map (fun x => (u, x)))

/-- The quantum of a class (R165). -/
def State.quantum (s : State) (o c : Nat) : Nat :=
  let w := match c with
    | 0 => s.get (SW_OWGT0.w0 o)
    | 1 => s.get (SW_OWGT0.w1 o)
    | 2 => s.get (SW_OWGT0.w2 o)
    | 3 => s.get (SW_OWGT0.w3 o)
    | 4 => s.get (SW_OWGT1.w4 o)
    | _ => s.get (SW_OWGT1.w5 o)
  256 * max 1 w

/-- Deficit round robin over the classes that take part, each with its head's length: from class 5 − t on, a class whose
deficit covers its head sends; else the turn passes on, and the next class that takes part receives its quantum (R165,
R342). The class chosen, the turn and the deficits. -/
def drr (quantum : Nat → Nat) (part : Nat → Option Nat) : Nat → Nat → (Nat → Nat) → Option (Nat × Nat × List Nat)
  | 0, _, _ => none
  | fuel + 1, t, d =>
    let c := 5 - t % 6
    let t' := (t + 1) % 6
    let c' := 5 - t'
    let pass := drr quantum part fuel t' (fun x => if x = c' ∧ (part c').isSome then d x + quantum c' else d x)
    match part c with
    | some len =>
      if len ≤ d c then some (c, t, (List.range 6).map (fun x => if x = c then d x - len else d x)) else pass
    | none => pass

/-- The queue that output o sends from: class 7, class 6, then deficit round robin (R165). -/
def State.choose (s : State) (o : Nat) : Option (Nat × Nat) × State :=
  match s.candidate o 7 with
  | some (u, _) => (some (u, 7), s)
  | none => match s.candidate o 6 with
    | some (u, _) => (some (u, 6), s)
    | none =>
      let cand := (List.range 6).map (s.candidate o)
      let part := fun c => (cand.getD c none).map (fun e => frameLen e.2.frame)
      match drr (s.quantum o) part 400 (SMap.getD s.sw.turn o 0) (fun c => SMap.getD s.sw.deficit (8 * o + c) 0) with
      | none => (none, s)
      | some (c, t, ds) =>
        let deficit := ds.zipIdx.foldl (fun m e => SMap.set m (8 * o + e.2) e.1 0) s.sw.deficit
        let s := { s with sw := { s.sw with turn := SMap.set s.sw.turn o t 0, deficit := deficit } }
        ((cand.getD c none).map (fun e => (e.1, c)), s)

/-- The Ethernet frame that template t makes of a record (R171). -/
def State.etherFrame (s : State) (t : Nat) (f : Frame) : Frame :=
  let tpl := (List.range 4).flatMap (fun w => leBytes 4 (s.get (SW_ETHTPL.word t w)))
  let tci := (tpl.drop 12).take 2
  let head := tpl.take 12 ++ (if tci = [0, 0] then [] else [0x81, 0x00] ++ tci) ++ (tpl.drop 14).take 2
  let body := head ++ f.payload
  let body := body ++ List.replicate (60 - body.length) 0
  { f with ftype := 8, payload := body ++ leBytes 4 (crc32 body) }

/-- The active head changes word 0 of the map entry of node n where no change of epoch goes with it: its late mark or node state
(R231, R238). -/
def State.patchMap (s : State) (n : Nat) (g : Nat → Nat) : State :=
  let w := g (2 * s.get (RING_MAP.state n) + 64 * s.get (RING_MAP.late n))
  let s := match s.ring.draft with
    | some d =>
      let map : List (Nat × Nat × Nat) := d.2
      { s with ring := { s.ring with draft := some (d.1, map.map (fun (e : Nat × Nat × Nat) => if e.1 = n then (n, g e.2.1, e.2.2) else e)) } }
    | none => s
  s.puts [(RING_MAP.state n, w / 2), (RING_MAP.late n, w / 64)]

/-- The active head marks node n late, or no longer late (R238). -/
def State.lateMark (s : State) (n : Nat) (b : Bool) : State :=
  let t := s.patchMap n (fun w => setBit w 6 b)
  if n = s.nodeId then t.put RING_STATUS.late (b2n b) else t

/-- How far into its slot on port p this node is, where it is in it (R238). -/
def State.slotInto (s : State) (p : Nat) : Option Nat :=
  if s.inSlot p s.ns then some (s.ringPos s.ns - (s.slotOf p).1) else none

/-- This node's slot on port p is answered in time (R238). -/
def State.answerSlot (s : State) (p : Nat) : State :=
  let s := { s with ring := { s.ring with answered := setNth s.ring.answered p true } }
  if s.activeHead then s.lateMark s.nodeId false else s

/-- A ring output sends a local frame: on its own port, or turned at a wrap; a GROUP copy is never turned, and a frame of a link delay
exchange crosses its own link only (R242, R243, R298). A class-7 frame that begins within 1.5 µs of the marker answers this node's slot
(R238). -/
def State.sendRing (s : State) (o : Nat) (x : SwCopy) : State :=
  let p := s.wayOut o
  if p ≠ o ∧ x.frame.ftype = 1 then s.lateDrop o x drDOWN
  else if p ≠ o ∧ isPdelay x.frame = true then
    let s := s.release x.id
    if s.linkUp o then (s.noteRequest o x.frame).giveLink o (s.timeSent o x.frame) else s
  else
    let f := if p = o then x.frame else { x.frame with wrapped := true }
    let f := s.timeSent p f
    let s := ((s.noteRequest o x.frame).crossHeld o (s.timeSent o x.frame)).giveLink p f
    let s := if x.cls = 7 ∧ (s.slotInto o).any (fun t => decide (t ≤ 1500)) = true then s.answerSlot o else s
    { s with sw := { s.sw with sending := SMap.set s.sw.sending p (some { x with frame := f }) none } }

/-- The peer link delay of the Ethernet port at which an ETH frame entered the domain, in 1/256 ns (R316). -/
def State.ingressPeer (s : State) (f : Frame) : State × Nat :=
  if f.src = s.nodeId then (s, s.get (TIM_ETHLINK.peer (f.a / 256 % 8 - 3))) else (s.draw, Config.farPeer s.draws)

/-- A frame leaves an output (R149, R166, R171, R316). -/
def State.sendCopy (s : State) (o : Nat) (x : SwCopy) : State :=
  if o < 2 then s.sendRing o x
  else
    let s := s.release x.id
    if 6 ≤ o ∧ x.sub < 8 ∧ x.frame.ftype < 2 then
      let c := 8 * (o - 6) + x.sub
      s.setChan c { s.chan c with posted := (s.chan c).posted ++ [.record (toTransmit x.frame.payload)] }
    else if (o = 3 ∨ o = 4) ∧ x.frame.ftype < 2 then s.emit (.deliver o x.sub (s.etherFrame x.sub x.frame))
    else if (o = 3 ∨ o = 4) ∧ x.frame.ftype = 8 then
      let r := s.ingressPeer x.frame
      r.1.ptpEgress (o - 3) x.frame r.2
    else s.emit (.deliver o x.sub x.frame)

/-- The READ frame of a window read of this head leaves the switch core: its ring-side timeout runs from now (R273). -/
def State.noteLeaves (s : State) (f : Frame) : State :=
  if f.ftype = 2 ∧ f.src = s.nodeId ∧ frameUnit f = 0x0020 then
    { s with host := { s.host with reads := s.host.reads.map (fun r =>
      if r.tag % 256 = nth f.b 5 then { r with left := some s.now } else r) } }
  else s

/-- Send the head of a queue; a launch more than 8 ns late is counted (R320). -/
def State.sendHead (s : State) (o u c : Nat) : State :=
  match s.swQueue (queueKey o u c) with
  | [] => s
  | x :: rest =>
    let late := x.launch && (match x.due with
      | some t => decide (2048 < (s.leaves56 o + 2 ^ 56 - t) % 2 ^ 56)
      | none => false)
    let s := if late then s.bump TIM_LAUNCHERR.late else s
    let s := s.setSwQueue (queueKey o u c) rest
    let s := { s with sw := { s.sw with subTurn := SMap.set s.sw.subTurn (8 * o + c) ((u + 1) % 9) 0 } }
    ((s.noteLeaves x.frame).sendCopy o x).newHead o u c (rest.length + 1)

/-- A ring port sends a local frame, or mirrored sheets wait on it. -/
def State.occupied (s : State) (p : Nat) : Bool :=
  (SMap.getD s.sw.sending p none).isSome || !(s.link p).mirrors.isEmpty

/-- A ring port is in a frame: it sends one, mirrored sheets wait on it, or a transit frame stands unfinished on it (R188, R209). -/
def State.busy (s : State) (p : Nat) : Bool := s.occupied p || s.halfSent p 2

/-- A ring port is in a frame that is none of transit direction d. -/
def State.busyFor (s : State) (p d : Nat) : Bool :=
  (SMap.getD s.sw.sending p none).isSome || (s.link p).mirrors.any (fun m => m.open_ != some d) || s.halfSent p d

/-- A transit frame received on port d is lost where it is: a non-posted request is answered with NO_NODE by the transit path, which
works in node reset too; the completion goes back the way the request came (R190, R243; log 294). -/
def State.transitLost (s : State) (d : Nat) (f : Frame) : State :=
  if nonPosted f then
    let x := s.transitOf (1 - d)
    s.setTransit (1 - d) { x with fifo := x.fifo ++ [{ frame := s.complFrame f stNO_NODE 0, w0 := 0, queued := true }] }
  else s

/-- A transit frame for ring output o, with the wrap there: turned once; a GROUP copy, a frame that has been turned and one that meets
two wraps are lost (none); a link that is up at the wrap still carries MGMT and TIME (R242 to R244). -/
def State.turned (s : State) (o : Nat) (f : Frame) : Option Frame :=
  if !s.wrapAt o then some f
  else if s.wrapAt (1 - o) then if heldType f && s.heldLink o then some f else none
  else if f.ftype = 1 ∨ f.wrapped = true then none else some { f with wrapped := true }

/-- A transit frame received on port d is lost at the wrap: a GROUP copy is counted and captured (R179, R183, R243). -/
def State.turnLost (s : State) (d : Nat) (f : Frame) : State :=
  let o := 1 - d
  let e := s.get SW_STATUS.live_epoch
  if f.ftype = 1 then
    (s.countDrop o f.cls drDOWN).captureCopy f d o f.cls e drDOWN (f.a % 256) true (bit (s.tableWord e (SW_GRP.word (f.a % 256) 0)) 20)
  else s.transitLost d f

/-- An entry of direction d as it leaves on port q: to the correction of a SYNC the receive delay and its residence are added, and it
carries its egress stamp; a residence that was measured counts at the least (R298, R300). -/
def State.leavesAs (s : State) (d q : Nat) (e : TransitEntry) : Frame :=
  match e.rx with
  | none => e.frame
  | some (t, r) =>
    let tx := max (t + r) s.ringTx
    timeStamped tx q (addCorrection e.frame (s.tim.transitDelay.getD d 0 + ((tx : Int) - t)))

/-- The words of an entry of direction d leave; a frame counts when it ends (R187, R192). -/
def State.forwardEntry (s : State) (d : Nat) (e : TransitEntry) : State :=
  let cross := s.leavesAs d (1 - d) e
  let e := { e with frame := s.leavesAs d (s.wayOut (1 - d)) e }
  let s := if e.bad.isSome then s else s.crossHeld (1 - d) { cross with wrapped := false }
  let s := s.sendTransit (s.wayOut (1 - d)) d e
  if e.bad.isSome then s else s.bumpWrap (SW_TRFWD.frames d)

/-- The oldest transit frame of direction d leaves, or is lost at a wrap made since it came (R180, R187, R208, R242, R243). -/
def State.sendTransitHead (s : State) (d : Nat) : State :=
  match (s.transitOf d).fifo with
  | [] => s
  | e :: rest =>
    let t := s.setTransit d { s.transitOf d with fifo := rest }
    match (s.turned (1 - d) e.frame).filter (s.linkTakes (s.wayOut (1 - d))) with
    | some g => t.forwardEntry d { e with frame := g }
    | none =>
      let f := e.frame
      let t := if e.bad.isSome then t else t.turnLost d f
      if f.ftype = 1 ∧ f.ack = true ∧ e.bad = none then
        t.notice d f (f.a % 256) f.cls (s.get SW_STATUS.live_epoch) true [(1 - d, drDOWN)]
      else t

/-- A ring output that no local frame or waiting sheet occupies (R188, R342): the rest of an unfinished transit frame, then transit
frames for its port, those of its own direction before turned ones, then local frames. -/
def State.selectRing (s : State) (o : Nat) : State :=
  let slot := s.inSlot o s.ns
  let q := s.wayOut o
  match (s.fifosFor q).find? (fun d => !(s.transitOf d).fifo.isEmpty && !s.busyFor q d &&
      (!slot || s.busy q)) with
  | some d => s.sendTransitHead d
  | none =>
    if s.busy q then s
    else match s.choose o with
      | (some (u, c), t) => t.sendHead o u c
      | (none, t) => t

/-- LAUNCH (R319): the launch time of the held head of a queue is reached. -/
def execLaunch (o : Fin 10) (u : Fin 9) (c : Fin 8) (s : State) : Out :=
  match s.swQueue (queueKey o u c) with
  | [] => next s
  | x :: rest =>
    if x.holding && (match x.due with
        | some t => reached 56 (s.leaves56 o) t
        | none => false) then
      next (s.setSwQueue (queueKey o u c) ({ x with holding := false } :: rest))
    else next s

/-! ### Epochs (R173 to R177) -/

/-- Frames that carry the draining epoch, held ones among them; none while no epoch drains (R175). -/
def State.drainCount (s : State) : Nat :=
  let e := s.get SW_STATUS.drain_epoch
  if !s.flag SW_STATUS.draining then 0
  else (s.sw.frames.filter (fun b => b.2.epoch == e)).length +
    (s.sw.held.map (fun h => (h.2.filter (fun x => x.epoch == some e)).length)).sum

/-- Set epochs and flags in SW_STATUS and in every BRG_STATUS (R173). -/
def State.putEpochs (s : State) (live drain draining committing : Nat) : State :=
  let s := s.puts [(SW_STATUS.live_epoch, live), (SW_STATUS.drain_epoch, drain), (SW_STATUS.draining, draining),
    (SW_STATUS.committing, committing)]
  (List.range 4).foldl (fun s r => s.puts [(BRG_STATUS.live_epoch r, live), (BRG_STATUS.drain_epoch r, drain),
    (BRG_STATUS.draining r, draining), (BRG_STATUS.committing r, committing)]) s

/-- The entries below n that a staging map marks. -/
def State.markedIn (s : State) (map : Nat → Fld) (n : Nat) : List Nat := (List.range n).filter (fun i => s.marked map i)

/-- Marked staged entries become live, what they replace becomes the draining version, the map clears (R173). -/
def State.commitTable (s : State) (live stg : Nat → Nat → Fld) (map : Nat → Fld) (n : Nat) : State :=
  let s := (s.markedIn map n).foldl (fun s i => (List.range 4).foldl (fun s w =>
    let s := { s with sw := { s.sw with drainVer := SMap.insert s.sw.drainVer (live i w).addr (s.get (live i w)) } }
    s.put (live i w) (s.get (stg i w))) s) s
  (List.range (n / 32)).foldl (fun s m => s.zero (map m)) s

/-- No entry is marked in any map. -/
def State.noneMarked (s : State) : Bool :=
  (List.range 4).all (fun r => (List.range 32).all (fun m => s.get (BRG_RTSTGMAP.marked r m) == 0)) &&
    (List.range 32).all (fun m => s.get (SW_FLOWMAP.marked m) == 0) &&
    (List.range 8).all (fun m => s.get (SW_GRPMAP.marked m) == 0)

/-- The commit makes every marked entry live (R173). -/
def State.commitAll (s : State) : State :=
  let s := (List.range 4).foldl (fun s r =>
    s.commitTable (BRG_ROUTE.word r) (BRG_ROUTESTG.word r) (BRG_RTSTGMAP.marked r) 1024) s
  let s := s.commitTable SW_FLOW.word SW_FLOWSTG.word SW_FLOWMAP.marked 1024
  let s := s.commitTable SW_GRP.word SW_GRPSTG.word SW_GRPMAP.marked 256
  let live := s.get SW_STATUS.live_epoch
  s.putEpochs ((live + 1) % 256) live 1 1

/-- The held frame carries epoch e. -/
def SwIn.carries (e : Nat) (x : SwIn) : Bool := x.epoch == some e

/-- A flush discards every frame that carries the draining epoch (R177). -/
def State.flushAll (s : State) : State :=
  let e := s.get SW_STATUS.drain_epoch
  let held : List (Nat × List SwIn) := s.sw.held
  let kept := (held.map (fun h => (h.1, h.2.filter (fun x => !x.carries e)))).filter (fun h => !h.2.isEmpty)
  let s := { s with sw := { s.sw with flushing := true, held := kept } }
  let s := held.foldl (fun s h => (h.2.filter (SwIn.carries e)).foldl (fun s x => s.ingressNow h.1 x) s) s
  s.dropWhere drFLUSH (fun _ => true) (fun x => x.epoch == e)

/-- The status of a write of SW_CTL (R173, R177): of two commands that are both turned away, the first status in the order of R13. -/
def State.swStatus (s : State) (w : Nat) : Nat :=
  let commit := if !bit w 0 then stOK else if s.flag SW_STATUS.committing then stBUSY
    else if s.flag SW_STATUS.draining then stSTATE else stOK
  if bit w 1 && !s.flag SW_STATUS.draining then stSTATE else commit

/-- A write of SW_CTL (R173, R177, R192); one that is turned away does nothing (R12). -/
def State.swCtl (s : State) (o : Origin) (w : Nat) : State :=
  if s.foreignCore o then s.done o stAUTH
  else
    let st := s.swStatus w
    let t := s.put SW_STATUS.last_status st
    if st = stSTATE then t.refuse o SW_REFUSED.count
    else if st ≠ stOK then t.done o st
    else
      let t := if bit w 0 && !s.noneMarked then t.commitAll else t
      (if bit w 1 then t.flushAll else t).done o st

/-- COMMIT (R173). -/
def execCommit (o : Origin) (w : Nat) (s : State) : Out := fin (s.swCtl o (withBit w 0))

/-- FLUSH (R177). -/
def execFlush (o : Origin) (w : Nat) (s : State) : Out := fin (s.swCtl o (withBit w 1))

/-- COMMIT_END (R173). -/
def execCommitEnd (s : State) : Out :=
  next (if s.flag SW_STATUS.committing then
    s.putEpochs (s.get SW_STATUS.live_epoch) (s.get SW_STATUS.drain_epoch) (s.get SW_STATUS.draining) 0 else s)

/-- DRAIN_END (R175): with no frame left under it, the draining epoch ends. -/
def execDrainEnd (s : State) : Out :=
  if s.flag SW_STATUS.draining && s.drainCount == 0 then
    let s := { s with sw := { s.sw with drainVer := [], flushing := false } }
    next (s.putEpochs (s.get SW_STATUS.live_epoch) (s.get SW_STATUS.drain_epoch) 0 (s.get SW_STATUS.committing))
  else next s

/-- FLOW_STAGE_WRITE of word w of flow entry i, or of group i of 256 (R155, R173). -/
def execFlowStageWrite (grp : Bool) (i : Fin 1024) (w : Fin 4) (o : Origin) (v : Nat) (s : State) : Out :=
  let f := if grp then SW_GRPSTG.word (i % 256) w else SW_FLOWSTG.word i w
  fin (if s.flag SW_STATUS.committing then s.refuseWrite o SW_REFUSED.count f.addr
    else ((s.put f v).mark (if grp then SW_GRPMAP.marked else SW_FLOWMAP.marked) (if grp then i % 256 else i)).done o stOK)

/-- CAPRD_WRITE (R186). -/
def execCaprdWrite (o : Origin) (v : Nat) (s : State) : Out := next ((s.put SW_CAPRD.rd v).done o stOK)

/-- CAPTURE_RESUME (R185): a write of SW_CAPCFG with stopped = 1. -/
def execCaptureResume (o : Origin) (w : Nat) (s : State) : Out :=
  fin ((s.writeReg o SW_CAPCFG.addr (withBit w 4)).done o stOK)

/-! ### The transit path (R187 to R190) -/

/-- A frame that goes to every node: CYCLE_START, SYNC, and a MGMT frame that carries its source ID in dst (R187, R233). -/
def domainBroadcast (f : Frame) : Bool :=
  (f.ftype == 9 && f.a % 256 == 0) || (f.ftype == 0xB && f.a % 256 == 0) || (f.ftype == 0xA && f.dst == f.src)

/-- The entry of a frame as it arrives: it goes on where the frame that stands unfinished on the outgoing port stopped, and what
stands unfinished after it (R209). -/
def Transit.takeUp (x : Transit) (e : TransitEntry) : TransitEntry × Option (Frame × Nat) :=
  let rest := if x.redo.any (fun r => r.1 == e.frame) then none else x.redo
  let skip := match x.redo with
    | some r => if r.1 = e.frame then r.2 else 0
    | none => 0
  ({ e with skip := skip }, match e.bad with
    | some j => if j = 0 ∨ rest.isSome = true then rest else some (e.frame, max skip j)
    | none => rest)

/-- A frame that goes on: lost at a wrap (R243) or where the link takes no frame of its type (R403), else to an idle output at once,
else into the FIFO, where it waits unturned, also for the wrap of a link that has gone down; to a full FIFO it is ended stomped (R187, R189, R209, R242). -/
def State.forwardOn (s : State) (d : Nat) (e : TransitEntry) : State :=
  let q := s.wayOut (1 - d)
  let s := if e.w0 = 0 then s.closeMirror q d else s
  match (s.turned (1 - d) e.frame).filter (s.linkTakes q) with
  | none => if e.bad.isSome then s else s.turnLost d e.frame
  | some g =>
    let x := s.transitOf d
    let r := x.takeUp e
    if !s.busyFor q d && x.fifo.isEmpty && s.linkUp q then
      ({ s with transit := SMap.set s.transit d { x with redo := r.2 } {} }).forwardEntry d { r.1 with frame := g }
    else if r.1.bytes = 0 then s
    else if 65536 < x.bytes + r.1.bytes then
      ((s.bump (SW_TRDROP.overflow d)).endStomped q).report
        { src := 0x23, master := 3 + d, addr := s.domainAddr (SW_TRDROP.addr d) }
    else s.setTransit d { fifo := x.fifo ++ [{ r.1 with queued := true }], redo := r.2 }

/-- The hop limit of a frame that is forwarded, and its end (R170, R243). -/
def State.transitHop (s : State) (d : Nat) (e : TransitEntry) : State :=
  let f := e.frame
  if f.hops ≤ 1 then
    let s := s.closeMirror (s.wayOut (1 - d)) d
    if e.bad.isSome || ringCopy f || domainBroadcast f then s else s.transitLost d f
  else s.forwardOn d { e with frame := { f with hops := f.hops - 1 } }

/-- The ring copy of a GROUP frame is lost at the wrap behind this node, or at a link that takes no frame of its type (R180, R243, R403). -/
def State.wrapMissed (s : State) (d : Nat) (f : Frame) : List (Nat × Nat) :=
  let goes := (s.turned (1 - d) f).filter (s.linkTakes (s.wayOut (1 - d)))
  if f.ftype = 1 ∧ 1 < f.hops ∧ goes = none then [(1 - d, drDOWN)] else []

/-- This node's copy of a frame on the transit path: a GROUP copy and a domain broadcast enter the switch core, a domain
broadcast and a flooded Ethernet frame reach the units that their types name (R187, R260); in node reset no copy is taken
(R190). -/
def State.takeLocal (s : State) (d : Nat) (f : Frame) (ok : Bool) : State :=
  let x : SwIn := { frame := f, route := .addr }
  if !ok || s.lev.inReset then s
  else if f.ftype = 1 then (s.ingressPlan d x (s.plan d x) (s.wrapMissed d f)).getD s
  else if domainBroadcast f then (s.emit (.received d f)).ingressNow d x
  else if ringCopy f then s.emit (.received d f)
  else s

/-- A frame for this node that meets its node reset (R190). -/
def State.resetTransit (s : State) (d : Nat) (f : Frame) : State :=
  (s.transitLost d f).bump (SW_TRDROP.in_reset d)

/-- TRANSIT_FORWARD (R187 to R190, R208, R209): a ring frame received on port d whose first word is word w0 of its first sheet, and
how its sheets came. The upstream retry brings a frame of which a sheet was not accepted once more, whole. -/
def execTransitForward (d : Fin 2) (f : Frame) (w0 : Fin 32) (x : TransitSheets) (s : State) : Out :=
  let own := domainBroadcast f && f.src == s.nodeId
  let e : TransitEntry := {
    frame := f, w0 := w0, bad := x.bad.map (·.val), more := x.more, rx := if isSync f then some (s.ringRx d 0, 0) else none }
  if own then fin s
  else if ringCopy f || domainBroadcast f then fin ((s.takeLocal d f x.bad.isNone).transitHop d e)
  else if f.dst = s.nodeId ∨ f.ftype = 5 ∧ s.compNode f.dst = s.nodeId then
    fin (if x.bad.isSome then s else if s.lev.inReset then s.resetTransit d f else s.ingressNow d { frame := f, route := .addr })
  else fin (s.transitHop d e)

end Sys2Proof.Machine
end

