-- ==== Sys2Proof/Machine/Link.lean ====
section
/-! DEFINITION. Machine/Link.lean: the Chogen link: sheets sent and received, acknowledgement and replay, keys, training,
lanes, fast idle and link down (R195 to R229). -/

namespace Sys2Proof.Machine

/-! ### Link down (R227) -/

/-- The frame that bytes spell (R233). -/
def parseFrame (bs : List Nat) : Frame :=
  let g := nth bs
  let tx := bit (g 1) 6
  let len := (g 4 + 256 * g 5) % 16384
  { ftype := g 0 % 16, cls := bits (g 0) 4 3, cm := bit (g 0) 7, dst := g 1 % 64, ack := bit (g 1) 7
    src := g 2 % 64, wrapped := bit (g 2) 7, hops := g 3 % 128, a := g 6 + 256 * g 7
    b := (bs.drop 8).take 8
    ext := if tx then some ⟨ofBytes ((bs.drop 16).take 6), g 22, bit (g 23) 0, bit (g 23) 1⟩ else none
    payload := (bs.take len).drop (if tx then 24 else 16) }

/-- A frame crosses this node: a copy that goes on by hop count, or one for another node (R187). -/
def State.crosses (s : State) (f : Frame) : Bool :=
  decide (1 < f.hops) && (if ringCopy f || domainBroadcast f then f.src != s.nodeId || !domainBroadcast f else f.dst != s.nodeId)

/-- The mirrored sheets of the accepted words of a frame received in part, which crosses this node (R208). -/
def partSheets (w0 : Nat) (bs : List Nat) (g : Frame) : List OutSheet :=
  let bs := setNth (setNth bs 2 (nth bs 2 % 128 + 128 * b2n g.wrapped)) 3 g.hops
  (blocksOf 256 40 (List.replicate (8 * w0) 0 ++ bs)).zipIdx.map (fun x => {
    starts := if x.2 = 0 then 2 ^ w0 else 0, cont := x.2 != 0, payload := x.1 })

/-- The retry of a frame received in part on port p will not come: where it crosses this node, what has come of it is on its outgoing
port, if that was free for it, and it is ended stomped there (R201, R208, R211). -/
def State.cutTransit (s : State) (p : Nat) (part : Option (List Nat)) : State :=
  let x := s.transitOf p
  let q := s.wayOut (1 - p)
  let s := if x.redo.isSome then s.setTransit p { x with redo := none } else s
  if x.redo.isSome then s.endStomped q
  else match part.filter (fun bs => s.crosses (parseFrame bs)) with
    | none => s
    | some bs =>
      match (s.turned (1 - p) (parseFrame bs)).filter (s.linkTakes q) with
      | none => s
      | some g =>
        if s.busyFor q p || !x.fifo.isEmpty then s
        else
          let y := s.link q
          let w0 := (s.link p).rxWord
          let ms := addMirrors p w0 y.mirrors (partSheets w0 bs { g with hops := g.hops - 1 })
          ((s.setLink q { y with mirrors := ms }).drainMirrors q 64).endStomped q

/-- What a ring port was sending and receiving is lost: a transit frame received in part is ended stomped on its outgoing port
(R211), a frame in progress on this port is gone, and the session keys with it. -/
def State.linkDrop (s : State) (p : Nat) : State :=
  let x := s.link p
  let s := s.cutTransit p x.rxPart
  let s := (s.fifosFor p).foldl (fun s d =>
    if (s.transitOf d).redo.isSome then s.setTransit d { s.transitOf d with redo := none } else s) s
  let s := match SMap.getD s.sw.sending p none with
    | some y => s.release y.id
    | none => s
  let s := { s with sw := { s.sw with sending := SMap.set s.sw.sending p none none } }
  (s.setLink p { downCmd := x.downCmd, entered := s.now, nakOut := x.nakOut, txCtr := x.txCtr }).dropSessions p

/-- The registers of a port that carries no link. -/
def State.linkIdle (s : State) (p : Nat) : State :=
  let s := s.puts [(RING_LSTAT.lanes p, 0), (RING_LSTAT.degraded p, 0), (RING_LSTAT.spare_ready p, 0),
    (RING_LSTAT.protected p, 0), (RING_LSTAT.key_phase p, 0), (RING_LSTAT.fidle_tx p, 0), (RING_LSTAT.fidle_rx p, 0),
    (RING_LSTAT.version p, 0)]
  (List.range 5).foldl (fun s l => s.puts [(RING_LANE.block_lock p l, 0), (RING_LANE.aligned p l, 0),
    (RING_LANE.in_use p l, 0)]) s

/-- The splice state of port p. -/
def spliceFld (p : Nat) : Fld := if p = 0 then RING_SPLICE.east else RING_SPLICE.west

/-- The port leaves service: its splice state is OPEN (R244), and with no path on either side both ring outputs are down
(R157). -/
def State.linkLeaves (s : State) (p : Nat) : State :=
  let s := ((s.linkDrop p).linkIdle p).put (spliceFld p) 0
  if s.linkUp (1 - p) then s else (s.outputDown 0).outputDown 1

/-- The link of port p is declared down with a reason (R227), fault source 0x31. -/
def State.linkDown (s : State) (p reason : Nat) : State :=
  let s := (s.puts [(RING_LSTAT.state p, lsDOWN), (RING_LSTAT.down_reason p, reason)]).linkLeaves p
  s.report { src := 0x31, master := unitPORT p, addr := s.domainAddr (RING_LSTAT.addr p), extra := reason }

/-- Enter a training state (R217): in DETECT the training blocks begin on all five lanes, in ALIGN the markers are due. -/
def State.trainTo (s : State) (p st : Nat) : State :=
  let x := { s.link p with entered := s.now }
  let x := if st = lsALIGN then { x with amDue := 25 * s.now } else x
  let s := (s.setLink p x).put (RING_LSTAT.state p) st
  if st = lsDETECT then s.emit (.idle p [0, 1, 2, 3, 4] none) else s

/-- How long the port has been in its state, in ns. -/
def State.inState (s : State) (p : Nat) : Nat := s.now - (s.link p).entered

/-- The link enters UP (R203, R217): numbers start again, and a ring output has a path (R157). -/
def State.enterUp (s : State) (p : Nat) : State :=
  let s := s.restartDelay p
  let x := s.link p
  let s := s.setLink p {
    entered := s.now, ackCoal := x.ackCoal, nakOut := x.nakOut, amCount := x.amCount, amDue := x.amDue
    txSalts := x.txSalts, rxSalts := x.rxSalts, restricted := x.restricted }
  s.puts [(RING_LSTAT.state p, lsUP), (SW_OSTAT.up 0, 1), (SW_OSTAT.up 1, 1)]

/-! ### Sending (R197 to R206) -/

/-- Resend sheet q of the replay buffer: stored contents, fresh ack and CRC (R205, R212). -/
def State.resendSheet (s : State) (p q : Nat) : State :=
  let x := s.link p
  match x.replay.find? (fun e => e.sheet.seq == q) with
  | none => s.setLink p { x with resend := none }
  | some e =>
    let y := sealSheet { e.sheet with ack := x.ackField }
    let last := (x.replay.getLastD e).sheet.seq == q
    (s.setLink p { x with
      replay := x.replay.map (fun z => if z.sheet.seq = q then ⟨y, s.now⟩ else z)
      resend := if last then none else some ((q + 1) % 4096) }).launchSheet p y

/-- The local frame on ring port p has been sent whole. -/
def State.sentRing (s : State) (p : Nat) : State :=
  match SMap.getD s.sw.sending p none with
  | none => s
  | some y =>
    let s := s.release y.id
    { s with sw := { s.sw with sending := SMap.set s.sw.sending p none none } }

/-- A new sheet from the frame words that wait (R198). -/
def State.newSheet (s : State) (p : Nat) : State :=
  let x := s.link p
  if x.partial_.isEmpty && x.frames.isEmpty then s
  else
    let r := packSheet 64 [] 0 0 x.partial_ x.frames
    let s := s.setLink p { x with partial_ := r.2.2.1, frames := r.2.2.2 }
    let s := s.sendSheet p r.2.1 (!x.partial_.isEmpty) false false r.1
    if r.2.2.1.isEmpty && r.2.2.2.isEmpty then s.sentRing p else s

/-- The next new sheet (R198, R201, R208, R213): mirrored transit words, what is left of a local frame, link management, a local
frame, or nothing but fill where a frame is to be ended stomped. -/
def State.nextSheet (s : State) (p : Nat) : State :=
  let x := s.link p
  if !x.mirrors.isEmpty then s.drainMirrors p 1
  else if s.maySend p && !x.partial_.isEmpty then s.newSheet p
  else if !x.mgmt.isEmpty then s.drainMgmt p 1
  else if !s.maySend p then s
  else if x.stop && x.frames.isEmpty then s.sendSheet p 0 false false false []
  else s.newSheet p

/-- SHEET_SEND (R197, R203, R205). -/
def execSheetSend (p : Fin 2) (s : State) : Out :=
  if !s.linkActive p || !s.awake p then fin s
  else match (s.link p).resend with
    | some q => fin (s.resendSheet p q)
    | none => fin (if (s.link p).room then s.nextSheet p else s)

/-- The retry limit (R206). -/
def State.retryMax (s : State) (p : Nat) : Nat := max 1 (s.get (RING_LTIMER.retry_max p))

/-- A replay from sheet q: a replay of the same oldest sheet is one more try, and the retry limit takes the link down
(R205, R206). -/
def State.startReplay (s : State) (p q : Nat) : State :=
  let x := s.link p
  if s.retryMax p ≤ x.tries + 1 then (s.bump (RING_ERR1.replays p)).linkDown p 0x3
  else (s.setLink p { x with resend := some q, tries := x.tries + 1 }).bump (RING_ERR1.replays p)

/-- The sheets of the replay buffer up to seq a are acknowledged, where a is one of them (R204). -/
def State.takeAck (s : State) (p a : Nat) : State :=
  let x := s.link p
  if x.replay.any (fun e => e.sheet.seq == a) then
    let rest := (x.replay.dropWhile (fun e => e.sheet.seq != a)).drop 1
    let resend := x.resend.filter (fun q => rest.any (fun e => e.sheet.seq == q))
    s.setLink p { x with replay := rest, resend := resend, tries := 0 }
  else s

/-- ACK_RECEIVE (R205). -/
def execAckReceive (p : Fin 2) (ack nakSeq : Nat) (nak : Bool) (s : State) : Out :=
  if !s.linkActive p then fin s
  else
    let s := s.takeAck p ack
    if !nak then fin s
    else if (s.link p).replay.any (fun e => e.sheet.seq == nakSeq) then
      fin ((s.takeAck p ((nakSeq + 4095) % 4096)).startReplay p nakSeq)
    else fin (s.setLink p { s.link p with nakOut := (s.link p).nakOut + 1 })

/-- REPLAY_TIMEOUT (R206). -/
def execReplayTimeout (p : Fin 2) (s : State) : Out :=
  let us := 100 * max 10 (s.get (RING_LTIMER.replay p))
  match (s.link p).replay with
  | [] => fin s
  | e :: _ => fin (if s.linkActive p && decide (e.at_ + us ≤ s.now) then s.startReplay p e.sheet.seq else s)

/-- ACK_SEND (R204): 100 ns after accepting, or with coalescing at 8 sheets or 200 ns. -/
def execAckSend (p : Fin 2) (s : State) : Out :=
  let x := s.link p
  match x.since with
  | none => next s
  | some t =>
    if s.linkActive p && (decide (t + (if x.ackCoal then 200 else 100) ≤ s.now) || (x.ackCoal && decide (8 ≤ x.unacked))) then
      next ((s.setLink p { x with unacked := 0, since := none }).sendBlock p 0x5A x.ackField)
    else next s

/-! ### Receiving (R198, R201, R204, R205, R210, R215) -/

/-- The length field of a frame's first word. -/
def partLength (bs : List Nat) : Nat := (nth bs 4 + 256 * nth bs 5) % 16384

/-- Take the words of an accepted sheet from word i on: whole frames, and what is left in part (R198). -/
def takeWords (starts : Nat) : Nat → Nat → List Nat → Option (List Nat) → List Frame × Option (List Nat)
  | 0, _, _, part => ([], part)
  | fuel + 1, i, bs, part =>
    if bs.isEmpty then ([], part)
    else
      let w := bs.take 8
      let part := if bit starts i then some w else part.map (· ++ w)
      match part with
      | none => takeWords starts fuel (i + 1) (bs.drop 8) none
      | some q =>
        if partLength q ≤ q.length then
          let r := takeWords starts fuel (i + 1) (bs.drop 8) none
          (parseFrame q :: r.1, r.2)
        else takeWords starts fuel (i + 1) (bs.drop 8) (some q)

/-- The last word of a sheet in which a frame starts. -/
def lastStart (starts : Nat) : Option Nat := (members 32 starts).getLast?

/-- A NAK for the expected sheet, once (R205). -/
def State.sendNak (s : State) (p : Nat) : State :=
  let x := s.link p
  if x.naked = some x.expect then s
  else
    let s := (s.setLink p { x with naked := some x.expect }).bump (RING_ERR1.nak_tx p)
    s.sendBlock p 0x5A (x.ackField + x.expect * 2 ^ 12 + 2 ^ 24)

/-- The counter that the low 20 bits in a sheet stand for (R212, R214). -/
def LinkSt.rxCtrOf (x : LinkSt) (y : Sheet) : Nat :=
  let base := if y.phase = x.rxPhase then x.rxCtr else 0
  base + (y.ctr + 2 ^ 20 - base % 2 ^ 20) % 2 ^ 20

/-- The payload of a sheet, none when its tag does not verify: a protected sheet needs a key that is held for its phase, and an
unprotected one is taken on an unprotected link, or in SECURE (R204, R212, R215, R216). -/
def State.openSheet (s : State) (p : Nat) (y : Sheet) : Option (List Nat) :=
  let x := s.link p
  if !y.prot then
    if !s.flag (RING_LSTAT.protected p) || s.linkState p == lsSECURE then some y.payload else none
  else match s.sessionKey p 1 y.phase true with
    | none => none
    | some k =>
      let iv := sheetIv (SMap.getD x.rxSalts (y.phase % 2) []) (x.rxCtrOf y)
      if (gcmTag k iv (ssBytes y ++ leBytes 2 y.seq) y.payload).take 8 == y.tag then some (gcmCipher k iv y.payload) else none

/-- A sheet whose tag fails: as a CRC failure, and 8 within 1 ms take the link down (R215). -/
def State.tagFailure (s : State) (p : Nat) : State :=
  let fs := ((s.link p).tagFails.filter (fun t => decide (s.now < t + 1000000))) ++ [s.now]
  let s := ((s.setLink p { s.link p with tagFails := fs }).bump (RING_ERR3.tag_fail p)).sendNak p
  if 8 ≤ fs.length then
    (s.linkDown p 0x7).report { src := 0x33, master := unitPORT p, addr := s.domainAddr (RING_LSTAT.addr p) }
  else s

/-- The words of an accepted sheet become frames; a sheet with cont = 0 ends an unfinished frame stomped (R198, R201, R210). A
link-management sheet holds no word of a frame, and in service it opens a rekey where none runs (R213, R214; log 265). -/
def State.sheetWords (s : State) (p : Nat) (y : Sheet) (payload : List Nat) : State :=
  let x := s.link p
  if y.link then (if s.linkUp p && s.flag (RING_LSTAT.protected p) && x.rekey.isNone then s.startRekey p false else s)
  else
    let cut := !y.cont && x.rxPart.isSome
    let s := if cut then (s.bump (RING_ERR3.aborted p)).cutTransit p x.rxPart else s
    let r := takeWords y.starts 40 0 payload (if y.cont then x.rxPart else none)
    let s := s.setLink p { s.link p with rxPart := r.2, rxWord := (lastStart y.starts).getD x.rxWord }
    r.1.foldl (fun s f => s.emit (.received p f)) s

/-- A sheet in a direction that was granted fast idle: the request counts as withdrawn (R225). -/
def State.fidleState' (s : State) (p : Nat) : State :=
  (s.zero (RING_LSTAT.fidle_rx p)).put (RING_LSTAT.state p) (if s.flag (RING_LSTAT.fidle_tx p) then lsFIDLE else lsUP)

/-- A sheet is accepted (R204). -/
def State.acceptSheet (s : State) (p : Nat) (y : Sheet) (payload : List Nat) : State :=
  let x := s.link p
  let fresh := s.flag (RING_LSTAT.protected p) && y.phase != x.rxPhase
  let s := s.setLink p { x with
    expect := (x.expect + 1) % 4096, accepted := some y.seq, naked := none, unacked := x.unacked + 1
    since := some (x.since.getD s.now), rxCtr := if y.prot then x.rxCtrOf y else x.rxCtr
    rxPhase := if fresh then y.phase else x.rxPhase }
  let s := if fresh then s.dropSession p 1 x.rxPhase else s
  let s := if s.flag (RING_LSTAT.fidle_rx p) then s.fidleState' p else s
  ((s.bumpWrap (RING_RXSHEETS.sheets p)).takeAck p y.ack).sheetWords p y payload

/-- A block inside a sheet was bad: anything but AM stands there as an error, an unknown type too (R196, R197). -/
def sheetDamaged (y : Sheet) : Bool := y.blockErr || y.strays.any (fun t => t != 0x69)

/-- The control block types (R196). -/
def controlTypes : List Nat := [0x0F, 0x17, 0x24, 0x3C, 0x5A, 0x69, 0x72, 0x8D, 0x96]

/-- Blocks of unknown type between the sheets before this one are block errors (R196, R229). -/
def State.idleErrors (s : State) (p : Nat) (y : Sheet) : State :=
  s.bumpBy (RING_ERR4.block_err p) (y.idle.filter (fun t => !controlTypes.contains t)).length

/-- The sync header errors met since the sheet before are counted (R229). -/
def State.headerErrors (s : State) (p : Nat) (y : Sheet) : State :=
  y.hdrErr.foldl (fun s l => s.bump (RING_LANE.hdr_err p l)) s

/-- SHEET_RECEIVE (R204, R205, R209, R215). -/
def execSheetReceive (p : Fin 2) (y : Sheet) (s : State) : Out :=
  let good := sheetCrc y
  let s := (s.headerErrors p y).idleErrors p y
  if !(s.linkUp p || (s.linkState p == lsSECURE && y.link)) then fin s
  else if sheetDamaged y then fin ((s.bump (RING_ERR4.block_err p)).sendNak p)
  else if y.stomp && y.crc == good ^^^ 0xFFFFFFFF then fin (s.bump (RING_ERR2.stomp_rx p))
  else if y.stomp || y.crc != good then fin ((s.bump (RING_ERR0.crc p)).sendNak p)
  else if y.seq ≠ (s.link p).expect then fin ((s.bump (RING_ERR0.seq p)).takeAck p y.ack)
  else match s.openSheet p y with
    | none => fin (s.tagFailure p)
    | some payload => fin (s.acceptSheet p y payload)

/-! ### Lanes (R194, R195, R220 to R224) -/

/-- Physical lane j's blocks are taken from the spare: the spare becomes its data lane, and no spare is left (R489, R497). -/
def State.takeSpare (s : State) (p j : Nat) : State :=
  let sp := s.get (RING_LANEMAP.spare p)
  let s := s.restartDelay p
  let s := match s.logicalOf p j with
    | some i => s.put (laneFld p i) sp
    | none => s
  let s := s.takePool (12 + p)
  (s.puts [(RING_LANEMAP.spare p, 7), (RING_LSTAT.spare_ready p, 0), (RING_LANE.in_use p j, 0),
    (RING_LANE.in_use p sp, 1)]).bump (RING_ERR4.lane_sw p)

/-- The lanes that carry AMs, as logical number and physical lane: in training every lane, a data lane under its number of the
lane map in use (log 263); then each data lane in use and the spare, 7 (R195, R217, R220). -/
def State.amLanes (s : State) (p : Nat) : List (Nat × Nat) :=
  if s.linkState p < lsSECURE then
    (List.range 5).map (fun l => (((List.range 4).find? (fun i => s.get (laneFld p i) == l)).getD 7, l))
  else
    let used := (s.lanesUsed p).map (fun i => (i, s.txLane p i))
    let sp := s.get (RING_LANEMAP.spare p)
    used ++ (if sp < 5 ∧ used.all (fun e => e.2 != sp) = true then [(7, sp)] else [])

/-- One round of AMs in one block period: logical lane, physical lane, AM count, unscheduled (R195, R196, R222). -/
def State.amRound (s : State) (p : Nat) (unscheduled : Bool) : State :=
  let n := (s.link p).amCount % 65536
  let s := (s.amLanes p).foldl (fun s l =>
    s.emit (.laneBlock p l.2 0x69 (l.1 + l.2 * 16 + n * 256 + b2n unscheduled * 2 ^ 24))) s
  s.setLink p { s.link p with amCount := (n + 1) % 65536 }

/-- The time of 16,384 blocks and one AM on a lane at 25.78125 Gbaud: 16,385 × 2.56 ns, in 1/25 ns (R193, R195, R200; log 263). -/
def amSpacing : Nat := 16385 * 64

/-- AM_SEND (R195): when the scheduled AMs are due; from the first one on, the blocks of a lane that is to be mirrored leave on the
spare as well (R221). -/
def execAmSend (p : Fin 2) (s : State) : Out :=
  let x := s.link p
  if s.linkState p < lsALIGN ∨ s.linkState p = lsSTOWED ∨ 25 * s.now < x.amDue then next s
  else next ((s.setLink p { x with
    amDue := x.amDue + amSpacing, mirror := x.mirror.map (fun m => { m with on := true }) }).amRound p false)

/-- AM_RECEIVE of lane l (R195, R220): found at its place, which measures the lane's eye margin, or missing; two misses in a row lose
alignment, and the spare is then not ready. -/
def execAmReceive (p : Fin 2) (l : Fin 5) (found : Bool) (s : State) : Out :=
  let x := s.link p
  let m := if found then 0 else nth x.amMissed l + 1
  let s := s.setLink p { x with amMissed := setNth x.amMissed l m }
  if found then next (s.put (RING_LANE.margin p l) (Config.laneMargin p l s.now))
  else if m < 2 then next s
  else
    let s := s.zero (RING_LANE.aligned p l)
    next (if s.get (RING_LANEMAP.spare p) = l.val then s.zero (RING_LSTAT.spare_ready p) else s)

/-- A LANE block (R196). -/
def State.sendLane (s : State) (p cmd j : Nat) (now : Bool) : State :=
  s.sendBlock p 0x96 (cmd + 16 * j + 128 * b2n now)

/-- MIRROR_CONFIRM of lane j (R221): 1,024 blocks match while the lane is mirrored. -/
def execMirrorConfirm (p : Fin 2) (j : Fin 5) (s : State) : Out :=
  let x := s.link p
  match x.mirror with
  | none => next s
  | some m =>
    next (if s.linkUp p && m.j == j.val && m.on && m.confirmed.isNone then
      s.setLink p { x with mirror := some { m with confirmed := some s.now } } else s)

/-- The switch of lane j is complete at both ends: its blocks leave on the spare alone. -/
def LaneMirror.ends (m : LaneMirror) : Option LaneMirror := if m.taken && m.peerTook then none else some m

/-- The receiver may take lane j's blocks from the spare: in the first microsecond of a seam after the mirror is confirmed, or at
once in a switch that does not wait (R221, R222). -/
def State.mayTake (s : State) (m : LaneMirror) : Bool :=
  !m.taken && (m.now || (m.confirmed.isSome && s.inSeam s.ns && decide (s.seamInto ≤ 1000)))

/-- LANE_SWITCHED (R221, R222): this receiver takes lane j's blocks from the spare and says so (no peer lane), or the peer says that it
has: this sender stops driving lane j, which is retired. -/
def execLaneSwitched (e : LaneEnd) (s : State) : Out :=
  let p := e.port
  let x := s.link p
  match x.mirror with
  | none => fin s
  | some m =>
    if !s.linkUp p then fin s
    else match e.peer with
      | none =>
        if !s.mayTake m then fin s
        else
          let left := if m.now then none else { m with taken := true }.ends
          let s := (s.setLink p { x with mirror := left }).takeSpare p m.j
          fin (if m.now then s else s.sendLane p 2 m.j false)
      | some j =>
        if m.j ≠ j.val ∨ m.now = true then fin s
        else fin ((s.setLink p { x with mirror := { m with peerTook := true }.ends }).puts [(RING_LANE.retired p j, 1),
          (RING_LANEMAP.retired p, setBit (s.get (RING_LANEMAP.retired p)) j true)])

/-- MIRROR_TIMEOUT (R221). -/
def execMirrorTimeout (p : Fin 2) (s : State) : Out :=
  let x := s.link p
  match x.mirror with
  | none => next s
  | some m => next (if !m.taken && !m.peerTook && m.confirmed.any (fun t => decide (t + 2000000 ≤ s.now)) then
      s.setLink p { x with mirror := none } else s)

/-- Three lanes carry the link after physical lane j is lost (R223), from a round of unscheduled AMs on. -/
def State.dropLane (s : State) (p j : Nat) : State :=
  let rest := ((s.lanesUsed p).map (fun i => s.get (laneFld p i))).filter (fun l => l != j)
  let s := rest.zipIdx.foldl (fun s e => s.put (laneFld p e.2) e.1) s
  let s := (s.restartDelay p).puts [(RING_LSTAT.degraded p, 1), (RING_LSTAT.lanes p, 3), (RING_LANE.in_use p j, 0)]
  (s.setLink p { s.link p with nextLane := 0, mirror := none }).amRound p true

/-- A lost lane can be put right (R222, R223): a spare is ready, or version 1.1 still has four lanes. -/
def State.laneRemedy (s : State) (p : Nat) : Bool :=
  s.flag (RING_LSTAT.spare_ready p) || (s.get (RING_LSTAT.version p) == 2 && !s.flag (RING_LSTAT.degraded p))

/-- This receiver has lost physical lane j (R222, R223): it asks for the spare at once, drops the lane, or the link goes down. -/
def State.laneLost (s : State) (p j : Nat) : State :=
  let s := s.puts [(RING_LANE.block_lock p j, 0), (RING_LANE.aligned p j, 0)]
  if !s.laneRemedy p then s.linkDown p 0x2
  else if s.flag (RING_LSTAT.spare_ready p) then
    (s.setLink p { s.link p with
      mirror := some { j := j, spare := s.get (RING_LANEMAP.spare p), now := true, asked := true } }).sendLane p 1 j true
  else (s.sendLane p 3 j false).dropLane p j

/-- LANE_LOSS of physical lane j (R222, R223): this receiver loses it; or the peer's LANE mirror with now = 1, from which on this sender
mirrors its blocks onto the spare and then sends a round of unscheduled AMs, until this receiver has switched too (log 292); or the
peer's LANE drop. -/
def execLaneLoss (p : Fin 2) (r : LaneReport) (s : State) : Out :=
  let j := r.lane
  if !s.linkUp p || (s.logicalOf p j).isNone then fin s
  else match r.event with
    | .lost => fin (s.laneLost p j)
    | .mirrorNow =>
      fin (if s.get (RING_LANEMAP.spare p) < 5 then
        (s.setLink p { s.link p with
          mirror := some { j := j, spare := s.get (RING_LANEMAP.spare p), now := true, asked := false, on := true } }).amRound p true
        else s)
    | .drop => fin (if s.flag (RING_LSTAT.degraded p) then s else s.dropLane p j)

/-- SPARE_LANE_LOCK_LOSS (R220). -/
def execSpareLaneLockLoss (p : Fin 2) (s : State) : Out :=
  let l := s.get (RING_LANEMAP.spare p)
  next (if s.linkUp p && decide (l < 5) then
    s.puts [(RING_LSTAT.spare_ready p, 0), (RING_LANE.block_lock p l, 0), (RING_LANE.aligned p l, 0)] else s)

/-- SPARE_LANE_RELOCK (R220). -/
def execSpareLaneRelock (p : Fin 2) (s : State) : Out :=
  let l := s.get (RING_LANEMAP.spare p)
  next (if s.linkUp p && decide (l < 5) then
    s.puts [(RING_LSTAT.spare_ready p, 1), (RING_LANE.block_lock p l, 1), (RING_LANE.aligned p l, 1),
      (RING_LANE.margin p l, Config.laneMargin p l s.now)] else s)

/-! ### Commands (R229) -/

/-- The link commands record a refusal (R229). -/
def State.linkRefuse (s : State) (p : Nat) (o : Origin) : State :=
  (s.put (RING_LSTAT.last_status p) stSTATE).refuse o (RING_LREFUSED.count p)

def State.linkOk (s : State) (p : Nat) (o : Origin) : State := (s.put (RING_LSTAT.last_status p) stOK).done o stOK

/-- Retrain: the port goes to DOWN and from there to DETECT (R217). -/
def State.retrain (s : State) (p : Nat) : State :=
  let s := (s.put (RING_LSTAT.state p) lsDOWN).linkLeaves p
  (s.setLink p { s.link p with downCmd := false }).trainTo p lsDETECT

/-- A planned switch of lane j is asked for, by this end or by the peer (R221). -/
def State.startMirror (s : State) (p j : Nat) (asked : Bool) : State :=
  s.setLink p { s.link p with mirror := some { j := j, spare := s.get (RING_LANEMAP.spare p), now := false, asked := asked } }

/-- This end asks for a planned switch of lane j (R221). -/
def State.laneSwitch (s : State) (p j : Nat) : State := (s.startMirror p j true).sendLane p 1 j false

/-- The wake tone begins on lane 0 (R226). -/
def State.startTone (s : State) (p : Nat) : State :=
  (s.setLink p { s.link p with tone := some s.now }).emit (.laneBlock p 0 0 0xF0)

/-- A write of RING_LCTL: its plain fields, then its commands; last_status is that of the last command (R229). -/
def State.linkCtl (s : State) (p : Nat) (o : Origin) (w : Nat) : State :=
  if s.foreignCore o then s.done o stAUTH
  else
    let bad := (bit w 2 && !(s.flag (RING_LSTAT.spare_ready p) && s.linkState p == lsUP)) ||
      (bit w 3 && !s.flag (RING_LSTAT.protected p)) || (bit w 4 && s.linkState p != lsSTOWED)
    if bad then s.linkRefuse p o
    else
      let s := s.writeReg o (RING_LCTL.addr p) w
      let s := if bit w 0 then s.retrain p else s
      let s := if bit w 1 then
          let s := s.linkDown p 0x1
          s.setLink p { s.link p with downCmd := true }
        else s
      let s := if bit w 2 then s.laneSwitch p (s.get (RING_LCTL.lane p)) else s
      let s := if bit w 3 then s.startRekey p false else s
      let s := if bit w 4 then s.startTone p else s
      if w % 32 = 0 then s.done o stOK else s.linkOk p o

/-- RETRAIN (R217). -/
def execRetrain (p : Fin 2) (o : Origin) (w : Nat) (s : State) : Out := fin (s.linkCtl p o (withBit w 0))

/-- DOWN (R227). -/
def execDown (p : Fin 2) (o : Origin) (w : Nat) (s : State) : Out := fin (s.linkCtl p o (withBit w 1))

/-- LANE_SW (R221): the command of originator o, or none: the peer's LANE mirror of lane w [10:8] asks for the switch. -/
def execLaneSw (p : Fin 2) (o : Option Origin) (w : Nat) (s : State) : Out :=
  match o with
  | some o => fin (s.linkCtl p o (withBit w 2))
  | none => fin (if s.linkUp p && s.flag (RING_LSTAT.spare_ready p) && (s.logicalOf p (bits w 8 3)).isSome then
      s.startMirror p (bits w 8 3) false else s)

/-- REKEY (R214): the command of originator o, or none: the sheet counter has reached 2³¹. -/
def execRekey (p : Fin 2) (o : Option Origin) (w : Nat) (s : State) : Out :=
  match o with
  | some o => fin (s.linkCtl p o (withBit w 3))
  | none => fin (if s.flag (RING_LSTAT.protected p) && decide (2 ^ 31 ≤ (s.link p).txCtr) then s.startRekey p false else s)

/-- REKEY_TIMEOUT (R214). -/
def execRekeyTimeout (p : Fin 2) (s : State) : Out :=
  match (s.link p).rekey with
  | some (t, true) => fin (if t + 1000000 ≤ s.now then s.linkDown p 0x6 else s)
  | _ => fin s

/-- WAKE (R226): the command of originator o, or none: the ring schedule asks for the tone. -/
def execWake (p : Fin 2) (o : Option Origin) (w : Nat) (s : State) : Out :=
  match o with
  | some o => fin (s.linkCtl p o (withBit w 4))
  | none => fin (if s.linkState p = lsSTOWED then s.startTone p else s)

/-- WAKE_TONE_END (R226): the peer's training blocks are detected, after at least 20 µs of tone, or 20 ms have passed. -/
def execWakeToneEnd (p : Fin 2) (trained : Bool) (s : State) : Out :=
  let x := s.link p
  match x.tone with
  | none => next s
  | some t =>
    let s' := s.setLink p { x with tone := none }
    if s.now < t + 20000 then next s
    else if trained then next (if s.linkState p = lsSTOWED then s'.trainTo p lsDETECT else s')
    else next (if t + 20000000 ≤ s.now then s' else s)

/-! ### Training (R217 to R219) -/

/-- DOWN_RETRY (R217). -/
def execDownRetry (p : Fin 2) (s : State) : Out :=
  next (if s.linkState p = lsDOWN ∧ (s.link p).downCmd = false ∧ 1000000 ≤ s.inState p ∧ s.get (RING_LSTAT.down_reason p) ≠ 0 then
    s.trainTo p lsDETECT else s)

/-- SIGNAL_DETECT (R217): the lanes with signal. -/
def execSignalDetect (p : Fin 2) (lanes : Nat) (s : State) : Out :=
  next (if s.linkState p = lsDETECT ∧ 3 ≤ (members 5 lanes).length ∧ s.inState p ≤ 2000000 then
    (s.setLink p { s.link p with signal := lanes % 32 }).trainTo p lsLOCK else s)

/-- BLOCK_LOCK (R217): the lanes that have block lock; each lane with signal needs it. -/
def execBlockLock (p : Fin 2) (lanes : Nat) (s : State) : Out :=
  let sig := (s.link p).signal
  next (if s.linkState p = lsLOCK ∧ (members 5 sig).all (bit lanes) = true ∧ s.inState p ≤ 2000000 then
    ((members 5 lanes).foldl (fun s l => s.put (RING_LANE.block_lock p l) 1) s).trainTo p lsALIGN else s)

/-- The capability word that this end sends (R218). -/
def State.capWord (s : State) (p : Nat) (rxOk : Bool) : Nat :=
  let role := s.get RING_STATUS.role
  s.get (RING_LCTL.versions p) +
    (((List.range 5).map (fun l => s.get (RING_LANE.aligned p l) * 2 ^ (8 + l))).sum) +
    s.get (RING_LCTL.spare_en p) * 2 ^ 13 + s.get (RING_LCTL.prot_sup p) * 2 ^ 14 + s.get (RING_LCTL.prot_req p) * 2 ^ 15 +
    s.get (RING_LCTL.ack_coal p) * 2 ^ 16 + s.nodeId * 2 ^ 24 + p * 2 ^ 30 + b2n (role == 1 || role == 2) * 2 ^ 31 +
    certTag (s.cert 0 5504) * 2 ^ 32 + b2n rxOk * 2 ^ 55

/-- The words of this end and of the peer as held. -/
def State.capLocal (s : State) (p : Nat) : Nat := s.get (RING_CAPLOC0.lo p) + 2 ^ 32 * s.get (RING_CAPLOC1.hi p)
def State.capPeer (s : State) (p : Nat) : Nat := s.get (RING_CAPPEER0.lo p) + 2 ^ 32 * s.get (RING_CAPPEER1.hi p)

/-- The capability word that RING_CAPLOC shows leaves on every aligned lane (R217). -/
def State.repeatCap (s : State) (p : Nat) : State :=
  let w := s.capLocal p
  let s := ((List.range 5).filter (fun l => s.flag (RING_LANE.aligned p l))).foldl (fun s l => s.emit (.laneBlock p l 0x72 w)) s
  s.setLink p { s.link p with capAt := s.now }

/-- Send the capability word (R217, R218). -/
def State.sendCap (s : State) (p : Nat) (rxOk : Bool) : State :=
  let w := s.capWord p rxOk
  (s.puts [(RING_CAPLOC0.lo p, w), (RING_CAPLOC1.hi p, w / 2 ^ 32)]).repeatCap p

/-- One TIMECLK cycle of port p: in CAPX the capability word leaves every 1 µs (R217), and a frame that is to be ended stomped is
ended by the next sheet (R201). -/
def State.linkTick (s : State) (p : Nat) : State :=
  let x := s.link p
  if s.linkState p = lsCAPX then if x.capAt + 1000 ≤ s.now then s.repeatCap p else s
  else if x.stop && s.maySend p && x.room && x.mirrors.isEmpty && x.partial_.isEmpty then s.nextSheet p
  else s

/-- ALIGN_FOUND (R217): AMs on the locked lanes, with the skew between them in ns. -/
def execAlignFound (p : Fin 2) (skew : Nat) (s : State) : Out :=
  next (if s.linkState p = lsALIGN ∧ skew ≤ 160 ∧ s.inState p ≤ 1000000 then
    (((List.range 5).foldl (fun s l => if s.flag (RING_LANE.block_lock p l) then s.put (RING_LANE.aligned p l) 1 else s)
      s).trainTo p lsCAPX).sendCap p false
  else s)

/-- CAP_RECEIVE (R218): the third word alike (rx_ok apart) sets rx_ok in what this end sends. -/
def execCapReceive (p : Fin 2) (w : Nat) (s : State) : Out :=
  if s.linkState p ≠ lsCAPX then next s
  else
    let x := s.link p
    let same := decide (0 < x.alike) && s.capPeer p % 2 ^ 55 == w % 2 ^ 55
    let n := if same then x.alike + 1 else 1
    let s := (s.setLink p { x with alike := n }).puts [(RING_CAPPEER0.lo p, w), (RING_CAPPEER1.hi p, w / 2 ^ 32 % 2 ^ 24)]
    next (if n = 3 then s.sendCap p true else s)

/-- What R219 makes of two words: a failure's reason, or version, data lanes, spare, protection and coalescing. -/
def negotiate (a b : Nat) : Except Nat (Nat × List Nat × Option Nat × Bool × Bool) :=
  let v11 := bit a 1 && bit b 1
  let lanes := (List.range 5).filter (fun l => bit a (8 + l) && bit b (8 + l))
  let req := bit a 15 || bit b 15
  let prot := bit a 14 && bit b 14 && v11 && req
  if bit a 30 == bit b 30 then .error 0x8
  else if !v11 && !(bit a 0 && bit b 0) then .error 0x4
  else if lanes.length < 3 ∨ (lanes.length = 3 ∧ v11 = false) then .error 0x4
  else if req && !prot then .error 0x4
  else .ok (if v11 then 2 else 1, lanes.take 4,
    if bit a 13 && bit b 13 then (lanes.drop 4).head? else none, prot, bit a 16 && bit b 16 && v11)

/-- The outcome of R219 takes effect: the lane map, then SECURE or UP (R217). -/
def State.applyOutcome (s : State) (p version : Nat) (lanes : List Nat) (spare : Option Nat) (prot coal : Bool) : State :=
  let s := lanes.zipIdx.foldl (fun s e => (s.put (laneFld p e.2) e.1).put (RING_LANE.in_use p e.1) 1) s
  let s := s.puts [(RING_LANEMAP.spare p, spare.getD 7), (RING_LSTAT.lanes p, lanes.length),
    (RING_LSTAT.degraded p, b2n (lanes.length == 3)), (RING_LSTAT.spare_ready p, b2n spare.isSome),
    (RING_LSTAT.protected p, b2n prot), (RING_LSTAT.version p, version), (RING_LSTAT.key_phase p, 0),
    (RING_LSTAT.down_reason p, 0)]
  let s := s.setLink p { s.link p with ackCoal := coal }
  if prot then (s.trainTo p lsSECURE).startExchange p else s.enterUp p

/-- NEGOTIATION (R217, R219). -/
def execNegotiation (p : Fin 2) (s : State) : Out :=
  let a := s.capLocal p
  let b := s.capPeer p
  if s.linkState p ≠ lsCAPX ∨ bit a 55 = false ∨ bit b 55 = false ∨ 1000000 < s.inState p then fin s
  else match negotiate a b with
    | .error r =>
      fin ((s.linkDown p r).report
        { src := 0x32, master := unitPORT p, addr := s.domainAddr (RING_LSTAT.addr p), extra := r })
    | .ok (v, lanes, spare, prot, coal) => fin (s.applyOutcome p v lanes spare prot coal)

/-- The time limit of a training state in ns (R217). -/
def trainLimit (st : Nat) : Option Nat := match st with
  | 1 => some 2000000
  | 2 => some 2000000
  | 3 => some 1000000
  | 4 => some 1000000
  | 5 => some 30000000
  | _ => none

/-- TRAINING_TIMEOUT (R217). -/
def execTrainingTimeout (p : Fin 2) (s : State) : Out :=
  match trainLimit (s.linkState p) with
  | some t => fin (if t ≤ s.inState p then s.linkDown p 0x9 else s)
  | none => fin s

/-- SYNC_HEADER_LOSS (R227): no valid sync header on a data lane for 1 µs, where R222 and R223 give no remedy. -/
def execSyncHeaderLoss (p : Fin 2) (s : State) : Out :=
  fin (if s.linkUp p && !s.laneRemedy p then s.linkDown p 0x2 else s)

/-! ### Fast idle (R225) -/

/-- The port is in FIDLE while a direction is idle. -/
def State.fidleState (s : State) (p : Nat) : State :=
  s.put (RING_LSTAT.state p)
    (if s.flag (RING_LSTAT.fidle_tx p) || s.flag (RING_LSTAT.fidle_rx p) then lsFIDLE else lsUP)

/-- Nothing waits to be sent and the replay buffer is empty. -/
def LinkSt.quiet (x : LinkSt) : Bool :=
  x.replay.isEmpty && x.frames.isEmpty && x.partial_.isEmpty && x.mirrors.isEmpty && x.mgmt.isEmpty && !x.stop

/-- FIDLE_REQUEST. -/
def execFidleRequest (p : Fin 2) (s : State) : Out :=
  let x := s.link p
  next (if s.linkUp p && s.flag (RING_LCTL.fidle_en p) && !s.flag (RING_LSTAT.fidle_tx p) && x.quiet then
    (s.setLink p { x with fidleAsked := true }).sendBlock p 0x8D 1 else s)

/-- FIDLE_GRANT: the peer grants this end's request (tx), or this end grants the peer's. -/
def execFidleGrant (p : Fin 2) (tx : Bool) (s : State) : Out :=
  let x := s.link p
  if !s.linkUp p then next s
  else if tx then
    next (if x.fidleAsked && x.quiet then
      ((s.setLink p { x with fidleAsked := false }).put (RING_LSTAT.fidle_tx p) 1).fidleState p else s)
  else next (((s.put (RING_LSTAT.fidle_rx p) 1).sendBlock p 0x8D 2).fidleState p)

/-- FIDLE_BURST: 256 IDLE blocks on each data lane. -/
def execFidleBurst (p : Fin 2) (s : State) : Out :=
  next (if s.flag (RING_LSTAT.fidle_tx p) then
    s.emit (.idle p ((s.lanesUsed p).map (fun i => s.get (laneFld p i))) (some 256)) else s)

/-- FIDLE_EXIT: this end leaves fast idle (tx), or the peer does. -/
def execFidleExit (p : Fin 2) (tx : Bool) (s : State) : Out :=
  if tx then
    next (if s.flag (RING_LSTAT.fidle_tx p) then
      (((s.setLink p { s.link p with exitAt := some s.now }).put (RING_LSTAT.fidle_tx p) 0).sendBlock p 0x8D 4).fidleState p
      else s)
  else next (if s.flag (RING_LSTAT.fidle_rx p) then (s.put (RING_LSTAT.fidle_rx p) 0).fidleState p else s)

end Sys2Proof.Machine
end

