-- ==== Sys2Proof/Machine/Clock.lean ====
section
/-! DEFINITION. Machine/Clock.lean: one TIMECLK cycle with no command: node time goes on, the receivers sample their pads and
outputs that are due reach their pads, a PORTCLK cycle ends at the queues, forced swaps happen and the links send what is due (R49, R75, R113, R114, R201, R217, R291; log 5). -/

namespace Sys2Proof.Machine

/-- A controller of cluster k sends a frame, an ACK or an error flag: its bits come and go with time (R96, R98). -/
def State.frameOnPad (s : State) (k : Nat) : Bool :=
  (List.range 2).any (fun j => (s.can k j).arbitrating || (s.can k j).dominant.any (fun d => decide (s.t125 < d.2)))

/-- The clusters that any command has touched: the others hold no level, edge or output. -/
def State.liveClusters (s : State) : List Nat :=
  (List.range 12).filter (fun k => s.clusters.any (fun e => e.1 == k) || s.frameOnPad k ||
    s.pes.any (fun e => e.1 / 9 == k && (!e.2.untimed.isEmpty || e.2.forceAt.isSome)))

/-- The edges of the frame bits between two ticks (R93, R98). -/
def State.frameEdges (s t : State) (k : Nat) : State :=
  if s.frameOnPad k then
    (List.range 32).foldl (fun r p =>
      if s.padLevel k p == t.padLevel k p then r else r.captureEdge k p (t.padLevel k p) t.t125) t
  else t

/-- One TIMECLK cycle. -/
def State.clockTick (s : State) : State :=
  let ks := s.liveClusters
  let s := ks.foldl (fun s k => s.sampleLevels k) s
  let t := { s with time := s.time + s.tickStep, now := s.now + 1, tim := { s.tim with slew := s.slewLeft }, race := {} }
  let s := ks.foldl (fun r k => s.frameEdges r k) t
  let s := if s.now % 2 = 0 then s.queuesCycle else s
  let s := ks.foldl (fun s k => (List.range 9).foldl (fun s n => (s.applyDue k n).forceDue k n) s) s
  (s.linkTick 0).linkTick 1

end Sys2Proof.Machine
end

