-- ==== Sys2Proof/Machine/Mirror.lean ====
section
/-! DEFINITION. Machine/Mirror.lean: MGMT and MIRROR messages, the newest domain map, and what the active head mirrors to the
standby (R231, R251, R252). A message whose code and layout the spec does not give is named by its kind (Config.mgmtSubtype). -/

namespace Sys2Proof.Machine

/-! ### Messages -/

/-- Kinds of messages. -/
abbrev mkMAP : Nat := 1
abbrev mkJOIN : Nat := 2
abbrev mkADMIT : Nat := 3
abbrev mkSPLICE : Nat := 4
abbrev mkLEAVE : Nat := 5
abbrev mkLEASE : Nat := 6
abbrev mkHEALTH : Nat := 7
abbrev mkLOOP : Nat := 8
abbrev mkHELLO : Nat := 9
abbrev mkUPDATE : Nat := 10
abbrev mkACK : Nat := 11

/-- A MGMT message of a kind to node n (R234). -/
def State.mgmt (s : State) (kind n : Nat) (contents : List Nat) : Frame :=
  { ftype := 0xA, cls := 6, dst := n, src := s.nodeId, a := Config.mgmtSubtype kind, payload := Config.mgmtBytes kind contents }

/-- A MIRROR message to node n (R252). -/
def State.mirrorFrame (s : State) (kind n : Nat) (contents : List Nat) : Frame :=
  { s.mgmt kind n contents with ftype := 0xC }

/-! ### The newest map (R231) -/

/-- The map in use: of each node with an entry, word 0 of RING_MAP and the casting ID. -/
def State.mapNow (s : State) : SMap (Nat × Nat) :=
  (List.range 64).filterMap (fun n =>
    let w0 := s.get (RING_MAP.present n) + 2 * s.get (RING_MAP.state n) + 16 * s.get (RING_MAP.role n) +
      64 * s.get (RING_MAP.late n) + 128 * s.get (RING_MAP.failed_over n) + 256 * s.get (RING_MAP.hops_e n) +
      65536 * s.get (RING_MAP.hops_w n)
    let id := s.get (RING_MAPID.casting_id n)
    if w0 = 0 ∧ id = 0 then none else some (n, (w0, id)))

/-- The newest map that this node holds, and its epoch. -/
def State.newest (s : State) : Nat × SMap (Nat × Nat) :=
  match s.ring.draft with
  | some d => d
  | none => (s.get RING_MAPEPOCH.epoch, s.mapNow)

/-! ### The mirror (R251, R252) -/

/-- The standby of the map. -/
def State.mapStandby (s : State) : Option Nat :=
  (List.range 64).find? (fun n => s.flag (RING_MAP.present n) && s.get (RING_MAP.role n) == 2)

/-- The slots of this head that have open requests. -/
def State.openSlots (s : State) : List Nat := (s.host.slots.filter (fun e => e.2.due.isSome)).map (·.1)

/-- What this head mirrors (R251). -/
def State.mirrorRec (s : State) (handover : Bool) : MirrorRec :=
  let d := s.newest
  { epoch := d.1, map := d.2.map (fun x => (x.1, x.2.1, x.2.2)), nodes := s.ring.castIds, cycle := s.get RING_CYCNUM.cycle
    steer := s.tim.steer, servo := s.readWord TIM_STATUS.addr % 64, bouquets := (s.get SW_STATUS.live_epoch, s.get SW_STATUS.drain_epoch), slots := s.openSlots
    reads := s.host.reads.map (fun r => (r.tag, r.addr, r.size)), lag := s.get RING_MIRROR.lag, handover := handover }

/-- The contents of a MIRROR update. -/
def mirrorWords (r : MirrorRec) : List Nat :=
  r.slots ++ r.reads.flatMap (fun x => [x.1, x.2.1, x.2.2]) ++ r.nodes.flatMap (fun x => [x.1, x.2]) ++
    [r.epoch, r.cycle, wrap 64 r.steer, r.servo, r.bouquets.1, r.bouquets.2, r.lag, b2n r.handover] ++
    r.map.flatMap (fun x => [x.1, x.2.1, x.2.2])

/-- Send the standby a MIRROR update, with the entries of `held` requests that wait for it; `handover` releases the grant with it
(R252, R256). Version 1.0 acknowledges none: its lag is counted from the last one. -/
def State.mirrorOut (s : State) (handover : Bool) (held : Nat := 0) : State :=
  match s.mapStandby with
  | none => s
  | some n =>
    let before := if s.get RING_MIRROR.version = 0x11 then s.ring.updates else []
    let s := { s with ring := { s.ring with updates := before ++ [(0, held)] } }
    s.toRing (s.mirrorFrame mkUPDATE n (mirrorWords (s.mirrorRec handover)))

/-- A MIRROR update of what this head mirrors. -/
def State.mirrorSend (s : State) : State := s.mirrorOut false

/-- A non-posted request to another node waits until the standby has acknowledged its entry: mirror version 1.1 (R252). -/
def State.mirrorHolds (s : State) (f : Frame) : Bool :=
  nonPosted f && f.dst != s.nodeId && s.activeHead && s.get RING_MIRROR.version == 0x11 && s.mapStandby.isSome

/-- A request of the host interface enters the switch core, or waits for the mirror (R252, R272). -/
def State.hostRequest (s : State) (f : Frame) : State :=
  if s.mirrorHolds f then ({ s with ring := { s.ring with heldReqs := s.ring.heldReqs ++ [f] } }).mirrorOut false 1
  else s.toSwitch 2 { frame := f, route := .addr }

/-- The first n requests that waited for the mirror enter the switch core (R252). -/
def State.sendHeldReqs (s : State) (n : Nat) : State :=
  (s.ring.heldReqs.take n).foldl (fun s f => s.toSwitch 2 { frame := f, route := .addr })
    { s with ring := { s.ring with heldReqs := s.ring.heldReqs.drop n } }

/-- The lag in version 1.1: the cycles since the oldest update that is not acknowledged (R252). -/
def State.putLag (s : State) : State := s.put RING_MIRROR.lag (min ((s.ring.updates.headD (0, 0)).1) 0xFFFF)

/-- The oldest update is acknowledged: the requests whose entries it held go on (R252). -/
def State.updateAcked (s : State) : State :=
  match s.ring.updates with
  | [] => s
  | u :: us => (({ s with ring := { s.ring with updates := us } }).putLag).sendHeldReqs u.2

end Sys2Proof.Machine
end

