-- ==== Sys2Proof/Machine/Host.lean ====
section
/-! DEFINITION. Machine/Host.lean: the head's host interface: window accesses, transaction slots, host rings, the version
handshake and PCIe resets (R263 to R281). -/

namespace Sys2Proof.Machine

/-- The role of this node changes: RING_STATUS and HOST_STAT show it, and a head sends vector 2 (R279, R286). -/
def State.setRole (s : State) (r : Nat) : State :=
  if s.get RING_STATUS.role = r then s
  else
    let s := s.put RING_STATUS.role r
    if s.isHead then (s.puts [(HOST_STAT.active, b2n (r == 1)), (HOST_STAT.standby, b2n (r == 2))]).roleVector else s

/-- This node's state permits host access to a domain address (R35): none in BOOT and JOINING; in TAMPERED and in a pause
what serves the commands of the host mailbox, which are its registers and in TAMPERED the bulk RAM that holds their blobs
(log 234). -/
def State.statePermits (s : State) (addr : Nat) : Bool :=
  let ofs := addr % 2 ^ 28
  let mailbox := decide (NODE_CMD.addr 1 ≤ ofs) && decide (ofs < NODE_CMD.addr 2)
  let st := s.nodeState
  if st = nsBOOT ∨ st = nsJOINING then false
  else if st = nsTAMPERED then mailbox || inBulk ofs 1
  else if st = nsUPDATING ∧ s.flag NODE_STATE.pause then mailbox
  else true

/-- The host reaches a domain address: an active head with an agreed interface version, in a state that permits it (R35, R274). -/
def State.hostOpen (s : State) (addr : Nat) : Bool :=
  s.isHead && s.activeHead && s.get HOST_IF_VERSION.agreed != 0 && s.statePermits addr

/-- Byte 13 and bytes 14 to 15 of a request's header, after its domain address (R234). -/
def requestB (addr tag unit : Nat) : List Nat := leBytes 5 addr ++ [tag % 256] ++ leBytes 2 unit

/-- A request of the head enters the switch core at the host port (R272). -/
def State.sendRequest (s : State) (ftype addr size tag unit : Nat) (data : List Nat) : State :=
  let f : Frame := {
    ftype := ftype, cls := s.get SW_BUFCFG.addr_class, dst := addr / 2 ^ 28 % 64, src := s.nodeId
    a := if ftype = 2 then Nat.log2 size else 0, b := requestB addr tag unit, payload := data }
  s.hostRequest f

/-- The greatest power of two, up to `cap`, to which a is aligned and which n bytes hold. -/
def alignedPiece (cap a n : Nat) : Nat :=
  ((List.range 13).map (fun i => 2 ^ i)).foldl (fun r p => if p ≤ cap ∧ p ≤ n ∧ a % p = 0 then p else r) 1

/-- An offset of the NODE or the CRU block (R268, R402). -/
def relayOfs (ofs : Nat) : Bool := ofs % 4 == 0 && (decide (ofs < 0x10000) || (decide (0x30000 ≤ ofs) && decide (ofs < 0x40000)))

/-- The head reaches a node that has not been admitted by mailbox relay: 4-byte accesses to its NODE and CRU blocks (R402). Such a node
is one that the map shows in JOINING or TAMPERED (log 305); an absent one answers NO_NODE. -/
def State.relays (s : State) (addr n : Nat) : Bool :=
  let x := addr / 2 ^ 28
  x != s.nodeId && s.flag (RING_MAP.present x) &&
    (s.get (RING_MAP.state x) == nsJOINING || s.get (RING_MAP.state x) == nsTAMPERED) && n == 4 && relayOfs (addr % 2 ^ 28)

/-- The kinds of a mailbox relay message. -/
abbrev mrREAD : Nat := 0
abbrev mrWRITE : Nat := 1
abbrev mrANSWER : Nat := 2

/-- A MGMT frame of subtype 0x20, the mailbox relay (R402), to a node: offset, tag, kind, status and data (log 305). -/
def State.relayFrame (s : State) (node ofs tag kind status : Nat) (data : List Nat) : Frame :=
  { ftype := 0xA, cls := 6, dst := node, src := s.nodeId, a := 0x20
    b := leBytes 4 ofs ++ [tag % 256, kind, status, 0], payload := data }

/-- The next READ frame of a window read (R234), or its mailbox relay (R402). Its timeout runs from when it leaves the switch core
(R273). -/
def State.sendRead (s : State) (r : WinRead) : State :=
  let a := r.addr + r.data.length
  if s.relays a r.size then s.toRing (s.relayFrame (a / 2 ^ 28) (a % 2 ^ 28) r.tag mrREAD 0 [])
  else s.sendRequest 2 a (alignedPiece 4096 a (r.size - r.data.length)) r.tag 0x0020 []

/-- The offset lies in a burst view or in bulk RAM: reads up to 4,096 bytes (R271). -/
def longReads (ofs : Nat) : Bool :=
  (decide (0x8000000 ≤ ofs) && decide (ofs < 0x8600000)) || (decide (0xC000000 ≤ ofs) && decide (ofs < 0xC200000))

/-- A window read ends in a Completer Abort with an error log entry (R273), which AER reports too (R265). -/
def State.readAborts (s : State) (tag addr status detail idx : Nat) : State :=
  ((s.aerError aerABORT).emit (.completion tag true [])).errLog status detail idx false none addr

/-- A read of a burst view is a multiple of 8 bytes and 8-byte aligned (R269). -/
def burstLegal (ofs size : Nat) : Bool :=
  !(decide (0x8000000 ≤ ofs) && decide (ofs < 0x8600000)) || (size % 8 == 0 && ofs % 8 == 0)

/-- HOST_READ (R6, R269, R271 to R274): a register takes 32-bit aligned reads only. -/
def execHostRead (tag addr size : Nat) (s : State) : Out :=
  let ofs := addr % 2 ^ 28
  let legal := readLegal ofs size && burstLegal ofs size &&
    (((size == 1 || size == 2 || size == 4 || size == 8) && addr % size == 0) ||
    (longReads ofs && decide (1 ≤ size) && decide (size ≤ 4096)))
  if !s.isHead || !s.host.linkUp || decide (2 ^ 34 ≤ addr) then next s
  else if !legal then next (s.readAborts tag addr stILLEGAL 0 0)
  else if !s.hostOpen addr then next (s.readAborts tag addr stSTATE 0 0)
  else
    let r : WinRead := { tag := tag, addr := addr, size := size, data := [], recv := s.now }
    next (({ s with host := { s.host with reads := s.host.reads ++ [r] } }).sendRead r)

/-- The WRITE frames of a host write, in ascending order (R271). -/
def writePieces (cap : Nat) : Nat → Nat → List Nat → List (Nat × List Nat)
  | 0, _, _ => []
  | fuel + 1, a, bs =>
    if bs.isEmpty then []
    else
      let n := alignedPiece cap a bs.length
      (a, bs.take n) :: writePieces cap fuel (a + n) (bs.drop n)

/-- HOST_WRITE (R271 to R274): one longer than Max_Payload_Size is a Malformed TLP, which is discarded and reported through AER only. -/
def execHostWrite (addr : Nat) (data : List Nat) (s : State) : Out :=
  let ofs := addr % 2 ^ 28
  let n := addr / 2 ^ 28
  let window := decide (0x3000000 ≤ ofs) && decide (ofs < 0x5000000)
  if !s.isHead || !s.host.linkUp || decide (2 ^ 34 ≤ addr) then next s
  else if s.host.mps < data.length then next (s.aerError aerMALFORMED)
  else if !s.hostOpen addr then next ((s.errLog stSTATE 0 0 true none addr).bump HOST_DROP.inactive)
  else if s.relays addr data.length then next (s.toRing (s.relayFrame n ofs 0 mrWRITE 0 data))
  else if n ≠ s.nodeId ∧ s.flag (RING_MAP.present n) = false then
    next ((s.errLog stNO_NODE 0 0 true none addr).bump HOST_DROP.inactive)
  else next ((writePieces (if window then 8 else 4096) 600 addr data).foldl (fun s p =>
    s.sendRequest 3 p.1 p.2.length 0 0x0020 p.2) s)

/-- A former head that has completed its open window reads becomes standby (R256). -/
def State.readsDone (s : State) : State :=
  if s.ring.handing && s.host.reads.isEmpty then ({ s with ring := { s.ring with handing := false } }).setRole 2 else s

/-- Take the window read with this PCIe tag out of the open reads. -/
def State.closeRead (s : State) (r : WinRead) : State :=
  ({ s with host := { s.host with reads := s.host.reads.erase r } }).readsDone

/-- A COMPL for a window read: OK brings its bytes, and the next frame or the completion; any other status aborts it (R273). -/
def State.complRead (s : State) (r : WinRead) (f : Frame) : State :=
  let status := f.a % 256
  if status ≠ stOK then (s.closeRead r).readAborts r.tag r.addr status (bits f.a 8 8) (nth f.b 0 % 8)
  else
    let r' := { r with data := (r.data ++ f.payload).take r.size, left := none }
    if f.payload.isEmpty ∨ r.size ≤ r'.data.length then
      (s.closeRead r).emit (.completion r.tag false ((r'.data ++ List.replicate r.size 0).take r.size))
    else
      ({ s with host := { s.host with reads := s.host.reads.map (fun x => if x = r then r' else x) } }).sendRead r'

/-- COMPL_RECEIVE (R273): a COMPL for unit 0x0020; one that no open read waits for is late. -/
def execComplReceive (f : Frame) (s : State) : Out :=
  if !s.isHead || f.ftype != 5 || frameUnit f != 0x0020 then next s
  else match s.host.reads.find? (fun r => r.tag % 256 == nth f.b 5) with
    | some r => next (s.complRead r f)
    | none => next (s.bump HOST_DROP.late)

/-- HOST_READ_TIMEOUT of the oldest open read whose time is over (R273). -/
def execHostReadTimeout (s : State) : Out :=
  match s.host.reads.find? (fun r => decide (r.due ≤ s.now)) with
  | none => next s
  | some r => next ((s.closeRead r).readAborts r.tag r.addr stTIMEOUT 0 0)

/-! ### Transaction slots (R275 to R277) -/

def State.slot (s : State) (n : Nat) : Slot := SMap.getD s.host.slots n {}
def State.setSlot (s : State) (n : Nat) (x : Slot) : State :=
  { s with host := { s.host with slots := SMap.set s.host.slots n x {} } }

/-- Slot n's open request: the instant its timeout runs out. -/
def State.slotDue (s : State) (n : Nat) : Option Nat := (s.slot n).due

/-- The domain address in a slot's registers. -/
def State.slotAddr (s : State) (n : Nat) : Nat := s.get (HOST_TS_ADDR_LO.addr_ n) + 2 ^ 32 * s.get (HOST_TS_ADDR_HI.addr_ n)

/-- A slot's request completes (R276): the result, then VALID, then vector 1; a status other than OK makes an error log entry
(R287, log 64). -/
def State.slotResult (s : State) (n status detail idx data : Nat) : State :=
  let x := s.slot n
  let s := (s.setSlot n { doneAt := some s.now }).puts [(HOST_TS_RESULT.status n, status), (HOST_TS_RESULT.detail n, detail),
    (HOST_TS_RESULT.index n, idx), (HOST_TS_RDATA_LO.data n, data), (HOST_TS_RDATA_HI.data n, data / 2 ^ 32),
    (HOST_TS_RESULT.valid n, 1)]
  let s := if s.flag (HOST_TS_CMD.irq n) then s.vector 1 else s
  if status = stOK then s else s.errLog status detail idx x.write (some n) x.addr

/-- An issue that is accepted (R275): the next seq, the result cleared, the request sent. An address beyond 34 bits completes
with RANGE (R267). -/
def State.slotIssue (s : State) (n : Nat) : State :=
  let a := s.slotAddr n
  let size := 2 ^ s.get (HOST_TS_CMD.size n)
  let s := (s.bumpWrap (HOST_TS_RESULT.seq n)).puts [(HOST_TS_RESULT.valid n, 0), (HOST_TS_RESULT.status n, 0),
    (HOST_TS_RESULT.detail n, 0), (HOST_TS_RESULT.index n, 0), (HOST_TS_RDATA_LO.data n, 0), (HOST_TS_RDATA_HI.data n, 0),
    (HOST_TS_CMD.issue_status n, stOK)]
  let s := s.setSlot n {
    due := some (s.now + 1000000 * max 1 (s.get HOST_TSTIMEOUT.ms)), addr := a, write := s.get (HOST_TS_CMD.op n) == 2 }
  if 2 ^ 34 ≤ a then s.slotResult n stRANGE 0 0 0
  else
    if s.get (HOST_TS_CMD.op n) = 1 then s.sendRequest 2 a size n 0x0021 []
    else s.sendRequest 4 a size n 0x0021
      (leBytes size (s.get (HOST_TS_WDATA_LO.data n) + 2 ^ 32 * s.get (HOST_TS_WDATA_HI.data n)))

/-- TS_ISSUE: a write of HOST_TS_CMD with issue = 1 (R275); only a head has the HOST block (R263). -/
def execTsIssue (n : Fin 256) (o : Origin) (w : Nat) (s : State) : Out :=
  let t := s.writeReg o (HOST_TS_CMD.addr n) w
  let op := t.get (HOST_TS_CMD.op n)
  let sz := t.get (HOST_TS_CMD.size n)
  let status := fun (s : State) c => s.put (HOST_TS_CMD.issue_status n) c
  if !s.isHead then fin (s.addrFault o (HOST_TS_CMD.addr n) 2)
  else if (op ≠ 1 ∧ op ≠ 2) ∨ 3 < sz ∨ s.slotAddr n % 2 ^ sz ≠ 0 then fin ((status s stILLEGAL).done o stOK)
  else if !s.hostOpen (s.slotAddr n) then fin (((status s stSTATE).bump HOST_REFUSED.count).done o stOK)
  else if (s.slotDue n).isSome then fin ((status s stBUSY).done o stOK)
  else fin ((t.slotIssue n).done o stOK)

/-- TS_RESULT (R276): a COMPL for unit 0x0021; the tag names the slot; one for a slot with no open request is late (R275). -/
def execTsResult (f : Frame) (s : State) : Out :=
  let n := nth f.b 5
  if !s.isHead || f.ftype != 5 || frameUnit f != 0x0021 || decide (256 ≤ n) then next s
  else if (s.slotDue n).isNone then next (s.bump HOST_DROP.late)
  else next (s.slotResult n (f.a % 256) (bits f.a 8 8) (nth f.b 0 % 8) (ofBytes (f.payload.take 8)))

/-- TS_TIMEOUT (R275). -/
def execTsTimeout (n : Fin 256) (s : State) : Out :=
  match s.slotDue n with
  | none => next s
  | some t => next (if t ≤ s.now then s.slotResult n stTIMEOUT 0 0 0 else s)

/-- Every open request of this node to a node that the map does not show completes with NO_NODE: window reads, slots and the
accesses of target-role channels (R245). -/
def State.failAbsent (s : State) : State :=
  let gone := fun (s : State) (a : Nat) => a / 2 ^ 28 != s.nodeId && !s.flag (RING_MAP.present (a / 2 ^ 28))
  let s := (s.host.reads.filter (fun r => gone s r.addr)).foldl (fun s r =>
    (s.closeRead r).readAborts r.tag r.addr stNO_NODE 0 0) s
  let s := (s.host.slots.map (·.1)).foldl (fun s n =>
    if (s.slotDue n).isSome && gone s (s.slot n).addr then s.slotResult n stNO_NODE 0 0 0 else s) s
  (s.chans.map (·.1)).foldl (fun s c => s.targetsGone c) s

/-! ### Host rings (R278, R279) -/

/-- The input of this node at which a frame entered that is now at the host port (R180): where an acknowledged one of its flow or group
last did. -/
def State.enteredAt (s : State) (f : Frame) (idx : Nat) : Nat :=
  if SMap.getD s.sw.fromHost (noticeKey (f.ftype == 1) s.nodeId idx) 0 = 1 then 2 else 5

/-- RQ_WRITE of a frame for host receive queue j: one that finds the ring full is dropped with reason FULL, counted at its output and
notified (R178 to R180, R278). -/
def execRqWrite (j : Fin 64) (f : Frame) (idx : Nat) (s : State) : Out :=
  let t := s.rqEnter j f idx
  if s.rqOpen j then fin t
  else
    let t := t.countDrop 2 f.cls drFULL
    fin (if f.ack then
      t.notice (s.enteredAt f idx) f idx f.cls (s.get SW_STATUS.live_epoch) (f.ftype == 1) [(2, drFULL)] else t)

/-- EVQ_WRITE of an event message with its vector (R278). -/
def execEvqWrite (vec : Nat) (msg : List Nat) (s : State) : Out := next (s.evqEnter (vec % 256) msg)

/-- RQ_MODERATION (R279). -/
def execRqModeration (j : Fin 64) (s : State) : Out := next (s.rqAnnounce j)

/-! ### Version handshake and PCIe resets (R280, R281) -/

/-- IF_VERSION_WRITE (R263, R280). -/
def execIfVersionWrite (o : Origin) (w : Nat) (s : State) : Out :=
  let open_ := !s.host.reads.isEmpty || s.host.slots.any (fun e => e.2.due.isSome)
  if !s.isHead then next (s.addrFault o HOST_IF_VERSION.addr 2)
  else if open_ then next (((s.put HOST_IF_VERSION.status stSTATE).bump HOST_REFUSED.count).done o stOK)
  else
    let v := if bit w 1 then 0x11 else if bit w 0 then 0x10 else 0
    next ((s.puts [(HOST_IF_VERSION.offered, w), (HOST_IF_VERSION.agreed, v),
      (HOST_IF_VERSION.status, if v = 0 then stRANGE else stOK)]).done o stOK)

/-- What an FLR or link loss clears (R281): of a slot, all its registers. -/
def State.flrClear (s : State) : State :=
  let s := s.put HOST_IF_VERSION.agreed 0
  let s := ({ s with host := { s.host with reads := [], slots := [], fnMask := false } }).readsDone
  let s := (List.range 256).foldl (fun s n => s.puts [(HOST_TS_RESULT.valid n, 0), (HOST_TS_RESULT.index n, 0),
    (HOST_TS_RESULT.status n, 0), (HOST_TS_RESULT.detail n, 0), (HOST_TS_RDATA_LO.data n, 0), (HOST_TS_RDATA_HI.data n, 0),
    (HOST_TS_RESULT.seq n, 0), (HOST_TS_CMD.op n, 0), (HOST_TS_CMD.size n, 0), (HOST_TS_CMD.irq n, 0),
    (HOST_TS_CMD.issue_status n, 0), (HOST_TS_ADDR_LO.addr_ n, 0), (HOST_TS_ADDR_HI.addr_ n, 0), (HOST_TS_WDATA_LO.data n, 0),
    (HOST_TS_WDATA_HI.data n, 0)]) s
  let s := (List.range 64).foldl (fun s j => s.put (HOST_RQ_CFG.en j) 0) s
  let s := s.put HOST_EVQ_CFG.en 0
  (List.range 256).foldl (fun s v => (List.range 4).foldl (fun s w => s.zero (MSIX_TABLE.word v w)) s) s

/-- FLR (R281): a function-level reset, or (linkLost) a hot reset, link loss or PERST_N, which also takes switch port 2 down. -/
def execFlr (linkLost : Bool) (s : State) : Out :=
  if !s.isHead then fin s
  else
    let s := s.flrClear
    if linkLost then
      let s := { s with host := { s.host with linkUp := false } }
      fin ((s.puts [(HOST_STAT.gen, 0), (HOST_STAT.width, 0)]).outputDown 2)
    else fin s

/-- PCIE_LINK_UP (R157, R264, R265, R286): after BOOT, at link speed gen 1 to 5 and width 1, 2, 4 or 8, with the Max_Payload_Size that the
host sets. -/
def execPcieLinkUp (gen width mps : Nat) (s : State) : Out :=
  let has := decide (1 ≤ gen) && decide (gen ≤ 5) && (width == 1 || width == 2 || width == 4 || width == 8)
  if !s.isHead || s.nodeState == nsBOOT || !has then next s
  else
    let s := { s with host := { s.host with linkUp := true, mps := min 512 (max 128 mps) } }
    next (s.puts [(HOST_STAT.gen, gen), (HOST_STAT.width, width), (SW_OSTAT.up 2, 1)])

end Sys2Proof.Machine
end

