-- ==== Sys2Proof/Machine/Ring.lean ====
section
/-! DEFINITION. Machine/Ring.lean: the domain map, the cycle and its seams, wraps, splices and head redundancy (R230 to R257).
How a report of another node reaches the active head is not stated: a command with a node stands for its arrival (log 266). -/

namespace Sys2Proof.Machine

/-! ### The domain map (R231) -/

/-- Put a map into use. -/
def State.useMap (s : State) (epoch : Nat) (m : SMap (Nat × Nat)) : State :=
  let s := (List.range 64).foldl (fun s n =>
    let e := SMap.getD m n (0, 0)
    s.puts [(RING_MAP.present n, e.1), (RING_MAP.state n, e.1 / 2), (RING_MAP.role n, e.1 / 16), (RING_MAP.late n, e.1 / 64),
      (RING_MAP.failed_over n, e.1 / 128), (RING_MAP.hops_e n, e.1 / 256), (RING_MAP.hops_w n, e.1 / 65536),
      (RING_MAPID.casting_id n, e.2)]) s
  let s := s.puts [(RING_MAPEPOCH.epoch, epoch), (RING_STATUS.late, s.get (RING_MAP.late s.nodeId))]
  let s := { s with ring := { s.ring with draft := none } }
  let s := if s.mapStandby.isNone then
      ({ s with ring := { s.ring with updates := [] } }).sendHeldReqs s.ring.heldReqs.length else s
  (if s.isHead then s.roleVector else s).failAbsent

/-- The active head changes the map: the epoch goes up by 1, and a map frame goes to every node (R231). -/
def State.mapChange (s : State) (f : SMap (Nat × Nat) → SMap (Nat × Nat)) : State :=
  let d := s.newest
  let m := f d.2
  let e := (d.1 + 1) % 2 ^ 32
  let s := { s with ring := { s.ring with draft := some (e, m) } }
  s.broadcast (s.mgmt mkMAP s.nodeId (e :: m.flatMap (fun x => [x.1, x.2.1, x.2.2])))

/-- A node's entry with presence, node state and hop counts changed; an absent node has no entry. -/
def editMap (m : SMap (Nat × Nat)) (e : MapEdit) : SMap (Nat × Nat) :=
  if e.present then
    let o := SMap.getD m e.node (0, 0)
    SMap.insert m e.node (o.1 % 256 / 16 * 16 + 2 * (e.state % 8) + 1 + 256 * (e.hopsE % 64) + 65536 * (e.hopsW % 64), o.2)
  else SMap.erase m e.node

/-- An edit changes presence or hop counts: the epoch goes up with it; a change of node state alone is no change of the epoch (R231). -/
def reshapes (m : SMap (Nat × Nat)) (e : MapEdit) : Bool :=
  let w := (SMap.getD m e.node (0, 0)).1
  bit w 0 != e.present || (e.present && (bits w 8 6 != e.hopsE % 64 || bits w 16 6 != e.hopsW % 64))

/-- The active head enters what a wrap or a splice makes of the ring: nothing changes where an earlier report has brought it in. -/
def State.topology (s : State) (es : List MapEdit) : State :=
  if !s.activeHead then s
  else if es.any (reshapes s.newest.2) then s.mapChange (fun m => es.foldl editMap m)
  else (es.filter (·.present)).foldl (fun s e => s.patchMap e.node (fun w => w / 16 * 16 + 2 * (e.state % 8) + w % 2)) s

/-- MAP_FRAME (R231): the newest map; entries as node, word 0 of RING_MAP and casting ID. -/
def execMapFrame (epoch : Nat) (m : List (Nat × Nat × Nat)) (s : State) : Out :=
  let map := (m.filter (fun e => decide (e.1 < 64))).foldl (fun a e => SMap.insert a e.1 e.2) []
  next (if s.activeHead then s else { s with ring := { s.ring with draft := some (epoch % 2 ^ 32, map) } })

/-! ### The cycle (R236 to R240) -/

/-- The start of the present cycle, where the casting gives a cycle. -/
def State.thisCycle (s : State) : Option Nat := if s.period = 0 then none else some (s.cycleStart s.ns)

/-- The map shows all 64 nodes as members. -/
def State.fullRing (s : State) : Bool := (List.range 64).all (fun n => s.flag (RING_MAP.present n))

/-- Of a member's hop counts on one side and on the other: 0x3F is no path, but for the neighbour on the other side in a ring of 64
nodes, which is 63 hops away (R231; log 296). -/
def State.noPath (s : State) (h other : Nat) : Bool := h == 0x3F && !(other == 1 && s.fullRing)

/-- The map shows a wrap: a member has no path on one side (R231, R236). -/
def State.mapWrapped (s : State) : Bool :=
  (List.range 64).any (fun n => n != s.nodeId && s.flag (RING_MAP.present n) &&
    (s.noPath (s.get (RING_MAP.hops_e n)) (s.get (RING_MAP.hops_w n)) ||
      s.noPath (s.get (RING_MAP.hops_w n)) (s.get (RING_MAP.hops_e n))))

/-- The ring is wrapped, at this node or elsewhere (R236). -/
def State.ringWrapped (s : State) : Bool := s.flag RING_STATUS.east_wrap || s.flag RING_STATUS.west_wrap || s.mapWrapped

/-- The payload of CYCLE_START (R236). -/
def State.cyclePayload (s : State) (start : Nat) : List Nat :=
  leBytes 4 (s.get RING_CYCNUM.cycle) ++ leBytes 8 (start / 1000000000) ++ leBytes 4 (start % 1000000000) ++
    leBytes 4 (s.get RING_MAPEPOCH.epoch) ++
    [b2n (s.isSeamCycle (s.get RING_CYCNUM.cycle)) + 2 * b2n s.ringWrapped + 4 * s.get TIM_STATUS.sec_in_use, s.nodeId, 0, 0]

/-- A frame of this node for ring port p, where a link takes it: one that none takes is not sent (R242, R244, R403; log 267). -/
def State.sendOn (s : State) (p : Nat) (f : Frame) : State :=
  let q := s.wayOut p
  if !s.linkTakes q f || (s.wrapAt q && !(heldType f && s.heldLink q)) then s else s.toRingPort p f

/-- Send CYCLE_START on both ring ports; the newest map comes into use with it (R231, R236). -/
def State.sendCycleStart (s : State) (start : Nat) : State :=
  let s := match s.ring.draft with
    | some d => s.useMap d.1 d.2
    | none => s
  let f : Frame := {
    ftype := 9, cls := 7, dst := s.nodeId, src := s.nodeId, a := 0, payload := s.cyclePayload start }
  let s := { s with ring := { s.ring with sentAt := some start, gotAt := some start } }
  (s.sendOn 0 f).sendOn 1 f

/-- CYCLE_START (R236). -/
def execCycleStart (s : State) : Out :=
  match s.thisCycle with
  | none => next s
  | some c => next (if s.activeHead && s.ring.sentAt != some c then s.sendCycleStart c else s)

/-- CYCLE_START_RECEIVE (R231, R236, R237): cycle number, map epoch and flags (bit 1 wrapped, bit 2 secondary in use). -/
def execCycleStartReceive (num epoch flags : Nat) (s : State) : Out :=
  if s.activeHead then next s
  else
    let s := { s with ring := { s.ring with
      gotAt := s.thisCycle, misses := 0, lastStart := s.now, wrapped := bit flags 1 } }
    let s := s.puts [(RING_CYCNUM.cycle, num), (TIM_STATUS.sec_in_use, b2n (bit flags 2))]
    match s.ring.draft with
    | some d => next (if d.1 = epoch % 2 ^ 32 then s.useMap d.1 d.2 else s)
    | none => next s

/-- A cycle in which the mirror lags: counted in version 1.1; in 1.0 it is an estimate, which the spec leaves open (R252). -/
def State.lagTick (s : State) : State :=
  if s.get RING_MIRROR.version = 0x11 then
    ({ s with ring := { s.ring with updates := s.ring.updates.map (fun (u : Nat × Nat) => (u.1 + 1, u.2)) } }).putLag
  else (s.put RING_MIRROR.lag (Config.freeWord s.draws)).draw

/-- CYCLE_TICK (R237): a new cycle by this node's own time. -/
def execCycleTick (s : State) : Out :=
  match s.thisCycle with
  | none => next s
  | some c =>
    if s.ring.cycleAt = some c then next s
    else
      let missed := s.ring.cycleAt.isSome && s.ring.gotAt != s.ring.cycleAt && !s.activeHead
      let s := if missed then s.bump RING_CYCMISS.starts else s
      let s := s.bumpWrap RING_CYCNUM.cycle
      let s := if s.activeHead && !s.ring.updates.isEmpty then s.lagTick else s
      next { s with ring := { s.ring with cycleAt := some c, answered := [false, false] } }

/-- This node's slot marker on port p (R238): the first class-7 frame, or an empty slot answer; a node that starts no local frame but MGMT
and TIME answers no slot (R244, R245). -/
def State.slotMarker (s : State) (p : Nat) : Out :=
  match s.slotInto p with
  | none => fin s
  | some t =>
    if 1500 < t ∨ s.spliceHolds p = true ∨ s.ring.answered.getD p false = true ∨ s.busy (s.wayOut p) = true ∨ s.linkUp (s.wayOut p) = false then fin s
    else match s.candidate p 7 with
      | some (u, _) => fin (s.sendHead p u 7)
      | none =>
        let f : Frame := {
          ftype := 9, cls := 7, dst := s.mapHead.getD s.nodeId, src := s.nodeId, a := 1 }
        let t := s.ingressNow 5 { frame := f, route := .port p 0 7, since := some s.time }
        fin (match t.candidate p 7 with
          | some (u, _) => t.sendHead p u 7
          | none => t)

/-- SLOT_MARKER (R238): of this node; or the active head sees the answer of a node in its slot, which is then no longer late. -/
def execSlotMarker (e : RingEnd) (s : State) : Out :=
  match e.node with
  | none => s.slotMarker e.port
  | some n => fin (if s.activeHead then s.lateMark n false else s)

/-- This node misses its slot on port p (R238): counted, reported, and on the active head shown in its map entry. -/
def State.slotMissed (s : State) (p : Nat) : Out :=
  let sl := s.slotOf p
  let pos := s.ringPos s.ns
  if s.period = 0 ∨ sl.2 = 0 ∨ pos ≤ sl.1 + 1500 ∨ s.ring.answered.getD p false = true then fin s
  else
    let s := ({ s with ring := { s.ring with answered := setNth s.ring.answered p true } }).bump RING_MISSED.slots
    let s := if s.activeHead then s.lateMark s.nodeId true else s
    fin (s.report { src := 0x41, master := unitPORT p, addr := s.domainAddr RING_MISSED.addr })

/-- SLOT_MISSED (R238): by this node; or by a node that the active head then marks late. -/
def execSlotMissed (e : RingEnd) (s : State) : Out :=
  match e.node with
  | none => s.slotMissed e.port
  | some n => fin (if s.activeHead then s.lateMark n true else s)

/-! ### Wrap and splice (R242 to R246) -/

/-- The wrap flag of port p. -/
def wrapFld (p : Nat) : Fld := if p = 0 then RING_STATUS.east_wrap else RING_STATUS.west_wrap

/-- The active head has a link to splice in, or no longer (R244). -/
def State.addJoin (s : State) (n p : Nat) : State :=
  if s.activeHead && !s.ring.joins.contains (n, p) then { s with ring := { s.ring with joins := s.ring.joins ++ [(n, p)] } } else s
def State.dropJoin (s : State) (n p : Nat) : State :=
  { s with ring := { s.ring with joins := s.ring.joins.filter (fun j => j != (n, p)) } }

/-- WRAP (R242): after the link of port p went down, here or, at the active head, at a node that reports it; the head publishes what
it makes of the ring. -/
def execWrap (e : RingEnd) (es : List MapEdit) (s : State) : Out :=
  let p := e.port
  match e.node with
  | some n => next (if s.activeHead then (s.dropJoin n p).topology es else s)
  | none =>
    if s.linkUp p || s.flag (wrapFld p) then next s
    else next (((s.dropJoin s.nodeId p).put (wrapFld p) 1).topology es)

/-- LINK_HELD (R244): of this node's port; or a node reports its own to the active head. -/
def execLinkHeld (e : RingEnd) (s : State) : Out :=
  let p := e.port
  match e.node with
  | some n => next (s.addJoin n p)
  | none => next (if s.linkUp p && s.get (spliceFld p) == 0 then (s.put (spliceFld p) 1).addJoin s.nodeId p else s)

/-- A splice order for this node's port p (R244). -/
def State.spliceOrder (s : State) (p : Nat) (out : Bool) : State :=
  let st := s.get (spliceFld p)
  if out then if st = 3 then s.put (spliceFld p) 4 else s
  else if st = 1 then s.put (spliceFld p) 2 else s

/-- SPLICE_ORDER at a seam opening (R244, R245): for the link of port p, or, with no port, for this node itself, which from then on
starts no local ring frame. -/
def execSpliceOrder (p : Option (Fin 2)) (out : Bool) (s : State) : Out :=
  if !s.inSeam s.ns then next s
  else match p with
    | some p => next (s.spliceOrder p out)
    | none => next { s with ring := { s.ring with left := out } }

/-- The seam has come to len − 2 µs (R244). -/
def State.seamLate (s : State) : Bool := decide (s.seamLen < s.seamInto + 2000) || !s.inSeam s.ns

/-- Nothing that entered before the splice is on its way (R244). -/
def State.drainedIn (s : State) : Bool :=
  (s.transitOf 0).fifo.isEmpty && (s.transitOf 1).fifo.isEmpty && (s.link 0).quiet && (s.link 1).quiet &&
    (s.transitOf 0).redo.isNone && (s.transitOf 1).redo.isNone

/-- Port p of this node joins the ring, which a node that had left is then part of again (R244, R245). -/
def State.joinPort (s : State) (p : Nat) : State :=
  let s := (s.dropJoin s.nodeId p).puts [(spliceFld p, 3), (wrapFld p, 0)]
  { s with ring := { s.ring with left := false } }

/-- SPLICE_DRAINED (R244): the port joins, or wraps with its peer absent, here or, at the active head, at a node that reports it; the
head enters the new topology. -/
def execSpliceDrained (e : RingEnd) (es : List MapEdit) (s : State) : Out :=
  let p := e.port
  let st := s.get (spliceFld p)
  if e.node.isSome then next (if s.activeHead then ((e.node.elim s (fun n => s.dropJoin n p)).topology es) else s)
  else if s.seamLate then next s
  else if st = 2 ∧ s.drainedIn = true then next ((s.joinPort p).topology es)
  else if st = 4 ∧ (s.link p).quiet = true ∧ (s.transitOf (1 - p)).fifo = [] ∧ (s.transitOf (1 - p)).redo = none then
    let peer := bits (s.capPeer p) 24 6
    next ((s.puts [(spliceFld p, 0), (wrapFld p, 1)]).topology (es ++ [⟨peer, false, 0, 0, 0⟩]))
  else next s

/-- SPLICE_ABANDON (R244). -/
def execSpliceAbandon (p : Fin 2) (s : State) : Out :=
  let st := s.get (spliceFld p)
  if !s.seamLate then next s
  else if st = 2 then next ((s.put (spliceFld p) 1).bump RING_SPLICE.abandoned)
  else if st = 4 then next ((s.put (spliceFld p) 3).bump RING_SPLICE.abandoned)
  else next s

/-! ### RING_CTL (R245, R262) -/

def State.ringRefuse (s : State) (o : Origin) : State := (s.put RING_STATUS.last_status stSTATE).refuse o RING_REFUSED.count
def State.ringOk (s : State) (o : Origin) : State := (s.put RING_STATUS.last_status stOK).done o stOK

/-- The active head has a node to splice out (R245). -/
def State.addLeave (s : State) (x : Nat) : State := { s with ring := { s.ring with leaves := s.ring.leaves ++ [x] } }

/-- A splice-out is asked for: of this node, or on the head of the node in leave_id (R245). -/
def State.askLeave (s : State) : State :=
  if s.activeHead then s.addLeave (s.get RING_CTL.leave_id)
  else
    let s := { s with ring := { s.ring with leaving := true } }
    match s.mapHead with
    | some h => s.toRing (s.mgmt mkLEAVE h [s.nodeId])
    | none => s

/-- A write of RING_CTL. -/
def State.ringCtl (s : State) (o : Origin) (w : Nat) : State :=
  if s.foreignCore o then s.done o stAUTH
  else
    let bad := (bit w 0 && s.nodeState != nsSERVICE) || ((bit w 1 || bit w 2) && !s.activeHead)
    if bad then s.ringRefuse o
    else
      let s := s.put RING_CTL.leave_id (bits w 8 6)
      let s := if bit w 0 then s.askLeave else s
      let s := if bit w 1 then { s with ring := { s.ring with revertAsked := true } } else s
      let s := if bit w 2 then { s with ring := { s.ring with releaseAsked := true } } else s
      s.ringOk o

/-- LEAVE (R245): a write of RING_CTL; or the request of a node, in bits [13:8], arrives at the active head. -/
def execLeave (o : Option Origin) (w : Nat) (s : State) : Out :=
  match o with
  | some o => fin (s.ringCtl o (withBit w 0))
  | none => fin (if s.activeHead then s.addLeave (bits w 8 6) else s)

/-- REVERT_NOW (R262). -/
def execRevertNow (o : Origin) (w : Nat) (s : State) : Out := fin (s.ringCtl o (withBit w 1))

/-- RELEASE (R262). -/
def execRelease (o : Origin) (w : Nat) (s : State) : Out := fin (s.ringCtl o (withBit w 2))

/-! ### Heads (R251 to R257) -/

/-- This head stops being active and stands by (R253 to R256). -/
def State.standDown (s : State) : State := ((s.zero RING_WIT.grant).setRole 2).put (RING_MAP.role s.nodeId) 2

/-- The active head releases control at a seam with its last mirror update: it completes its open window reads, and then is standby
(R256). -/
def State.handOver (s : State) : State :=
  let s := s.mirrorOut true
  if s.host.reads.isEmpty then s.standDown
  else
    let s := ((s.zero RING_WIT.grant).setRole 0).put (RING_MAP.role s.nodeId) 2
    { s with ring := { s.ring with handing := true } }

/-- A standby is there to take control (R251, R252, R256). -/
def State.mayHandOver (s : State) : Bool :=
  !s.flag RING_HEADCFG.preferred && !s.ring.mismatch && s.mapStandby.isSome

/-- The entry of a former active head: failed over, or, where it has handed over, standby (R254, R256). -/
def formerHead (handed : Bool) (w : Nat) : Nat := if handed then w / 64 * 64 + 32 + w % 16 else setBit w 7 true

/-- This head becomes active: the map epoch goes up by 1 and names a former active head failed over, or standby where it handed over
(R254, R256). -/
def State.becomeActive (s : State) (handed : Bool := false) : State :=
  let s := (s.put RING_WIT.grant 1).setRole 1
  let s := { s with tim := { s.tim with wasActive := true }, ring := { s.ring with offered := false, handing := false, failing := false } }
  s.mapChange (fun m =>
    let m := m.map (fun e => if e.1 ≠ s.nodeId ∧ bits e.2.1 4 2 = 1 then (e.1, (formerHead handed e.2.1, e.2.2)) else e)
    let o := SMap.getD m s.nodeId (1, 0)
    SMap.insert m s.nodeId ((o.1 / 64 * 64 + 16 + o.1 % 16) / 256 * 256 + (o.1 / 64 * 64 + 16 + o.1 % 16) % 128, o.2))

/-- Nodes n and x are neighbours: one hop apart on a side on which both have a path (R231, R245). -/
def State.neighbours (s : State) (n x : Nat) : Bool :=
  let apart := fun (a b : Nat) => a != 0x3F && b != 0x3F && (a + 1 == b || b + 1 == a)
  apart (s.get (RING_MAP.hops_e n)) (s.get (RING_MAP.hops_e x)) || apart (s.get (RING_MAP.hops_w n)) (s.get (RING_MAP.hops_w x))

/-- The active head orders the splice-out of node x: on its neighbours, on X itself, and on its own port that faces X (R245). -/
def State.orderOut (s : State) (x : Nat) : State :=
  let near := (List.range 64).filter (fun n =>
    n != s.nodeId && n != x && s.flag (RING_MAP.present n) && s.neighbours n x)
  let s := (near ++ if x = s.nodeId then [] else [x]).foldl (fun s n => s.toRing (s.mgmt mkSPLICE n [1, x])) s
  let s := if x = s.nodeId then { s with ring := { s.ring with left := true } } else s
  let s := if x ≠ s.nodeId ∧ s.get (RING_MAP.hops_e x) = 1 then s.spliceOrder 0 true else s
  if x ≠ s.nodeId ∧ s.get (RING_MAP.hops_w x) = 1 then s.spliceOrder 1 true else s

/-- The active head orders a held link into the ring (R244). -/
def State.orderIn (s : State) (j : Nat × Nat) : State :=
  if j.1 = s.nodeId then s.spliceOrder j.2 false else s.toRing (s.mgmt mkSPLICE j.1 [0, j.2])

/-- The orders of a seam (R244, R245): a held link is ordered again at each seam until it has joined, and a node that leaves until the map
shows it absent. -/
def State.sendOrders (s : State) : State :=
  let s := s.ring.leaves.foldl State.orderOut s
  let s := s.ring.joins.foldl State.orderIn s
  { s with ring := { s.ring with leaves := s.ring.leaves.filter (fun x => s.flag (RING_MAP.present x)) } }

/-- Another mailbox than m runs a command. -/
def State.otherBusy (s : State) (m : Nat) : Bool := (List.range 3).any (fun i => i != m && s.flag (NODE_CMDSTAT.busy i))

/-- A hitless activation that is in step moves the manager role in the seam that opens now, if no other mailbox runs a command (R385). -/
def State.noteMove (s : State) : State :=
  match s.cst.act with
  | some a =>
    if a.hitless && a.inStep.isSome && !s.otherBusy a.m then
      { s with cst := { s.cst with act := some { a with moving := some s.seamOpening } } }
    else s
  | none => s

/-- SEAM_OPEN (R240, R245, R256, R262, R385): the seam's orders go out, and what waits for a seam happens. -/
def execSeamOpen (s : State) : Out :=
  if !s.inSeam s.ns || s.ring.seamAt == s.thisCycle then next s
  else
    let s := { s with ring := { s.ring with seamAt := s.thisCycle } }.noteMove
    let s := if s.ring.leaving then { s with ring := { s.ring with leaving := false, left := true } } else s
    let s := if s.activeHead then s.sendOrders else s
    let t := { s with ring := { s.ring with revertAsked := false, releaseAsked := false } }
    if s.activeHead && s.ring.revertAsked && s.mayHandOver then next t.handOver
    else if s.activeHead && s.ring.releaseAsked then next t.mirrorSend.standDown
    else next t

/-- The lease time: the longer of 2 cycles and 30 µs, in ns (R253). -/
def State.leaseTime (s : State) : Nat := max (2 * s.period) 30000

/-- WIT_GRANT_SAMPLE at a cycle start (R253): external arbiter. -/
def execWitGrantSample (high : Bool) (s : State) : Out :=
  match s.thisCycle with
  | none => next s
  | some c =>
    if !s.isHead || s.flag RING_HEADCFG.wit_mode || s.nodeState == nsBOOT || s.ring.sampledAt == some c then next s
    else
      let s := { s with ring := { s.ring with sampledAt := some c } }
      if !high then next (if s.activeHead then s.standDown else s.zero RING_WIT.grant)
      else if s.activeHead then next (s.put RING_WIT.grant 1)
      else if (s.mapHead.filter (fun h => h != s.nodeId)).isSome then next (s.put RING_WIT.grant 1)
      else next s.becomeActive

/-- WIT_GRANT_FALL (R253). -/
def execWitGrantFall (s : State) : Out :=
  if !s.isHead || s.flag RING_HEADCFG.wit_mode then next s
  else next (if s.activeHead then s.standDown else s.zero RING_WIT.grant)

/-- WIT_HEALTH_TOGGLE (R253): once per cycle start while this head is healthy. -/
def execWitHealthToggle (s : State) : Out :=
  match s.thisCycle with
  | none => next s
  | some c =>
    if !s.isHead || s.ring.toggledAt == some c || s.nodeState == nsBOOT || s.ring.failing then next s
    else
      let v := !s.ring.witHealth
      next ({ s with ring := { s.ring with toggledAt := some c, witHealth := v } }.emit (.witHealth v))

/-- The witness grants the lease, or renews it, by a lease frame (R253). -/
def State.grantLease (s : State) (h : Nat) : State :=
  ({ s with ring := { s.ring with lease := some (h, s.now) } }).toRing (s.mgmt mkLEASE h [h])

/-- The standby's last report shows a failure (R257). -/
def State.standbyFails (s : State) : Bool := s.ring.peerReport.any (fun r => r % 16 != 15)

/-- LEASE_RENEW (R253): the active head asks the witness; the witness answers with a lease frame; the lease frame arrives. -/
def execLeaseRenew (m : LeaseMsg) (s : State) : Out :=
  match m with
  | .renew =>
    if s.activeHead && s.flag RING_HEADCFG.wit_mode then
      next (s.toRing (s.mgmt mkLEASE (s.get RING_HEADCFG.wit_node) [s.nodeId]))
    else next s
  | .renewal h =>
    if !s.flag RING_HEADCFG.is_witness then next s
    else match s.ring.lease with
      | some (g, t) => next (if g = h.val ∨ t + s.leaseTime ≤ s.now then s.grantLease h else s)
      | none => next (s.grantLease h)
  | .granted =>
    if s.isHead && s.flag RING_HEADCFG.wit_mode then
      next (({ s with ring := { s.ring with lease := some (s.nodeId, s.now) } }).put RING_WIT.grant 1)
    else next s

/-- LEASE_EXPIRE (R253): a head whose lease has run out is not active; the witness may grant a standby that it reaches and
whose health report shows no failure. -/
def execLeaseExpire (standby : Option (Fin 64)) (s : State) : Out :=
  let runs := s.ring.lease.any (fun l => decide (s.now < l.2 + s.leaseTime))
  let t := { s with ring := { s.ring with lease := none } }
  if runs then next s
  else if s.flag RING_HEADCFG.is_witness then
    match standby with
    | some h => next (if s.standbyFails then t else s.grantLease h)
    | none => next t
  else if s.ring.lease.isNone then next s
  else next (if t.activeHead then t.standDown else t.zero RING_WIT.grant)

/-- TAKEOVER (R254): the granted standby becomes active at a cycle start. -/
def execTakeover (s : State) : Out :=
  match s.thisCycle with
  | none => next s
  | some c => next (if s.get RING_STATUS.role = 2 ∧ s.flag RING_WIT.grant = true ∧ s.ring.mismatch = false then
      s.becomeActive.sendCycleStart c else s)

/-- DUAL_GRANT (R255): an active head sees the CYCLE_START of another, which is cast preferred or not. -/
def execDualGrant (other : Fin 64) (preferred : Bool) (s : State) : Out :=
  let mine := s.flag RING_HEADCFG.preferred
  let stays := if mine == preferred then decide (s.nodeId < other) else mine
  if !s.activeHead || s.nodeId == other.val || stays then fin s
  else fin ((s.standDown.setEvent RING_WIT.dual).report
    { src := 0x43, master := 0, addr := s.domainAddr RING_WIT.addr, extra := other })

/-- The standby has been healthy without a break for the hold-off, as its last report says (R256, R257). -/
def State.peerHealthy (s : State) : Bool :=
  s.ring.peerReport.any (fun r => r % 16 == 15) && decide (s.get RING_HEADCFG.revert ≤ s.ring.peerSecs)

/-- This preferred standby has been healthy without a break for the hold-off (R256). -/
def State.heldOff (s : State) : Bool :=
  let secs := s.get RING_HEADCFG.revert
  secs != 0 && s.flag RING_HEADCFG.preferred && s.ring.healthy.any (fun t => decide (t + secs * 1000000000 ≤ s.now))

/-- REVERT at a seam (R256): the active head hands over to a standby that is cast preferred and has been healthy for long enough; the
standby takes control that is released to it, or that its own hold-off gives it (log 270). -/
def execRevert (s : State) : Out :=
  if !s.inSeam s.ns then next s
  else if s.activeHead then
    next (if s.get RING_HEADCFG.revert ≠ 0 ∧ s.ring.peerPref = true ∧ s.mayHandOver = true ∧ s.peerHealthy = true then s.handOver else s)
  else next (if s.get RING_STATUS.role = 2 ∧ s.ring.mismatch = false ∧ (s.ring.offered || s.heldOff) = true then
    s.becomeActive true else s)

/-- MIRROR_HELLO (R252): this head sends its bitmap, or receives the peer's. -/
def execMirrorHello (peer : Option Nat) (s : State) : Out :=
  if !s.isHead then fin s
  else match peer with
    | none => fin (s.toRing (s.mirrorFrame mkHELLO (if s.activeHead then s.mapStandby.getD s.nodeId else s.mapHead.getD s.nodeId)
        [3]))
    | some b =>
      let v := if bit b 1 then 0x11 else if bit b 0 then 0x10 else 0
      let s := ({ s with ring := { s.ring with mismatch := v == 0 } }).put RING_MIRROR.version v
      fin (if v = 0 then s.report { src := 0x42, master := 0, addr := s.domainAddr RING_MIRROR.addr, extra := b % 256 } else s)

/-- The standby takes a mirror update; in version 1.1 it acknowledges it (R251, R252). -/
def State.takeMirror (s : State) (r : MirrorRec) : State :=
  let m := (r.map.filter (fun e => decide (e.1 < 64))).foldl (fun a e => SMap.insert a e.1 e.2) []
  let s := { s with ring := { s.ring with
    mirror := some r, mirrored := r.slots, draft := some (r.epoch % 2 ^ 32, m), offered := r.handover } }
  let s := s.puts [(RING_MIRROR.lag, r.lag), (TIM_STATUS.sec_valid, r.servo / 4), (TIM_STATUS.sec_in_use, r.servo / 8),
    (TIM_STATUS.blending, r.servo / 16)]
  if s.get RING_MIRROR.version = 0x11 then s.toRing (s.mirrorFrame mkACK (s.mapHead.getD s.nodeId) []) else s

/-- MIRROR_UPDATE (R251, R252). -/
def execMirrorUpdate (m : MirrorMsg) (s : State) : Out :=
  match m with
  | .send => next (if s.activeHead && s.get RING_MIRROR.version != 0 then s.mirrorSend else s)
  | .acknowledged => next s.updateAcked
  | .receive r => next (if s.get RING_STATUS.role = 2 then s.takeMirror r else s)

/-- Who receives a standby's report: the active head, and a witness node, which grants by it (R257). -/
def State.reportTo (s : State) : List Nat :=
  (s.mapHead.elim [] (fun h => [h])) ++ (if s.flag RING_HEADCFG.wit_mode then [s.get RING_HEADCFG.wit_node] else [])

/-- HEALTH_REPORT (R257): bytes 0 to 11 of a standby's report. -/
def execHealthReport (m : HealthMsg) (s : State) : Out :=
  match m with
  | .receive bs preferred =>
    let t := { s with ring := { s.ring with
      peerReport := some (ofBytes (bs.take 4)), peerSecs := ofBytes ((bs.drop 8).take 4), peerPref := preferred } }
    next (if s.activeHead then t.put RING_PEERHEALTH.report (ofBytes (bs.take 4))
      else if s.flag RING_HEADCFG.is_witness then t else s)
  | .send dllp memory passes =>
    if s.get RING_STATUS.role ≠ 2 then next s
    else
      let e := s.ring.loopOk.getD 0 false
      let w := s.ring.loopOk.getD 1 false
      let link := s.host.linkUp && dllp
      let ok := e && w && link && memory
      let since := if ok then some (s.ring.healthy.getD s.now) else none
      let s := { s with ring := { s.ring with healthy := since, failing := !ok } }
      let secs := match since with
        | some t => (s.now - t) / 1000000000
        | none => 0
      let b0 := b2n e + 2 * b2n w + 4 * b2n link + 8 * b2n memory + 
        16 * b2n (s.get RING_MIRROR.version != 0 && s.get RING_MIRROR.lag == 0)
      let bs := [b0, s.get RING_MIRROR.version] ++ leBytes 2 (s.get RING_MIRROR.lag) ++ leBytes 4 passes ++ leBytes 4 secs
      let s := s.put RING_HEALTH.report (ofBytes (bs.take 4))
      next (s.reportTo.foldl (fun s n => s.toRing { s.mgmt mkHEALTH n [] with payload := bs }) s)

/-- LOOP_FRAME on port p (R257): sent, or back; a new one is a new test. -/
def execLoopFrame (p : Fin 2) (back : Bool) (s : State) : Out :=
  if s.get RING_STATUS.role ≠ 2 then next s
  else
    let s := { s with ring := { s.ring with loopOk := setNth s.ring.loopOk p back } }
    next (if back then s else s.sendOn p (s.mgmt mkLOOP s.nodeId [p]))

/-- TAKEOVER_COMPLETION (R251): a completion addressed to the former head. -/
def execTakeoverCompletion (f : Frame) (s : State) : Out :=
  let n := nth f.b 5
  if !s.activeHead || f.ftype != 5 || decide (64 ≤ f.dst) || !s.flag (RING_MAP.failed_over f.dst) then next s
  else if frameUnit f = 0x0021 ∧ n ∈ s.ring.mirrored then
    let s := { s with ring := { s.ring with mirrored := s.ring.mirrored.erase n } }
    next (s.slotResult n (f.a % 256) (bits f.a 8 8) (nth f.b 0 % 8) (ofBytes (f.payload.take 8)))
  else next (s.bump RING_HOSTDISC.count)

end Sys2Proof.Machine
end

