-- ==== Sys2Proof/Machine/FaultCmd.lean ====
section
/-! DEFINITION. Machine/FaultCmd.lean: the commands of the fault collector and of the quench unit (R459 to R480). -/

namespace Sys2Proof.Machine

/-- The source codes (R461). -/
def sources : List Nat :=
  [0x01, 0x02, 0x03, 0x04, 0x11, 0x12, 0x13, 0x14, 0x21, 0x22, 0x23, 0x24, 0x31, 0x32, 0x33, 0x41, 0x42, 0x43, 0x44, 0x51,
   0x52, 0x61, 0x62, 0x71, 0x72, 0x73, 0x81, 0x82, 0x83, 0x84, 0x91, 0x92, 0x93, 0x94, 0xA1, 0xA2]

/-- A writer that may inject (R470): the manager pair, the host and the bench port. -/
def State.mayInject (s : State) : Origin → Bool
  | .core c => c.val / 2 == s.managerPair
  | .host => true
  | .slot => true
  | .bench => true
  | _ => false

/-- The fault that a write of FLT_INJ[src] raises (R470); it has no place on a port die, so a CLUSTER_PARK of a
spares-exhausted source reaches no cluster. -/
def State.injected (s : State) (src : Nat) (o : Origin) : FaultInfo :=
  { src := src, master := originUnit o, addr := s.domainAddr (FLT_INJ.addr src), status := stFAULT, pool := 0xFF }

/-- INJECT: a write of FLT_INJ[src] with go = 1 (R470). -/
def execInject (src : Nat) (o : Origin) (w : Nat) (s : State) : Out :=
  if !sources.contains src then fin s
  else if !s.mayInject o then fin (s.done o stAUTH)
  else if !s.flag FLT_CFG.inj_en then fin (s.refuse o FLT_REFUSED.count)
  else
    let s := s.put (FLT_INJ.record_only src) (bits w 1 1)
    let f := s.injected src o
    fin ((s.collect f (s.reactionOf f) true (bit w 1) false).done o stOK)

/-- FAULT_DETECT: hardware detects a fault (R460 to R468). `inj` is a write of FLT_INJ of the same source with go = 1 in the same
FABCLK cycle: the two make one record (R471). The reaction to a tamper is R419's, so this row takes no tamper (R527). -/
def execFaultDetect (f : FaultInfo) (inj : Option (Origin × Nat)) (s : State) : Out :=
  if !sources.contains f.src || f.src == 0x84 then fin s
  else
    match inj with
    | none => fin (s.fault f)
    | some (o, w) =>
      if !s.mayInject o then fin ((s.fault f).done o stAUTH)
      else if !s.flag FLT_CFG.inj_en then fin ((s.fault f).refuse o FLT_REFUSED.count)
      else
        let s := s.put (FLT_INJ.record_only f.src) (bits w 1 1)
        fin ((s.collect f (s.reactionOf f) false false true).done o stOK)

/-- FAULT_PULSE_END (R464, R468). -/
def execFaultPulseEnd (s : State) : Out :=
  match s.flt.pulseEnd with
  | none => fin s
  | some t =>
    if s.now < t then fin s
    else
      let reset := s.flt.resetPending
      let s := { s with flt := { s.flt with pulseEnd := none, resetPending := false } }
      let s := (s.zero FLT_PIN.pulsing).driveFaultN
      fin (if reset then s.nodeReset else s)

/-- A write of FLT_CTL (R465, R479). -/
def State.fltCtl (s : State) (o : Origin) (w : Nat) : State :=
  if s.foreignCore o then s.done o stAUTH
  else
    let s := if bit w 0 then s.zero FLT_STATUS.handling else s
    let s := if bit w 1 then (s.zero FLT_STATUS.handling).zero FLT_STATUS.valid else s
    let s := if bit w 2 then s.raise FLT_STATUS.handling else s
    s.done o stOK

/-- RELEASE_CAPTURE: a write of FLT_CTL with release (R465). -/
def execReleaseCapture (o : Origin) (w : Nat) (s : State) : Out := fin (s.fltCtl o (withBit w 0))

/-- CLEAR: a write of FLT_CTL with clear (R465). -/
def execClear (o : Origin) (w : Nat) (s : State) : Out := fin (s.fltCtl o (withBit w 1))

/-- HOLD: a write of FLT_CTL with hold (R465). -/
def execHold (o : Origin) (w : Nat) (s : State) : Out := fin (s.fltCtl o (withBit w 2))

/-- PIN_HOLD_WRITE: during a pulse it takes effect at its end (R468, R479). -/
def execPinHoldWrite (o : Origin) (w : Nat) (s : State) : Out :=
  if s.foreignCore o then fin (s.done o stAUTH)
  else
    let t := s.put FLT_PIN.hold (bits w 0 1)
    fin ((if s.flt.pulseEnd.isSome then t else t.driveFaultN).done o stOK)

/-- FAULT_FORWARD: a forwarded record reaches this head (R467). -/
def execFaultForward (f : Frame) (s : State) : Out :=
  if !s.isHead || f.ftype != 0xA || f.a != 0x30 then next s else next (s.enterRecord f)

/-- The bytes of log record i (R466, R479). -/
def State.logBytes (s : State) (i : Nat) : List Nat :=
  (List.range 8).flatMap (fun w => leBytes 4 (s.get (FLT_LOG.word i w)))

/-- FORWARD_BACKLOG: the map shows an active head again (R467). -/
def execForwardBacklog (s : State) : Out :=
  if !s.activeHead && s.mapHead.isNone then next s
  else
    let old := s.flt.unsent
    let s := { s with flt := { s.flt with unsent := [] } }
    next (old.foldl (fun s n =>
      if 64 < (s.flt.seq + 2 ^ 32 - n) % 2 ^ 32 then s.bump FLT_FWDLOST.count else s.forward n (s.logBytes (n % 64))) s)

/-! ### Quench -/

/-- QUENCH_PIN: the QUENCH ball has held a new level for 20 ns (R472). -/
def execQuenchPin (level : Bool) (s : State) : Out :=
  let edge := s.flt.pin != level
  let s := { s with flt := { s.flt with pin := level } }
  fin (if edge && !s.lev.inReset && s.flag QCH_CFG.pin_en && s.flag QCH_CFG.pin_pol == level then s.trigger qsPIN 0 s.nextEdge
    else s)

/-- QUENCH_TIME_MATCH (R475 to R477): it latches on the edge at which node time reaches the instant. -/
def execQuenchTimeMatch (s : State) : Out :=
  if !s.flag QCH_TMATCH_HI.armed || !reached 48 s.window s.flt.tmatch then fin s
  else
    let s := s.zero QCH_TMATCH_HI.armed
    let edge := (s.tick - (s.window + 2 ^ 48 - s.flt.tmatch) % 2 ^ 48) * 65536
    let fresh := !s.flag QCH_STATUS.held
    let s := s.latch (2 ^ qsTIME + (if s.flt.byRing then 2 ^ qsRING else 0)) 0 edge
    fin (if fresh && !s.flt.byRing && !s.flt.byCommand && s.flag QCH_CFG.bcast_out then s.quenchBroadcast 0 else s)

/-- A write of QCH_CTL (R472, R474): a trigger that falls together with a re-arm latches a new snapshot. -/
def State.qchCtl (s : State) (o : Origin) (w : Nat) : State :=
  if s.foreignCore o then s.done o stAUTH
  else
    let s := if bit w 1 then s.zero QCH_STATUS.held else s
    let s := if bit w 0 then s.trigger qsSOFT 0 s.nextEdge else s
    s.done o stOK

/-- TRIGGER: a write of QCH_CTL with trigger (R472). -/
def execTrigger (o : Origin) (w : Nat) (s : State) : Out := fin (s.qchCtl o (withBit w 0))

/-- REARM: a write of QCH_CTL with rearm (R474). -/
def execRearm (o : Origin) (w : Nat) (s : State) : Out := fin (s.qchCtl o (withBit w 1))

/-- Arm the time match with an instant; one that is already reached sets missed (R475). -/
def State.armMatch (s : State) (instant : Nat) (byRing byCommand : Bool) : State :=
  let i := instant % 2 ^ 48
  let s := s.puts [(QCH_TMATCH_LO.ns, i), (QCH_TMATCH_HI.ns, i / 2 ^ 32)]
  if reached 48 s.window i then (s.setEvent QCH_STATUS.missed).zero QCH_TMATCH_HI.armed
  else
    let s := { s with flt := { s.flt with tmatch := i, byRing := byRing, byCommand := byCommand } }
    s.raise QCH_TMATCH_HI.armed

/-- TMATCH_ARM: a write of QCH_TMATCH_HI (R475): armed = 1 takes the instant and arms, armed = 0 withdraws the match. -/
def execTmatchArm (o : Origin) (w : Nat) (s : State) : Out :=
  let s := s.put QCH_TMATCH_HI.ns (bits w 0 16)
  let s := if bit w 31 then
      s.armMatch (s.get QCH_TMATCH_LO.ns + 2 ^ 32 * bits w 0 16) false false
    else s.zero QCH_TMATCH_HI.armed
  fin (s.done o stOK)

/-- QUENCH_BROADCAST_RECEIVE (R476). -/
def execQuenchBroadcastReceive (f : Frame) (s : State) : Out :=
  if f.ftype != 0xA || f.a != 0x31 || !s.flag QCH_CFG.bcast_in then fin s
  else
    let i := ofBytes (f.b.take 6)
    fin (if i = 0 then s.latch (2 ^ qsRING) 0 s.nextEdge else s.armMatch i true false)

end Sys2Proof.Machine
end

