-- ==== Sys2Proof/Machine/Mbx.lean ====
section
/-! DEFINITION. Machine/Mbx.lean: the mailboxes' common operations (R282 to R285), and access to the flash (R344). -/

namespace Sys2Proof.Machine

/-- The command codes (R283). -/
abbrev mcSTATUS : Nat := 0x01
abbrev mcUNIT_RESET : Nat := 0x02
abbrev mcCLUSTER_RESET : Nat := 0x03
abbrev mcDIE_RESET : Nat := 0x04
abbrev mcNODE_RESET : Nat := 0x05
abbrev mcHALT : Nat := 0x06
abbrev mcHOLD_CLEAR : Nat := 0x07
abbrev mcRECAST : Nat := 0x08
abbrev mcCASTING_INSTALL : Nat := 0x09
abbrev mcINGOT : Nat := 0x0A
abbrev mcMISSING : Nat := 0x0B
abbrev mcACTIVATE_PAUSE : Nat := 0x0C
abbrev mcACTIVATE_HITLESS : Nat := 0x0D
abbrev mcKEY_PROVISION : Nat := 0x10
abbrev mcHALLMARK : Nat := 0x11
abbrev mcQUENCH : Nat := 0x12

def State.mbxOf (s : State) (m : Nat) : Mbx := SMap.getD s.mbx m {}

/-- The command with this code runs in mailbox m. -/
def State.mbxRuns (s : State) (m code : Nat) : Bool := s.flag (NODE_CMDSTAT.busy m) && (s.mbxOf m).code == code

/-- Argument a of mailbox m. -/
def State.arg (s : State) (m a : Nat) : Nat := s.get (NODE_ARG.arg m a)

/-- Result words of mailbox m, from word 0 on. -/
def State.results (s : State) (m : Nat) (ws : List Nat) : State :=
  ws.zipIdx.foldl (fun s e => s.put (NODE_RES.res m e.2) e.1) s

/-- Show the result of the command with this code and tag in mailbox m; STATE counts as refused (R12). -/
def State.mbxShow (s : State) (m status code tag : Nat) (res : List Nat) : State :=
  let s := if status = stSTATE then s.bump NODE_REFUSED.count else s.results m res
  s.puts [(NODE_CMDSTAT.busy m, 0), (NODE_CMDSTAT.status m, status), (NODE_CMDSTAT.code m, code), (NODE_CMDSTAT.tag m, tag)]

/-- The command that runs in mailbox m ends (R282). -/
def State.mbxEnd (s : State) (m status : Nat) (res : List Nat := []) : State :=
  s.mbxShow m status (s.mbxOf m).code (s.mbxOf m).tag res

/-! ### Flash -/

/-- Read a byte of the flash; an erased byte reads as 0xFF (log 21). -/
def State.flashByte (s : State) (a : Nat) : Nat := SMap.getD s.cst.flash a 0xFF

/-- n bytes of the flash from a. -/
def State.flashBytes (s : State) (a n : Nat) : List Nat := (List.range n).map (fun i => s.flashByte (a + i))

/-- Erase n bytes from a. -/
def State.flashErase (s : State) (a n : Nat) : State :=
  { s with cst := { s.cst with flash := s.cst.flash.filter (fun e => !(decide (a ≤ e.1) && decide (e.1 < a + n))) } }

/-- Program bytes from a on. -/
def State.flashWrite (s : State) (a : Nat) : List Nat → State
  | [] => s
  | b :: bs =>
    ({ s with cst := { s.cst with flash := SMap.set s.cst.flash a (b % 256) 0xFF } }).flashWrite (a + 1) bs

/-- A flash write runs (R357). -/
def State.flashBusy (s : State) : Bool := s.cst.job.isSome

end Sys2Proof.Machine
end

