-- ==== Sys2Proof/Machine/Crucible.lean ====
section
/-! DEFINITION. Machine/Crucible.lean: the key hierarchy, the operation ports, entropy, tamper and bench entry (R391 to
R421). -/

namespace Sys2Proof.Machine

/-! ### The key hierarchy (R395, R405) -/

/-- The classes IDENTITY, AUTHORITY, OPERATIONAL and CUSTOMER are 0 to 3: zeroise every slot and record of these (R415, R418,
R419). -/
def State.zeroise (s : State) (classes : List Nat) : State :=
  let s := slots.foldl (fun s i =>
    if (s.slotState i == slLIVE || s.slotState i == slREFUSING) && classes.contains (s.get (CRU_SLOT0.class_ i)) then s.clearSlot i
    else s) s
  { s with cru := { s.cru with store := s.cru.store.filter (fun e => !classes.contains e.2.cls) } }

/-- The link salt is derived from the domain key in a slot of its own (R395, R405). -/
def State.deriveSalt (s : State) : State :=
  match s.keySlot idDOMAIN [2] with
  | none => s
  | some d =>
    (s.installKey { keyId := idSALT, cls := 2, alg := 2, parent := idDOMAIN, pairs := 0, purpose := 0
                    mat := hkdf384 [] (s.slotMat d) (ascii "CHOGEN-SALT") 48 } false true true).1

/-- Both ring ports start a rekey (R402, R405). -/
def State.rekeyLinks (s : State) (forced : Bool) : State :=
  [0, 1].foldl (fun s p => if s.flag (RING_LSTAT.protected p) then s.startRekey p forced else s) s

/-- The live keys whose parent has this ID enter REFUSING, with their descendants (R405); their records go at once. -/
def State.refuseTree (s : State) : Nat → Nat → State
  | 0, _ => s
  | fuel + 1, id =>
    slots.foldl (fun s i =>
      if s.slotState i == slLIVE && s.get (CRU_SLOT1.parent i) == id && s.slotId i != id then
        let child := s.slotId i
        ((s.put (CRU_SLOT0.state i) slREFUSING).unstoreSlot i).refuseTree fuel child
      else s) s

/-- A key is invalidated (R405): it and its descendants refuse, and link sessions rekey when the domain key goes. -/
def State.invalidate (s : State) (id : Nat) : State :=
  let s := slots.foldl (fun s i =>
    if s.slotState i == slLIVE && s.slotId i == id then (s.put (CRU_SLOT0.state i) slREFUSING).unstoreSlot i else s) s
  let s := s.refuseTree 64 id
  if id = idDOMAIN ∨ id = idSALT then s.rekeyLinks true else s

/-- A link in service still holds the session key in slot i (R214, R405; log 262). -/
def State.sessionHeld (s : State) (i : Nat) : Bool :=
  [0, 1].any (fun p => isSession p (s.slotId i) && s.linkUp p && s.flag (RING_LSTAT.protected p))

/-- An operation of a port uses slot i. -/
def State.slotInUse (s : State) (i : Nat) : Bool :=
  s.cru.ops.any (fun e => e.2.any (fun x => x.running && x.slot == some i))

/-- REFUSING_ZEROISE (R405). -/
def execRefusingZeroise (i : Fin 64) (s : State) : Out :=
  next (if s.slotState i == slREFUSING && !s.slotInUse i && !s.sessionHeld i then s.clearSlot i else s)

/-- The scrambling key and the mask of a slot are renewed (R406). -/
def State.renewSlot (s : State) (i : Nat) : State :=
  { s with cru := { s.cru with
    renewed := SMap.set s.cru.renewed i (SMap.getD s.cru.renewed i 0 + 1) 0, renewDue := s.cru.renewDue.filter (· != i) } }

/-- SLOT_RENEW (R406): a slot in use by an operation at its turn waits for its end. -/
def execSlotRenew (i : Fin 64) (s : State) : Out :=
  next (if s.slotInUse i then { s with cru := { s.cru with renewDue := s.cru.renewDue.filter (· != i.val) ++ [i.val] } }
    else s.renewSlot i)

/-- The slots whose renewal waited for an operation that has ended (R406). -/
def State.renewEnded (s : State) : State :=
  (s.cru.renewDue.filter (fun i => !s.slotInUse i)).foldl (fun s i => s.renewSlot i) s

/-! ### Slot assay (R407) and unlock (R392, R408) -/

/-- A slot fails its assay (R407): it is BAD for good, a free pool slot takes its role, and source 0x82 reports the slot; its key
ID stays in the slot's header. -/
def State.slotBad (s : State) (i : Nat) : State :=
  let id := s.slotId i
  let s := ((s.put (CRU_SLOT0.state i) slBAD).unstoreSlot i)
  let s := { s with cru := { s.cru with
    mat := SMap.set s.cru.mat i [] [], bad := (s.cru.bad.filter (· != i)) ++ [i] } }
  let s := match s.freeSlot 0 with
    | some j => if s.get (CRU_SLOT0.persistent i) = 0 then s
      else (s.put (CRU_SLOT0.key_id j) id).storeSlot j
        { keyId := id, cls := 0, alg := 0, parent := 0, pairs := 0, purpose := 0, mat := [], vacant := true }
    | none => s
  s.report { src := 0x82, master := 0, addr := s.domainAddr (CRU_SLOT0.addr i), extra := i }

/-- The record of slot i fails its assay: its tag is not that of its header and material (R396, R407). -/
def State.tagFails (s : State) (i : Nat) : Bool :=
  match SMap.find? s.cru.store i with
  | some r => r.tag != (r.opened s.cru.root i).gmac s.cru.root i
  | none => false

/-- The assay of every stored slot; the array gives these records wrongly (R396, R407). -/
def State.assaySlots (s : State) (bad : List (Fin 64)) : State :=
  slots.foldl (fun s i =>
    if s.get (CRU_SLOT0.persistent i) = 1 ∧ s.slotState i = slLIVE ∧ (bad.any (fun b => b.val == i) || s.tagFails i) = true then
      s.slotBad i
    else s) s

/-- Word w and byte 14 of entry i of the tamper log (R420). -/
def State.tlogMeta (s : State) (i : Nat) : Nat := s.get (CRU_TLOG.word i 3)
def State.tlogPending (s : State) (i : Nat) : Bool := bit (s.tlogMeta i) 22
def State.tlogValid (s : State) (i : Nat) : Bool := bit (s.tlogMeta i) 23
def State.tlogResponse (s : State) (i : Nat) : Nat := s.tlogMeta i / 2 ^ 24

/-- The classes that a response zeroises (R418). -/
def responseClasses (r : Nat) : List Nat := if r = 2 then [2] else if 3 ≤ r then [2, 3] else []

/-- A start-up meets pending entries before unlock and treats them as tampers at start-up (R419, R420). -/
def State.consumePending (s : State) : State :=
  let ps := (List.range 8).filter (fun i => s.tlogPending i)
  let r := ps.foldl (fun r i => max r (s.tlogResponse i)) 0
  let s := ps.foldl (fun s i => s.put (CRU_TLOG.word i 3) (setBit (s.tlogMeta i) 22 false)) s
  if 2 ≤ r then (({ s with cru := { s.cru with early := true } }).zeroise (responseClasses r)) else s

/-- The touchmark takes slots 0 and 1 (R392 to R395). -/
def State.loadTouchmark (s : State) : State :=
  let key := fun alg => ({ keyId := idTOUCHMARK, cls := 0, alg := alg, parent := 0, pairs := 0, purpose := 0
                           mat := Config.touchmarkKey alg s.cru.root, made := true } : Stored)
  (s.putSlot 0 slLIVE (key 3) false).putSlot 1 slLIVE (key 5) false

/-- The stored slots become live, a role without material EMPTY with its key ID, and those that have become BAD stay so (R395, R396,
R407). -/
def State.loadStore (s : State) : State :=
  let s := s.cru.store.foldl (fun s e =>
    if e.2.vacant then s.put (CRU_SLOT0.key_id e.1) e.2.keyId else s.putSlot e.1 slLIVE (e.2.opened s.cru.root e.1) true) s
  s.cru.bad.foldl (fun s i => s.put (CRU_SLOT0.state i) slBAD) s

/-- The response that the policy gives a tamper source (R418). -/
def tpolFld (src : Nat) : Fld := match src with
  | 0 => CRU_TPOL.resp0
  | 1 => CRU_TPOL.resp1
  | 2 => CRU_TPOL.resp2
  | 3 => CRU_TPOL.resp3
  | 4 => CRU_TPOL.resp4
  | _ => CRU_TPOL.resp5

/-- UNLOCK (R392, R395, R405, R407, R408, R419): pufFail tells that the PUF response failed twice, bad which slots fail their
assay. -/
def execUnlock (pufFail : Bool) (bad : List (Fin 64)) (s : State) : Out :=
  if s.nodeState ≠ nsBOOT ∨ s.get CST_BOOT.phase ≠ 2 ∨ s.lev.inReset = true then fin s
  else
    let s := s.consumePending
    let s := (List.range 6).foldl (fun s i => s.put (tpolFld i) (nth s.cru.policy i)) s
    let s := if pufFail then s.raise CRU_STATUS.root_fail
      else
        let s := { s with cru := { s.cru with root := deviceRoot } }
        ((s.loadTouchmark.loadStore).assaySlots bad).deriveSalt
    fin (s.puts [(CRU_STATUS.unlocked, 1), (CRU_ENTROPY.ok, b2n !s.cru.noEntropy), (CST_BOOT.phase, 3)])

/-- A write of CRU_CTL (R407, R421): the slots that fail, where a test is asked for. -/
def State.cruCtl (s : State) (o : Origin) (w : Nat) (bad : List (Fin 64)) : State :=
  if s.foreignCore o then s.done o stAUTH
  else
    let s := if bit w 0 then s.assaySlots bad else s
    let s := if bit w 1 then
        (List.range 8).foldl (fun s i =>
          if s.tlogPending i then s else (List.range 4).foldl (fun s v => s.zero (CRU_TLOG.word i v)) s) s
      else s
    s.done o stOK

/-- TEST: a write of CRU_CTL with test (R407). -/
def execTest (o : Origin) (w : Nat) (bad : List (Fin 64)) (s : State) : Out := fin (s.cruCtl o (withBit w 0) bad)

/-- TLOG_CLEAR: a write of CRU_CTL with tlog_clear (R421). -/
def execTlogClear (o : Origin) (w : Nat) (s : State) : Out := fin (s.cruCtl o (withBit w 1) [])

/-! ### Operation ports (R409, R410) -/

/-- The opcodes (R409). -/
abbrev koRANDOM : Nat := 0x01
abbrev koGCM_ENC : Nat := 0x02
abbrev koGCM_DEC : Nat := 0x03
abbrev koGMAC : Nat := 0x04
abbrev koSIGN : Nat := 0x05
abbrev koVERIFY : Nat := 0x06
abbrev koECDH : Nat := 0x07
abbrev koHKDF : Nat := 0x08
abbrev koSHA384 : Nat := 0x09
abbrev koPUBLIC : Nat := 0x0A

/-- The algorithms of the keys that an operation takes; none where it uses no key (R409). -/
def opAlgs (op : Nat) : Option (List Nat) := match op with
  | 2 => some [1]
  | 3 => some [1]
  | 4 => some [1]
  | 5 => some [3, 5]
  | 6 => some [3, 5, 6, 7]
  | 7 => some [4]
  | 8 => some [2]
  | 10 => some [3, 4, 5, 6, 7]
  | _ => none

/-- Pair p may use the key in slot i through its port: its KEYREF entry names the pair, or no entry names the key and p is the
manager pair (R397, R409). -/
def State.mayUse (s : State) (p i : Nat) : Bool :=
  match s.keyRef (s.slotId i) with
  | some r => bit r.pairs p
  | none => p == s.managerPair

/-- ECDSA (3) or ML-DSA (5) behind a private or public key, the length of its signatures, and the public key of slot i. -/
def signAlg (alg : Nat) : Nat := if alg = 6 then 3 else if alg = 7 then 5 else alg
def signLen (alg : Nat) : Nat := if signAlg alg = 3 then 96 else 3309
def State.publicOf (s : State) (i : Nat) : List Nat :=
  if s.slotAlg i = 6 ∨ s.slotAlg i = 7 then s.slotMat i else publicKey (s.slotAlg i) (s.slotMat i)

/-- The bytes that an operation writes on success. -/
def opOutLen (x : KeyOp) (alg : Nat) : Nat := match x.op with
  | 1 => x.len
  | 2 => x.len - x.aad + 16
  | 3 => x.len - x.aad - 16
  | 4 => 16
  | 5 => signLen alg
  | 9 => 48
  | 10 => if alg = 5 ∨ alg = 7 then 1952 else 97
  | _ => 0

/-- The bytes that it reads at CRU_OPAUX. -/
def opAuxLen (x : KeyOp) (alg : Nat) : Nat := match x.op with
  | 2 => 12
  | 3 => 12
  | 4 => 12
  | 6 => signLen alg
  | _ => 0

/-- The operands lie in bulk RAM and fit the operation (R409): a derivation names a customer key ID, a customer purpose and an
algorithm of that purpose whose keys can be derived. -/
def opRange (x : KeyOp) (alg : Nat) : Bool :=
  let src := if x.op = 1 ∨ x.op = 10 then true else inBulk x.src x.len
  let aux := opAuxLen x alg = 0 || inBulk x.aux (opAuxLen x alg)
  let dst := opOutLen x alg = 0 || inBulk x.dst (opOutLen x alg)
  let shape := match x.op with
    | 2 => decide (x.aad ≤ x.len)
    | 3 => decide (x.aad + 16 ≤ x.len)
    | 7 => x.len == 97
    | _ => true
  let newKey := if x.op = 7 ∨ x.op = 8 then
      decide (1 ≤ x.aux % 65536) && decide (x.aux % 65536 ≤ 0xEFFF) && decide (5 ≤ bits x.aux 16 8) &&
        (purposeAlgs (bits x.aux 16 8)).contains (bits x.aux 24 8) && decide (bits x.aux 24 8 < 6)
    else true
  src && aux && dst && shape && newKey

/-- What an operation makes of slot i (0 where it uses none): status, result, new key (R409). -/
def State.opResult (s : State) (x : KeyOp) (i : Nat) : Nat × List Nat × Option Stored :=
  let mat := s.slotMat i
  let data := s.bytes x.src x.len
  let iv := s.bytes x.aux 12
  let aad := data.take x.aad
  let derived := fun (secret info : List Nat) => ({
    keyId := x.aux % 65536, cls := 3, alg := bits x.aux 24 8, parent := x.key, pairs := s.keyPairs (x.aux % 65536)
    purpose := bits x.aux 16 8, mat := hkdf384 [] secret info (algBytes (bits x.aux 24 8)), made := true } : Stored)
  match x.op with
  | 1 => (stOK, Config.drbg s.draws x.len, none)
  | 2 =>
    let c := gcmCipher mat iv (data.drop x.aad)
    (stOK, c ++ gcmTag mat iv aad c, none)
  | 3 =>
    let c := (data.drop x.aad).take (x.len - x.aad - 16)
    if gcmTag mat iv aad c == data.drop (x.len - 16) then (stOK, gcmCipher mat iv c, none)
    else (stAUTH, [], none)
  | 4 => (stOK, gcmTag mat iv data [], none)
  | 5 => (stOK, signature (s.slotAlg i) mat data s.draws, none)
  | 6 =>
    let alg := signAlg (s.slotAlg i)
    (if verifies alg (s.publicOf i) data (s.bytes x.aux (signLen alg)) then stOK else stAUTH, [], none)
  | 7 => (stOK, [], some (derived (ecdh mat data) (ascii "PLG-CUST")))
  | 8 => (stOK, [], some (derived mat data))
  | 9 => (stOK, sha384 data, none)
  | _ => (stOK, s.publicOf i, none)

/-- An operation of port p ends with a status and a number of bytes written (R406, R410). -/
def State.opEnd (s : State) (p status n : Nat) : State :=
  let s := { s with cru := { s.cru with ops := SMap.set s.cru.ops p none none } }.renewEnded
  s.puts [(CRU_OPSTAT.busy p, 0), (CRU_OPSTAT.status p, status), (CRU_OPSTAT.out_len p, n)]

/-- The random-based operations that a failed entropy source refuses (R411). -/
def State.needsEntropy (x : KeyOp) (alg : Nat) : Bool := x.op == koRANDOM || (x.op == koSIGN && alg == 3)

/-- The status with which an operation of port p is turned away, and the slot whose key it uses: AUTH for a key that the pair may
not use, RANGE for operands that do not fit (R13, R409). -/
def State.opCheck (s : State) (p : Nat) (x : KeyOp) : Nat × Option Nat :=
  let ranged := fun (i : Option Nat) => (if opRange x ((i.map s.slotAlg).getD 0) then stOK else stRANGE, i)
  match opAlgs x.op with
  | none => ranged none
  | some algs =>
    if slots.any (fun i => s.slotState i == slLIVE && s.slotId i == x.key && s.mayUse p i) then
      match s.keySlot x.key algs with
      | none => (stRANGE, none)
      | some i => ranged (some i)
    else (stAUTH, none)

/-- A key that a pair may not use counts as refused (R409). -/
def State.opRefused (s : State) (status : Nat) : State := if status = stAUTH then s.bump CRU_REFUSED.count else s

/-- The operation of port p begins (R409): its key and operands are judged, and a refused one ends at once. -/
def State.opBegin (s : State) (p : Nat) (x : KeyOp) : State :=
  let c := s.opCheck p x
  if c.1 ≠ stOK then (s.opRefused c.1).opEnd p c.1 0
  else if State.needsEntropy x ((c.2.map s.slotAlg).getD 0) && !s.flag CRU_ENTROPY.ok then s.opEnd p stFAULT 0
  else
    let r := s.opResult x (c.2.getD 0)
    let y : KeyOp := { x with running := true, slot := c.2, status := r.1, out := r.2.1, newKey := r.2.2 }
    let s := { s with cru := { s.cru with ops := SMap.set s.cru.ops p (some y) none } }
    let s := match c.2 with
      | some i => s.bumpWrap (CRU_SLOT2.uses i)
      | none => s
    if x.op = koRANDOM ∨ x.op = koSIGN then s.draw else s

/-- Operations that run. -/
def State.opsRunning (s : State) : Nat := (s.cru.ops.filter (fun e => e.2.any (·.running))).length

/-- Ports that wait begin in rotation while fewer than 4 operations run (R409). -/
def State.serveOps (s : State) : Nat → State
  | 0 => s
  | fuel + 1 =>
    if 4 ≤ s.opsRunning then s
    else
      let order := (List.range 10).map (fun i => (s.cru.turn + i) % 10)
      match order.findSome? (fun p => match SMap.getD s.cru.ops p none with
        | some x => if x.running then none else some (p, x)
        | none => none) with
      | none => s
      | some (p, x) => (({ s with cru := { s.cru with turn := (p + 1) % 10 } }).opBegin p x).serveOps fuel

/-- A write of CRU_OPCMD[p] with go = 1 for an operation (R409, R421). -/
def State.opStart (s : State) (p : Nat) (o : Origin) (op w : Nat) : State :=
  let own := match o with
    | .core c => c.val / 2 == p
    | _ => false
  if !own then s.done o stAUTH
  else
    let x : KeyOp := {
      op := op, key := bits w 8 16, src := s.get (CRU_OPSRC.src p), len := s.get (CRU_OPLEN.src_len p)
      aad := s.get (CRU_OPLEN.aad_len p), dst := s.get (CRU_OPDST.dst p), aux := s.get (CRU_OPAUX.aux p) }
    let c := (s.opCheck p x).1
    if s.flag (CRU_OPSTAT.busy p) then
      ((s.opRefused c).put (CRU_OPSTAT.status p) (if c = stOK then stBUSY else c)).done o stOK
    else
    let s := s.puts [(CRU_OPCMD.op p, op), (CRU_OPCMD.key_id p, bits w 8 16), (CRU_OPSTAT.busy p, 1)]
    (({ s with cru := { s.cru with ops := SMap.set s.cru.ops p (some x) none } }).serveOps 10).done o stOK

/-- RANDOM (R409, R411). -/
def execRandom (p : Fin 10) (o : Origin) (w : Nat) (s : State) : Out := fin (s.opStart p o koRANDOM w)
/-- GCM_ENC (R409). -/
def execGcmEnc (p : Fin 10) (o : Origin) (w : Nat) (s : State) : Out := fin (s.opStart p o koGCM_ENC w)
/-- GCM_DEC (R409). -/
def execGcmDec (p : Fin 10) (o : Origin) (w : Nat) (s : State) : Out := fin (s.opStart p o koGCM_DEC w)
/-- GMAC (R409). -/
def execGmac (p : Fin 10) (o : Origin) (w : Nat) (s : State) : Out := fin (s.opStart p o koGMAC w)
/-- SIGN (R409, R411). -/
def execSign (p : Fin 10) (o : Origin) (w : Nat) (s : State) : Out := fin (s.opStart p o koSIGN w)
/-- VERIFY (R409). -/
def execVerify (p : Fin 10) (o : Origin) (w : Nat) (s : State) : Out := fin (s.opStart p o koVERIFY w)
/-- ECDH_DERIVE (R409). -/
def execEcdhDerive (p : Fin 10) (o : Origin) (w : Nat) (s : State) : Out := fin (s.opStart p o koECDH w)
/-- HKDF_DERIVE (R409). -/
def execHkdfDerive (p : Fin 10) (o : Origin) (w : Nat) (s : State) : Out := fin (s.opStart p o koHKDF w)
/-- SHA384 (R409). -/
def execSha384 (p : Fin 10) (o : Origin) (w : Nat) (s : State) : Out := fin (s.opStart p o koSHA384 w)
/-- PUBLIC (R409). -/
def execPublic (p : Fin 10) (o : Origin) (w : Nat) (s : State) : Out := fin (s.opStart p o koPUBLIC w)

/-- KEY_OP_COMPLETE of port p (R406, R410): the result is copied only on success; the next port in rotation begins. -/
def execKeyOpComplete (p : Fin 10) (s : State) : Out :=
  match SMap.getD s.cru.ops p none with
  | none => fin s
  | some x =>
    if !x.running then fin s
    else
      let s := match x.newKey with
        | some r =>
          let y := s.installKey r false true true
          y.1.opEnd p y.2.1 0
        | none =>
          if x.status = stOK then (s.setBytes x.dst x.out).opEnd p stOK x.out.length else s.opEnd p x.status 0
      fin (s.serveOps 10)

/-! ### Entropy (R411) -/

/-- ENTROPY_SOURCE_FAILURE (R411). -/
def execEntropySourceFailure (s : State) : Out :=
  let s := ({ s with cru := { s.cru with noEntropy := true } }.zero CRU_ENTROPY.ok).bump CRU_ENTROPY.fails
  fin (s.report { src := 0x83, master := 0, addr := s.domainAddr CRU_ENTROPY.addr })

/-- ENTROPY_RECOVER (R411). -/
def execEntropyRecover (s : State) : Out := next ({ s with cru := { s.cru with noEntropy := false } }.raise CRU_ENTROPY.ok)

/-- EPHEMERAL_EXPIRE of slot i (R400): 10 s after it was made; an INSTALL that was accepted before keeps it until it ends
(R285). -/
def execEphemeralExpire (i : Fin 64) (s : State) : Out :=
  let used := [0, 1, 2].any (fun m => s.mbxRuns m mcKEY_PROVISION && s.arg m 0 % 16 == 2 && s.arg m 3 % 65536 == s.slotId i)
  match SMap.getD s.cru.born i none with
  | none => next s
  | some t => next (if isEphemeral (s.slotId i) && decide (t + 10000000000 ≤ s.now) && !used then s.clearSlot i else s)

/-! ### Bench authority (R414 to R416) -/

/-- BENCH_ENTRY (R415): at a reset with BENCH_EN high and the lid open, before the boot ROM runs. -/
def execBenchEntry (s : State) : Out :=
  if !s.lev.inReset || s.lev.rstLow || !s.lev.straps.benchEn || !s.lev.straps.lidOpen then next s
  else
    let s := s.zeroise [2, 3]
    let s := if 255 ≤ s.get CRU_BENCH.count then s.puts [(CRU_BENCH.count, 256), (CRU_BENCH.saturated, 1)]
      else s.bump CRU_BENCH.count
    next (({ s with cru := { s.cru with bench := true, early := true } }).raise CRU_STATUS.bench)

/-! ### Tamper (R417 to R420) -/

/-- Phases of a tamper log entry (R420). -/
abbrev tpSTART : Nat := 0
abbrev tpRUN : Nat := 1
abbrev tpSLEEP : Nat := 2
abbrev tpKEYOP : Nat := 3

/-- A provisioning runs in a mailbox. -/
def State.provisioning (s : State) : Bool := [0, 1, 2].any (fun m => s.mbxRuns m mcKEY_PROVISION)

/-- The phase that a tamper meets (R419): in STOW the island keeps the key material. -/
def State.tamperPhase (s : State) : Nat :=
  if s.nodeState = nsBOOT ∧ s.flag CRU_STATUS.unlocked = false then tpSTART
  else if s.get NODE_SLEEPSTAT.state = 4 then tpSLEEP
  else if s.provisioning || !s.cru.ops.isEmpty then tpKEYOP
  else tpRUN

/-- The time of an entry: the last recorded node time and the SLOWCLK periods since (R420). -/
def State.aonNow (s : State) (periods : Nat) : Nat := s.cru.aonTime + periods * 2000000000

/-- Write one tamper log entry (R420). -/
def State.tlogEntry (s : State) (src phase resp periods : Nat) : State :=
  let order := (List.range 8).map (fun i => (s.get CRU_TLOGSTAT.next + i) % 8)
  match order.find? (fun i => !s.tlogPending i) with
  | none => s.bump CRU_TLOGSTAT.overwritten
  | some i =>
    let pending := phase != tpSTART && decide (2 ≤ resp)
    let bs := timeBytes (s.aonNow periods) ++ [src + 16 * phase + 64 * b2n pending + 128, resp]
    let ws := toWords bs
    let s := if s.tlogValid i then s.bump CRU_TLOGSTAT.overwritten else s
    let s := (List.range 4).foldl (fun s w => s.put (CRU_TLOG.word i w) (nth ws w)) s
    let s := { s with cru := { s.cru with appended := s.cru.appended.filter (· != i) } }
    s.put CRU_TLOGSTAT.next (i + 1)

/-- Every running operation and provisioning is aborted with FAULT and no output; `wipe`: the keys that they used are
zeroised (R419). -/
def State.abortKeyOps (s : State) (wipe : Bool) : State :=
  let s := s.cru.ops.foldl (fun s e => match e.2 with
    | some x =>
      let s := match x.slot with
        | some i => if wipe then s.clearSlot i else s
        | none => s
      s.opEnd e.1 stFAULT 0
    | none => s) s
  [0, 1, 2].foldl (fun s m =>
    if s.mbxRuns m mcKEY_PROVISION then
      let used := if s.arg m 0 % 16 = 2 then s.keySlot (s.arg m 3 % 65536) allAlgs else none
      let s := match used with
        | some i => if wipe then s.clearSlot i else s
        | none => s
      s.mbxEnd m stFAULT
    else s) s

/-- A tamper while the node runs (R419, R527): zeroise, and report with reaction NODE_RESET. -/
def State.tamperRunning (s : State) (src resp : Nat) : State :=
  (s.zeroise (responseClasses resp)).collect
    { src := 0x84, master := 0, addr := s.domainAddr CRU_CTL.addr, extra := src } 4 false false false

/-- Tamper sources trip together, SLOWCLK periods after the last record of node time (R417 to R420): each writes its entry; the
strongest response applies once. -/
def State.tamper (s : State) (srcs : List Nat) (periods : Nat) : State :=
  let hits := (List.range 6).filter (fun i => srcs.contains i && decide (1 ≤ nth s.cru.policy i))
  let phase := s.tamperPhase
  let s := hits.foldl (fun s i => s.tlogEntry i phase (nth s.cru.policy i) periods) s
  let resp := hits.foldl (fun r i => max r (nth s.cru.policy i)) 0
  let src := (hits.find? (fun i => nth s.cru.policy i == resp)).getD 0
  match resp, phase with
  | 0, _ => s
  | 1, 1 => s.collect { src := 0x84, master := 0, addr := s.domainAddr CRU_CTL.addr, extra := src } 0 false false false
  | 1, 3 => s.abortKeyOps false
  | _, 2 => { s with cru := { s.cru with mat := [] } }
  | 1, _ => s
  | r, 0 => ({ s with cru := { s.cru with early := true } }).zeroise (responseClasses r)
  | r, 3 => (s.abortKeyOps true).tamperRunning src r
  | r, _ => s.tamperRunning src r

/-- TAMPER (R417 to R420, R527). -/
def execTamper (srcs : List (Fin 6)) (periods : Nat) (s : State) : Out := fin (s.tamper (srcs.map (·.val)) periods)

/-- AON_TIME_RECORD (R420). -/
def execAonTimeRecord (s : State) : Out := next { s with cru := { s.cru with aonTime := s.time } }

/-- The bench log's sector in flash, and its records (R344, R420). -/
def benchBase : Nat := 0x3020000

/-- One record of 32 bytes at the end of the bench log; a full sector is erased and starts with the number lost (R420). -/
def State.benchRecord (s : State) (bs : List Nat) : State :=
  let put := fun (s : State) (bs : List Nat) =>
    let s := s.flashWrite (benchBase + 32 * s.cru.benchLog) bs
    { s with cru := { s.cru with benchLog := s.cru.benchLog + 1 } }
  if s.cru.benchLog < 2048 then put s bs
  else
    let s := s.flashErase benchBase 65536
    put (put { s with cru := { s.cru with benchLog := 0 } } (Config.benchLost 2048)) bs

/-- BENCH_LOG_APPEND (R420): after boot, the entries that the bench log does not yet have. -/
def execBenchLogAppend (s : State) : Out :=
  if s.nodeState = nsBOOT ∨ s.flag CST_BOOT.no_fw = true ∨ s.flashBusy = true then next s
  else
    let new := (List.range 8).filter (fun i => s.tlogValid i && !s.cru.appended.contains i)
    next (new.foldl (fun s i =>
      let bs := (List.range 4).flatMap (fun w => leBytes 4 (s.get (CRU_TLOG.word i w)))
      let s := s.benchRecord (bs ++ Config.benchTail s.cru.benchLog)
      { s with cru := { s.cru with appended := s.cru.appended ++ [i] } }) s)

end Sys2Proof.Machine
end

