-- ==== Sys2Proof/Machine/CastFormat.lean ====
section
/-! DEFINITION. Machine/CastFormat.lean: images in flash: the header, the section table and the assay of casting and firmware
copies (R344 to R350, R375 to R377). -/

namespace Sys2Proof.Machine

/-- An image: its byte at each offset. -/
abbrev Img := Nat → Nat

/-- n bytes of an image from o, and their little-endian value. -/
def Img.bytes (img : Img) (o n : Nat) : List Nat := (List.range n).map (fun i => img (o + i))
def Img.rd (img : Img) (o n : Nat) : Nat := ofBytes (Img.bytes img o n)

/-- Where the copies and the staging area lie in flash (R344). -/
def castBase (c : Nat) : Nat := 0x800000 * c
def fwBase (c : Nat) : Nat := 0x1000000 + 0x800000 * c
def stagingBase : Nat := 0x2000000
def recordBase : Nat := 0x2800000
def manifestBase : Nat := 0x2810000
def bitmapBase : Nat := 0x2820000
def settingsBase (c : Nat) : Nat := 0x3000000 + 0x10000 * c

/-- The image at a flash offset. -/
def State.image (s : State) (base : Nat) : Img := fun o => s.flashByte (base + o)

/-- Header fields (R345, R375). -/
def Img.sequence (img : Img) : Nat := Img.rd img 8 8
def Img.len (img : Img) : Nat := Img.rd img 16 4
def Img.unsigned (img : Img) : Bool := bit (img 23) 0
def Img.castId (img : Img) : Nat := Img.rd img 28 4
def Img.table (img : Img) : Nat := Img.rd img 32 4
def Img.count (img : Img) : Nat := Img.rd img 36 2

/-- A section of a casting (R348), with its index in the table. -/
structure Section where
  index    : Nat
  ty       : Nat
  optional : Bool
  inst     : Nat
  ofs      : Nat
  len      : Nat
  crc      : Nat
  deriving DecidableEq, Repr

/-- The section table (R348). -/
def Img.sections (img : Img) : List Section :=
  (List.range (Img.count img)).map (fun i =>
    let a := Img.table img + 16 * i
    ⟨i, img a, bit (img (a + 1)) 0, Img.rd img (a + 2) 2, Img.rd img (a + 4) 4, Img.rd img (a + 8) 4, Img.rd img (a + 12) 4⟩)

/-- An entry of the pair image table (R376). -/
structure PairImage where
  kind  : Nat
  zero  : Nat
  pairs : Nat
  ofs   : Nat
  len   : Nat
  crc   : Nat
  deriving DecidableEq, Repr

/-- The pair image table (R376). -/
def Img.pairImages (img : Img) : List PairImage :=
  (List.range (Img.count img)).map (fun i =>
    let a := Img.table img + 16 * i
    ⟨img a, img (a + 1), Img.rd img (a + 2) 2, Img.rd img (a + 4) 4, Img.rd img (a + 8) 4, Img.rd img (a + 12) 4⟩)

/-- The layout that casting and firmware headers share (R345, R375): lengths, and a table of at most `most` entries. -/
def Img.layoutOk (img : Img) (most : Nat) : Bool :=
  Img.rd img 6 2 == 128 && Img.len img % 8 == 0 && decide (128 ≤ Img.len img) && decide (Img.len img + 3416 ≤ 8388608) &&
    Img.table img % 16 == 0 && decide (128 ≤ Img.table img) && decide (1 ≤ Img.count img) && decide (Img.count img ≤ most) &&
    decide (Img.table img + 16 * Img.count img ≤ Img.len img)

/-- The section table and the sections lie within the image (R347). -/
def Img.sectionsOk (img : Img) : Bool := (Img.sections img).all (fun x => decide (x.ofs + x.len ≤ Img.len img))

/-- The rules of R376: one manager entry, no pair in two customer entries, lengths by mode, CRCs. -/
def State.pairImagesOk (s : State) (img : Img) : Bool :=
  let es := Img.pairImages img
  let customers := es.filter (fun e => e.kind == 2)
  let split := fun (e : PairImage) => (List.range 8).any (fun p => bit e.pairs p && s.flag (WEAR_PAIRCFG.mode p))
  es.all (fun e => (e.kind == 1 || e.kind == 2) && e.zero == 0 && decide (e.ofs + e.len ≤ Img.len img) &&
      decide (e.len ≤ if split e then 0x40000 else 0xC0000) &&
      (if e.kind = 1 then e.pairs == 0 else e.pairs % 2 == 0 && decide (e.pairs < 256)) &&
      crc32 (Img.bytes img e.ofs e.len) == e.crc) &&
    (es.filter (fun e => e.kind == 1)).length == 1 &&
    (List.range 8).all (fun p => decide ((customers.filter (fun e => bit e.pairs p)).length ≤ 1))

/-- A revision byte names this hardware (R345). -/
def revOk (b : Nat) : Bool := b == 0xA0 || b == 0xFF

/-- Part and revisions (R345). -/
def Img.targetOk (img : Img) : Bool :=
  Img.rd img 20 2 == 0x9664 && revOk (img 22) && (List.range 4).all (fun i => revOk (img (24 + i)))

/-- The live authority slot of a purpose with a key ID and algorithm (R394, R397). -/
def State.authority (s : State) (purpose id alg : Nat) : Option Nat :=
  slots.find? (fun i => s.slotState i == slLIVE && s.slotId i == id && s.slotAlg i == alg && s.get (CRU_SLOT3.purpose i) == purpose)

/-- One signature of the block verifies under the authority key (R346). -/
def State.signedBy (s : State) (img : Img) (purpose alg ofs n : Nat) : Bool :=
  let b := Img.len img
  match s.authority purpose (Img.rd img (b + 4) 2) (if alg = 3 then 6 else 7) with
  | none => false
  | some i => verifies alg (s.slotMat i) (Img.bytes img 0 128) (Img.bytes img (b + ofs) n)

/-- The key, signature and authority tests: codes 0x7 to 0x9 of R347, 0 where they pass. -/
def State.assaySigned (s : State) (img : Img) (purpose : Nat) : Nat :=
  if Img.unsigned img && s.cru.bench then 0
  else
    let id := Img.rd img (Img.len img + 4) 2
    if (s.authority purpose id 6).isNone && (s.authority purpose id 7).isNone then 7
    else if Img.bytes img (Img.len img) 4 != [0x50, 0x4C, 0x47, 0x53] || !s.signedBy img purpose 3 8 96 ||
      !s.signedBy img purpose 5 104 3309 then 8
    else if Img.unsigned img then 9
    else 0

/-- The digest test (R345). -/
def Img.digestOk (img : Img) : Bool := Img.bytes img 80 48 == sha384 (Img.bytes img 128 (Img.len img - 128))

/-- Codes 0x2 to 0x5 of the assay of a casting copy, 0 where they pass (R347). -/
def castLayout (img : Img) : Nat :=
  if Img.bytes img 0 4 != [0x50, 0x4C, 0x47, 0x43] then 2
  else if img 4 != 1 && img 4 != 2 then 3
  else if !(Img.layoutOk img 128 && Img.sectionsOk img) then 4
  else if !Img.targetOk img then 5
  else 0

/-- The assay of a casting copy: its state code, 0 where it passes (R347). -/
def State.castAssay (s : State) (img : Img) : Nat :=
  let c := castLayout img
  if c ≠ 0 then c else if !Img.digestOk img then 6 else s.assaySigned img 1

/-- Codes 0x2 to 0x5 of the assay of a firmware copy (R377). -/
def State.fwLayout (s : State) (img : Img) : Nat :=
  if Img.bytes img 0 4 != [0x50, 0x4C, 0x47, 0x46] then 2
  else if img 4 != 1 then 3
  else if !(Img.layoutOk img 8 && s.pairImagesOk img) then 4
  else if !Img.targetOk img then 5
  else 0

/-- The assay of a firmware copy (R377). -/
def State.fwAssay (s : State) (img : Img) : Nat :=
  let c := s.fwLayout img
  if c ≠ 0 then c else if !Img.digestOk img then 6 else s.assaySigned img 2

/-- The sequence of a copy, 0 when its magic fails (R366, R388). -/
def castSeq (img : Img) : Nat := if castLayout img = 2 then 0 else Img.sequence img
def State.fwSequence (s : State) (img : Img) : Nat := if s.fwLayout img = 2 then 0 else Img.sequence img

/-- The order in which two copies are tried: highest sequence first, A before B (R353). -/
def copyOrder (a b : Nat) : List Nat := if a < b then [1, 0] else [0, 1]

end Sys2Proof.Machine
end

