-- ==== Sys2Proof/Machine/CastLoad.lean ====
section
/-! DEFINITION. Machine/CastLoad.lean: loading a casting: the words that each section may write, the refusals at load, and the
blank casting (R349 to R354, R487). -/

namespace Sys2Proof.Machine

/-- The registers that the records of a section type may write (R350): first address, and counts with strides. -/
def sectionWords (ty : Nat) : List (Nat × List (Nat × Nat)) := match ty with
  | 0x01 => [(CL_BANKCFG.addr 0, [(12, 0x100000)]), (CL_PADCFG.addr 0 0, [(12, 0x100000), (32, 4)]),
      (CL_CANPAD.addr 0 0, [(12, 0x100000), (2, 0x40)]), (PE_PADMAP0.addr 0 0, [(12, 0x100000), (9, 0x1000)]),
      (PE_PADMAP1.addr 0 0, [(12, 0x100000), (9, 0x1000)]), (PE_OWN.addr 0 0, [(12, 0x100000), (9, 0x1000)])]
  | 0x02 => [(PE_PROG.addr 0 0 0, [(12, 0x100000), (9, 0x1000), (128, 4)]), (PE_CFG.addr 0 0, [(12, 0x100000), (9, 0x1000)])]
  | 0x03 => [(CL_QCFG.addr 0 0, [(12, 0x100000), (32, 0x40)]), (CL_QCTL.addr 0 0, [(12, 0x100000), (32, 0x40)]),
      (CL_QREADWAIT.addr 0, [(12, 0x100000)]), (CL_CANCFG.addr 0 0, [(12, 0x100000), (2, 0x40)]),
      (CL_CANNBT.addr 0 0, [(12, 0x100000), (2, 0x40)]), (CL_CANDBT.addr 0 0, [(12, 0x100000), (2, 0x40)]),
      (CL_CANQ.addr 0 0, [(12, 0x100000), (2, 0x40)]), (PE_QBIND.addr 0 0, [(12, 0x100000), (9, 0x1000)]),
      (NODE_CLSLEEP.addr 0, [(12, 4)])]
  | 0x04 => [(BRG_DISCARD.addr 0, [(4, 0x400000)]), (BRG_CHCFG.addr 0 0, [(4, 0x400000), (8, 0x100), (5, 4)])]
  | 0x05 => [(BRG_ROUTESTG.addr 0 0 0, [(4, 0x400000), (1024, 16), (4, 4)])]
  | 0x06 => [(SW_BUFCFG.addr, []), (SW_CAPCFG.addr, [(4, 4)]), (SW_OWGT0.addr 0, [(10, 0x100), (2, 4)]),
      (SW_OQCFG.addr 0 0, [(10, 0x100), (8, 8)]), (SW_ETHTPL.addr 0 0, [(64, 16), (4, 4)]),
      (SW_FLOWSTG.addr 0 0, [(1024, 16), (4, 4)]), (SW_GRPSTG.addr 0 0, [(256, 16), (4, 4)])]
  | 0x07 => [(ETH_GCFG.addr 0, [(4, 0x100), (3, 4)]), (ETH_GCLSTG.addr 0 0 0, [(4, 0x1000), (256, 8), (2, 4)])]
  | 0x08 => [(ETH_SHAPE0.addr 0, [(1024, 8), (2, 4)])]
  | 0x09 => [(NODE_SLEEPCFG.addr, []), (NODE_CLWAKE.addr 0, [(12, 4)]), (PWR_CARDCFG0.addr, [(6, 4)])]
  | 0x0A => [(FEED_CFG0.addr 0, [(16, 0x20), (4, 4)])]
  | 0x0B => [(TIM_SERVO.addr, [(7, 4)]), (TIM_ASYM.addr 0, [(2, 0x20)]), (TIM_ETHCFG.addr 0, [(2, 0x20), (2, 4)]),
      (TIM_LAUNCH.addr, [])]
  | 0x0C => [(RING_NODEID.addr, []), (RING_CYCPER.addr, [(2, 4)]), (RING_SEAM.addr, [(2, 4)]), (RING_HEADCFG.addr, []),
      (RING_SLOT.addr 0 0, [(64, 16), (4, 4)]), (RING_LCTL.addr 0, [(2, 0x1000)]), (RING_LTIMER.addr 0, [(2, 0x1000)]),
      (ETH_BRCFG.addr, [(3, 4)]), (HOST_CFG.addr, [])]
  | 0x0D => [(FLT_CFG.addr, [(2, 4)]), (FLT_FWDQ.addr, []), (FLT_REACT.addr 0, [(256, 4)]), (QCH_CFG.addr, []),
      (CRU_TPOL.addr, [(2, 4)])]
  | 0x0E => [(WEAR_THR.addr 0, [(9, 4)]), (WEAR_PAIRCFG.addr 0, [(10, 4)])]
  | _ => []

/-- Instances of a section type: clusters, regions, gated egresses; 0 where it has none (R350). -/
def typeInstances (ty : Nat) : Nat := match ty with
  | 1 => 12
  | 2 => 12
  | 3 => 12
  | 4 => 4
  | 5 => 4
  | 7 => 4
  | _ => 0

/-- The record may write the word at a in a section of this type and instance (R349, R350). -/
def wordAllowed (ty inst a : Nat) : Bool :=
  (sectionWords ty).any (fun e =>
    decide (e.1 ≤ a) && (match locate e.2 (a - e.1) with
      | some is => typeInstances ty == 0 || inst == 0xFFFF || nth is 0 == inst
      | none => false))

/-- Some section type may write the word: it is cast. -/
def isCastWord (a : Nat) : Bool := (List.range 15).any (fun ty => wordAllowed ty 0xFFFF a)

/-- A field that a casting writes (R349). -/
def castField (e : Fld × Access) : Bool := e.2 == .rw || e.2 == .rwl

/-- Cast fields of these words take their defaults (R351). -/
def State.clearCast (s : State) (p : Nat → Bool) : State :=
  { s with regs := s.regs.filter (fun e =>
    let a := e.1 / 32 * 4
    !(p a && (match regAt a with
      | some fs => fs.any (fun f => f.1.key == e.1 && castField f)
      | none => false))) }

/-- Why a load is refused: code, section index, offset of the word (R352). -/
abbrev LoadErr := Nat × Nat × Nat

/-- Carry out f on each element in turn, until one refuses. -/
def loadEach {α : Type} (f : State → α → Except LoadErr State) : List α → State → Except LoadErr State
  | [], s => .ok s
  | x :: l, s => match f s x with
    | .error e => .error e
    | .ok t => loadEach f l t

/-- The physical engine of Kk to which the records of set n apply (R487): the one with logical number n, the spare for set 8. -/
def State.setEngine (s : State) (k n : Nat) : Option Nat :=
  (List.range 9).find? (fun m => s.get (PE_STATUS.logical k m) == if n < 8 then n else 15)

/-- Where the word at a is written: the words of an engine follow R487. -/
def State.castTarget (s : State) (a : Nat) : Option Nat :=
  if 0x1080000 ≤ a ∧ a < 0x1C00000 ∧ 0x80000 ≤ a % 0x100000 then
    let n := (a % 0x100000 - 0x80000) / 0x1000
    (s.setEngine ((a - 0x1000000) / 0x100000) n).map (fun m => a - 0x1000 * n + 0x1000 * m)
  else some a

/-- The live word behind a staged one (R350). -/
def liveWord (a : Nat) : Option Nat :=
  if wordAllowed 5 0xFFFF a then some (a - 0x10000)
  else if 0x120000 ≤ a ∧ a < 0x124000 then some (a - 0x10000)
  else if 0x150000 ≤ a ∧ a < 0x151000 then some (a - 0x10000)
  else if 0x410800 ≤ a ∧ a < 0x414000 ∧ 0x800 ≤ a % 0x1000 then some (a - 0x800)
  else none

/-- Write the cast fields of the word at a. -/
def State.putWord (s : State) (a w : Nat) : State :=
  match regAt a with
  | none => s
  | some fs => fs.foldl (fun s e => s.put e.1 (bits w e.1.lsb e.1.width)) s

/-- Bits of a word that lie in RO fields without a name (R349): bits [31:24] of a slot offset of RING_SLOT. -/
def unnamedBits (a w : Nat) : Nat :=
  if RING_SLOT.addr 0 0 ≤ a ∧ a < RING_SLOT.addr 64 0 ∧ a % 8 = 0 then bits w 24 8 else 0

/-- One data word of a record (R349, R351, R352); `keep` tells which words are applied. -/
def State.loadWord (s : State) (x : Section) (keep : Nat → Bool) (a w : Nat) : Except LoadErr State :=
  match regAt a with
  | none => .error (1, x.index, a)
  | some fs =>
    if !wordAllowed x.ty x.inst a || !fs.any castField then .error (1, x.index, a)
    else if fs.any (fun e => !castField e && bits w e.1.lsb e.1.width != 0) || unnamedBits a w != 0 then .error (2, x.index, a)
    else if SMap.getD s.cst.written a 0 ≠ 0 then .error (3, x.index, a)
    else
      let s := { s with cst := { s.cst with written := SMap.insert s.cst.written a (x.index + 1) } }
      if !keep a then .ok s
      else match s.castTarget a with
        | none => .ok s
        | some t =>
          let s := (fs.filter castField).foldl (fun s e =>
            s.put { e.1 with addr := t } (bits w e.1.lsb e.1.width)) s
          .ok (match liveWord a with
            | none => s
            | some b =>
              let s := s.putWord b w
              if x.ty = 5 then { s with cst := { s.cst with routes := SMap.insert s.cst.routes b w } } else s)

/-- The records of a section, as words (R349). -/
def State.loadRecords (s : State) (x : Section) (keep : Nat → Bool) : Nat → List Nat → Except LoadErr State
  | 0, _ => .ok s
  | _ + 1, [] => .ok s
  | _ + 1, [_] => .error (8, x.index, 0)
  | fuel + 1, w0 :: w1 :: rest =>
    if 2 ^ 28 ≤ w0 ∨ w0 % 4 ≠ 0 ∨ w1 = 0 ∨ 16384 < w1 then .error (2, x.index, w0 % 2 ^ 28)
    else if rest.length < w1 then .error (8, x.index, w0)
    else match loadEach (fun s (e : Nat × Nat) => s.loadWord x keep (w0 + 4 * e.2) e.1) (rest.take w1).zipIdx s with
      | .error e => .error e
      | .ok t => t.loadRecords x keep fuel (rest.drop w1)

/-- The words of a section body. -/
def Img.body (img : Img) (x : Section) : List Nat := toWords (Img.bytes img x.ofs x.len)

/-- The clusters that a section covers. -/
def Section.clusters (x : Section) : List Nat := if x.inst = 0xFFFF then List.range 12 else [x.inst]

/-- A SETTINGS body: entries of offset, mask and default (R350). -/
def settingsEntries (ws : List Nat) : List (Nat × Nat × Nat) :=
  (List.range (ws.length / 3)).map (fun i => (nth ws (3 * i), nth ws (3 * i + 1), nth ws (3 * i + 2)))

/-- The bits of a word that hold RW fields. -/
def rwMask (a : Nat) : Nat := match regAt a with
  | none => 0
  | some fs => fs.foldl (fun m e => if e.2 == .rw then m + (2 ^ e.1.width - 1) * 2 ^ e.1.lsb else m) 0

/-- A KEYREF body (R397). -/
def keyRefs (ws : List Nat) : List KeyRef :=
  (List.range (ws.length / 2)).map (fun i =>
    ⟨nth ws (2 * i) % 256, bits (nth ws (2 * i)) 8 8, bits (nth ws (2 * i)) 16 16, nth ws (2 * i + 1) % 65536⟩)

/-- A KEYREF body breaks R397: a byte that must be 0, or a purpose or slot that is none. -/
def keyRefError (ws : List Nat) : Option Nat :=
  if (List.range (ws.length / 2)).any (fun i => nth ws (2 * i + 1) ≥ 65536) then some 2
  else if (keyRefs ws).any (fun r => r.purpose == 0 || 8 < r.purpose || r.slot < 2 || (63 < r.slot && r.slot != 0xFF)) then some 0x10
  else none

/-- One section: its CRC, its preamble and its records (R349 to R352). -/
def State.loadSection (img : Img) (keep : Nat → Bool) (s : State) (x : Section) : Except LoadErr State :=
  let ws := Img.body img x
  if x.ofs % 4 ≠ 0 ∨ x.len % 4 ≠ 0 ∨ crc32 (Img.bytes img x.ofs x.len) ≠ x.crc then .error (8, x.index, 0)
  else match x.ty with
    | 0x02 =>
      if ws.isEmpty then .error (8, x.index, 0)
      else if 512 ≤ nth ws 0 then .error (2, x.index, 0)
      else
        let s := x.clusters.foldl (fun s k =>
          if keep (NODE_CLSLEEP.addr k) then
            { s with cst := { s.cst with autostart := SMap.set s.cst.autostart k (nth ws 0) 0 } }
          else s) s
        s.loadRecords x keep (ws.length + 1) (ws.drop 1)
    | 0x0C =>
      if ws.length < 65 then .error (8, x.index, 0)
      else if 64 ≤ nth ws 0 then .error (2, x.index, 0)
      else
        let s := (s.put RING_NODEID.id (nth ws 0))
        let ids : SMap Nat := (List.range 64).foldl (fun m n => SMap.set m n (nth ws (n + 1)) 0) []
        let s := { s with ring := { s.ring with castIds := ids } }
        s.loadRecords x keep (ws.length + 1) (ws.drop 65)
    | 0x0F =>
      let es := settingsEntries ws
      if ws.length % 3 ≠ 0 ∨ 1024 < es.length then .error (8, x.index, 0)
      else match es.find? (fun e => rwMask e.1 == 0 || e.2.1 &&& rwMask e.1 != e.2.1) with
        | some e => .error (if rwMask e.1 = 0 then 1 else 2, x.index, e.1 % 2 ^ 28)
        | none => .ok { s with cst := { s.cst with settings := es } }
    | 0x10 =>
      if ws.length % 2 ≠ 0 then .error (8, x.index, 0)
      else match keyRefError ws with
        | some c => .error (c, x.index, 0)
        | none => .ok { s with cst := { s.cst with keyrefs := keyRefs ws } }
    | _ => s.loadRecords x keep (ws.length + 1) ws

/-- Put a section into a list by ascending type, then instance (R351). -/
def insertSection (x : Section) : List Section → List Section
  | [] => [x]
  | y :: l => if x.ty < y.ty ∨ (x.ty = y.ty ∧ x.inst < y.inst) then x :: y :: l else y :: insertSection x l

/-- The loader knows the type (R348): format major 1 has no SETTINGS section. -/
def typeKnown (fmt ty : Nat) : Bool := decide (1 ≤ ty) && decide (ty ≤ 0x10) && !(fmt == 1 && ty == 0x0F)

/-- The instance is one of its section type (R350): a type with instances takes exactly those in format major 2, and 0xFFFF in 1. -/
def instanceOk (fmt ty inst : Nat) : Bool :=
  if fmt = 1 ∨ typeInstances ty = 0 then inst == 0xFFFF else decide (inst < typeInstances ty)

/-- The section table breaks R348 or R350: codes 0x04 to 0x07 (R352). -/
def tableError (img : Img) : Option LoadErr :=
  let xs := Img.sections img
  let ks := xs.filter (fun x => typeKnown (img 4) x.ty)
  ((xs.find? (fun x => !typeKnown (img 4) x.ty && !x.optional)).map (fun x => (7, x.index, 0))).orElse (fun _ =>
  ((ks.find? (fun x => !instanceOk (img 4) x.ty x.inst)).map (fun x => (6, x.index, 0))).orElse
    (fun _ =>
  ((ks.find? (fun x => ks.any (fun y => decide (y.index < x.index) && y.ty == x.ty && y.inst == x.inst))).map
    (fun x => (5, x.index, 0))).orElse (fun _ =>
  if [0x0C, 0x0D, 0x10].all (fun t => ks.any (fun x => x.ty == t)) then none else some (4, 0, 0))))

/-! ### Refusals that other chapters state (R351, R352) -/

/-- The owners of pad p of Kk: every slot of an engine that owns it is one, as 0; CAN FD controller j is 16 + j. The spare's and a
retired engine's sets own nothing (R60, R98, R487). -/
def State.padOwners (s : State) (k p : Nat) : List Nat :=
  ((List.range 72).filter (fun i => decide (s.get (PE_STATUS.logical k (i / 8)) < 8) && s.ownsSlot k (i / 8) (i % 8) &&
    s.flag (PE_PADMAP.en k (i / 8) (i % 8)) && s.get (PE_PADMAP.pad k (i / 8) (i % 8)) == p)).map (fun _ => 0) ++
  ((List.range 2).filter (fun j =>
    (s.flag (CL_CANPAD.tx_en k j) && s.get (CL_CANPAD.tx_pad k j) == p) ||
      (s.flag (CL_CANPAD.stb_en k j) && s.get (CL_CANPAD.stb_pad k j) == p))).map (16 + ·)

/-- A slot or controller of Kk names pad p. -/
def State.padMapped (s : State) (k p : Nat) : Bool :=
  (List.range 9).any (fun n => decide (s.get (PE_STATUS.logical k n) < 8) && (List.range 8).any (fun sl =>
    s.flag (PE_PADMAP.en k n sl) && s.get (PE_PADMAP.pad k n sl) == p)) ||
  (List.range 2).any (fun j =>
    (s.flag (CL_CANPAD.tx_en k j) && s.get (CL_CANPAD.tx_pad k j) == p) ||
      (s.flag (CL_CANPAD.rx_en k j) && s.get (CL_CANPAD.rx_pad k j) == p) ||
      (s.flag (CL_CANPAD.stb_en k j) && s.get (CL_CANPAD.stb_pad k j) == p))

/-- Pad, owner and LVDS rules: code 0x09 (R60, R91, R92). -/
def State.padError (s : State) (k p : Nat) : Option (Nat × Nat) :=
  let own := s.padOwners k p
  let drive := s.get (CL_PADCFG.drive k p)
  let mate := if p % 2 = 0 then p + 1 else p - 1
  let pair := drive == 3 || s.get (CL_PADCFG.drive k mate) == 3
  let volt := s.get (if p < 16 then CL_BANKCFG.b0_volt k else CL_BANKCFG.b1_volt k)
  if (drive = 0 ∧ own ≠ []) ∨ (s.get (CL_PADCFG.share k p) = 0 ∧ 1 < own.length) ∨
      (own.any (· < 16) = true ∧ own.any (16 ≤ ·) = true) ∨
      (pair = true ∧ (drive ≠ 3 ∨ s.get (CL_PADCFG.share k p) ≠ 0 ∨ volt ≠ 2)) ∨
      (pair = true ∧ p % 2 = 1 ∧ s.padMapped k p = true) then some (9, CL_PADCFG.addr k p)
  else none

/-- The units that consume queue q of Kk, by the kind of R103: 1 an engine, 2 a CAN FD controller, 3 a channel. -/
def State.consumers (s : State) (k q : Nat) : List Nat :=
  ((List.range 9).filter (fun n => decide (s.get (PE_STATUS.logical k n) < 8) && s.flag (PE_QBIND.rx_en k n) &&
    s.get (PE_QBIND.rx_queue k n) == q)).map (fun _ => 1) ++
  ((List.range 2).filter (fun j => s.flag (CL_CANQ.tx_en k j) && s.get (CL_CANQ.tx_queue k j) == q)).map (fun _ => 2) ++
  ((List.range 32).filter (fun c => (s.chMode c == 1 || s.chMode c == 2) && s.chCluster c == k && s.chInQ c == q)).map (fun _ => 3)

/-- Queue rules: code 0x0A (R103). A channel whose queue names another consumer breaks R116 instead. That a base or depth that is no
multiple of 4, a depth outside 4 to 2,048 and a bound consumer other than CL_QCTL.consumer are refused too is the model's (DESIGN
CHOICE, log 284). -/
def State.queueError (s : State) (k q : Nat) : Option (Nat × Nat) :=
  let base := s.get (CL_QCFG.base k q)
  let depth := s.qCast k q
  let cs := s.consumers k q
  if s.qOn k q = true ∧ (base % 4 ≠ 0 ∨ depth % 4 ≠ 0 ∨ depth < 4 ∨ 2048 < depth) then some (0x0A, CL_QCFG.addr k q)
  else if 16384 < base + depth then some (0x0A, CL_QCFG.addr k q)
  else if s.qOn k q && (List.range 32).any (fun r => r != q && s.qOn k r && decide (base < s.get (CL_QCFG.base k r) + s.qCast k r) &&
      decide (s.get (CL_QCFG.base k r) < base + depth)) then some (0x0A, CL_QCFG.addr k q)
  else if 1 < cs.length ∨ (s.qOn k q = true ∧ cs.any (fun c => c != 3 && c != s.get (CL_QCTL.consumer k q)) = true) then some (0x0A, CL_QCTL.addr k q)
  else none

/-- The transmit pad of a CAN FD controller is push-pull and single: code 0x0A (R98). -/
def State.canPadError (s : State) (k j : Nat) : Option (Nat × Nat) :=
  let p := s.get (CL_CANPAD.tx_pad k j)
  if s.flag (CL_CANPAD.tx_en k j) && (s.get (CL_PADCFG.drive k p) != 1 || s.get (CL_PADCFG.share k p) != 0) then
    some (0x0A, CL_CANPAD.addr k j)
  else none

/-- The ranges of a CAN FD controller that the casting gives a pad or a queue: code 0x0A (R97; log 251). The fields hold each value
less one, so that the widths keep the upper limits. -/
def State.canTimingError (s : State) (k j : Nat) : Option (Nat × Nat) :=
  let used := s.flag (CL_CANPAD.tx_en k j) || s.flag (CL_CANPAD.rx_en k j) || s.flag (CL_CANQ.tx_en k j) || s.flag (CL_CANQ.rx_en k j)
  if !used then none
  else if s.get (CL_CANNBT.nseg1 k j) = 0 ∨ s.get (CL_CANNBT.nseg2 k j) = 0 ∨
      s.get (CL_CANNBT.nseg2 k j) < s.get (CL_CANNBT.nsjw k j) then some (0x0A, CL_CANNBT.addr k j)
  else if s.get (CL_CANDBT.dseg2 k j) < s.get (CL_CANDBT.dsjw k j) then some (0x0A, CL_CANDBT.addr k j)
  else none

/-- Bridge rules: code 0x0B (R116, R267). -/
def State.channelError (s : State) (c : Nat) : Option (Nat × Nat) :=
  let r := c / 8
  let n := c % 8
  let m := s.chMode c
  let k := s.chCluster c
  if m ≠ 1 ∧ m ≠ 2 then none
  else if s.get (BRG_CHCFG.cluster r n) = 3 ∨ (m = 2 ∧ s.chTarget c = true) then some (0x0B, BRG_CHCFG.addr r n)
  else if (m = 1 ∧ (s.qStream k (s.chInQ c) || s.qStream k (s.chOutQ c)) = true) ∨ s.get (CL_QCTL.consumer k (s.chInQ c)) ≠ 3 ∨
      (List.range c).any (fun d => (s.chMode d == 1 || s.chMode d == 2) && s.chCluster d == k && s.chInQ d == s.chInQ c) = true then
    some (0x0B, BRG_CHQ.addr r n)
  else if m = 1 ∧ s.chTarget c = true ∧ 2 ^ 14 ≤ s.get (BRG_CHTGT.tgt_base r n) then some (0x0B, BRG_CHTGT.addr r n)
  else none

/-- Switch rules: code 0x0C (R163, R183, R192, R270); a casting that leaves SW_CAPBASE unwritten leaves it at 0. -/
def State.switchError (s : State) : Option (Nat × Nat) :=
  let total := ((List.range 10).map (fun o => s.get (SW_OQCFG.limit o 7) + s.get (SW_OQCFG.limit o 6))).sum
  if s.get SW_BUFCFG.be_floor < total then some (0x0C, SW_BUFCFG.addr)
  else if s.get SW_CAPBASE.base < 0xC000 ∨ 0xC1A0 < s.get SW_CAPBASE.base then some (0x0C, SW_CAPBASE.addr)
  else none

/-- Slot rules: code 0x0D (R189, R240). -/
def State.slotError (s : State) (i : Nat) : Option (Nat × Nat) :=
  let n := i / 2
  let p := i % 2
  let len := s.get (RING_SLOTLEN.len n p)
  if len = 0 then none
  else if s.period < s.get (RING_SLOT.offset n p) + len + s.seamLen ∨ (n = s.nodeId ∧ 4000 < len) then
    some (0x0D, RING_SLOT.addr n p)
  else none

/-- Gate rules: code 0x0D (R326, R327). -/
def State.gateError (s : State) (g : Nat) : Option (Nat × Nat) :=
  if s.listOn g && !s.stagedOk g then some (0x0D, ETH_GCFG.addr g)
  else if g < 2 ∧ s.listOn g = false ∧ (List.range 64).any (fun n => s.get (RING_SLOTLEN.len n g) != 0) = true then
    some (0x0D, ETH_GCFG.addr g)
  else none

/-- Medium rules: code 0x0E (R228). -/
def State.mediumError (s : State) (p : Nat) : Option (Nat × Nat) :=
  if s.get (RING_LCTL.medium p) = 2 ∧ s.flag (RING_LCTL.spare_en p) = true then some (0x0E, RING_LCTL.addr p) else none

/-- Shaping rules: code 0x0F (R338). -/
def State.shapeError (s : State) (f : Nat) : Option (Nat × Nat) :=
  if bit (s.get (SW_FLOW.word f 0)) 9 && s.get (ETH_SHAPE0.rate f) == 0 then some (0x0F, ETH_SHAPE0.addr f) else none

/-- A reaction that R462 does not allow: code 0x10. -/
def State.reactError (s : State) (src : Nat) : Option (Nat × Nat) :=
  let c := s.get (FLT_REACT.class_ src)
  let sc := s.get (FLT_REACT.scope src)
  let stops := [0x01, 0x11, 0x12, 0x14]
  let parks := [0x01, 0x02, 0x03, 0x04, 0x11, 0x12, 0x13, 0x14, 0x21, 0x72, 0xA1, 0xA2]
  let fixed := [0x22, 0x73, 0x84]
  if 4 < c ∨ sc = 3 ∨ (c = 1 ∧ stops.contains src = false) ∨ (c = 2 ∧ parks.contains src = false) ∨
      (fixed.contains src = true ∧ (c ≠ (FLT_REACT.class_ src).reset ∨ sc ≠ (FLT_REACT.scope src).reset)) ∨
      (src = 0x71 ∧ c < (FLT_REACT.class_ src).reset) then some (0x10, FLT_REACT.addr src)
  else none

/-- The pairs' roles and modes (R371): CP0 manager in lockstep, CP1 to CP7 customers, CP8 and CP9 spare, one of them standby
in lockstep. -/
def State.pairError (s : State) (p : Nat) : Option (Nat × Nat) :=
  let role := s.get (WEAR_PAIRCFG.role p)
  let split := s.flag (WEAR_PAIRCFG.mode p)
  let ok := if p = 0 then role = 0 ∧ split = false
    else if p < 8 then role = 1
    else role = 3 ∨ (role = 2 ∧ split = false ∧ ¬ (p = 9 ∧ s.get (WEAR_PAIRCFG.role 8) = 2))
  if ok then none else some (0x10, WEAR_PAIRCFG.addr p)

/-- Codes that register maps mark as refused at load: code 0x10 (R156, R263, R322, R371, R442, R462). -/
def State.codeError (s : State) : Option (Nat × Nat) :=
  ((List.range 32).findSome? (fun c =>
    if s.chMode c = 3 ∨ s.get (BRG_CHCFG.unit (c / 8) (c % 8)) = 3 then some (0x10, BRG_CHCFG.addr (c / 8) (c % 8)) else none)).orElse
    (fun _ =>
  (if s.get HOST_CFG.head_cast = 3 then some (0x10, HOST_CFG.addr) else none : Option (Nat × Nat)).orElse (fun _ =>
  (if s.get TIM_SRC.sec_src = 3 then some (0x10, TIM_SRC.addr) else none : Option (Nat × Nat)).orElse (fun _ =>
  (if 4 < s.get NODE_SLEEPCFG.max_state then some (0x10, NODE_SLEEPCFG.addr) else none : Option (Nat × Nat)).orElse (fun _ =>
  ((List.range 12).findSome? (fun k => if 4 < s.get (NODE_CLSLEEP.class_ k) then some (0x10, NODE_CLSLEEP.addr k) else none)).orElse
    (fun _ =>
  (sources.findSome? s.reactError).orElse (fun _ => (List.range 10).findSome? s.pairError))))))

/-- The first refusal of R351, with the word that breaks it. -/
def State.loadError (s : State) : Option (Nat × Nat) :=
  ((List.range 384).findSome? (fun i => s.padError (i / 32) (i % 32))).orElse (fun _ =>
  ((List.range 384).findSome? (fun i => s.queueError (i / 32) (i % 32))).orElse (fun _ =>
  ((List.range 24).findSome? (fun i => (s.canPadError (i / 2) (i % 2)).orElse (fun _ => s.canTimingError (i / 2) (i % 2)))).orElse (fun _ =>
  ((List.range 32).findSome? s.channelError).orElse (fun _ =>
  s.switchError.orElse (fun _ =>
  ((List.range 128).findSome? s.slotError).orElse (fun _ =>
  ((List.range 4).findSome? s.gateError).orElse (fun _ =>
  ((List.range 2).findSome? s.mediumError).orElse (fun _ =>
  ((List.range 1024).findSome? s.shapeError).orElse (fun _ => s.codeError)))))))))

/-- Every cast field takes its default, with no section loaded. -/
def State.castDefaults (s : State) : State :=
  let s := (s.clearCast isCastWord).keepRegs (fun a =>
    !(decide (0x110000 ≤ a) && decide (a < 0x114000)) && !(decide (0x140000 ≤ a) && decide (a < 0x141000)) &&
    !(decide (0x410000 ≤ a) && decide (a < 0x414000)) &&
    !(decide (0x2000000 ≤ a) && decide (a < 0x3000000) && decide (0x10000 ≤ a % 0x400000) && decide (a % 0x400000 < 0x14000)))
  let s := { s with ring := { s.ring with castIds := [] } }
  { s with cst := { s.cst with
    committed := false, sections := [], autostart := [], routes := [], settings := [], keyrefs := [], written := [] } }

/-- Load a casting (R351, R352): the new cast fields, or why it is refused; a refused load leaves nothing behind (R353). -/
def State.loadCasting (s : State) (img : Img) : Except LoadErr State :=
  match tableError img with
  | some e => .error e
  | none =>
    let xs := ((Img.sections img).filter (fun x => typeKnown (img 4) x.ty)).foldl (fun l x => insertSection x l) []
    match loadEach (State.loadSection img (fun _ => true)) xs s.castDefaults with
    | .error e => .error e
    | .ok t =>
      let t := if t.get RING_NODEID.src = 1 then t else t.put RING_NODEID.id s.lev.straps.nodeId
      match t.loadError with
      | some e => .error (e.1, SMap.getD t.cst.written e.2 1 - 1, e.2)
      | none => .ok { t with cst := { t.cst with sections := xs.map (fun x => (x.ty, x.inst, x.crc)) } }

/-- The new PADMAP, PEPROG and CLUSTER words of one cluster (R364); the image has passed its load. -/
def State.loadCluster (s : State) (img : Img) (k : Nat) : State :=
  let mine := fun a => (wordAllowed 1 k a || wordAllowed 2 k a || wordAllowed 3 k a)
  let xs := ((Img.sections img).filter (fun x => decide (1 ≤ x.ty) && decide (x.ty ≤ 3))).foldl (fun l x => insertSection x l) []
  let t := s.clearCast mine
  let t := { t with cst := { t.cst with written := [], autostart := SMap.set t.cst.autostart k 0 0 } }
  match loadEach (State.loadSection img mine) xs t with
  | .error _ => s
  | .ok t => t

/-- The blank casting (R354): defaults, and ring ports that offer versions 1.0 and 1.1 with the spare lane in use. -/
def State.loadBlank (s : State) : State :=
  let s := s.castDefaults
  let s := s.put RING_NODEID.id s.lev.straps.nodeId
  [0, 1].foldl (fun s p => s.puts [(RING_LCTL.versions p, 3), (RING_LCTL.spare_en p, 1)]) s

end Sys2Proof.Machine
end

