-- ==== Sys2Proof/Machine/Power.lean ====
section
/-! DEFINITION. Machine/Power.lean: die W: seating, the card FET, the 16 feeds and the regulators (R443 to R458). FET u is
feed u below 16 and the card at 16. Voltages are in units of 10 mV; the electrical condition that a command tells is its
operand. -/

namespace Sys2Proof.Machine

/-- The controller states (R446). -/
abbrev psSEAT : Nat := 0
abbrev psOFF : Nat := 1
abbrev psWAIT_TEMP : Nat := 2
abbrev psRAMP : Nat := 3
abbrev psON : Nat := 4
abbrev psRETRY_WAIT : Nat := 5
abbrev psSTOPPED : Nat := 6
abbrev psSHORT : Nat := 7

/-- The fields of FET u. -/
def fetState (u : Nat) : Fld := if u = 16 then PWR_STATUS.card_state else FEED_STAT.state u
def fetPg (u : Nat) : Fld := if u = 16 then PWR_STATUS.card_pg else FEED_STAT.pg u
def fetShort (u : Nat) : Fld := if u = 16 then PWR_STATUS.fet_short else FEED_STAT.short u
def fetLimit (u : Nat) : Fld := if u = 16 then PWR_STATUS.limit else FEED_STAT.limit u
def fetTrips (u : Nat) : Fld := if u = 16 then PWR_CARDCNT.trips else FEED_CNT.trips u
def fetModel (u : Nat) : Fld := if u = 16 then PWR_CARDMEAS1.t_model else FEED_MEAS.t_model u

/-- The cast values of FET u: fault time in 100 µs, retries, PG_DELAY in 100 µs, T_RESTART and T_TRIP as °C + 64. -/
def State.fetTime (s : State) (u : Nat) : Nat :=
  min 1000 (max 1 (s.get (if u = 16 then PWR_CARDCFG0.ftimer else FEED_CFG0.ftimer u)))
def State.fetRetries (s : State) (u : Nat) : Nat :=
  s.get (if u = 16 then PWR_CARDCFG0.retry_max else FEED_CFG0.retry_max u)
def State.fetDelay (s : State) (u : Nat) : Nat :=
  max 1 (s.get (if u = 16 then PWR_CARDCFG1.pg_delay else FEED_CFG1.pg_delay u))
def State.fetRestart (s : State) (u : Nat) : Nat :=
  s.get (if u = 16 then PWR_CARDCFG1.t_restart else FEED_CFG1.t_restart u)
def State.fetTripAt (s : State) (u : Nat) : Nat :=
  s.get (if u = 16 then PWR_CARDCFG1.t_trip else FEED_CFG1.t_trip u)

def State.fet (s : State) (u : Nat) : Fet := SMap.getD s.pow.fets u {}
def State.setFet (s : State) (u : Nat) (x : Fet) : State :=
  { s with pow := { s.pow with fets := SMap.set s.pow.fets u x {} } }

/-- The gate of FET u is on (R446). -/
def State.gateOn (s : State) (u : Nat) : Bool := s.get (fetState u) == psRAMP || s.get (fetState u) == psON

/-- A supply inside the window of PWR_VINWIN (R449). -/
def State.inWindow (s : State) (v : Nat) : Bool :=
  decide (25 * s.get PWR_VINWIN.uv ≤ v) && decide (v ≤ 25 * s.get PWR_VINWIN.ov)

/-- An output inside its window (R453). -/
def State.outputGood (s : State) (supply vout : Nat) : Bool := decide (supply ≤ vout + 5 * s.get PWR_VINWIN.pg_drop)

/-- Die W measures the supply and the output of FET u. -/
def State.feedMeasure (s : State) (u supply vout : Nat) : State :=
  if u = 16 then s.puts [(PWR_CARDMEAS0.vin, supply), (PWR_CARDMEAS0.vout, vout)]
  else s.puts [(PWR_FIELD.vfield, supply), (FEED_STAT.vout u, vout)]

/-- Die W detects a fault: it is reported at once, or waits while die S has no power or the S–W link is lost (R448, R461). -/
def State.wReport (s : State) (f : FaultInfo) : State :=
  if s.pow.dieOff || s.lev.wLost then { s with pow := { s.pow with waiting := s.pow.waiting ++ [f] } } else s.report f

/-- A fault of FET u (R461): its sources for the card and for a feed. -/
def State.fetReport (s : State) (u card feed extra : Nat) : State :=
  if u = 16 then s.wReport { src := card, master := 0x0A10, addr := s.domainAddr PWR_STATUS.addr, extra := extra }
  else s.wReport { src := feed, master := 0x0A00 + u, addr := s.domainAddr (FEED_CTL.addr u), extra := extra }

/-- The enables that are up drop in reverse order, 100 µs apart (R455). -/
def State.dropEnables (s : State) : State :=
  let en := s.get PWR_STATUS.reg_en
  let s := ((members 4 en).reverse).foldl (fun s i => s.emit (.regEn i false)) s
  { s.zero PWR_STATUS.reg_en with pow := { s.pow with enAt := [] } }

/-- Power good of FET u drops; CARD_PG takes the enables with it (R453, R455). -/
def State.pgDrop (s : State) (u : Nat) : State :=
  if !s.flag (fetPg u) then s
  else
    let s := s.zero (fetPg u)
    if u = 16 then (s.emit (.cardPg false)).dropEnables else s

/-- The gate of FET u is commanded off and its controller takes a state (R446); with the card FET off dies S, P0 and P1 lose
their power (R443). -/
def State.gateOff (s : State) (u st : Nat) : State :=
  let on := s.gateOn u
  let s := (s.pgDrop u).puts [(fetState u, st), (fetLimit u, 0)]
  let x := s.fet u
  let x := { x with timer := 0, limitAt := none, clearAt := none, onAt := none, pgAt := none }
  if !on then s.setFet u x
  else
    let s := (s.setFet u { x with offAt := some s.now }).emit (.gate u false)
    if u = 16 then
      let s := s.dropEnables.powerReset false
      { s with pow := { s.pow with dieOff := true } }
    else s

/-- A trip of FET u (R446, R448). -/
def State.trip (s : State) (u : Nat) : State :=
  let s := (s.gateOff u psRETRY_WAIT).bump (fetTrips u)
  s.fetReport u 0x91 0x92 (min 255 (s.get (fetTrips u)))

/-- FET u goes to WAIT_TEMP from a state with its gate off; `cold`: from SEAT (R446, R451). -/
def State.waitTemp (s : State) (u : Nat) (cold : Bool) : State :=
  (s.put (fetState u) psWAIT_TEMP).setFet u { s.fet u with cold := cold, measAt := none }

/-- SEAT_DEBOUNCE: both seat pins have been low for 50 ms (R444). -/
def execSeatDebounce (s : State) : Out :=
  if s.get PWR_STATUS.card_state ≠ psSEAT then next s else next (s.waitTemp 16 true)

/-- SEAT_RELEASE (R444, R445): every FET off, the card to SEAT; trip counts and retry timers are not carried across. A feed
with latched damage keeps SHORT (R452). -/
def execSeatRelease (s : State) : Out :=
  if s.get PWR_STATUS.card_state = psSEAT then fin s
  else
    let s := (List.range 16).foldl (fun s n =>
      let s := s.gateOff n (if s.flag (fetShort n) then psSHORT else psOFF)
      (s.zero (fetTrips n)).setFet n { s.fet n with retries := 0 }) s
    let s := s.gateOff 16 psSEAT
    fin ((s.zero (fetTrips 16)).setFet 16 { s.fet 16 with retries := 0 })

/-- The temperature of R451 is below T_RESTART. -/
def State.coolEnough (s : State) (u : Nat) : Bool :=
  let x := s.fet u
  if u = 16 && x.cold then
    x.measAt.isSome && !s.flag PWR_STATUS.sensor_fault && decide (s.get PWR_CARDMEAS1.t_meas < s.fetRestart 16)
  else decide ((s.get PWR_FIELD.t_diew : Rat) + x.rise < (s.fetRestart u : Rat))

/-- TEMP_RESTART_OK (R446): lo and hi bound the supply of FET u over the last 10 ms. -/
def execTempRestartOk (u : Fin 17) (lo hi : Nat) (s : State) : Out :=
  if s.get (fetState u) ≠ psWAIT_TEMP || s.flag (fetShort u) || !s.inWindow lo || !s.inWindow hi || !s.coolEnough u then
    next s
  else next ((s.put (fetState u) psRAMP).emit (.gate u true))

/-- TSENSE_MEASURE: a reading of FET_TSENSE as °C + 64, or an open or shorted sensor (R451): every 10 ms, every 100 ms after a
sensor fault. -/
def execTsenseMeasure (reading : Option Nat) (s : State) : Out :=
  let x := s.fet 16
  let wait := if s.flag PWR_STATUS.sensor_fault then 100000000 else 10000000
  let early := match x.measAt with
    | some t => decide (s.now < t + wait)
    | none => false
  if s.get PWR_STATUS.card_state ≠ psWAIT_TEMP || !x.cold || early then next s
  else
    let x := { x with measAt := some s.now }
    match reading with
    | none => next ((s.raise PWR_STATUS.sensor_fault).setFet 16 x)
    | some t =>
      let s := s.puts [(PWR_STATUS.sensor_fault, 0), (PWR_CARDMEAS1.t_meas, min t 255)]
      next (s.setFet 16 (if t < s.fetRestart 16 then
        { x with rise := (t : Rat) - (s.get PWR_FIELD.t_diew : Rat) } else x))

/-- RAMP_DONE: FET u is fully enhanced (R446). -/
def execRampDone (u : Fin 17) (supply vout : Nat) (s : State) : Out :=
  let s := s.feedMeasure u supply vout
  if s.get (fetState u) ≠ psRAMP || !s.outputGood supply vout then next s
  else next ((s.put (fetState u) psON).setFet u { s.fet u with onAt := some s.now })

/-- Ticks that the fault timer of FET u has counted (R447). -/
def State.faultTicks (s : State) (u : Nat) : Nat :=
  let x := s.fet u
  match x.limitAt with
  | some t => x.timer + (s.now - t) / 1000
  | none => x.timer

/-- CURRENT_LIMIT_ENGAGE (R447): the limit of FET u engages after `idle` ticks without it. Power good that would assert in the
same tick stays deasserted (R454). -/
def execCurrentLimitEngage (u : Fin 17) (idle : Nat) (s : State) : Out :=
  if !s.gateOn u then next s
  else
    let x := s.fet u
    let held := if idle ≥ 1000 then 0 else s.faultTicks u - idle
    let s := match x.pgAt with
      | some t => if t / 1000 = s.now / 1000 then s.pgDrop u else s
      | none => s
    next ((s.raise (fetLimit u)).setFet u { s.fet u with timer := held, limitAt := some s.now })

/-- FAULT_TIMER_CLEAR: the limit has been inactive for 1 ms (R447). -/
def execFaultTimerClear (u : Fin 17) (s : State) : Out :=
  let x := s.fet u
  match x.limitAt with
  | none => next s
  | some t =>
    if s.now < t + 1000000 then next s
    else next ((s.zero (fetLimit u)).setFet u { x with timer := 0, limitAt := none, clearAt := some (s.now - 1000000) })

/-- FAULT_TIMER_EXPIRE (R446, R447). -/
def execFaultTimerExpire (u : Fin 17) (s : State) : Out :=
  if s.gateOn u && s.flag (fetLimit u) && decide (100 * s.fetTime u ≤ s.faultTicks u) then fin (s.trip u) else fin s

/-- The power in W that the model takes for a shunt voltage in µV (R450). -/
def State.fetPower (s : State) (u shunt : Nat) : Rat :=
  if !s.gateOn u then 0
  else if u = 16 then
    let r := s.get PWR_CARDSH.shunt
    if r = 0 then (Config.zeroShunt shunt : Rat)
    else ((shunt : Rat) / (10 * r : Rat)) ^ 2 * ((s.get PWR_CARDTH.rds_on : Rat) / 100000)
  else
    ((shunt : Rat) / (100 * max 1 (s.get (FEED_CFG2.shunt u)) : Nat)) ^ 2 * ((s.get (FEED_TH.rds_on u) : Rat) / 10000)

/-- One tick of the one-pole model (R450). -/
def State.fetRise (s : State) (u shunt : Nat) : Rat :=
  let x := (s.fet u).rise
  let rth : Rat := if u = 16 then (s.get PWR_CARDTH.rth : Rat) / 10 else (s.get (FEED_TH.rth u) : Rat) / 2
  let tau := max 1 (s.get (if u = 16 then PWR_CARDTH.tau else FEED_TH.tau u))
  x + (s.fetPower u shunt * rth - x) / ((10000 * tau : Nat) : Rat)

/-- FET_MODEL_TICK of FET u: the shunt voltage in µV and die W's own temperature as °C + 64 (R450). -/
def execFetModelTick (u : Fin 17) (shunt tDieW : Nat) (s : State) : Out :=
  let s := s.put PWR_FIELD.t_diew (min tDieW 255)
  let rise := s.fetRise u shunt
  let t : Rat := (s.get PWR_FIELD.t_diew : Rat) + rise
  let s := (s.setFet u { s.fet u with rise := rise }).put (fetModel u) (min 255 t.floor.toNat)
  let s := if u.val = 16 then
      let r := s.get PWR_CARDSH.shunt
      s.put PWR_CARDMEAS1.current (if r = 0 then Config.zeroShunt shunt else min 65535 (10 * shunt / r))
    else s.put (FEED_MEAS.current u) (min 65535 (10 * shunt / max 1 (s.get (FEED_CFG2.shunt u))))
  fin (if s.gateOn u && decide ((s.fetTripAt u : Rat) < t) then s.trip u else s)

/-- VIN_WINDOW_LEAVE: the supply of FET u leaves its window (R446, R449). -/
def execVinWindowLeave (u : Fin 17) (v : Nat) (s : State) : Out :=
  if !s.gateOn u || s.inWindow v then fin s
  else
    let s := if u.val = 16 then (s.put PWR_CARDMEAS0.vin v).bump PWR_CARDCNT.vin_out else s.put PWR_FIELD.vfield v
    fin ((s.gateOff u psOFF).waitTemp u false)

/-- RETRY_OFF_EXPIRE (R446, R448): 128 fault times after the gate went off. -/
def execRetryOffExpire (u : Fin 17) (s : State) : Out :=
  let x := s.fet u
  if s.get (fetState u) ≠ psRETRY_WAIT || decide (s.now < x.offAt.getD 0 + 12800000 * s.fetTime u) then fin s
  else if s.fetRetries u = 0 ∨ x.retries < s.fetRetries u then
    fin ((s.setFet u { x with retries := x.retries + 1 }).waitTemp u false)
  else fin ((s.put (fetState u) psSTOPPED).fetReport u 0x91 0x92 (min 255 (s.get (fetTrips u))))

/-- FET_DAMAGE: the output stays above 20 % of its supply for more than 10 ms with the gate off (R452). -/
def execFetDamage (u : Fin 17) (supply vout : Nat) (s : State) : Out :=
  if s.gateOn u || s.flag (fetShort u) || decide (5 * vout ≤ supply) ||
      decide (s.now ≤ (s.fet u).offAt.getD 0 + 10000000) then fin s
  else
    let s := (s.feedMeasure u supply vout).puts [(fetState u, psSHORT), (fetShort u, 1)]
    let s := if (u.val = 16 || s.flag (FEED_CFG0.eject u)) && !s.flag PWR_STATUS.eject then
        (s.raise PWR_STATUS.eject).emit (.eject true) else s
    fin (s.fetReport u 0x93 0x94 0)

/-- REG_EN[i] rises (R455). -/
def State.enable (s : State) (i : Nat) : State :=
  let s := s.put PWR_STATUS.reg_en (setBit (s.get PWR_STATUS.reg_en) i true)
  ({ s with pow := { s.pow with enAt := SMap.set s.pow.enAt i (some s.now) none } }).emit (.regEn i true)

/-- The regulators that PWR_SEQ names (R455). -/
def State.regulators (s : State) : List Nat := members 4 (s.get PWR_SEQ.mask)

/-- PG_ASSERT (R453 to R455): the limit has been inactive for `idle` ticks without a break. -/
def execPgAssert (u : Fin 17) (supply vout idle : Nat) (s : State) : Out :=
  let x := s.fet u
  let s := s.feedMeasure u supply vout
  let delay := 100 * s.fetDelay u
  let since := match x.limitAt with
    | some t => (s.now - t) / 1000
    | none => (s.now - max (x.onAt.getD 0) (x.clearAt.getD 0)) / 1000
  if s.flag (fetPg u) || s.get (fetState u) != psON || !s.outputGood supply vout ||
      decide (s.now < x.onAt.getD 0 + 1000 * delay) || decide (idle < delay) || decide (since < idle) then next s
  else
    let s := (s.raise (fetPg u)).setFet u { x with pgAt := some s.now }
    if u.val = 16 then
      let s := s.emit (.cardPg true)
      match s.regulators with
      | i :: _ => next (s.enable i)
      | [] => next s
    else next s

/-- PG_DROP: the output of FET u leaves its window while the limit is inactive (R453). -/
def execPgDrop (u : Fin 17) (supply vout : Nat) (s : State) : Out :=
  let s := s.feedMeasure u supply vout
  if s.flag (fetLimit u) || s.outputGood supply vout then next s else next (s.pgDrop u)

/-- REG_SEQUENCE_STEP (R455): the regulators whose power good is up are in pg; that of the regulator before has been up for
`since` µs. -/
def execRegSequenceStep (pg : Fin 16) (since : Nat) (s : State) : Out :=
  let s := s.put PWR_STATUS.reg_pg pg
  let en := s.get PWR_STATUS.reg_en
  match s.regulators.find? (fun i => !bit en i) with
  | none => next s
  | some i =>
    if s.flag PWR_STATUS.card_pg && en != 0 && (s.regulators.filter (bit en)).all (bit pg) &&
        decide (100 * s.get PWR_SEQ.step ≤ since) then next (s.enable i)
    else next s

/-- REG_PG_TIMEOUT: REG_PG[i] has not asserted within its timeout (R455). -/
def execRegPgTimeout (i : Fin 4) (s : State) : Out :=
  let on := SMap.getD s.pow.enAt i none
  let late := match on with
    | some t => decide (t + 1000000 * max 1 (s.get PWR_SEQ.timeout) ≤ s.now)
    | none => false
  if !bit (s.get PWR_STATUS.reg_en) i || bit (s.get PWR_STATUS.reg_pg) i || !late then fin s
  else fin (s.dropEnables.trip 16)

/-- REG_PG_ALL: every used REG_PG asserts, and the power-on reset of die S is released; the straps are read (R455, R507,
R515). -/
def execRegPgAll (pg : Fin 16) (r1 r2 r3 : Straps) (s : State) : Out :=
  let s := s.put PWR_STATUS.reg_pg pg
  if s.pow.dieOff && s.regulators.all (fun i => bit (s.get PWR_STATUS.reg_en) i && bit pg i) then
    next (({ s with pow := { s.pow with dieOff := false } }).readStraps r1 r2 r3 true)
  else next s

/-- A feed's controller starts from OFF (R446); while the S–W link is lost die W obeys no command (R21). -/
def State.feedStart (s : State) (n : Nat) : State :=
  if s.lev.wLost then s
  else if s.get (FEED_STAT.state n) = psOFF ∧ ¬ s.flag (FEED_STAT.short n) then
    (s.setFet n { s.fet n with retries := 0 }).waitTemp n false
  else s

/-- A feed's off command: the retry is cancelled (R457); while the S–W link is lost die W obeys no command (R21). -/
def State.feedStop (s : State) (n : Nat) : State :=
  if s.lev.wLost then s
  else
  let s := s.gateOff n psOFF
  s.setFet n { s.fet n with retries := 0 }

/-- The status of a feed command (R457): a start is refused in SHORT and while damage is latched (R452). -/
def State.feedStatus (s : State) (n w : Nat) : Nat :=
  let st := s.get (FEED_STAT.state n)
  if bit w 0 && bit w 1 then stILLEGAL
  else if bit w 0 && (st == psSHORT || s.flag (FEED_STAT.short n)) then stSTATE
  else if bit w 2 && (st != psSTOPPED || bit w 1) then stSTATE
  else stOK

/-- A write of FEED_CTL[n] (R457). While the S–W link is lost die W obeys no command (R21). -/
def State.feedCtl (s : State) (n : Nat) (o : Origin) (w : Nat) : State :=
  let st := s.feedStatus n w
  if s.foreignCore o then s.done o (if st = stILLEGAL then st else stAUTH)
  else if s.lev.wLost then s
  else
    let t := if st ≠ stOK then s
      else
        let s := if bit w 1 then s.feedStop n else s
        let s := if bit w 0 then s.feedStart n else s
        if bit w 2 then (s.setFet n { s.fet n with retries := 0 }).waitTemp n false else s
    let t := t.put (FEED_CTL.last_status n) st
    if st = stSTATE then t.refuse o PWR_REFUSED.count else t.done o st

/-- FEED_ON (R457). -/
def execFeedOn (n : Fin 16) (o : Origin) (w : Nat) (s : State) : Out := fin (s.feedCtl n o (withBit w 0))

/-- FEED_OFF (R457). -/
def execFeedOff (n : Fin 16) (o : Origin) (w : Nat) (s : State) : Out := fin (s.feedCtl n o (withBit w 1))

/-- FEED_CLEAR (R457). -/
def execFeedClear (n : Fin 16) (o : Origin) (w : Nat) (s : State) : Out := fin (s.feedCtl n o (withBit w 2))

/-! ### The supply of a port die (R513, R515) -/

/-- The registers of a bridge engine that its reset clears: its counters, its channels' states and counters, its route slice
and staging; its cast words and the epochs stay. -/
def bridgeCleared (a r : Nat) : Bool :=
  if a < 0x2000000 + 0x400000 * r ∨ 0x2400000 + 0x400000 * r ≤ a then false
  else
    let o := a - 0x2000000 - 0x400000 * r
    o == 0xC || o == 0x10 || (decide (0x1000 ≤ o) && decide (o < 0x1800) && decide (0x14 ≤ o % 0x100)) || decide (0x10000 ≤ o)

/-- The bridge engine of region r is reset, and its route slice is reloaded from the casting (R23). -/
def State.bridgeReset (s : State) (r : Nat) : State :=
  let s := ((List.range 8).map (fun n => 8 * r + n)).foldl (fun s c => s.chanReset c) s
  let s := { s with regs := s.regs.filter (fun e => !bridgeCleared (e.1 / 8) r) }
  s.cst.routes.foldl (fun s e =>
    if bridgeCleared e.1 r then { s with regs := SMap.set s.regs (e.1 * 8) e.2 0 } else s) s

/-- The switch ports of port die d's regions are down: the die is in die reset, or its link is down (R157). -/
def State.regionsDown (s : State) (d : Nat) : State := (s.outputDown (6 + 2 * d)).outputDown (7 + 2 * d)

/-- Die reset of port die d, 0 for P0 and 1 for P1 (R23, R28): every cluster and both bridge engines; a park for want of a
keep-alive ends (R21). Its regions' switch ports are down until the die starts again (R157). -/
def State.dieReset (s : State) (d : Nat) : State :=
  let ks := dieClusters (d + 1)
  let s := ks.foldl (fun s k => s.clusterReset k) (s.regionsDown d)
  let s := (s.bridgeReset (2 * d)).bridgeReset (2 * d + 1)
  ks.foldl (fun s k => s.withEdges k s.t125 (fun s => s.setCluster k { s.cluster k with dieParked := false })) s

/-- VDD_P_BROWN_OUT of port die d: it enters die reset and its pads park (R513). -/
def execVddPBrownOut (d : Fin 2) (s : State) : Out :=
  let s := s.dieReset d
  let s := (dieClusters (d.val + 1)).foldl (fun s k =>
    s.withEdges k s.t125 (fun s => s.setCluster k { s.cluster k with dieParked := true })) s
  fin { s with lev := { s.lev with dieOff := setNth s.lev.dieOff d true } }

end Sys2Proof.Machine
end

