-- ==== Sys2Proof/Machine/Bellows.lean ====
section
/-! DEFINITION. Machine/Bellows.lean: the bellows: units that wait for their start, and what each start does (R439, R440). -/

namespace Sys2Proof.Machine

/-- The kinds of R439: dies (0 S, 1 P0, 2 P1); SerDes lanes (East 0 to 4, West 5 to 9, ETH 10 and 11, PCIe 12 to 19); clusters from
power-gated; PEs (9 k + n); clusters leaving NAP; feeds. -/
abbrev bkDIE : Nat := 0
abbrev bkLANE : Nat := 1
abbrev bkCLUSTER : Nat := 2
abbrev bkPE : Nat := 3
abbrev bkNAP : Nat := 4
abbrev bkFEED : Nat := 5

/-- The spacing of a kind in ns (R439). -/
def bellowsSpacing (kind : Nat) : Nat := match kind with
  | 0 => 100000
  | 1 => 1000
  | 2 => 2000
  | 3 => 40
  | 4 => 10
  | _ => 10000000

/-- Put a unit into a rising list, once. -/
def insertUnit (u : Nat) : List Nat → List Nat
  | [] => [u]
  | v :: l => if u < v then u :: v :: l else if u = v then v :: l else v :: insertUnit u l

/-- The units of a kind that wait for their start. -/
def State.wanted (s : State) (kind : Nat) : List Nat := SMap.getD s.slp.wanted kind []
def State.setWanted (s : State) (kind : Nat) (us : List Nat) : State :=
  let s := { s with slp := { s.slp with wanted := SMap.set s.slp.wanted kind us [] } }
  s.put NODE_BELLOWS.busy (b2n (!s.slp.wanted.isEmpty))

/-- Starts are requested (R440). -/
def State.want (s : State) (kind : Nat) (us : List Nat) : State :=
  s.setWanted kind (us.foldl (fun l u => insertUnit u l) (s.wanted kind))

/-- The feeds' sequence counts from this instant (R362, R439). -/
def State.startFeeds (s : State) (us : List Nat) : State :=
  ({ s with slp := { s.slp with started := SMap.set s.slp.started bkFEED (some s.now) none } }).want bkFEED us

/-- The autostart engines of Kk, by the physical engine to which each set applies (R350, R487). -/
def State.autostart (s : State) (k : Nat) : List Nat :=
  ((members 9 (SMap.getD s.cst.autostart k 0)).filterMap (fun n => s.setEngine k n)).map (fun n => 9 * k + n)

/-- A port die with power starts: its keep-alives run, and the switch ports of its regions are up (R21, R157, R439, R513). -/
def State.startDie (s : State) (d : Nat) : State :=
  if d = 0 || s.lev.dieOff.getD (d - 1) false then s
  else
    ({ s with lev := { s.lev with sent := setNth s.lev.sent (d - 1) s.now } }).puts
      [(SW_OSTAT.up (4 + 2 * d), 1), (SW_OSTAT.up (5 + 2 * d), 1)]

/-- A lane starts: with its first lane, a ring port that is down for no other cause, or stowed, goes to DETECT (R217, R361). -/
def State.startLane (s : State) (u : Nat) : State :=
  let p := u / 5
  if u % 5 = 0 ∧ p < 2 ∧ (s.linkState p = lsDOWN ∨ s.linkState p = lsSTOWED) ∧ (s.link p).downCmd = false then s.trainTo p lsDETECT else s

/-- Cluster k runs again: it is no longer asleep, and what it held at sleep entry is gone (R33, R428). -/
def State.clusterRuns (s : State) (k : Nat) : State :=
  let s := s.puts [(NODE_CLSLEEP.depth k, 0), (CL_STATUS.asleep k, 0)]
  { s with slp := { s.slp with naps := SMap.set s.slp.naps k none none } }

/-- A cluster starts: its depth is RUN and its banks are checked; in the start of the node's admission its autostart engines wait
for their turn where programs run (R36, R88, R350, R439). -/
def State.startCluster (s : State) (k : Nat) : State :=
  let first := s.slp.firsts.contains k
  let s := (s.clusterRuns k).bankChecks k
  let s := { s with slp := { s.slp with firsts := s.slp.firsts.filter (· != k) } }
  if first ∧ s.programsRun = true then s.want bkPE (s.autostart k) else s

/-- An engine starts from start_pc = 0 in bank 0 (R350). -/
def State.startEngine (s : State) (k n : Nat) : State :=
  if s.peStartable k n && s.programsRun then
    (s.puts [(PE_CTL.start_pc k n, 0), (PE_STATUS.active_bank k n, 0)]).peRun k n false
  else s

/-- The head unit of a kind starts. -/
def State.startUnit (s : State) (kind u : Nat) : State := match kind with
  | 0 => s.startDie u
  | 1 => s.startLane u
  | 2 => s.startCluster u
  | 3 => s.startEngine (u / 9) (u % 9)
  | 4 => s.clusterRuns u
  | _ => s.feedStart u

/-- The head unit of a kind may start now: the spacing has passed, feed n waits for its own instant, an engine for the end of its
cluster's reset (R87, R362, R439). -/
def State.mayStart (s : State) (kind u : Nat) : Bool :=
  let last := SMap.getD s.slp.started kind none
  let wait := if kind = bkFEED then 10000000 * u else bellowsSpacing kind
  (match last with
    | none => true
    | some t => decide (t + wait ≤ s.now)) && (kind != bkPE || !s.flag (CL_STATUS.in_reset (u / 9)))

/-- VDD_P_RETURN: VDD_P has been within its range for 1 ms, and the port die leaves die reset: it starts again through the
bellows (R439, R515). -/
def execVddPReturn (d : Fin 2) (s : State) : Out :=
  if s.lev.dieOff.getD d false then
    fin ((({ s with lev := { s.lev with dieOff := setNth s.lev.dieOff d false } }).dieReset d).want bkDIE [d.val + 1])
  else fin s

end Sys2Proof.Machine
end

