-- ==== Sys2Proof/Machine/Boot.lean ====
section
/-! DEFINITION. Machine/Boot.lean: the boot phases, settings, and the installing and recasting of castings (R344 to R366, R378). -/

namespace Sys2Proof.Machine

/-! ### Boot phases (R361) -/

/-- The phase codes of CST_BOOT (R361). -/
abbrev bpROM : Nat := 1
abbrev bpCRUCIBLE : Nat := 2
abbrev bpCAST : Nat := 3
abbrev bpFIRMWARE : Nat := 4
abbrev bpLOAD : Nat := 5
abbrev bpSETTINGS : Nat := 6

/-- The node is in this phase of BOOT. -/
def State.inPhase (s : State) (ph : Nat) : Bool :=
  s.nodeState == nsBOOT && s.get CST_BOOT.phase == ph && !s.lev.inReset

/-- The staged image is open, and complete (R379, R382). -/
def State.stagedId (s : State) : Option Nat := if s.get CST_STG.state = 0 then none else some (s.get CST_STGID.id)
def State.stagedWhole (s : State) (id : Nat) : Bool := s.stagedId == some id && s.get CST_STG.state == 2

/-- Ingots of an image of this size, and those that the bitmap shows as missing (R379). -/
def ingots (size : Nat) : Nat := (size + 4095) / 4096
def State.ingotMissing (s : State) (i : Nat) : Bool := bit (s.flashByte (bitmapBase + i / 8)) (i % 8)
def State.missingIngots (s : State) (size : Nat) : List Nat := (List.range (ingots size)).filter s.ingotMissing

/-- The registers of the staged image, as flash holds it (R379, R381, R388). -/
def State.showStaged (s : State) : State :=
  match s.cst.staged with
  | none => s.puts [(CST_STG.state, 0), (CST_STG.kind, 0), (CST_STGID.id, 0), (CST_STGSIZE.bytes, 0), (CST_STGCNT.total, 0),
      (CST_STGCNT.missing, 0)]
  | some (id, kind, size) =>
    let n := (s.missingIngots size).length
    s.puts [(CST_STG.state, if n = 0 then 2 else 1), (CST_STG.kind, kind), (CST_STGID.id, id), (CST_STGSIZE.bytes, size),
      (CST_STGCNT.total, ingots size), (CST_STGCNT.missing, n)]

/-- Closing the staged image erases its record sector (R380). -/
def State.closeStaged (s : State) : State :=
  let s := s.flashErase recordBase 0x10000
  ({ s with cst := { s.cst with staged := none } }).showStaged

/-- The tamper that the straps of a release show at start-up: an open lid with BENCH_EN low, or BENCH_EN high with the lid closed
(R414). -/
def State.strapTamper (s : State) (periods : Nat) : State :=
  let v := s.lev.straps
  if v.lidOpen && !v.benchEn then s.tamper [0] periods
  else if v.benchEn && !v.lidOpen then s.tamper [5] periods
  else s

/-- BOOT_ROM_START (R361): once reset has ended and the straps have been read, CP0 runs the boot ROM; a bench entry comes first
(R415), and the tamper that the straps show (R414). Die W's waiting reports reach die S (R461). -/
def execBootRomStart (periods : Nat) (s : State) : Out :=
  let bench := s.lev.straps.benchEn && s.lev.straps.lidOpen && !(s.cru.bench && s.cru.early)
  if s.nodeState ≠ nsBOOT ∨ s.lev.inReset = false ∨ s.lev.rstLow = true ∨ s.pow.dieOff = true ∨ bench = true ∨
      s.lev.strapsDue = true then fin s
  else
    let s := (s.strapTamper periods).showStaged
    let waiting := s.pow.waiting
    let s := { s with
      lev := { s.lev with inReset := false }
      pow := { s.pow with waiting := [] }
      cst := { s.cst with romAt := some s.now } }
    let s := s.puts [(CST_BOOT.phase, bpCRUCIBLE), (CORE_STAT.run 0, 2), (CRU_STATUS.bench, b2n s.cru.bench)]
    fin (waiting.foldl (fun s f => s.report f) s)

/-- A KEYREF entry whose key is absent is counted and reported (R397). -/
def State.resolveKeys (s : State) : State :=
  s.cst.keyrefs.foldl (fun s r =>
    match s.keySlot r.keyId allAlgs with
    | some _ => slots.foldl (fun s i =>
        if s.slotState i == slLIVE && s.slotId i == r.keyId then s.put (CRU_SLOT1.pairs i) r.pairs else s) s
    | none => (s.bump CRU_STATUS.unresolved).report
        { src := 0x81, master := 0, addr := s.domainAddr CRU_STATUS.addr, extra := r.purpose }) s

/-- The spare pairs: those of role spare that no anneal has used (R371, R483, R494). -/
def State.sparePairs (s : State) : List Nat :=
  [8, 9].filter (fun p => s.get (CORE_STAT.role p) == 3 &&
    !s.wear.retired.contains (0x0400 + 2 * s.get (WEAR_PAIRMAP.phys p)))
def State.countPairs (s : State) : State := s.put (WEAR_POOL.left 14) s.sparePairs.length

/-- The casting commits (R8, R351, R371, R418): RWL fields hold, the tamper policy is stored, the pairs take their cast roles. -/
def State.commitCast (s : State) : State :=
  let s := { s with
    cst := { s.cst with committed := true }
    cru := { s.cru with policy := (List.range 6).map (fun i => s.get (tpolFld i)) } }
  s.resolveKeys

/-- The pairs take their cast roles (R371). -/
def State.castPairs (s : State) : State :=
  let s := (List.range 10).foldl (fun s p =>
    s.puts [(CORE_STAT.mode p, s.get (WEAR_PAIRCFG.mode p)), (CORE_STAT.role p, s.get (WEAR_PAIRCFG.role p))]) s
  let s := s.countPairs
  match [8, 9].find? (fun p => s.get (WEAR_PAIRCFG.role p) == 2) with
  | some p => s.puts [(CORE_ROLE.standby, p), (CORE_STAT.run p, 2), (CORE_STAT.standby_ready p, 1)]
  | none => s

/-- The registers that show the running casting (R366). -/
def State.showCasting (s : State) (c : Nat) (img : Img) : State :=
  s.puts [(CST_STATUS.run_copy, c), (CST_STATUS.blank, 0), (CST_STATUS.unsigned, b2n (Img.unsigned img)),
    (CST_STATUS.fmt_major, img 4), (CST_STATUS.fmt_minor, img 5), (CST_RUNSEQ_LO.seq, Img.sequence img),
    (CST_RUNSEQ_HI.seq, Img.sequence img / 2 ^ 32), (CST_RUNID.id, Img.castId img), (CST_COPYSTAT.state c, 1)]

/-- Record the assay of casting copy c (R347, R366). -/
def State.examineCopy (s : State) (c : Nat) : State :=
  let img := s.image (castBase c)
  let a := s.castAssay img
  s.puts [(CST_COPYSEQ_LO.seq c, castSeq img), (CST_COPYSEQ_HI.seq c, castSeq img / 2 ^ 32), (CST_COPYID.id c, Img.castId img),
    (CST_COPYSTAT.fmt_major c, img 4), (CST_COPYSTAT.state c, if a = 0 then 0xB else a)]

/-- Load the first copy of the list that is not refused, else the blank casting (R353). -/
def State.selectCasting (s : State) : List Nat → State
  | [] => s.loadBlank.raise CST_STATUS.blank
  | c :: cs =>
    match s.loadCasting (s.image (castBase c)) with
    | .ok t => t.showCasting c (s.image (castBase c))
    | .error e =>
      (s.puts [(CST_COPYSTAT.state c, 0xA), (CST_LOADERR.code, e.1), (CST_LOADERR.section_, e.2.1), (CST_LOADERR.copy, c),
        (CST_LOADOFS.offset, e.2.2)]).selectCasting cs

/-- The copies in the order of R353. -/
def State.castOrder (s : State) : List Nat := copyOrder (castSeq (s.image (castBase 0))) (castSeq (s.image (castBase 1)))

/-- CAST_SELECT (R353, R361): the copies are examined, the first that passes is loaded; it commits when LOAD ends. -/
def execCastSelect (s : State) : Out :=
  if !s.inPhase bpCAST then fin s
  else
    let s := (s.examineCopy 0).examineCopy 1
    let ok := s.castOrder.filter (fun c => s.get (CST_COPYSTAT.state c) == 0xB)
    fin (((s.selectCasting ok).castPairs).put CST_BOOT.phase bpFIRMWARE)

/-! ### Firmware at boot (R378) -/

/-- The window offset of a memory of pair p (R390). -/
def coreKey (p ofs : Nat) : Nat := 0x100000 * p + ofs

/-- Write bytes into the memories of pair p, at an offset of its TCM window; in lockstep both TCMs hold the same (R369, R390). -/
def State.coreWrite (s : State) (p ofs : Nat) : List Nat → State
  | [] => s
  | b :: bs =>
    let put := fun (m : SMap Nat) (o : Nat) => SMap.set m (coreKey p o) (b % 256) 0
    let mem := if ofs < 0x80000 ∧ s.flag (CORE_STAT.mode p) = false then put (put s.core.mem (ofs % 0x40000)) (ofs % 0x40000 + 0x40000)
      else put s.core.mem ofs
    ({ s with core := { s.core with mem := mem } }).coreWrite p (ofs + 1) bs

/-- Read bytes of the memories of pair p. -/
def State.coreRead (s : State) (p ofs n : Nat) : List Nat :=
  (List.range n).map (fun i => SMap.getD s.core.mem (coreKey p (ofs + i)) 0)

/-- Load a program into pair p by its mode (R376). -/
def State.loadPair (s : State) (p : Nat) (prog : List Nat) : State :=
  let tcm := prog.take 0x40000
  ((s.coreWrite p 0 tcm).coreWrite p 0x40000 tcm).coreWrite p 0x80000 (prog.drop 0x40000)

/-- The bytes of a pair image. -/
def Img.program (img : Img) (e : PairImage) : List Nat := Img.bytes img e.ofs e.len

/-- The customer pairs that an image has entries for and that are cast customer (R378). -/
def State.imagePairs (s : State) (img : Img) : List Nat :=
  (List.range 8).filter (fun p => s.get (CORE_STAT.role p) == 1 &&
    (Img.pairImages img).any (fun e => e.kind == 2 && bit e.pairs p))

/-- The entry of an image for customer pair p. -/
def Img.customer (img : Img) (p : Nat) : Option PairImage := (Img.pairImages img).find? (fun e => e.kind == 2 && bit e.pairs p)

/-- The pairs that customer entries of an image name and that are not cast customer (R378). -/
def State.strangePairs (s : State) (img : Img) : List Nat :=
  (List.range 10).filter (fun p => s.get (CORE_STAT.role p) != 1 &&
    (Img.pairImages img).any (fun e => e.kind == 2 && bit e.pairs p))

/-- Load the manager entry into pair m, and these customer pairs (R378). -/
def State.loadFirmware (s : State) (img : Img) (m : Nat) (pairs : List Nat) : State :=
  let s := match (Img.pairImages img).find? (fun e => e.kind == 1) with
    | some e => s.loadPair m (Img.program img e)
    | none => s
  pairs.foldl (fun s p => match Img.customer img p with
    | some e => s.loadPair p (Img.program img e)
    | none => s) s

/-- Record the assay of firmware copy c (R377, R388). -/
def State.examineFirmware (s : State) (c : Nat) : State :=
  let img := s.image (fwBase c)
  let a := s.fwAssay img
  s.puts [(CST_FWSEQ_LO.seq c, s.fwSequence img), (CST_FWSEQ_HI.seq c, s.fwSequence img / 2 ^ 32),
    (CST_FWSTAT.state c, if a = 0 then 0xB else a)]

/-- The order of the firmware copies (R378). -/
def State.fwOrder (s : State) : List Nat := copyOrder (s.fwSequence (s.image (fwBase 0))) (s.fwSequence (s.image (fwBase 1)))

/-- Firmware copy c is the one that runs; the other is the next target (R388). -/
def State.bootFirmware (s : State) (c : Nat) : State :=
  let s := { s with cst := { s.cst with fwCopy := some c, fwSeq := s.fwSequence (s.image (fwBase c)) } }
  s.puts [(CST_FWSTAT.state c, 1), (CST_FWSTAT.target c, 0), (CST_FWSTAT.target (1 - c), 1)]

/-- The copy that a firmware write under the boot ROM takes: the one with the lower sequence, A when equal (R382). -/
def State.lowerFirmware (s : State) : Nat :=
  if s.fwSequence (s.image (fwBase 1)) < s.fwSequence (s.image (fwBase 0)) then 1 else 0

/-- FIRMWARE_SELECT (R361, R378): the highest copy that passes is loaded; with none the boot ROM keeps the mailboxes. -/
def execFirmwareSelect (s : State) : Out :=
  if !s.inPhase bpFIRMWARE then fin s
  else
    let s := (s.examineFirmware 0).examineFirmware 1
    let s := match s.fwOrder.find? (fun c => s.get (CST_FWSTAT.state c) == 0xB) with
      | some c =>
        let img := s.image (fwBase c)
        let s := (s.strangePairs img).foldl (fun (s : State) p => s.emit (.pairIgnored p)) s
        (s.bootFirmware c).loadFirmware img s.managerPair (s.imagePairs img)
      | none => s.puts [(CST_BOOT.no_fw, 1), (CST_FWSTAT.target s.lowerFirmware, 1)]
    fin (s.put CST_BOOT.phase bpLOAD)

/-! ### Settings (R358 to R360) -/

/-- The live settings key that KEYREF names (R358, R397). -/
def State.settingsKey (s : State) : Option (List Nat) :=
  match s.cst.keyrefs.find? (fun r => r.purpose == 4) with
  | none => none
  | some r => (s.keySlot r.keyId [1]).map s.slotMat

/-- Entries of a settings copy. -/
def Img.settings (img : Img) : List (Nat × Nat) :=
  (List.range (Img.rd img 20 4)).map (fun i => (Img.rd img (64 + 8 * i) 4, Img.rd img (68 + 8 * i) 4))

/-- What the tag of a settings copy covers (R358). -/
def Img.settingsBody (img : Img) : List Nat := Img.bytes img 0 32 ++ Img.bytes img 64 (8 * Img.rd img 20 4)

/-- A settings copy passes its assay: magic, length and tag (R359). -/
def settingsPass (key : List Nat) (img : Img) : Bool :=
  Img.bytes img 0 4 == [0x50, 0x4C, 0x47, 0x54] && decide (Img.rd img 20 4 ≤ 8184) &&
    Img.bytes img 32 16 == Config.settingsTag key (Img.settingsBody img)

/-- The settings copies that pass, highest sequence first (R358). -/
def State.settingsCopies (s : State) (key : List Nat) : List Nat :=
  (copyOrder (Img.sequence (s.image (settingsBase 0))) (Img.sequence (s.image (settingsBase 1)))).filter
    (fun c => settingsPass key (s.image (settingsBase c)))

/-- Write (v AND mask) into the RW fields of a word, keeping the bits outside the mask (R359). -/
def State.putMasked (s : State) (a mask v : Nat) : State :=
  match regAt a with
  | none => s
  | some fs => fs.foldl (fun s e =>
      if e.2 == .rw then
        let m := bits mask e.1.lsb e.1.width
        s.put e.1 (s.get e.1 - (s.get e.1 &&& m) + (bits v e.1.lsb e.1.width &&& m))
      else s) s

/-- Every listed word takes its default, and the reason is reported (R359). -/
def State.settingsDefaults (s : State) (reason : Nat) : State :=
  let s := s.cst.settings.foldl (fun s e => s.putMasked e.1 e.2.1 e.2.2) s
  (s.puts [(CST_SET.defaults, 1), (CST_SET.reason, reason)]).report
    { src := 0x61, master := 0, addr := s.domainAddr CST_SET.addr, extra := reason }

/-- The chosen settings copy is applied, or the defaults (R359). -/
def State.settingsApply (s : State) : State :=
  match s.settingsKey with
  | none => s.settingsDefaults 5
  | some key =>
    match s.settingsCopies key with
    | [] => s.settingsDefaults 1
    | c :: _ =>
      let img := s.image (settingsBase c)
      if img 4 < 2 then s.settingsDefaults 2
      else if 2 < img 4 then s.settingsDefaults 3
      else if Img.rd img 16 4 ≠ s.get CST_RUNID.id then s.settingsDefaults 4
      else
        let s := (Img.settings img).foldl (fun s v => match s.cst.settings.find? (fun e => e.1 == v.1) with
          | some e => s.putMasked e.1 e.2.1 v.2
          | none => s) s
        s.puts [(CST_SET.run_copy, c), (CST_SETSEQ_LO.seq, Img.sequence img), (CST_SETSEQ_HI.seq, Img.sequence img / 2 ^ 32)]

/-- The running casting has a SETTINGS section (R348, R359). -/
def State.hasSettings (s : State) : Bool := s.cst.sections.any (fun x => x.1 == 0x0F)

/-- SETTINGS_APPLY (R359, R361): the casting commits, which ends LOAD, and the settings are applied. -/
def execSettingsApply (s : State) : Out :=
  if !s.inPhase bpLOAD then fin s
  else
    let s := s.commitCast.put CST_BOOT.phase bpSETTINGS
    let s := if s.hasSettings then s.settingsApply else s
    fin { s with cst := { s.cst with applied := true } }

/-- The bytes of a settings copy with the present values of the listed words (R358, R360). -/
def State.settingsBytes (s : State) (key : List Nat) (seq : Nat) : List Nat :=
  let es := s.cst.settings
  let head := [0x50, 0x4C, 0x47, 0x54, 2, 0, 0, 0] ++ leBytes 8 seq ++ leBytes 4 (s.get CST_RUNID.id) ++
    leBytes 4 es.length ++ List.replicate 8 0
  let body := es.flatMap (fun e => leBytes 4 e.1 ++ leBytes 4 (s.readWord e.1))
  head ++ Config.settingsTag key (head ++ body) ++ List.replicate 16 0 ++ body

/-- A save ends, or is refused, with a status. -/
def State.saveStatus (s : State) (st : Nat) : State := s.put CST_STATUS.last_status st

/-- A flash write starts (R357): the copy's area is erased first (R356). -/
def State.startJob (s : State) (j : FlashJob) (base n : Nat) : State :=
  let s := s.flashErase base n
  ({ s with cst := { s.cst with job := some j } }).raise CST_STG.writing

/-- The flash write has ended. -/
def State.endJob (s : State) : State := ({ s with cst := { s.cst with job := none } }).zero CST_STG.writing

/-- SAVE: a write of CST_CTL with save (R357, R360, R366). -/
def execSave (o : Origin) (s : State) : Out :=
  if s.foreignCore o then fin (s.done o stAUTH)
  else if s.nodeState ≠ nsSERVICE ∧ s.nodeState ≠ nsHALTED then fin ((s.saveStatus stSTATE).refuse o CST_REFUSED.count)
  else if s.flashBusy then fin ((s.saveStatus stBUSY).done o stBUSY)
  else match s.settingsKey with
    | none => fin ((s.saveStatus stFAULT).done o stFAULT)
    | some key =>
      let cs := s.settingsCopies key
      let seq := ((cs.head?).map (fun c => Img.sequence (s.image (settingsBase c)) + 1)).getD 1
      let c := ((cs.head?).map (fun c => 1 - c)).getD 0
      fin (((s.startJob (.save c (seq % 2 ^ 64) (s.settingsBytes key (seq % 2 ^ 64))) (settingsBase c) 0x10000).raise
        CST_SET.saving).done o stOK)

/-! ### Installing a casting (R355 to R357) -/

/-- The copy that holds the highest sequence: A when equal (R353, R355). -/
def State.highestCopy (s : State) : Nat := s.castOrder.headD 0
def State.highestSeq (s : State) : Nat := castSeq (s.image (castBase s.highestCopy))

/-- The checks of R355 in their order, as R13 decides between them: status and result words. -/
def State.installCheck (s : State) (m : Nat) : Nat × List Nat :=
  let img := s.image stagingBase
  let a := s.castAssay img
  if 2 ≤ a ∧ a ≤ 5 then (stILLEGAL, [])
  else if 6 ≤ a ∨ (Img.unsigned img = true ∧ m ≠ 2) then (stAUTH, [])
  else match s.loadCasting img with
    | .error e => (stRANGE, [e.1, e.2.1])
    | .ok _ =>
      if Img.sequence img ≠ s.highestSeq + 1 then (stRANGE, [0xFF])
      else if s.get CST_STG.kind ≠ 0 ∨ s.stagedWhole (s.arg m 0) = false then (stSTATE, [])
      else (stOK, [])

/-- The casting write of mailbox m starts, into the copy without the highest sequence (R355, R356). -/
def State.startInstall (s : State) (m : Nat) : State :=
  let c := 1 - s.highestCopy
  (s.startJob (.install m c) (castBase c) 0x800000).puts [(CST_COPYSTAT.state c, 2), (CST_COPYSEQ_LO.seq c, 0),
    (CST_COPYSEQ_HI.seq c, 0)]

/-- CASTING_INSTALL in mailbox m (R355, R357): it waits for a settings save in progress. -/
def execCastingInstall (m : Fin 3) (s : State) : Out :=
  if !s.mbxRuns m mcCASTING_INSTALL || s.cst.waits.isSome then fin s
  else match s.cst.job with
    | some (.install _ _) => fin s
    | some (.save _ _ _) => fin { s with cst := { s.cst with waits := some (m.val, 0) } }
    | job =>
      let r := s.installCheck m
      fin (if r.1 ≠ stOK then s.mbxEnd m r.1 r.2 else if job.isSome then s.mbxEnd m stBUSY else s.startInstall m)

/-- The whole staged image is copied to a copy (R356). -/
def State.copyStaged (s : State) (base : Nat) : State :=
  let img := s.image stagingBase
  let n := Img.len img + 3416
  let s := s.flashWrite (base + 128) (Img.bytes img 128 (n - 128))
  s.flashWrite base (Img.bytes img 0 128)

/-- CASTING_WRITE_DONE (R355, R356, R380). -/
def execCastingWriteDone (s : State) : Out :=
  match s.cst.job with
  | some (.install m c) =>
    let s := (s.copyStaged (castBase c)).endJob.examineCopy c
    let seq := castSeq (s.image (castBase c))
    fin ((s.mbxEnd m stOK [c, seq, seq / 2 ^ 32]).closeStaged)
  | _ => fin s

/-- SETTINGS_SAVE_DONE (R357, R358, R360): a casting install that waited starts. -/
def execSettingsSaveDone (s : State) : Out :=
  match s.cst.job with
  | some (.save c seq bs) =>
    let s := (s.flashWrite (settingsBase c) bs).endJob
    let s := (s.zero CST_SET.saving).saveStatus stOK
    let s := s.puts [(CST_SETSEQ_LO.seq, seq), (CST_SETSEQ_HI.seq, seq / 2 ^ 32)]
    match s.cst.waits with
    | some (m, _) =>
      let s := { s with cst := { s.cst with waits := none } }
      let r := s.installCheck m
      fin (if !s.mbxRuns m mcCASTING_INSTALL then s else if r.1 = stOK then s.startInstall m else s.mbxEnd m r.1 r.2)
    | none => fin s
  | _ => fin s

/-- FIRMWARE_COMPLETE_WRITE (R361, R382). -/
def execFirmwareCompleteWrite (s : State) : Out :=
  if s.flag CST_BOOT.no_fw = false ∨ s.get CST_STG.state ≠ 2 ∨ s.get CST_STG.kind ≠ 1 ∨ s.flashBusy = true then fin s
  else
    let c := s.lowerFirmware
    fin (((s.flashErase (fwBase c) 0x800000).copyStaged (fwBase c)).examineFirmware c)

/-! ### Recasting (R363 to R365) -/

/-- The sections of a casting by type, instance and CRC. -/
def Img.marks (img : Img) : List (Nat × Nat × Nat) :=
  (((Img.sections img).filter (fun x => typeKnown (img 4) x.ty)).foldl (fun l x => insertSection x l) []).map
    (fun x => (x.ty, x.inst, x.crc))

/-- What two castings hold of a type, and of a cluster. -/
def marksOf (l : List (Nat × Nat × Nat)) (ty : Nat) : List (Nat × Nat × Nat) := l.filter (fun x => x.1 == ty)
def marksAt (l : List (Nat × Nat × Nat)) (k : Nat) : List (Nat × Nat × Nat) :=
  l.filter (fun x => decide (1 ≤ x.1) && decide (x.1 ≤ 3) && (x.2.1 == k || x.2.1 == 0xFFFF))

/-- The first type above the cluster sections in which the copy with the highest sequence differs from the running casting
(R363). -/
def State.recastDiffers (s : State) : Option Nat :=
  let new := Img.marks (s.image (castBase s.highestCopy))
  (List.range 17).find? (fun t => decide (4 ≤ t) && marksOf new t != marksOf s.cst.sections t)

/-- The clusters whose sections changed (R363). -/
def State.recastMask (s : State) : Nat :=
  let new := Img.marks (s.image (castBase s.highestCopy))
  (List.range 12).foldl (fun m k => if marksAt new k != marksAt s.cst.sections k then m + 2 ^ k else m) 0

/-- The recast is done: the copy runs (R363, R364). -/
def State.recastDone (s : State) (c : Nat) : State :=
  let img := s.image (castBase c)
  let old := s.get CST_STATUS.run_copy
  let s := if old = c then s else s.put (CST_COPYSTAT.state old) 0xB
  let s := { s with cst := { s.cst with recast := none, sections := Img.marks img } }
  (s.showCasting c img).zero CST_STATUS.recasting

/-- RECAST in mailbox m (R363). -/
def execRecast (m : Fin 3) (s : State) : Out :=
  if !s.mbxRuns m mcRECAST then fin s
  else
    let c := s.highestCopy
    let img := s.image (castBase c)
    match s.recastDiffers with
    | some t => fin (s.mbxEnd m stRANGE [t])
    | none =>
      if img 4 ≠ 2 ∨ s.get RING_SEAM.len < 20 then fin ((s.mbxEnd m stRANGE [Config.freeWord s.draws]).draw)
      else
        let mask := s.recastMask
        let s := s.mbxEnd m stOK [mask]
        if mask = 0 then fin ((s.zero CST_RECAST.done).recastDone c)
        else
          let s := { s with cst := { s.cst with recast := some (c, s.ns) } }
          fin ((s.puts [(CST_RECAST.pending, mask), (CST_RECAST.done, 0), (CST_STATUS.recasting, 1)]).setNodeState nsRECAST)

/-- RECAST_CLUSTER k (R363, R364): at the first seam that opens at least 1 ms after acceptance; its autostart engines start when
its time copy has locked, and until then its channels answer RETRY. -/
def execRecastCluster (k : Fin 12) (s : State) : Out :=
  match s.cst.recast with
  | none => fin s
  | some (c, t) =>
    if s.nodeState ≠ nsRECAST ∨ bit (s.get CST_RECAST.pending) k = false ∨ s.inSeam s.ns = false ∨ s.seamOpening < t + 1000000 then
      fin s
    else
      let s := s.withEdges k s.t125 (fun s => (s.clusterReset k).loadCluster (s.image (castBase c)) k)
      let s := (s.bankChecks k).want bkPE (s.autostart k)
      let s := { s with cst := { s.cst with recasts := s.cst.recasts ++ [k.val] } }
      fin (s.put CST_RECAST.pending (setBit (s.get CST_RECAST.pending) k false))

/-- The recast of cluster k is done, if its time copy has locked and its autostart engines have started; with the last one the node
returns to SERVICE (R364). -/
def State.recastStep (s : State) (k : Nat) : State :=
  if !s.cst.recasts.contains k || s.flag (CL_STATUS.in_reset k) || (s.wanted bkPE).any (fun u => u / 9 == k) then s
  else
    let s := { s with cst := { s.cst with recasts := s.cst.recasts.filter (· != k) } }
    let s := s.put CST_RECAST.done (setBit (s.get CST_RECAST.done) k true)
    match s.cst.recast with
    | some (c, _) =>
      if s.get CST_RECAST.pending = 0 ∧ s.cst.recasts.isEmpty = true then (s.recastDone c).setNodeState nsSERVICE else s
    | none => s


/-! ### The end of BOOT (R361, R362) -/

/-- The state after BOOT (R36, R361). -/
def State.afterBoot (s : State) : Nat :=
  if s.cru.early then nsTAMPERED else if s.flag CST_STATUS.blank || s.flag CST_BOOT.no_fw then nsHALTED else nsJOINING

/-- The starts that follow BOOT: the port dies, the lanes and the feeds cast on; every other feed is off (R354, R361, R362,
R439). -/
def State.startUnits (s : State) : State :=
  let on := (List.range 16).filter (fun n => s.flag (FEED_CFG0.cast_on n))
  let s := (List.range 16).foldl (fun s n => if on.contains n then s else s.feedStop n) s
  ((s.want bkDIE [1, 2]).want bkLANE (List.range (if s.isHead then 20 else 12))).startFeeds on

/-- Dregrim runs and starts the customer pairs (R374, R378). -/
def State.startCores (s : State) : State :=
  match s.cst.fwCopy with
  | none => s
  | some c =>
    let s := (s.imagePairs (s.image (fwBase c))).foldl (fun s p => s.put (CORE_STAT.run p) 1) (s.put (CORE_STAT.run s.managerPair) 1)
    { s with core := { s.core with wdog := some s.now } }

/-- The clock domains that run in a sleep state (R422); WAKECLK runs on demand. -/
def State.clocksIn (s : State) (st : Nat) : Nat :=
  let rx := fun (p : Nat) => decide (st ≤ 3) && (s.linkState p == lsUP || s.linkState p == lsFIDLE)
  let eth := s.get ETH_BRCFG.mode0 != 0 || s.get ETH_BRCFG.mode1 != 0
  1 + 2 * bits (s.get NODE_CLKSTAT.running) 1 1 + 4 * b2n (decide (st ≤ 3)) + 8 * b2n (st == 0) + 16 * b2n (st == 0) +
    32 * b2n (rx 0) + 64 * b2n (rx 1) + 128 * b2n (decide (st ≤ 3)) + 256 * b2n (decide (st ≤ 2) && s.isHead) +
    512 * b2n (decide (st ≤ 3) && eth) + 1024 * b2n (decide (st ≤ 3)) + 6144 * b2n (decide (st ≤ 1)) + 8192
def State.showClocks (s : State) : State := s.put NODE_CLKSTAT.running (s.clocksIn (s.get NODE_SLEEPSTAT.state))

/-- TIME_LOCK (R87): the copy has locked, and a cluster reset ends. The copy of a die that has not started cannot lock. -/
def execTimeLock (k : Fin 12) (s : State) : Out :=
  fin (if s.flag (CL_STATUS.time_lock k) || (s.cluster k).dieParked || s.dieWaits k then s
    else (s.withEdges k s.t125 (fun s => s.puts [(CL_STATUS.time_lock k, 1), (CL_STATUS.in_reset k, 0),
      (CL_STATUS.parked k, 0)])).recastStep k)

/-- BELLOWS_STEP (R439, R440). -/
def execBellowsStep (kind : Fin 6) (s : State) : Out :=
  match s.wanted kind with
  | [] => fin s
  | u :: rest =>
    if !s.mayStart kind u then fin s
    else
      let s := s.setWanted kind rest
      let s := if kind.val = bkFEED then s
        else { s with slp := { s.slp with started := SMap.set s.slp.started kind (some s.now) none } }
      let s := (s.puts [(NODE_BELLOWS.kind, kind), (NODE_BELLOWS.step, u)]).startUnit kind u
      fin (if kind.val = bkPE then s.recastStep (u / 9) else s)

/-- BOOT_END (R36, R157, R305, R361): the node leaves BOOT, and the output of the cores is up. -/
def execBootEnd (s : State) : Out :=
  if !s.inPhase bpSETTINGS || !s.cst.applied then fin s
  else
    let s := s.puts [(CST_BOOT.phase, 0), (CST_BOOT.boot_ms, min ((s.now - s.cst.romAt.getD s.now) / 1000000) 0xFFFF)]
    let s := s.put (SW_OSTAT.up 5) 1
    let s := if SMap.getD s.cst.written TIM_SERVO.addr 0 = 0 then s.put TIM_SERVO.lock_thr (if s.isHead then 20 else 4) else s
    let s := s.setRole (if s.flag RING_HEADCFG.is_witness then 3 else if s.isHead then 2 else 0)
    let s := { s with slp := { s.slp with since := s.now } }
    fin (((s.startCores.startUnits).setNodeState s.afterBoot).showClocks)

end Sys2Proof.Machine
end

