-- ==== Sys2Proof/Machine/Provision.lean ====
section
/-! DEFINITION. Machine/Provision.lean: KEY_PROVISION and HALLMARK (R400 to R405, R412, R413). -/

namespace Sys2Proof.Machine

/-! ### Hallmark (R412, R413) -/

/-- Bytes 96 to 143 of the body: the digest of the public key, or the check value of a symmetric key (R413). -/
def State.keyCheck (s : State) (i : Nat) : List Nat :=
  let alg := s.slotAlg i
  let v := if alg = 1 then (aesBlock (s.slotMat i) (List.replicate 16 0)).take 8
    else if alg = 2 then hkdf384 [] (s.slotMat i) (ascii "PLG-KCV") 8
    else sha384 (s.publicOf i)
  (v ++ List.replicate 48 0).take 48

/-- Valid tamper log entries. -/
def State.tlogCount (s : State) : Nat := ((List.range 8).filter s.tlogValid).length

/-- The hallmark body (R413) of a kind, for a key in slot i or for the node. -/
def State.hallmarkBody (s : State) (kind : Nat) (slot : Option Nat) (nonce : List Nat) : List Nat :=
  let key := fun (f : Nat → Nat) => (slot.map f).getD 0
  [0x50, 0x4C, 0x47, 0x48, 1, kind, 0, 0] ++ s.cert 8 8 ++ [s.nodeId, s.nodeState] ++ leBytes 2 (key s.slotId) ++
    [key (fun i => s.get (CRU_SLOT0.class_ i)), key s.slotAlg,
      b2n (slot.any (fun i => s.cru.made.contains i)) + 4 * b2n s.cru.bench, 0] ++
    leBytes 2 (s.get CRU_BENCH.count) ++ [s.get CRU_BENCH.saturated, s.tlogCount] ++ leBytes 4 (s.get CST_RUNID.id) ++
    leBytes 4 (s.get CST_RUNSEQ_LO.seq) ++ leBytes 4 (s.get CST_RUNSEQ_HI.seq) ++ leBytes 8 s.cst.fwSeq ++ timeBytes s.time ++
    [0, 0] ++ (nonce ++ List.replicate 32 0).take 32 ++
    (match slot with
      | some i => s.keyCheck i
      | none => List.replicate 48 0) ++ sha384 (s.cert 0 5504) ++ List.replicate 64 0

/-- The 3,672 bytes of a hallmark: the body and a signature block by the touchmark (R346, R412). -/
def State.hallmark (s : State) (kind : Nat) (slot : Option Nat) (nonce : List Nat) : List Nat :=
  let body := s.hallmarkBody kind slot nonce
  body ++ [0x50, 0x4C, 0x47, 0x53] ++ leBytes 2 idTOUCHMARK ++ [0, 0] ++ signature 3 (s.slotMat 0) body s.draws ++
    signature 5 (s.slotMat 1) body s.draws ++ [0, 0, 0]

/-- The checks of HALLMARK in mailbox m (R412): RANGE for a key ID that is not live or offsets outside bulk RAM. -/
def State.hallmarkCheck (s : State) (m : Nat) : Nat :=
  let id := s.arg m 1 % 65536
  if !inBulk (s.arg m 2) 32 || !inBulk (s.arg m 3) 3672 || (id != 0 && (s.keySlot id allAlgs).isNone) then stRANGE else stOK

/-- HALLMARK in mailbox m (R412, R413): without a touchmark, after a root failure, there is nothing to sign with. -/
def execHallmark (m : Fin 3) (s : State) : Out :=
  if !s.mbxRuns m mcHALLMARK then fin s
  else if s.hallmarkCheck m ≠ stOK then fin (s.mbxEnd m (s.hallmarkCheck m))
  else if s.slotState 0 ≠ slLIVE then fin (s.mbxEnd m stFAULT)
  else
    let id := s.arg m 1 % 65536
    let bs := s.hallmark (if id = 0 then 3 else 1) (if id = 0 then none else s.keySlot id allAlgs) (s.bytes (s.arg m 2) 32)
    fin (((s.setBytes (s.arg m 3) bs).draw).mbxEnd m stOK)

/-! ### KEY_PROVISION (R400 to R405) -/

/-- ARG1: key ID, purpose and algorithm. -/
def State.provId (s : State) (m : Nat) : Nat := s.arg m 1 % 65536
def State.provPurpose (s : State) (m : Nat) : Nat := bits (s.arg m 1) 16 8
def State.provAlg (s : State) (m : Nat) : Nat := bits (s.arg m 1) 24 8

/-- A key ID that a purpose may install (R393): the domain key's own, or one of the customer's to assign. -/
def idFits (purpose id : Nat) : Bool := if purpose = 3 then id == idDOMAIN else decide (1 ≤ id) && decide (id ≤ 0xEFFF)

/-- The slot of the wrapping key of an INSTALL (R401): an ephemeral, or the domain key. -/
def State.wrapSlot (s : State) (id : Nat) : Option Nat :=
  if isEphemeral id then
    (s.keySlot id [4]).filter (fun i => match SMap.getD s.cru.born i none with
      | some t => decide (s.now < t + 10000000000)
      | none => false)
  else if id = idDOMAIN then s.keySlot id [2]
  else none

/-- The key material of the wrapped blob, none when its tag fails (R401). -/
def State.unwrap (s : State) (m i : Nat) : Option (List Nat) :=
  let id := s.arg m 3 % 65536
  let n := algBytes (s.provAlg m)
  let head := if isEphemeral id then 97 else 0
  let blob := s.bytes (s.arg m 2) (head + 12 + n + 16)
  let info := ascii "PLG-WRAP" ++ leBytes 4 (s.arg m 1)
  let secret := if isEphemeral id then ecdh (s.slotMat i) (blob.take 97) else s.slotMat i
  let key := hkdf384 [] secret info 32
  let iv := (blob.drop head).take 12
  let aad := leBytes 4 (s.arg m 1) ++ leBytes 4 (s.arg m 3)
  let c := (blob.drop (head + 12)).take n
  if gcmTag key iv aad c == blob.drop (head + 12 + n) then some (gcmCipher key iv c) else none

/-- The bytes of the blob (R401). -/
def State.blobLen (s : State) (m : Nat) : Nat :=
  (if isEphemeral (s.arg m 3 % 65536) then 97 else 0) + 28 + algBytes (s.provAlg m)

/-- The statement of an AUTHORITY operation (R400): the keys that it carries and whether a live authority key of the purpose signed
it. -/
def State.statement (s : State) (m : Nat) : List Nat := s.bytes (s.arg m 2) 6000
def State.statementOk (s : State) (m : Nat) : Bool :=
  s.cru.bench || slots.any (fun i => s.slotState i == slLIVE && s.slotAlg i == 6 &&
    s.get (CRU_SLOT3.purpose i) == s.provPurpose m &&
    (match s.authority (s.provPurpose m) (s.slotId i) 7 with
      | some j => Config.statementSigned (s.statement m) (s.slotMat i) (s.slotMat j)
      | none => false))

/-- Another authority key of the same purpose is live beside this ID (R400). -/
def State.otherAuthority (s : State) (id purpose : Nat) : Bool :=
  slots.any (fun i => s.slotState i == slLIVE && s.get (CRU_SLOT0.class_ i) == 1 && s.slotId i != id &&
    s.get (CRU_SLOT3.purpose i) == purpose)

/-- The AUTH, RANGE and STATE checks of KEY_PROVISION in mailbox m, in the order of R13 (R400 to R402). -/
def State.provisionCheck (s : State) (m : Nat) : Nat :=
  let id := s.provId m
  let purpose := s.provPurpose m
  let alg := s.provAlg m
  let wrapId := s.arg m 3 % 65536
  match s.arg m 0 % 16 with
  | 1 => if !inBulk (s.arg m 2) 32 || !inBulk (s.arg m 3) 3672 then stRANGE else stOK
  | 2 =>
    let range := !(purposeAlgs purpose).contains alg || purpose < 3 || !idFits purpose id || !inBulk (s.arg m 2) (s.blobLen m) ||
      !(if purpose = 3 then isEphemeral wrapId else wrapId == idDOMAIN)
    match s.wrapSlot wrapId with
    | none => if range then stRANGE else stSTATE
    | some i =>
      if decide (1 ≤ alg) && decide (alg ≤ 7) && inBulk (s.arg m 2) (s.blobLen m) && (s.unwrap m i).isNone then stAUTH
      else if range then stRANGE else stOK
  | 3 =>
    if !s.statementOk m then stAUTH
    else if (purpose ≠ 1 ∧ purpose ≠ 2) ∨ idFits purpose id = false ∨ inBulk (s.arg m 2) 6000 = false then stRANGE
    else stOK
  | 4 =>
    if !(purposeAlgs purpose).contains alg || purpose < 4 || 5 < alg || !idFits purpose id then stRANGE
    else if (s.keySlot idDOMAIN [2]).isNone then stSTATE
    else stOK
  | 5 =>
    match slots.find? (fun i => s.slotState i == slLIVE && s.slotId i == id) with
    | none => stRANGE
    | some i =>
      if id = idTOUCHMARK then stRANGE
      else if s.get (CRU_SLOT0.class_ i) = 1 ∧ s.otherAuthority id (s.get (CRU_SLOT3.purpose i)) = false ∧ s.cru.bench = false then
        stSTATE
      else stOK
  | _ => stILLEGAL

/-- KEY_PROVISION with operation op runs in mailbox m. -/
def State.provRuns (s : State) (m op : Nat) : Bool := s.mbxRuns m mcKEY_PROVISION && s.arg m 0 % 16 == op

/-- WRAP_REQ (R400, R411): an ECDH ephemeral in a free slot, and a hallmark of kind 0x02 for it. -/
def execWrapReq (m : Fin 3) (s : State) : Out :=
  if !s.provRuns m 1 then fin s
  else if s.provisionCheck m ≠ stOK then fin (s.mbxEnd m (s.provisionCheck m))
  else if !s.flag CRU_ENTROPY.ok || s.slotState 0 ≠ slLIVE then fin (s.mbxEnd m stFAULT)
  else match (List.range 8).find? (fun e => !slots.any (fun i => s.slotState i != slEMPTY && s.slotId i == 0xFFD0 + e)) with
    | none => fin (s.mbxEnd m stFAULT [1])
    | some e =>
      let id := 0xFFD0 + e
      match s.freeSlot id with
      | none => fin (s.mbxEnd m stFAULT [1])
      | some i =>
        let s := s.putSlot i slLIVE { keyId := id, cls := 2, alg := 4, parent := idTOUCHMARK, pairs := 0, purpose := 0
                                      mat := Config.drbg s.draws 48, made := true } false
        let s := ({ s with cru := { s.cru with born := SMap.set s.cru.born i (some s.now) none } }).draw
        let bs := s.hallmark 2 (some i) (s.bytes (s.arg m 2) 32)
        fin (((s.setBytes (s.arg m 3) bs).draw).mbxEnd m stOK [id, 3672])

/-- A new key was swapped in: a domain key derives the salt, the session keys count as children of an
invalidated parent, and both ports rekey; in TAMPERED the node rejoins (R36, R402,
R405). -/
def State.domainInstalled (s : State) : State :=
  let s := (s.deriveSalt.refuseTree 2 idSALT).rekeyLinks true
  if s.nodeState = nsTAMPERED then s.setNodeState nsJOINING else s

/-- INSTALL (R400, R401, R404): whether the known-answer test and the slot assay pass. An ephemeral is used once. -/
def execInstall (m : Fin 3) (kat assay : Bool) (s : State) : Out :=
  if !s.provRuns m 2 then fin s
  else
    let wrapId := s.arg m 3 % 65536
    let purpose := s.provPurpose m
    let st := s.provisionCheck m
    match s.keySlot wrapId [2, 4] with
    | none => fin (s.mbxEnd m (if st = stOK then stSTATE else st))
    | some i =>
      match s.unwrap m i with
      | none => fin (s.mbxEnd m (if st = stRANGE then st else stAUTH))
      | some mat =>
        if st = stRANGE then fin (s.mbxEnd m st)
        else
          let s := if isEphemeral wrapId then s.clearSlot i else s
          let id := s.provId m
          let r := s.installKey { keyId := id, cls := purposeClass purpose, alg := s.provAlg m, parent := purposeParent purpose
                                  pairs := s.keyPairs id, purpose := purpose, mat := mat } true kat assay
          let t := if r.2.1 = stOK ∧ purpose = 3 then r.1.domainInstalled else r.1
          fin (t.mbxEnd m r.2.1 (if r.2.1 = stOK then [] else [r.2.2]))

/-- AUTHORITY (R397, R400, R404): both keys of the statement are installed under R404. -/
def execAuthority (m : Fin 3) (kat assay : Bool) (s : State) : Out :=
  if !s.provRuns m 3 then fin s
  else if s.provisionCheck m ≠ stOK then fin (s.mbxEnd m (s.provisionCheck m))
  else
    let key := fun (alg : Nat) => ({
      keyId := s.provId m, cls := 1, alg := alg, parent := 0, pairs := s.keyPairs (s.provId m), purpose := s.provPurpose m
      mat := Config.statementKey alg (s.statement m) } : Stored)
    let r := s.installKey (key 6) true kat assay
    if r.2.1 ≠ stOK then fin (s.mbxEnd m r.2.1 [r.2.2])
    else
      let q := r.1.installKey (key 7) true kat assay
      fin (if q.2.1 = stOK then q.1.mbxEnd m stOK else s.mbxEnd m q.2.1 [q.2.2])

/-- GENERATE (R395, R400, R411). -/
def execGenerate (m : Fin 3) (kat assay : Bool) (s : State) : Out :=
  if !s.provRuns m 4 then fin s
  else if s.provisionCheck m ≠ stOK then fin (s.mbxEnd m (s.provisionCheck m))
  else if !s.flag CRU_ENTROPY.ok then fin (s.mbxEnd m stFAULT)
  else
    let purpose := s.provPurpose m
    let r := s.installKey { keyId := s.provId m, cls := purposeClass purpose, alg := s.provAlg m, parent := idDOMAIN
                            pairs := s.keyPairs (s.provId m), purpose := purpose
                            mat := Config.drbg s.draws (algBytes (s.provAlg m)), made := true } true kat assay
    fin ((r.1.draw).mbxEnd m r.2.1 (if r.2.1 = stOK then [] else [r.2.2]))

/-- INVALIDATE (R400, R405). -/
def execInvalidate (m : Fin 3) (s : State) : Out :=
  if !s.provRuns m 5 then fin s
  else if s.provisionCheck m ≠ stOK then fin (s.mbxEnd m (s.provisionCheck m))
  else fin ((s.invalidate (s.provId m)).mbxEnd m stOK)

end Sys2Proof.Machine
end

