-- ==== Sys2Proof/Machine/Update.lean ====
section
/-! DEFINITION. Machine/Update.lean: ingots and their staging, and the activation of firmware in pause and hitless form (R379 to
R388). -/

namespace Sys2Proof.Machine

/-! ### Ingots (R379 to R382) -/

/-- INGOT with operation op runs in mailbox m. -/
def State.ingotRuns (s : State) (m op : Nat) : Bool := s.mbxRuns m mcINGOT && s.arg m 0 % 16 == op

/-- The manifest entry of ingot i. -/
def State.manifestEntry (s : State) (i : Nat) : List Nat := s.flashBytes (manifestBase + 16 * i) 16

/-- The checks of INGOT in mailbox m in the order of R13: status and result (R380). -/
def State.ingotCheck (s : State) (m : Nat) : Nat × List Nat :=
  let size := s.arg m 3
  let total := s.get CST_STGCNT.total
  match s.arg m 0 % 16 with
  | 1 =>
    if size = 0 ∨ 8388608 < size ∨ inBulk (s.arg m 4) (16 * ingots size) = false then (stRANGE, [])
    else if s.cst.staged.isSome || s.flashBusy then (stBUSY, [])
    else (stOK, [])
  | 2 =>
    let i := s.arg m 2
    if (s.cst.staged.isSome && decide (total ≤ i)) || s.arg m 3 % 4096 != 0 || !inBulk (s.arg m 3) 4096 then (stRANGE, [])
    else if s.stagedId ≠ some (s.arg m 1) then (stSTATE, [])
    else if s.flashBusy then (stBUSY, [])
    else if !s.ingotMissing i then (stOK, [2])
    else if (sha384 (s.bytes (s.arg m 3) 4096)).take 16 ≠ s.manifestEntry i then (stFAULT, [1])
    else (stOK, [0])
  | 3 =>
    if s.stagedId ≠ some (s.arg m 1) then (stSTATE, [])
    else if s.flashBusy then (stBUSY, [])
    else (stOK, [])
  | _ => (stILLEGAL, [])

/-- INGOT_OPEN (R380): the staging area is erased, which takes time. -/
def execIngotOpen (m : Fin 3) (s : State) : Out :=
  let r := s.ingotCheck m
  if !s.ingotRuns m 1 then fin s
  else if (match s.cst.job with
    | some (.openImage n _ _ _ _) => n == m.val
    | _ => false) then fin s
  else if r.1 ≠ stOK then fin (s.mbxEnd m r.1 r.2)
  else
    let manifest := s.bytes (s.arg m 4) (16 * ingots (s.arg m 3))
    fin (s.startJob (.openImage m (s.arg m 1) (s.arg m 2 % 2) (s.arg m 3) manifest) stagingBase 0x1000000)

/-- INGOT_DATA (R380, R381): the ingot is written before its bit is cleared. -/
def execIngotData (m : Fin 3) (s : State) : Out :=
  let r := s.ingotCheck m
  if !s.ingotRuns m 2 then fin s
  else if (match s.cst.job with
    | some (.ingot n _ _) => n == m.val
    | _ => false) then fin s
  else if r ≠ (stOK, [0]) then fin (s.mbxEnd m r.1 r.2)
  else
    let s := { s with cst := { s.cst with job := some (.ingot m (s.arg m 2) (s.bytes (s.arg m 3) 4096)) } }
    fin (s.raise CST_STG.writing)

/-- INGOT_ABANDON (R380). -/
def execIngotAbandon (m : Fin 3) (s : State) : Out :=
  let r := s.ingotCheck m
  if !s.ingotRuns m 3 then fin s
  else fin ((if r.1 = stOK then s.closeStaged else s).mbxEnd m r.1 r.2)

/-- The record sector of an image: its contents are the record's, whose layout the spec does not give (R379). -/
def State.writeRecord (s : State) (id kind size : Nat) : State :=
  let s := s.flashWrite recordBase (Config.recordBytes id kind size (ingots size))
  { s with cst := { s.cst with staged := some (id, kind, size) } }

/-- INGOT_FLASH_WRITE_DONE (R380, R381). -/
def execIngotFlashWriteDone (s : State) : Out :=
  match s.cst.job with
  | some (.openImage m id kind size manifest) =>
    let s := (s.flashWrite manifestBase manifest).writeRecord id kind size
    fin ((s.endJob.showStaged).mbxEnd m stOK)
  | some (.ingot m i bs) =>
    let s := s.flashWrite (stagingBase + 4096 * i) bs
    let b := s.flashByte (bitmapBase + i / 8)
    let s := s.flashWrite (bitmapBase + i / 8) [setBit b (i % 8) false]
    fin ((s.endJob.showStaged).mbxEnd m stOK [0])
  | _ => fin s

/-- The first run of ingots of a rising list. -/
def firstRun : List Nat → Option (Nat × Nat × List Nat)
  | [] => none
  | i :: l => match firstRun l with
    | some (j, n, r) => if j = i + 1 then some (i, n + 1, r) else some (i, 1, l)
    | none => some (i, 1, [])

/-- Up to n runs, as [15:0] first index and [31:16] length; 0 when there are fewer (R382). -/
def runsOf : Nat → List Nat → List Nat
  | 0, _ => []
  | n + 1, l => match firstRun l with
    | some (i, len, r) => (i + 65536 * len) :: runsOf n r
    | none => 0 :: runsOf n []

/-- The checks of MISSING (R381, R382). -/
def State.missingCheck (s : State) (m : Nat) : Nat :=
  if s.stagedId ≠ some (s.arg m 0) then stSTATE else if s.flashBusy then stBUSY else stOK

/-- MISSING (R382). -/
def execMissing (m : Fin 3) (s : State) : Out :=
  if !s.mbxRuns m mcMISSING then fin s
  else if s.missingCheck m ≠ stOK then fin (s.mbxEnd m (s.missingCheck m))
  else
    let l := s.missingIngots (s.get CST_STGSIZE.bytes)
    fin (s.mbxEnd m stOK (l.length :: runsOf 4 (l.filter (fun i => decide (s.arg m 1 ≤ i)))))

/-! ### Activation (R383 to R387) -/

/-- The sequence that an activation must carry (R383): none while no firmware runs. -/
def State.nextSequence (s : State) : Option Nat := s.cst.fwCopy.map (fun _ => s.cst.fwSeq + 1)

/-- The live standby pair, where there is one (R371). -/
def State.standbyPair (s : State) : Option Nat :=
  let p := s.get CORE_ROLE.standby
  if p < 10 then some p else none

/-- The checks of R383 in their order: status and result. -/
def State.activateCheck (s : State) (m : Nat) (hitless : Bool) : Nat × List Nat :=
  let img := s.image stagingBase
  let ready := s.standbyPair.any (fun p => s.flag (CORE_STAT.standby_ready p))
  if (s.cst.staged.isSome ∧ s.get CST_STG.kind ≠ 1) ∨ s.fwLayout img ≠ 0 then (stILLEGAL, [])
  else if s.nextSequence ≠ some (Img.sequence img) then (stRANGE, [0xFF])
  else if hitless = true ∧ s.get RING_SEAM.len < 20 then (stRANGE, [0xFD])
  else if s.stagedWhole (s.arg m 0) = false then (stSTATE, [])
  else if s.flashBusy = true ∨ (hitless = true ∧ ready = false) then (stBUSY, [])
  else (stOK, [])

/-- A preparation runs for this mailbox. -/
def State.preparing (s : State) (m : Nat) : Bool := match s.cst.job with
  | some (.prepare n _ _) => n == m
  | _ => false

/-- ACTIVATE in mailbox m: the checks, and the write of the image into the copy that was not booted (R383). -/
def State.activate (s : State) (m : Nat) (hitless : Bool) : State :=
  let r := s.activateCheck m hitless
  if s.preparing m || s.cst.act.isSome then s
  else if r.1 ≠ stOK then s.mbxEnd m r.1 r.2
  else
    let c := 1 - s.cst.fwCopy.getD 0
    let s := s.startJob (.prepare m c hitless) (fwBase c) 0x800000
    s.puts [(CST_ACT.phase, 1), (CST_FWSTAT.state c, 2), (CST_FWSEQ_LO.seq c, 0), (CST_FWSEQ_HI.seq c, 0)]

/-- ACTIVATE_PAUSE (R383). -/
def execActivatePause (m : Fin 3) (s : State) : Out :=
  fin (if s.mbxRuns m mcACTIVATE_PAUSE then s.activate m false else s)

/-- ACTIVATE_HITLESS (R383). -/
def execActivateHitless (m : Fin 3) (s : State) : Out :=
  fin (if s.mbxRuns m mcACTIVATE_HITLESS then s.activate m true else s)

/-- The activation of mailbox m ends with a status and result words (R384, R385, R388). -/
def State.activationResult (s : State) (m status : Nat) (res : List Nat) : State :=
  let s := s.mbxEnd m status res
  let s := s.puts [(CST_ACT.phase, 0), (CST_ACT.last_status, status), (CST_ACT.last_detail, s.get (NODE_RES.res m 0))]
  let s := if status = stOK then s.bump CST_ACTCNT.done else s.bump CST_ACTCNT.failed
  { s with cst := { s.cst with act := none } }

/-- The standby pair is reset: it runs the boot ROM, idle (R371, R385). -/
def State.resetStandby (s : State) : State :=
  match s.standbyPair with
  | some p => s.puts [(CORE_STAT.run p, 2), (CORE_STAT.standby_ready p, 1)]
  | none => s

/-- The activation is abandoned: its mailbox is told so with a status that the spec does not name (R36, R387). -/
def State.abandonActivation (s : State) (m : Nat) : State :=
  (s.activationResult m (Config.freeWord s.draws % 13) [Config.freeWord (s.draws + 1)]).draw.draw

/-- The image entries of a pair that an activation compares (R384). -/
def Img.entryOf (img : Img) (p : Nat) : Option (Nat × Nat) := (Img.customer img p).map (fun e => (e.len, e.crc))

/-- The customer pairs whose image entry changes from the booted copy to copy c (R384). -/
def State.changedPairs (s : State) (c : Nat) : List Nat :=
  let new := s.image (fwBase c)
  let old := s.image (fwBase (1 - c))
  (List.range 8).filter (fun p => s.get (CORE_STAT.role p) == 1 && Img.entryOf new p != Img.entryOf old p)

/-- The changed customer pairs start again, those that have an entry (R384, R385). -/
def State.restartPairs (s : State) (ps : List Nat) (img : Img) : State :=
  ps.foldl (fun s p => s.put (CORE_STAT.run p) (b2n (Img.customer img p).isSome)) s

/-- Outputs held in the pause form or a manager restart follow the drivers again, unless a NODE_HOLD is in force (R384). -/
def State.endHold (s : State) : State := if s.flag FLT_STATUS.node_hold then s else s.releaseOutputs

/-- The watchdog is suspended, or runs afresh (R374). -/
def State.stopWatchdog (s : State) : State := { s with core := { s.core with wdog := none } }
def State.startWatchdog (s : State) : State := { s with core := { s.core with wdog := some s.now } }

/-- PREPARATION_END (R383): the node enters UPDATING, in pause form (R384) or hitless form (R385). -/
def execPreparationEnd (s : State) : Out :=
  match s.cst.job with
  | some (.prepare m c hitless) =>
    let s := (s.copyStaged (fwBase c)).endJob
    let seq := s.fwSequence (s.image (fwBase c))
    let s := s.puts [(CST_FWSEQ_LO.seq c, seq), (CST_FWSEQ_HI.seq c, seq / 2 ^ 32), (CST_FWSTAT.state c, 0)]
    if s.nodeState ≠ nsSERVICE then fin (s.abandonActivation m)
    else
      let s := { s with cst := { s.cst with act := some { m := m, hitless := hitless, t0 := s.now, copy := c } } }
      if hitless then
        let s := (s.setNodeState nsUPDATING).put CST_ACT.phase 3
        fin (match s.standbyPair with
          | some p => s.puts [(CORE_STAT.run p, 2), (CORE_STAT.standby_ready p, 0)]
          | none => s)
      else
        let s := ((s.holdOutputs).setNodeState nsUPDATING).puts [(NODE_STATE.pause, 1), (CST_ACT.phase, 2)]
        fin (((s.changedPairs c).foldl (fun s p => s.put (CORE_STAT.run p) 0) s).stopWatchdog)
  | _ => fin s

/-- The pause form that runs. -/
def State.pauseAct (s : State) : Option Activation := s.cst.act.filter (fun a => !a.hitless)

/-- The hitless form that runs. -/
def State.hitlessAct (s : State) : Option Activation := s.cst.act.filter (fun a => a.hitless)

def State.setAct (s : State) (a : Activation) : State := { s with cst := { s.cst with act := some a } }

/-- PAUSE_STATE_SAVED (R384): the manager pair is reset into the boot ROM. -/
def execPauseStateSaved (s : State) : Out :=
  match s.pauseAct with
  | some a =>
    fin (if a.inRom then s else (s.setAct { a with inRom := true }).put (CORE_STAT.run s.managerPair) 2)
  | none => fin s

/-- PAUSE_ASSAY_DONE (R384): of the new copy; after its failure, of the booted copy. -/
def execPauseAssayDone (s : State) : Out :=
  match s.pauseAct with
  | some a =>
    if !a.inRom then fin s
    else match a.newCode, a.oldCode with
      | none, _ =>
        let code := s.fwAssay (s.image (fwBase a.copy))
        fin ((s.setAct { a with newCode := some code }).put (CST_FWSTAT.state a.copy) (if code = 0 then 0xB else code))
      | some n, none =>
        fin (if n = 0 then s else s.setAct { a with oldCode := some (s.fwAssay (s.image (fwBase (1 - a.copy)))) })
      | some _, some _ => fin s
  | none => fin s

/-- Dregrim runs from firmware copy c in the manager pair (R384). -/
def State.runManager (s : State) (c : Nat) : State :=
  let img := s.image (fwBase c)
  let p := s.managerPair
  let s := s.loadFirmware img p []
  (s.put (CORE_STAT.run p) 1).startWatchdog

/-- PAUSE_RESTART (R384): the new copy runs, or the booted one after a failed assay. -/
def execPauseRestart (s : State) : Out :=
  match s.pauseAct with
  | some a =>
    let changed := s.changedPairs a.copy
    let new := s.image (fwBase a.copy)
    let back := fun (s : State) => ((s.zero NODE_STATE.pause).endHold).setNodeState nsSERVICE
    match a.newCode, a.oldCode with
    | some 0, _ =>
      let s := s.loadFirmware new s.managerPair changed
      let s := (s.runManager a.copy).restartPairs changed new
      let s := (s.bootFirmware a.copy).put (CST_FWSTAT.state (1 - a.copy)) 0xB
      fin ((back (s.activationResult a.m stOK [])).closeStaged)
    | some n, some 0 =>
      let s := (s.runManager (1 - a.copy)).restartPairs changed (s.image (fwBase (1 - a.copy)))
      let s := s.report { src := 0x62, master := 0, addr := s.domainAddr (CST_FWSTAT.addr a.copy), extra := n }
      fin (back (s.activationResult a.m stFAULT [n]))
    | _, _ => fin s
  | none => fin s

/-- The hitless form ends before its switch point: the standby is reset and the old manager keeps its role (R385). -/
def State.endHitless (s : State) (m status : Nat) (res : List Nat) : State :=
  ((s.activationResult m status res).resetStandby).setNodeState nsSERVICE

/-- HITLESS_ASSAY_DONE (R385). -/
def execHitlessAssayDone (s : State) : Out :=
  match s.hitlessAct, s.standbyPair with
  | some a, some p =>
    if a.shadow then fin s
    else
      let img := s.image (fwBase a.copy)
      let code := s.fwAssay img
      let s := s.put (CST_FWSTAT.state a.copy) (if code = 0 then 0xB else code)
      if code ≠ 0 then fin (s.endHitless a.m stFAULT [code])
      else fin (((s.setAct { a with shadow := true }).loadFirmware img p []).put (CORE_STAT.run p) 1)
  | _, _ => fin s

/-- IN_STEP (R385): the new Dregrim is in step, or cannot read the old one's state format. -/
def execInStep (readable : Bool) (s : State) : Out :=
  match s.hitlessAct with
  | some a =>
    if !a.shadow || a.inStep.isSome then fin s
    else if readable then fin (s.setAct { a with inStep := some s.ns })
    else fin (s.endHitless a.m stFAULT [0xFE])
  | none => fin s

/-- The manager role moves in this seam: the old manager takes no new mailbox command (R385). -/
def State.roleMoving (s : State) : Bool := s.inSeam s.ns && s.hitlessAct.any (fun a => a.moving == some s.seamOpening)

/-- ROLE_MOVE (R385): within 10 µs of the first seam opening after "in step" at which no other mailbox command runs. -/
def execRoleMove (s : State) : Out :=
  match s.hitlessAct, s.standbyPair with
  | some a, some p =>
    let old := s.managerPair
    if !s.roleMoving || decide (10000 < s.seamInto) then fin s
    else
      let changed := s.changedPairs a.copy
      let new := s.image (fwBase a.copy)
      let s := s.puts [(CORE_ROLE.manager, p), (CORE_ROLE.standby, old), (CORE_STAT.role p, 0), (CORE_STAT.role old, 2),
        (CORE_STAT.run old, 2), (CORE_STAT.standby_ready old, 1), (CORE_STAT.standby_ready p, 0)]
      let s := changed.foldl (fun s q => match Img.customer new q with
        | some e => s.loadPair q (Img.program new e)
        | none => s) s
      let s := (s.restartPairs changed new).bootFirmware a.copy
      let s := s.put (CST_FWSTAT.state (1 - a.copy)) 0xB
      fin (((s.activationResult a.m stOK []).closeStaged).setNodeState nsSERVICE)
  | _, _ => fin s

/-- HITLESS_TIMEOUT (R385): "in step" has not come within 10 s of t0. -/
def execHitlessTimeout (s : State) : Out :=
  match s.hitlessAct with
  | some a =>
    fin (if a.inStep.isNone && decide (a.t0 + 10000000000 ≤ s.now) then s.endHitless a.m stTIMEOUT [] else s)
  | none => fin s

end Sys2Proof.Machine
end

