-- ==== Sys2Proof/Machine/Cores.lean ====
section
/-! DEFINITION. Machine/Cores.lean: the core pairs: commands, lockstep, events, doorbells, the watchdog and the TCM windows (R367 to
R374, R390). -/

namespace Sys2Proof.Machine

/-- Lines of a pair's interrupts: fault (R466), event and doorbell (R373). -/
abbrev ciFAULT : Nat := 0
abbrev ciEVENT : Nat := 1
abbrev ciDOORBELL : Nat := 2

/-- A pair is halted: stopped by command, or by a mismatch (R370, R372). -/
def State.pairHalted (s : State) (p : Nat) : Bool := s.get (CORE_STAT.run p) == 0 || s.get (CORE_STAT.run p) == 3

/-- The status of a CORE_CTL command and what it does, each in turn (R372). -/
def State.coreCommand (s : State) (p w : Nat) : State × Nat :=
  if s.get (CORE_STAT.role p) ≠ 1 then (s, stSTATE)
  else
    let bad := bit w 0 && !s.pairHalted p
    let s' := if bit w 0 then s.put (CORE_STAT.run p) 1 else s
    let s' := if bit w 1 || bit w 2 then s'.put (CORE_STAT.run p) 0 else s'
    if bad then (s, stSTATE) else (s', stOK)

/-- A write of CORE_CTL[p] (R24, R372, R390). -/
def State.coreCtl (s : State) (p : Nat) (o : Origin) (w : Nat) : State :=
  if s.foreignCore o then s.done o stAUTH
  else
    let r := s.coreCommand p w
    let s := r.1.put (CORE_STAT.last_status p) r.2
    if r.2 = stSTATE then s.refuse o CORE_REFUSED.count else s.done o r.2

/-- CORE_START (R372). -/
def execCoreStart (p : Fin 10) (o : Origin) (w : Nat) (s : State) : Out := fin (s.coreCtl p o (withBit w 0))

/-- CORE_HALT (R372). -/
def execCoreHalt (p : Fin 10) (o : Origin) (w : Nat) (s : State) : Out := fin (s.coreCtl p o (withBit w 1))

/-- CORE_RESET (R372): memories keep their contents. -/
def execCoreReset (p : Fin 10) (o : Origin) (w : Nat) (s : State) : Out := fin (s.coreCtl p o (withBit w 2))

/-! ### Lockstep (R370, R387) -/

/-- A mismatch of the manager pair starts a manager restart: the pair is reset into the boot ROM, outputs are held, and an activation
ends. -/
def State.managerMismatch (s : State) : State :=
  let s := match s.cst.act with
    | some a =>
      let s := if a.hitless then s else { s with cst := { s.cst with paused := s.changedPairs a.copy } }
      let s := s.activationResult a.m stFAULT [0xFC]
      let s := if a.hitless then s.resetStandby else s
      (s.zero NODE_STATE.pause).setNodeState nsSERVICE
    | none => match s.cst.job with
      | some (.prepare m _ _) => s.endJob.activationResult m stFAULT [0xFC]
      | _ => s
  ({ s with cst := { s.cst with restart := true } }.holdOutputs).stopWatchdog.put (CORE_STAT.run s.managerPair) 2

/-- A mismatch of the standby pair ends an activation that uses it, or that prepares for it; NODE_RES[m][0] of that end is not given. -/
def State.standbyMismatch (s : State) (p : Nat) : State :=
  let s := match s.hitlessAct with
    | some a => ((s.activationResult a.m stFAULT [Config.freeWord s.draws]).draw).setNodeState nsSERVICE
    | none => match s.cst.job with
      | some (.prepare m _ true) => (s.endJob.activationResult m stFAULT [Config.freeWord s.draws]).draw
      | _ => s
  s.puts [(CORE_STAT.run p, 3), (CORE_STAT.standby_ready p, 0)]

/-- LOCKSTEP_MISMATCH of pair p (R370). -/
def execLockstepMismatch (p : Fin 10) (s : State) : Out :=
  let run := s.get (CORE_STAT.run p)
  if s.flag (CORE_STAT.mode p) || (run != 1 && run != 2) then fin s
  else
    let role := s.get (CORE_STAT.role p)
    let s := (s.put (CORE_STAT.run p) 3).bump (CORE_LSERR.mismatches p)
    let s := if role = 0 then s.managerMismatch else if role = 2 then s.standbyMismatch p else s
    fin (s.report { src := 0x71, master := unitCORE (2 * p), addr := s.domainAddr (CORE_CTL.addr p), extra := p })

/-- MANAGER_RESTART (R370, R384): the boot ROM assays the booted copy and starts Dregrim from it, which starts the customer pairs
that a pause had halted; outputs follow their drivers again. -/
def execManagerRestart (s : State) : Out :=
  match s.cst.restart, s.cst.fwCopy with
  | true, some c =>
    if s.fwAssay (s.image (fwBase c)) ≠ 0 then fin s
    else
      let s := (s.runManager c).restartPairs s.cst.paused (s.image (fwBase c))
      let s := { s with cst := { s.cst with restart := false, paused := [] } }
      fin (if s.nodeState = nsORPHAN then s else s.endHold)
  | _, _ => fin s

/-! ### Events and doorbells (R373) -/

/-- Unread messages in the event ring of pair p. -/
def State.unread (s : State) (p : Nat) : Nat := SMap.getD s.core.unread p 0

/-- CORE_EVENT: the message of an EVENT frame for a core pair. -/
def execCoreEvent (f : Frame) (s : State) : Out :=
  let p := f.a % 256
  if f.ftype ≠ 6 ∨ bit f.a 15 = false ∨ 10 ≤ p then fin s
  else if 64 ≤ s.unread p then fin (s.bump (CORE_EVDROP.count p))
  else
    let wr := s.get (CORE_EVWR.wr p)
    let at_ := (16 * s.get (CORE_EVBASE.base p) + 16 * wr) % 0x80000
    let s := s.coreWrite p (0x80000 + at_) ((f.payload ++ List.replicate 16 0).take 16)
    let s := s.put (CORE_EVWR.wr p) (wr + 1)
    let s := { s with core := { s.core with unread := SMap.set s.core.unread p (s.unread p + 1) 0 } }
    fin (s.emit (.irq (unitCORE (2 * p)) ciEVENT))

/-- DOORBELL: a write of CORE_DOORBELL[p]. -/
def execDoorbell (p : Fin 10) (o : Origin) (w : Nat) (s : State) : Out :=
  let w := w % 2 ^ 32
  let s := s.put (CORE_DOORBELL.bells p) (s.get (CORE_DOORBELL.bells p) ||| w)
  fin ((if w = 0 then s else s.emit (.irq (unitCORE (2 * p)) ciDOORBELL)).done o stOK)

/-- DBCLR: a write of CORE_DBCLR[p]. -/
def execDbclr (p : Fin 10) (o : Origin) (w : Nat) (s : State) : Out :=
  let b := s.get (CORE_DOORBELL.bells p)
  fin ((s.put (CORE_DOORBELL.bells p) (b - (b &&& w))).done o stOK)

/-! ### The watchdog (R374) -/

/-- KICK: a write of CORE_WDOG with kick, which counts from the manager pair only (R390). -/
def execKick (o : Origin) (w : Nat) (s : State) : Out :=
  let mine := match o with
    | .core c => c.val / 2 == s.managerPair
    | _ => false
  let s := s.writeReg o CORE_WDOG.addr w
  fin ((if mine && s.core.wdog.isSome then s.startWatchdog else s).done o stOK)

/-- WATCHDOG_EXPIRE (R25, R374, R461): the reaction is NODE_RESET. -/
def execWatchdogExpire (s : State) : Out :=
  match s.core.wdog with
  | none => fin s
  | some t =>
    if s.now < t + 1000000 * max 1 (s.get CORE_WDOG.timeout) then fin s
    else
      let p := s.managerPair
      fin (s.stopWatchdog.report { src := 0x73, master := unitCORE (2 * p), addr := s.domainAddr CORE_WDOG.addr, extra := p })

/-! ### Loads and windows (R368, R390) -/

/-- What a core address names (R368): a byte of the memories of its pair, at an offset of R390, or of the node space of a node. -/
inductive CoreTarget where
  | own (ofs : Nat)
  | space (node ofs : Nat)
  deriving DecidableEq, Repr

/-- The address map of core c (R368); in lockstep both cores use the first field of CORE_DWIN. -/
def State.coreMap (s : State) (c a : Nat) : Option CoreTarget :=
  let p := c / 2
  if a < 0x40000 then some (.own (c % 2 * 0x40000 + a))
  else if 0x10000000 ≤ a ∧ a < 0x10080000 then some (.own (0x80000 + (a - 0x10000000)))
  else if 0x20000000 ≤ a ∧ a < 0x30000000 then some (.space s.nodeId (a - 0x20000000))
  else if 0x30000000 ≤ a ∧ a < 0x40000000 then
    some (.space (if s.flag (CORE_STAT.mode p) ∧ c % 2 = 1 then s.get (CORE_DWIN.node1 p) else s.get (CORE_DWIN.node0 p))
      (a - 0x30000000))
  else none

/-- CORE_ACCESS_FAULT (R368): a load or store of core c at core address a; one outside the map raises an access fault, and so does a load
that completes with a status other than OK. -/
def execCoreAccessFault (c : Fin 20) (a : Nat) (store : Bool) (status detail : Nat) (s : State) : Out :=
  fin (match s.coreMap c a with
    | none => s.emit (.accessFault c store)
    | some (.space node ofs) => if store || status % 256 == stOK then s else s.coreFault c node ofs status detail
    | some (.own _) => s)

/-- TCM_WINDOW_WRITE at an offset of window v (R390). -/
def execTcmWindowWrite (v : Fin 4) (o : Origin) (ofs : Fin 0x100000) (bs : List Nat) (s : State) : Out :=
  let p := s.get (CORE_WINSEL.pair v)
  if s.foreignCore o then fin (s.done o stAUTH)
  else if 10 ≤ p then fin (s.done o stOK)
  else if !s.pairHalted p then fin (s.refuse o CORE_REFUSED.count)
  else fin ((s.coreWrite p ofs (bs.take (0x100000 - ofs))).done o stOK)

end Sys2Proof.Machine
end

