-- ==== Sys2Proof/Machine/Mailbox.lean ====
section
/-! DEFINITION. Machine/Mailbox.lean: NODE_CMD, its judgement, and the commands that no other chapter describes (R282 to R285). -/

namespace Sys2Proof.Machine

/-! ### The units that a reset command names (R23, R459) -/

/-- UNIT_RESET accepts this unit ID. -/
def unitResets (u : Nat) : Bool :=
  let i := u % 256
  match u / 256 with
  | 1 => decide (i < 108)
  | 2 => decide (i < 24)
  | 3 => decide (i < 32)
  | 5 => decide (i < 10)
  | _ => false

/-- The clusters that a reset command of this code and argument touches. -/
def resetTouches (code u : Nat) : List Nat :=
  let i := u % 256
  if code = mcUNIT_RESET then
    (match u / 256 with
    | 1 => [i / 9]
    | 2 => [i / 2]
    | _ => [])
  else if code = mcCLUSTER_RESET then [i]
  else dieClusters i

/-! ### Judging a command (R13, R284, R285) -/

/-- The commands of R283. -/
def listed (code : Nat) : Bool :=
  (decide (1 ≤ code) && decide (code ≤ 0x0D)) || (decide (0x10 ≤ code) && decide (code ≤ 0x12))

/-- What the arguments of a command say of it, in the order of R13; those of ACTIVATE are checked while it runs (R383). -/
def State.argCheck (s : State) (m code : Nat) : Nat :=
  let u := s.arg m 0
  match code with
  | 0x02 => if unitResets u then stOK else stRANGE
  | 0x03 => if u / 256 = 7 ∧ u % 256 < 12 then stOK else stRANGE
  | 0x04 => if u / 256 = 9 ∧ 1 ≤ u % 256 ∧ u % 256 ≤ 3 then stOK else stRANGE
  | 0x08 => if s.recastDiffers.isSome ∨ s.image (castBase s.highestCopy) 4 ≠ 2 ∨ s.get RING_SEAM.len < 20 then stRANGE else stOK
  | 0x09 => (s.installCheck m).1
  | 0x0A => (s.ingotCheck m).1
  | 0x0B => s.missingCheck m
  | 0x10 => s.provisionCheck m
  | 0x11 => s.hallmarkCheck m
  | _ => stOK

/-- A command is turned away; a RANGE shows its result words (R355, R363), and a RECAST against which only the format or the seam
stands shows a free one. -/
def State.turnAway (s : State) (m st code tag : Nat) : State :=
  if st = stRANGE ∧ code = mcCASTING_INSTALL then s.mbxShow m st code tag (s.installCheck m).2
  else if st = stRANGE ∧ code = mcRECAST then
    match s.recastDiffers with
    | some t => s.mbxShow m st code tag [t]
    | none => (s.mbxShow m st code tag [Config.freeWord s.draws]).draw
  else s.mbxShow m st code tag []

/-- The members of the map. -/
def State.presentNodes (s : State) : Nat := ((List.range 64).filter (fun n => s.flag (RING_MAP.present n))).length

/-- The state of the node as its table column. -/
def legalIn (code state : Nat) : Bool :=
  let within := fun (l : List Nat) => l.contains state
  match code with
  | 0x01 => true
  | 0x02 | 0x03 | 0x04 => state != nsBOOT && state != nsTAMPERED
  | 0x05 => state != nsTAMPERED
  | 0x06 => within [nsSERVICE]
  | 0x07 => within [nsSERVICE, nsRECAST]
  | 0x08 => within [nsSERVICE]
  | 0x09 => within [nsSERVICE, nsHALTED]
  | 0x0A | 0x0B => within [nsSERVICE, nsRECAST, nsHALTED]
  | 0x0C | 0x0D => within [nsSERVICE]
  | 0x10 => within [nsSERVICE, nsTAMPERED]
  | 0x11 => state != nsBOOT && state != nsJOINING
  | _ => state != nsBOOT && state != nsTAMPERED

/-- What else a cell of the table asks: the domain's size, a reserved standby pair, provisioning in TAMPERED that installs the
operational keys again (R402), and a boot ROM that serves the mailboxes (R361). -/
def State.cellAsks (s : State) (m code : Nat) : Bool :=
  (code != mcACTIVATE_PAUSE || decide (s.presentNodes ≤ 16)) &&
  (code != mcACTIVATE_HITLESS || s.standbyPair.isSome) &&
  (code != mcKEY_PROVISION || s.nodeState != nsTAMPERED || s.arg m 0 % 16 == 1 ||
    (s.arg m 0 % 16 == 2 && s.provPurpose m == 3 && (m == 1 || (m == 2 && s.cru.bench)))) &&
  (!s.flag CST_BOOT.no_fw || [mcSTATUS, mcNODE_RESET, mcINGOT, mcMISSING, mcCASTING_INSTALL].contains code)

/-- The command is legal in the present state (R284). -/
def State.legal (s : State) (m code : Nat) : Bool :=
  legalIn code s.nodeState && (s.nodeState != nsBOOT || m == 2) && s.cellAsks m code

/-- Dregrim is away: a pause-form pause or a manager restart (R284, R370, R384). -/
def State.pausing (s : State) : Bool := s.flag NODE_STATE.pause || s.cst.restart

/-- A command finds what it needs in use: a pause, the role's move (R385), a cluster that is being recast, another
provisioning. -/
def State.busyNow (s : State) (m code : Nat) : Bool :=
  (s.pausing && code != mcSTATUS && code != mcNODE_RESET) || s.roleMoving ||
  (s.nodeState == nsRECAST && decide (mcUNIT_RESET ≤ code) && decide (code ≤ mcDIE_RESET) &&
    (resetTouches code (s.arg m 0)).any (fun k => bit (s.get CST_RECAST.pending) k || s.cst.recasts.contains k)) ||
  (code == mcKEY_PROVISION && (List.range 3).any (fun i => i != m && s.mbxRuns i mcKEY_PROVISION))

/-- The status with which a write of NODE_CMD is turned away; OK: it is accepted (R13, R284). Whether the ephemeral of an INSTALL has
expired is judged here (R400). -/
def State.judge (s : State) (m code : Nat) : Nat :=
  let c := s.argCheck m code
  let early := c == stILLEGAL || c == stAUTH || c == stRANGE
  if !listed code then stILLEGAL
  else if c = stILLEGAL then stILLEGAL
  else if s.pausing && s.busyNow m code then (if early then c else stBUSY)
  else if !s.legal m code then (if early then c else stSTATE)
  else if s.busyNow m code then (if early || c == stSTATE then c else stBUSY)
  else if code = mcKEY_PROVISION ∧ s.arg m 0 % 16 = 2 ∧ c = stSTATE then c
  else stOK

/-- NODE_CMD: a write of NODE_CMD[m] (R282, R284, R285). -/
def execNodeCmd (m : Fin 3) (o : Origin) (w : Nat) (s : State) : Out :=
  let code := bits w 0 8
  let tag := bits w 8 8
  if !s.mailboxOf o m then fin (s.done o stAUTH)
  else if s.flag (NODE_CMDSTAT.busy m) then fin ((s.bump (NODE_MBXCNT.overrun m)).done o stOK)
  else
    let st := s.judge m code
    if st ≠ stOK then fin ((s.turnAway m st code tag).done o stOK)
    else
      let s := { s with mbx := SMap.set s.mbx m { code := code, tag := tag } {} }
      fin ((s.raise (NODE_CMDSTAT.busy m)).done o stOK)

/-! ### The commands -/

/-- STATUS (R283): NODE_STATE and the map epoch. -/
def execStatus (m : Fin 3) (s : State) : Out :=
  fin (if s.mbxRuns m mcSTATUS then
    s.mbxEnd m stOK [s.nodeState + 8 * s.get NODE_STATE.pause, s.get RING_MAPEPOCH.epoch] else s)

/-- A lane's unit reset: its training (R23). -/
def State.laneReset (s : State) (p l : Nat) : State :=
  let s := s.puts [(RING_LANE.block_lock p l, 0), (RING_LANE.aligned p l, 0)]
  if s.get (RING_LANEMAP.spare p) = l then s.zero (RING_LSTAT.spare_ready p) else s

/-- The unit reset of a unit ID that UNIT_RESET accepts (R23, R459). -/
def State.unitReset (s : State) (u : Nat) : State :=
  let i := u % 256
  match u / 256 with
  | 1 => s.peUnitReset (i / 9) (i % 9)
  | 2 => s.withEdges (i / 2) s.t125 (fun s => s.canReset (i / 2) (i % 2))
  | 3 => s.chanReset i
  | _ => s.laneReset (i / 5) (i % 5)

/-- UNIT_RESET (R23, R459). -/
def execUnitReset (m : Fin 3) (s : State) : Out :=
  if !s.mbxRuns m mcUNIT_RESET then fin s
  else if !unitResets (s.arg m 0) then fin (s.mbxEnd m stRANGE)
  else fin ((s.unitReset (s.arg m 0)).mbxEnd m stOK)

/-- CLUSTER_RESET (R23). -/
def execClusterReset (m : Fin 3) (s : State) : Out :=
  if !s.mbxRuns m mcCLUSTER_RESET then fin s
  else if s.argCheck m mcCLUSTER_RESET ≠ stOK then fin (s.mbxEnd m stRANGE)
  else fin ((s.clusterReset (s.arg m 0 % 256)).mbxEnd m stOK)

/-- Die reset of W: its logic; the FETs and what protects them stay (R23). The thresholds that die S reloads are the ones that the
casting, the settings and later writes gave it, which the registers hold (log 230). While the S–W link is lost W obeys no
command (R21). -/
def State.resetW (s : State) : State :=
  if s.lev.wLost then s
  else (List.range 16).foldl (fun s n => s.puts [(FEED_CTL.last_status n, 0), (FEED_CNT.trips n, 0)])
    (s.puts [(PWR_REFUSED.count, 0), (PWR_CARDCNT.trips, 0), (PWR_CARDCNT.vin_out, 0)])

/-- DIE_RESET (R23): P0, P1 or W; a port die starts again through the bellows (R439). -/
def execDieReset (m : Fin 3) (s : State) : Out :=
  if !s.mbxRuns m mcDIE_RESET then fin s
  else if s.argCheck m mcDIE_RESET ≠ stOK then fin (s.mbxEnd m stRANGE)
  else
    let d := s.arg m 0 % 256
    fin ((if d = 3 then s.resetW else (s.dieReset (d - 1)).want bkDIE [d]).mbxEnd m stOK)

/-- NODE_RESET (R25, R285): its result is lost with the reset. -/
def execNodeReset (m : Fin 3) (s : State) : Out := fin (if s.mbxRuns m mcNODE_RESET then s.nodeReset else s)

/-- NODE_HALT (R36): pads park, engines halt. -/
def execNodeHalt (m : Fin 3) (s : State) : Out :=
  fin (if s.mbxRuns m mcHALT then (s.parkNode nsHALTED).mbxEnd m stOK else s)

/-- HOLD_CLEAR (R29, R463). -/
def execHoldClear (m : Fin 3) (s : State) : Out :=
  fin (if s.mbxRuns m mcHOLD_CLEAR then ((s.zero FLT_STATUS.node_hold).releaseOutputs).mbxEnd m stOK else s)

/-- QUENCH (R477): ARG0 [0] broadcast, [1] timed; the instant in ARG1 and ARG2. -/
def execQuench (m : Fin 3) (s : State) : Out :=
  if !s.mbxRuns m mcQUENCH then fin s
  else
    let timed := bit (s.arg m 0) 1
    let i := s.arg m 1 + 2 ^ 32 * (s.arg m 2 % 65536)
    let held := s.flag QCH_STATUS.held
    let t := if timed then s.armMatch i false true else s.latch (2 ^ qsSOFT) 0 s.nextEdge
    let t := if bit (s.arg m 0) 0 then t.quenchBroadcast (if timed then i else 0) else t
    fin (t.mbxEnd m stOK [b2n (held && !timed)])

end Sys2Proof.Machine
end

