-- ==== Sys2Proof/Machine/Ether.lean ====
section
/-! DEFINITION. Machine/Ether.lean: the distributed Ethernet bridge (R258 to R261). -/

namespace Sys2Proof.Machine

/-- The class of a bridged frame (R261). -/
def State.ethClass (s : State) (bs : List Nat) : Nat :=
  if ethType bs = 0x88F7 then 6
  else match ethTci bs with
    | none => s.get ETH_BRCFG.def_class
    | some t => match t / 8192 with
      | 0 => s.get ETH_BRPCP.class0
      | 1 => s.get ETH_BRPCP.class1
      | 2 => s.get ETH_BRPCP.class2
      | 3 => s.get ETH_BRPCP.class3
      | 4 => s.get ETH_BRPCP.class4
      | 5 => s.get ETH_BRPCP.class5
      | 6 => s.get ETH_BRPCP.class6
      | _ => s.get ETH_BRPCP.class7

/-- Where a destination address lies (R259). -/
def State.lookupMac (s : State) (bs : List Nat) : Option MacEntry :=
  if ethDst bs / 2 ^ 40 % 2 = 1 then none
  else s.ring.macs.find? (fun e => e.vlan == ethVlan bs && e.mac == ethDst bs)

/-- Nodes that a flooded copy reaches East and West (R260). -/
def State.floodHops (s : State) : Nat × Nat :=
  let others := (List.range 64).filter (fun n => s.flag (RING_MAP.present n) && n != s.nodeId)
  if s.ring.wrapped || s.ringWrapped then
    ((others.filter (fun n => s.get (RING_MAP.hops_e n) != 0x3F)).length,
     (others.filter (fun n => s.get (RING_MAP.hops_w n) != 0x3F)).length)
  else ((others.length + 1) / 2, others.length / 2)

/-- Flood: one frame with a copy each way round the ring and one to the other member port (R159, R260). -/
def State.flood (s : State) (e : Nat) (f : Frame) : State :=
  let h := s.floodHops
  let copy := fun n => { f with a := f.a + 2, hops := n }
  let outs := (if 0 < h.1 then [(0, 0, 0, copy h.1)] else []) ++ (if 0 < h.2 then [(1, 0, 0, copy h.2)] else []) ++
    (if s.member (1 - e) then [(4 - e, 0, 0, f)] else [])
  (s.ingressPlan (3 + e) { frame := f, route := .addr } (some { cls := f.cls, outs := outs }) []).getD s

/-- Port e is cast off (R258). -/
def State.ethOff (s : State) (e : Nat) : Bool := (if e = 0 then s.get ETH_BRCFG.mode0 else s.get ETH_BRCFG.mode1) == 0

/-- ETH_RECEIVE on port e (R258 to R261, R316). -/
def execEthReceive (e : Fin 2) (bs : List Nat) (s : State) : Out :=
  let d := ethDst bs
  let t := if s.member e then s.learn bs s.nodeId e else s
  match if s.ethOff e then none else t.ptpEnds e bs with
  | some t => fin t
  | none =>
  if !s.member e || decide (0x0180C2000000 ≤ d ∧ d ≤ 0x0180C200000F) then fin t
  else
    let s := t
    let f : Frame := {
      ftype := 8, cls := s.ethClass bs, dst := s.nodeId, src := s.nodeId, a := 256 * (3 + e.val)
      ext := some (extOf (s.ethRx e) false), payload := bs }
    match s.lookupMac bs with
    | none => fin (s.flood e f)
    | some m =>
      if m.node ≠ s.nodeId then
        fin (s.ingressNow (3 + e) { frame := { f with dst := m.node, a := f.a + m.port % 2 }, route := .port (s.ringDir m.node) 0 f.cls })
      else if m.port = e.val ∨ s.member m.port = false then fin s
      else fin (s.ingressNow (3 + e) { frame := { f with a := f.a + m.port % 2 }, route := .port (3 + m.port) 0 f.cls })

/-- ETH_RING_RECEIVE of an ETH frame from ring port p (R259, R260). -/
def execEthRingReceive (p : Fin 2) (f : Frame) (s : State) : Out :=
  if f.ftype ≠ 8 then fin s
  else fin (s.ingressNow p { frame := f, route := .addr })

/-- MAC_AGEING (R259): entries older than the ageing time go. -/
def execMacAgeing (s : State) : Out :=
  let age := 1000000000 * max 10 (s.get ETH_BRAGE.ageing)
  let s := { s with ring := { s.ring with macs := s.ring.macs.filter (fun e => decide (s.now < e.seen + age)) } }
  next (s.put ETH_BRLEARN.entries s.ring.macs.length)

/-- ETH_LINK_UP of port e in a link mode of R294 (R157, R330); the output of a port that is cast off stays down (R258). -/
def execEthLinkUp (e : Fin 2) (mode : Fin 5) (s : State) : Out :=
  let rate := [10000, 1000, 1000, 100, 10].getD mode 10
  next (({ s with gates := { s.gates with
    ethRate := setNth s.gates.ethRate e rate, ethMode := setNth s.gates.ethMode e mode.val } }).put (SW_OSTAT.up (3 + e))
      (b2n !s.ethOff e))

end Sys2Proof.Machine
end

