-- ==== Sys2Proof/Machine/Time.lean ====
section
/-! DEFINITION. Machine/Time.lean: domain time: link delay, SYNC, the servos, the two scales and PTP (R289 to R318, R322).
Offsets are in 2⁻¹⁶ ns. -/

namespace Sys2Proof.Machine

/-! ### Link delay (R295 to R297) -/

/-- The node ID of the peer of ring port p (R218). -/
def State.peerOf (s : State) (p : Nat) : Nat := bits (s.capPeer p) 24 6

/-- A TIME frame of a subtype for port p; its stamp is written as it leaves (R298). -/
def State.timeFrame (s : State) (p subtype seq dst hops : Nat) (payload : List Nat) : Frame :=
  { ftype := 0xB, cls := 6, dst := dst, src := s.nodeId, hops := hops, a := subtype
    b := leBytes 2 seq ++ [p, 0, 0, 0, 0, 0], ext := some (extOf s.ringTx false), payload := payload }

/-- PDELAY_REQ_SEND (R295): a port in UP, at the cast interval; in fast idle it sends none. -/
def execPdelayReqSend (p : Fin 2) (s : State) : Out :=
  let x := s.delay p
  let gap := 1000000 * max 1 (s.get TIM_LDCFG.interval)
  let due := match x.sentAt with
    | some t => decide (t + gap ≤ s.now)
    | none => true
  if s.linkState p ≠ lsUP ∨ s.flag (RING_LSTAT.fidle_tx p) = true ∨ due = false then next s
  else
    let n := (x.seq + 1) % 65536
    next ((s.setDelay p { x with seq := n, request := none, sentAt := some s.now }).toRingPort p
      (s.timeFrame p 1 n (s.peerOf p) 1 []))

/-- A lane switch of port p is under way (R221, R222, R297). -/
def State.laneChange (s : State) (p : Nat) : Bool := (s.link p).mirror.isSome

/-- PDELAY_RESP (R295, R298): the answer to a request received now; responses have their own numbers, whatever the request's. A request
that comes during a lane switch is of an exchange that is discarded, and gets none (R297). -/
def execPdelayResp (p : Fin 2) (_seq deskew : Nat) (s : State) : Out :=
  let t2 := stamp56 (s.ringRx p deskew)
  let x := s.delay p
  let n := (x.respSeq + 1) % 65536
  next (if s.linkUp p && !s.laneChange p then
    (s.setDelay p { x with respSeq := n }).toRingPort p
      (s.timeFrame p 2 n (s.peerOf p) 1 (leBytes 6 (t2 / 256) ++ [t2 % 256, 0])) else s)

/-- The mean and the receive delay of port p are brought up to date (R296, R300). -/
def State.putDelay (s : State) (p : Nat) (x : LinkDelay) : State :=
  let rx := x.mean + sext 16 (s.get (TIM_ASYM.asym p)) * 256
  let s := s.setDelay p x
  let s := { s with tim := { s.tim with transitDelay := setNth s.tim.transitDelay p rx } }
  s.put (TIM_LINKDLY.mean p) (wrap 24 (x.mean / 256))

/-- Fewer than 4 samples are in: the port takes no SYNC measurement (R297). -/
def State.restarting (s : State) (p : Nat) : Bool := decide ((s.delay p).samples < 4)

/-- A sample of the link delay (R296). -/
def State.delaySample (s : State) (p : Nat) (d : Int) : State :=
  let x := s.delay p
  if x.samples < 4 then
    let n := x.samples + 1
    (s.putDelay p { x with samples := n, sum := x.sum + d, mean := (x.sum + d) / n, rejected := 0, request := none }).bump
      (TIM_LDCNT.samples p)
  else if (d - x.mean).natAbs ≤ 262144 then
    (s.putDelay p { x with mean := x.mean + (d - x.mean) / 16, rejected := 0, request := none }).bump (TIM_LDCNT.samples p)
  else
    let s := s.bump (TIM_LDCNT.rejected p)
    if 16 ≤ x.rejected + 1 then s.restartDelay p
    else s.setDelay p { x with rejected := x.rejected + 1, request := none }

/-- PDELAY_SAMPLE (R295, R296): the response to the request under way is received now; t2 and t3 are in 1/256 ns. Its number names no
request (R298; log 295). An exchange with a stamp inside a lane switch is discarded (R297). -/
def execPdelaySample (p : Fin 2) (_seq t2 t3 deskew : Nat) (s : State) : Out :=
  match (s.delay p).request with
  | none => next s
  | some (_, t1) =>
    if s.laneChange p then next (s.setDelay p { s.delay p with request := none })
    else
      let t4 := stamp56 (s.ringRx p deskew)
      next (s.delaySample p ((windowDiff 56 t4 t1 - windowDiff 56 t3 t2) * 128))

/-! ### Servos (R303 to R305) -/

/-- The states of the servo. -/
abbrev tsFREE : Nat := 0
abbrev tsACQUIRE : Nat := 1
abbrev tsLOCKED : Nat := 2
abbrev tsHOLDOVER : Nat := 3

/-- A step of node time is allowed (R304). -/
def State.stepAllowed (s : State) : Bool :=
  if s.isHead then !s.tim.wasActive else s.nodeState == nsBOOT || s.nodeState == nsJOINING

/-- This head steers node time to its own source (R303, R305, R313): it is active, or it knows of no active head. -/
def State.ownSource (s : State) : Bool := s.isHead && (s.activeHead || s.mapHead.isNone)

/-- The steering after a measurement: a frequency and a phase part against the offset, of which R305 gives the limits. -/
def State.steerBy (s : State) (ofs : Int) : State :=
  let lim : Nat := max 1 (s.get TIM_SERVO.max_slew) * 65536 / 1000000
  let ph : Int := (Config.servoPhase s.draws % (lim + 1) : Nat)
  let ph := if 0 < ofs then -ph else if ofs < 0 then ph else 0
  { s.draw with tim := { s.tim with steer := clampRate (Config.servoFreq s.draws), phase := ph } }

/-- Enter a servo state; in HOLDOVER node time keeps the frequency alone (R303). -/
def State.servoTo (s : State) (st : Nat) : State :=
  let s := s.put TIM_STATUS.state st
  { s with tim := { s.tim with inLock := 0, phase := if st = tsHOLDOVER then 0 else s.tim.phase } }

/-- A step of node time by an offset: what was measured against it before no longer holds (R303). -/
def State.stepTime (s : State) (ofs : Int) : State :=
  { s with time := (s.time - ofs).toNat, tim := { s.tim with
    inLock := 0, dirOfs := [none, none], pri := { s.tim.pri with ofs := s.tim.pri.ofs - ofs }
    sec := { s.tim.sec with ofs := s.tim.sec.ofs - ofs } } }

/-- One valid measurement of the offset (R303). -/
def State.measure (s : State) (ofs : Int) : State :=
  let s := { s with tim := { s.tim with measured := s.now } }
  let s := s.put TIM_OFFSET.ofs (wrap 32 (ofs / 256))
  let mag := ofs.natAbs
  match s.get TIM_STATUS.state with
  | 0 => (s.steerBy ofs).servoTo tsACQUIRE
  | 3 => (s.steerBy ofs).servoTo tsACQUIRE
  | 1 =>
    if 65536 * max 1 (s.get TIM_SERVO.step_thr) < mag ∧ s.stepAllowed = true then
      s.stepTime ofs
    else
      let n := if mag ≤ 65536 * max 1 (s.get TIM_SERVO.lock_thr) then s.tim.inLock + 1 else 0
      let s := { s.steerBy ofs with tim := { (s.steerBy ofs).tim with inLock := n } }
      if 16 ≤ n then s.servoTo tsLOCKED else s
  | _ =>
    let s := s.steerBy ofs
    if 65536 * s.get TIM_ALARM.alarm < mag then
      s.report { src := 0x51, master := 0, addr := s.domainAddr TIM_OFFSET.addr }
    else s

/-- The lock threshold in 2⁻¹⁶ ns (R305). -/
def State.lockThr (s : State) : Nat := 65536 * max 1 (s.get TIM_SERVO.lock_thr)

/-- The time that a source may be silent, in ns (R305). -/
def State.sourceLoss (s : State) : Nat := 100000000 * max 1 (s.get TIM_LOSSTO.src)

/-- A measurement of a source that does not steer node time: its servo is LOCKED after 16 in a row within the lock threshold of the one
before (R303, R307, R310, R313). -/
def SrcServo.take (x : SrcServo) (ofs : Int) (thr now : Nat) : SrcServo :=
  let n := if (ofs - x.ofs).natAbs ≤ thr then x.inLock + 1 else 0
  let y := { x with ofs := ofs, measured := now }
  if x.state = tsLOCKED then y
  else if x.state ≠ tsACQUIRE then { y with state := tsACQUIRE, inLock := 0 }
  else if 16 ≤ n then { y with state := tsLOCKED, inLock := 0, since := some now }
  else { y with inLock := n }

/-- A source that has given no measurement within its loss timeout goes to HOLDOVER (R303). -/
def SrcServo.lapse (x : SrcServo) (loss now : Nat) : SrcServo :=
  if (x.state = tsACQUIRE ∨ x.state = tsLOCKED) ∧ x.measured + loss ≤ now then
    { x with state := tsHOLDOVER, inLock := 0, since := none }
  else x

/-- What a blend still has to move node time by (R309). -/
def State.toBlend (s : State) : Int := s.tim.blendLeft + s.tim.slew

/-- A measurement of the source that node time follows: what a blend still slews out is none of the servo's (R303, R309). -/
def State.follow (s : State) (ofs : Int) : State := (s.measure (ofs + s.toBlend)).put TIM_OFFSET.ofs (wrap 32 (ofs / 256))

/-- The primary source of a head gives a measurement: it steers node time, or, on a standby and while the secondary is in use, its servo
only follows it (R306, R310, R313). -/
def State.primary (s : State) (ofs : Int) : State :=
  let s :=
    if s.ownSource && !s.flag TIM_STATUS.sec_in_use then
      let t := s.follow ofs
      let st := t.get TIM_STATUS.state
      { t with tim := { t.tim with pri := { t.tim.pri with
        state := st, inLock := t.tim.inLock, measured := s.now, ofs := (t.time : Int) - s.time + ofs + s.tim.slew
        since := if st = tsLOCKED then some (t.tim.pri.since.getD s.now) else none } } }
    else { s with tim := { s.tim with pri := s.tim.pri.take (ofs + s.tim.slew) s.lockThr s.now } }
  s.put TIM_STATUS.pri_ok (b2n (s.tim.pri.state == tsLOCKED))

/-- The second grandmaster gives a measurement: it steers node time while it is in use (R307, R309). -/
def State.secondGm (s : State) (ofs : Int) : State :=
  let s := { s with tim := { s.tim with sec := s.tim.sec.take (ofs + s.tim.slew) s.lockThr s.now } }
  if s.ownSource && s.flag TIM_STATUS.sec_in_use then s.follow ofs else s

/-- The secondary offset held (R308). -/
def State.secOffset (s : State) : Int := sext 64 (s.get TIM_SECOFS_LO.ofs + 2 ^ 32 * s.get TIM_SECOFS_HI.ofs)
def State.putSecOffset (s : State) (i : Int) : State :=
  s.puts [(TIM_SECOFS_LO.ofs, wrap 64 i), (TIM_SECOFS_HI.ofs, wrap 64 i / 2 ^ 32)]

/-- The head measures the secondary (R307, R308). Holdover is realigned to a primary source that is healthy. -/
def State.secondary (s : State) : State :=
  match s.get TIM_SRC.sec_src with
  | 0 =>
    let ok := match s.tim.pri.since with
      | some t => decide (t + 60000000000 ≤ s.now)
      | none => s.flag TIM_STATUS.sec_valid && !s.flag TIM_STATUS.pri_ok
    let s := s.put TIM_STATUS.sec_valid (b2n ok)
    if s.flag TIM_STATUS.pri_ok then s.putSecOffset 0 else s
  | _ => (s.put TIM_STATUS.sec_valid (b2n (s.tim.sec.state == tsLOCKED))).putSecOffset (s.tim.slew - s.tim.sec.ofs)

/-! ### SYNC (R299 to R302) -/

/-- The payload of a SYNC (R299). -/
def State.syncPayload (s : State) : List Nat :=
  timeBytes s.ringTx ++ [0, 0] ++ leBytes 8 0 ++ leBytes 8 (wrap 64 s.secOffset) ++
    [s.get TIM_STATUS.sec_valid + 2 * s.get TIM_STATUS.sec_in_use + 4 * s.get TIM_STATUS.blending +
      8 * s.get TIM_STATUS.pri_ok, 0] ++ leBytes 2 (s.get TIM_UTC.utc_offset) ++ [s.get TIM_UTC.flags, 0, 0, 0]

/-- SYNC_SEND (R242, R299, R308): the active head, every TIM_SYNCINT. -/
def execSyncSend (p : Fin 2) (s : State) : Out :=
  let due := match s.tim.syncAt.getD p none with
    | some t => decide (t + 1000 * s.get TIM_SYNCINT.us ≤ s.now)
    | none => true
  if !s.activeHead || !due then next s
  else
    let s := s.secondary
    let n := (nth s.tim.syncSeq p + 1) % 65536
    let s := { s with tim := { s.tim with
      syncSeq := setNth s.tim.syncSeq p n, syncAt := setNth s.tim.syncAt p (some s.now) } }
    next (s.sendOn p (s.timeFrame p 0 n s.nodeId 127 s.syncPayload))

/-- The time that 14 bytes hold, in 2⁻¹⁶ ns (R289). -/
def parseTime (bs : List Nat) : Nat :=
  ofBytes (bs.take 2) + 65536 * (ofBytes ((bs.drop 2).take 4) + 1000000000 * ofBytes ((bs.drop 6).take 8))

/-- The node steers by the copy from port p (R301): by that from East where it has no map. -/
def State.steersBy (s : State) (p : Nat) : Bool :=
  let d := (s.mapHead.map s.ringDir).getD 0
  if s.restarting d then p != d else p == d

/-- Two copies are of one SYNC interval: their origin times are less than half of TIM_SYNCINT apart (R302). -/
def State.sameInterval (s : State) (a b : Nat) : Bool := decide (2 * ((a : Int) - b).natAbs < 65536000 * s.get TIM_SYNCINT.us)

/-- The difference between the directions, and its alarm after 16 intervals above 10 ns (R302). -/
def State.compareDirs (s : State) (e w : Int) : State :=
  let d := e - w
  let n := if 655360 < d.natAbs then s.tim.apart + 1 else 0
  let s := s.put TIM_DIRDIFF.diff (wrap 32 (d / 256))
  let s := { s with tim := { s.tim with apart := if n = 16 then 0 else n, dirOfs := [none, none] } }
  if n = 16 then s.report { src := 0x52, master := 0, addr := s.domainAddr TIM_DIRDIFF.addr } else s

/-- The offset of a copy from port p is compared with that of the other direction of its SYNC interval, or waits for it; an interval with
one copy alone ends a run (R302). -/
def State.noteDir (s : State) (p : Nat) (ofs : Int) (origin : Nat) : State :=
  match (s.tim.dirOfs.getD (1 - p) none).filter (fun x => s.sameInterval x.2 origin) with
  | some x => if p = 1 then s.compareDirs x.1 ofs else s.compareDirs ofs x.1
  | none =>
    let alone := s.tim.dirOfs.any (·.isSome)
    { s with tim := { s.tim with
      dirOfs := setNth [none, none] p (some (ofs, origin)), apart := if alone then 0 else s.tim.apart } }

/-- A node's copy of a SYNC received on port p (R301, R302, R308). -/
def State.takeSync (s : State) (p : Nat) (f : Frame) (deskew : Nat) : State :=
  let bs := f.payload
  let g := nth bs
  let s := s.putSecOffset (sext 64 (ofBytes ((bs.drop 24).take 8)))
  let s := s.puts [(TIM_STATUS.sec_valid, g 32), (TIM_STATUS.sec_in_use, g 32 / 2), (TIM_STATUS.blending, g 32 / 4),
    (TIM_UTC.utc_offset, ofBytes ((bs.drop 34).take 2)), (TIM_UTC.flags, g 36)]
  if s.restarting p then s
  else
    let prim : Int := parseTime bs + sext 64 (ofBytes ((bs.drop 16).take 8)) + s.tim.transitDelay.getD p 0
    let ofs : Int := (s.ringRx p deskew : Int) - prim
    let s := s.noteDir p ofs (parseTime bs)
    if s.steersBy p then (s.put TIM_STATUS.sync_dir p).measure ofs else s

/-- SYNC_RECEIVE on port p (R300, R301): the transit path forwards it with receive delay and measured residence added, and
this node takes its copy; the head removes its own. -/
def execSyncReceive (p : Fin 2) (f : Frame) (deskew residence : Nat) (s : State) : Out :=
  if f.ftype ≠ 0xB ∨ f.a % 256 ≠ 0 ∨ f.src = s.nodeId then fin s
  else
    let t := s.transitHop p { frame := f, w0 := 0, rx := some (s.ringRx p deskew, residence) }
    fin (if s.lev.inReset || s.activeHead then t else t.takeSync p f deskew)

/-- The loss timeout in ns (R305). -/
def State.lossTime (s : State) : Nat :=
  if s.ownSource then s.sourceLoss else 1000 * s.get TIM_SYNCINT.us * max 1 (s.get TIM_LOSSTO.node)

/-- The loss timeouts of a head's own sources, whether or not node time follows them (R307, R310, R313). -/
def State.loseSources (s : State) : State :=
  if !s.isHead then s
  else
    let s := { s with tim := { s.tim with
      pri := s.tim.pri.lapse s.sourceLoss s.now, sec := s.tim.sec.lapse s.sourceLoss s.now } }
    let s := s.put TIM_STATUS.pri_ok (b2n (s.tim.pri.state == tsLOCKED))
    if s.ownSource && s.get TIM_SRC.sec_src != 0 then s.put TIM_STATUS.sec_valid (b2n (s.tim.sec.state == tsLOCKED)) else s

/-- A switch of the time scale waits for the next cycle start (R309 to R311). -/
def State.turnTo (s : State) (sec : Bool) : State := { s with tim := { s.tim with want := some sec, measured := s.now } }

/-- The blend stops where it stands, and the servo enters HOLDOVER (R303, R311). -/
def State.holdOver (s : State) : State :=
  (({ s with tim := { s.tim with slew := 0, blendLeft := 0 } }).put TIM_STATUS.blending 0).servoTo tsHOLDOVER

/-- The source that an active head's node time follows is silent (R309, R311): a lost primary gives way to a valid secondary; a lost
secondary, while the blend to it lasts, to a primary that is LOCKED. Holdover as the secondary is no source that fails. -/
def State.sourceLost (s : State) : State :=
  if s.flag TIM_STATUS.sec_in_use then
    if s.get TIM_SRC.sec_src = 0 then s
    else if s.flag TIM_STATUS.blending && s.flag TIM_STATUS.pri_ok then s.turnTo false
    else s.holdOver
  else if s.flag TIM_STATUS.sec_valid then s.turnTo true
  else s.holdOver

/-- TIME_LOSS_TIMEOUT (R303, R309, R311). -/
def execTimeLossTimeout (s : State) : Out :=
  let s := s.loseSources
  let st := s.get TIM_STATUS.state
  if (st ≠ tsACQUIRE ∧ st ≠ tsLOCKED) ∨ s.now < s.tim.measured + s.lossTime then next s
  else next (if s.activeHead then s.sourceLost else s.holdOver)

/-! ### The two scales (R306 to R311) -/

def State.timRefuse (s : State) (o : Origin) : State := (s.put TIM_STATUS.last_status stSTATE).refuse o TIM_REFUSED.count
def State.timOk (s : State) (o : Origin) : State := (s.put TIM_STATUS.last_status stOK).done o stOK

/-- A write of TIM_CTL (R296, R309, R310, R322). -/
def State.timCtl (s : State) (o : Origin) (w : Nat) : State :=
  if s.foreignCore o then s.done o stAUTH
  else if (bit w 0 && !(s.activeHead && s.flag TIM_STATUS.sec_valid)) || (bit w 1 && !(s.activeHead && s.flag TIM_STATUS.pri_ok)) then
    s.timRefuse o
  else
    let s := if bit w 0 then { s with tim := { s.tim with want := some true } } else s
    let s := if bit w 1 then { s with tim := { s.tim with want := some false } } else s
    let s := if bit w 2 then (s.restartDelay 0).restartDelay 1 else s
    s.timOk o

/-- USE_SEC (R309). -/
def execUseSec (o : Origin) (w : Nat) (s : State) : Out := fin (s.timCtl o (withBit w 0))

/-- USE_PRI (R310). -/
def execUsePri (o : Origin) (w : Nat) (s : State) : Out := fin (s.timCtl o (withBit w 1))

/-- LD_RESTART (R296). -/
def execLdRestart (o : Origin) (w : Nat) (s : State) : Out := fin (s.timCtl o (withBit w 2))

/-- At most min(blend ÷ 256 ns, max_slew × P) in one cycle, in 2⁻¹⁶ ns (R309). -/
def State.blendLimit (s : State) : Nat :=
  min (256 * min 256 (max 1 (s.get TIM_SCALECFG.blend)))
    (max 1 (s.get TIM_SERVO.max_slew) * s.period * 65536 / 1000000)

/-- A switch that waits starts at a cycle start: node time follows the other scale from there (R309 to R311). -/
def State.startBlend (s : State) : State :=
  match s.tim.want with
  | none => s
  | some sec =>
    let left := if sec then s.secOffset else -s.tim.pri.ofs
    ({ s with tim := { s.tim with want := none, blendLeft := left, measured := s.now } }).puts
      [(TIM_STATUS.sec_in_use, b2n sec), (TIM_STATUS.blending, b2n (left != 0))]

/-- Slew out one cycle's part; the secondary offset shrinks with it (R309). -/
def State.blendPart (s : State) : State :=
  let left := s.tim.blendLeft
  let lim : Int := s.blendLimit
  let d := max (-lim) (min lim left)
  let s := { s with tim := { s.tim with
    slew := s.tim.slew + d, blendLeft := left - d,
    pri := { s.tim.pri with ofs := s.tim.pri.ofs + d }, sec := { s.tim.sec with ofs := s.tim.sec.ofs + d } } }
  (s.putSecOffset (s.secOffset - d)).put TIM_STATUS.blending (b2n (left - d != 0))

/-- BLEND_STEP (R309, R311): once per cycle, on the active head. -/
def execBlendStep (s : State) : Out :=
  if !s.activeHead || s.thisCycle.isNone || s.tim.blendAt == s.thisCycle then next s
  else
    let s := { s with tim := { s.tim with blendAt := s.thisCycle } }
    let s := s.startBlend
    next (if s.tim.blendLeft = 0 then s else s.blendPart)

/-- AUTO_REVERT (R310). -/
def execAutoRevert (s : State) : Out :=
  match s.tim.pri.since with
  | none => next s
  | some t =>
    if s.activeHead && s.flag TIM_SCALECFG.auto_revert && s.flag TIM_STATUS.sec_in_use &&
        decide (t + 1000000000 * max 1 (s.get TIM_SCALECFG.revert) ≤ s.now) then
      next { s with tim := { s.tim with want := some false } }
    else next s

/-- HOSTCAP (R306). -/
def execHostcap (o : Origin) (s : State) : Out :=
  next ((s.puts [(TIM_HOSTCAPT0.fraction, timeFrac s.time), (TIM_HOSTCAPT1.ns, timeNs s.time),
    (TIM_HOSTCAPT2.s_lo, timeSec s.time), (TIM_HOSTCAPT3.s_hi, timeSec s.time / 2 ^ 32)]).done o stOK)

/-- HOSTADJ_SUBMIT (R306): a write of TIM_HOSTADJ_HI; on a head whose primary source is the host it is a measurement. -/
def execHostadjSubmit (o : Origin) (w : Nat) (s : State) : Out :=
  let s := (s.put TIM_HOSTADJ_HI.ofs w).done o stOK
  let ofs := sext 64 (s.get TIM_HOSTADJ_LO.ofs + 2 ^ 32 * s.get TIM_HOSTADJ_HI.ofs)
  fin (if s.isHead && s.flag TIM_SRC.pri_src then s.primary ofs else s)

/-- TIM_NOW_READ of word w (R322): word 0 latches, word 3 releases. -/
def execTimNowRead (w : Fin 4) (o : Origin) (s : State) : Out :=
  let t := if w = 0 then s.time else s.tim.latched.getD s.time
  let s' := { s with tim := { s.tim with latched := if w = 0 then some t else if w = 3 then none else s.tim.latched } }
  let v := match w.val with
    | 0 => timeFrac t
    | 1 => timeNs t
    | 2 => timeSec t % 2 ^ 32
    | _ => timeSec t / 2 ^ 32 % 2 ^ 32
  next (s'.done o stOK 0 [v])

/-! ### PTP (R314 to R318) -/

/-- PTP_EGRESS of an ETH frame at port e (R315 to R317); `peer` is the peer link delay of its ingress port in 1/256 ns. -/
def execPtpEgress (e : Fin 2) (f : Frame) (peer : Nat) (s : State) : Out := next (s.ptpEgress e f peer)

/-- TWO_STEP_EXPIRE (R317). -/
def execTwoStepExpire (e : Fin 2) (s : State) : Out :=
  next (s.setTwoSteps e ((s.twoSteps e).filter (fun x => decide (s.now < x.at_ + 1000000000))))

/-- A PTP message that port e makes itself. -/
def State.ptpSend (s : State) (e kind : Nat) (contents : List Nat) : State :=
  s.emit (.deliver (3 + e) 0
    { ftype := 8, cls := 6, dst := s.nodeId, src := s.nodeId, payload := Config.ptpBytes kind contents })

/-- ETH_PDELAY at a P2P port (R316). -/
def execEthPdelay (e : Fin 2) (m : EthPdelayMsg) (s : State) : Out :=
  if !s.flag (TIM_ETHCFG.tc_mode e) then next s
  else match m with
    | .request =>
      let due := match s.tim.pdelayAt.getD e none with
        | some t => decide (t + 125000000 * s.get (TIM_ETHCFG.pdelay_int e) ≤ s.now)
        | none => true
      if due then
        next (({ s with tim := { s.tim with pdelayAt := setNth s.tim.pdelayAt e (some s.now) } }).ptpSend e 2 [])
      else next s
    | .respond bs => next ((s.ptpSend e 3 (leBytes 12 (s.ethRx e) ++ bs)).ptpSend e 10 (leBytes 12 (s.ethTx e) ++ bs))
    | .sample t1 t2 t3 t4 =>
      next (s.put (TIM_ETHLINK.peer e) (wrap 24 ((windowDiff 56 t4 t1 - windowDiff 56 t3 t2) / 2)))

/-! ### The ordinary clock of a head (R306, R307, R313, R318) -/

def State.ptpClock (s : State) (i : Nat) : PtpClock := s.tim.clocks.getD i {}
def State.setClock (s : State) (i : Nat) (x : PtpClock) : State :=
  { s with tim := { s.tim with clocks := setNth s.tim.clocks i x } }

/-- Data sets are compared item by item; the lower is the better (R318). -/
def lexLess : List Nat → List Nat → Bool
  | a :: as, b :: bs => decide (a < b) || (a == b && lexLess as bs)
  | [], _ :: _ => true
  | _, [] => false

/-- The clock of source i chooses its master from an Announce: the present master, one with a better data set, or any once the
present one has been silent for three announce intervals. Of the master of the source that node time follows it copies the UTC data
(R318). -/
def State.announced (s : State) (i source : Nat) (dataSet : List Nat) (utc flags interval : Nat) : State :=
  let x := s.ptpClock i
  let same := x.master == some source
  let better := match x.master with
    | none => true
    | some m => lexLess (dataSet ++ [source]) (x.dataSet ++ [m]) || decide (x.heard + x.silence ≤ s.now)
  if !(same || better) then s
  else
    let y := if same then x else { seq := x.seq }
    let s := s.setClock i { y with
      master := some source, dataSet := dataSet, heard := s.now, silence := 3000000 * interval }
    if s.ownSource && i == s.get TIM_STATUS.sec_in_use then
      s.puts [(TIM_UTC.utc_offset, utc), (TIM_UTC.flags, flags)]
    else s

/-- The clock of source i asks for its path delay from port e: a Delay_Req, or with profile 1 a Pdelay_Req (R318). -/
def State.askDelay (s : State) (i e : Nat) : State :=
  let x := s.ptpClock i
  let n := (x.seq + 1) % 65536
  (s.setClock i { x with seq := n, request := some (n, s.ethTx e), answer := none }).ptpSend e
    (if s.flag TIM_SRC.profile then 2 else 1) [i, n]

/-- A Sync of the master has its times: one measurement once the path delay is known; then the clock asks for it again (R318). -/
def State.synced (s : State) (i e : Nat) (forth : Int) : State :=
  let s := s.setClock i { s.ptpClock i with forth := some forth, sync := none }
  let s := match (s.ptpClock i).path with
    | none => s
    | some d => if i = 0 then s.primary (forth - d) else s.secondGm (forth - d)
  s.askDelay i e

/-- The mean path delay is known (R318). -/
def State.pathKnown (s : State) (i : Nat) (d : Int) : State :=
  s.setClock i { s.ptpClock i with path := some d, request := none, answer := none }

/-- A message of the master of source i, received on port e now (R318): profile 0 takes one-step and two-step masters and the delay
request-response mechanism, profile 1 two-step ones and peer delay. -/
def State.fromMaster (s : State) (i e : Nat) (m : PtpMsg) : State :=
  let x := s.ptpClock i
  let profile := s.flag TIM_SRC.profile
  let t := s.ethRx e
  match m with
  | .announce _ _ _ _ => s
  | .sync n twoStep origin c =>
    if twoStep then s.setClock i { x with sync := some (n, t, c) }
    else if profile then s
    else s.synced i e (t - origin - c)
  | .followUp n origin c =>
    match x.sync with
    | some (k, t2, c2) => if k = n then s.synced i e (t2 - origin - c2 - c) else s
    | none => s
  | .delayResp n received c =>
    match x.request, x.forth with
    | some (k, t3), some forth => if k = n ∧ profile = false then s.pathKnown i ((forth + (received - c - t3)) / 2) else s
    | _, _ => s
  | .pdelayResp n received c =>
    match x.request with
    | some (k, _) => if k = n ∧ profile = true then s.setClock i { x with answer := some (received - c, t) } else s
    | none => s
  | .pdelayRespFollowUp n sent c =>
    match x.request, x.answer with
    | some (k, t1), some (t2, t4) => if k = n ∧ profile = true then s.pathKnown i (((t4 : Int) - t1 - (sent - t2) - c) / 2) else s
    | _, _ => s

/-- The source whose clock takes PTP messages of a domain on port e (R306, R307): 0 the primary, 1 the secondary. -/
def State.clockOf (s : State) (i e domain : Nat) : Bool :=
  if i = 0 then e == 0 && !s.flag TIM_SRC.pri_src && domain == s.get TIM_SRC.ptp_dom0
  else s.get TIM_SRC.sec_src == e + 1 && domain == s.get TIM_SRC.ptp_dom1

/-- A message comes to the clock of source i: an Announce may change its master, any other counts from its master alone (R318). -/
def State.clockTakes (s : State) (i e source : Nat) (m : PtpMsg) : State :=
  match m with
  | .announce dataSet utc flags interval => s.announced i source dataSet utc flags interval
  | _ => if (s.ptpClock i).master = some source then s.fromMaster i e m else s

/-- PTP_ORDINARY_CLOCK (R306, R307, R313, R318): the slave-only clock of a head takes a message received on port e now, of a domain and
from a sourcePortIdentity. -/
def execPtpOrdinaryClock (e : Fin 2) (domain : Fin 256) (source : Nat) (m : PtpMsg) (s : State) : Out :=
  if !s.isHead then fin s
  else
    let t := if s.clockOf 0 e domain then s.clockTakes 0 e source m else s
    fin (if t.clockOf 1 e domain then t.clockTakes 1 e source m else t)

end Sys2Proof.Machine
end

