-- ==== Sys2Proof/Machine/Membership.lean ====
section
/-! DEFINITION. Machine/Membership.lean: joining the domain, the partition test, ORPHAN and the way back (R232, R247 to R250). -/

namespace Sys2Proof.Machine

/-- The members of a map other than node n. -/
def otherMembers (m : SMap (Nat × Nat)) (n : Nat) : Nat := (m.filter (fun e => e.1 != n && e.2.1 % 2 == 1)).length

/-- The reason for which the head refuses a node, 0 for an admission: the first condition of R232 that fails. -/
def State.joinReason (s : State) (n castId : Nat) (same standbyPair tampered : Bool) : Nat :=
  let m := s.newest.2
  let others := otherMembers m n
  if (SMap.getD m n (0, 0)).1 % 2 = 1 ∧ same = false then 1
  else if castId ≠ SMap.getD s.ring.castIds n 0 then 2
  else if 64 ≤ others then 3
  else if 16 < others + 1 ∧ standbyPair = false then 4
  else if tampered then 5
  else 0

/-- The map with node n admitted in a role; it is no failed-over head any more (R231, R232, R251). -/
def admitInto (e : MapEdit) (castId role : Nat) (m : SMap (Nat × Nat)) : SMap (Nat × Nat) :=
  let m := editMap m e
  let o := SMap.getD m e.node (0, 0)
  SMap.insert m e.node (o.1 / 256 * 256 + o.1 / 64 % 2 * 64 + 16 * (role % 4) + 2 * nsSERVICE + 1, castId)

/-- This node is admitted (R36, R232): pads are released, and the clusters start through the bellows (R439). -/
def State.admitted (s : State) : State :=
  let s := s.zero RING_STATUS.refusal
  let s := if s.flag FLT_STATUS.node_hold then s.holdOutputs else s.releaseOutputs
  let s := { s with slp := { s.slp with firsts := List.range 12 } }
  (s.setNodeState nsSERVICE).want bkCLUSTER (List.range 12)

/-- This node is refused: it enters HALTED and shows the reason (R36, R232). -/
def State.refused (s : State) (reason : Nat) : State := (s.put RING_STATUS.refusal reason).parkNode nsHALTED

/-- The running casting reserves a standby pair (R371). -/
def State.reservesStandby (s : State) : Bool := (List.range 10).any (fun p => s.get (WEAR_PAIRCFG.role p) == 2)

/-- The active head judges its own join. -/
def State.joinSelf (s : State) : State :=
  let n := s.nodeId
  let r := s.joinReason n (s.get CST_RUNID.id) true s.reservesStandby false
  if r = 0 then
    (s.mapChange (admitInto ⟨n, true, 0, 0, nsSERVICE⟩ (s.get CST_RUNID.id) 1)).admitted
  else s.refused r

/-- The node may ask to join: node time is LOCKED, and the last feed cast on has started (R304, R362). -/
def State.readyToJoin (s : State) : Bool := s.get TIM_STATUS.state == tsLOCKED && (s.wanted bkFEED).isEmpty

/-- JOIN_REQUEST (R36, R232, R304, R362); a request needs a link that is UP. -/
def execJoinRequest (m : JoinMsg) (s : State) : Out :=
  match m with
  | .ask =>
    if s.nodeState ≠ nsJOINING ∨ s.inSeam s.ns = false ∨ s.readyToJoin = false then fin s
    else if s.activeHead then fin s.joinSelf
    else match s.mapHead with
      | some h => fin (if !s.linkUp 0 && !s.linkUp 1 then s else s.toRing (s.mgmt mkJOIN h [s.nodeId, s.get CST_RUNID.id, b2n s.reservesStandby, s.get RING_STATUS.role]))
      | none => fin s
  | .judge e castId same standbyPair tampered role =>
    if !s.activeHead || !s.inSeam s.ns then fin s
    else
      let r := s.joinReason e.node castId same standbyPair tampered
      let s := if r = 0 then s.mapChange (admitInto e castId (if role = 1 then 2 else role)) else s
      fin (s.toRing (s.mgmt mkADMIT e.node [r]))
  | .answer r =>
    fin (if s.nodeState ≠ nsJOINING then s else if r % 8 = 0 then s.admitted else s.refused (r % 8))

/-! ### Partition (R248, R249) -/

/-- What a partition timeout abandons: a recast, whose done clusters keep their words until the next boot or recast, or an
activation, whose pause-form boot ROM starts the booted copy (R36, R387). -/
def State.abandonWork (s : State) : State :=
  let s := match s.cst.recast with
    | some _ =>
      ({ s with cst := { s.cst with recast := none } }).puts [(CST_STATUS.recasting, 0), (CST_RECAST.pending, 0)]
    | none => s
  match s.cst.act with
  | some a =>
    let s := s.abandonActivation a.m
    if a.hitless then s.resetStandby
    else
      let s := if a.inRom then s.runManager (1 - a.copy) else s.startWatchdog
      (s.restartPairs (s.changedPairs a.copy) (s.image (fwBase (1 - a.copy)))).zero NODE_STATE.pause
  | none => match s.cst.job with
    | some (.prepare m _ _) => s.endJob.abandonActivation m
    | _ => s

/-- Entry to ORPHAN (R36, R249, R461, R485). -/
def State.enterOrphan (s : State) : State :=
  let s := (s.abandonWork.abandonCopy s.wear.copying).put RING_STATUS2.orphan_epoch (s.get RING_MAPEPOCH.epoch)
  let s := (s.holdOutputs).setNodeState nsORPHAN
  s.report { src := 0x44, master := 0, addr := s.domainAddr RING_STATUS2.addr }

/-- PARTITION_TEST (R248): 5 µs after a cycle start, once per cycle. -/
def execPartitionTest (s : State) : Out :=
  match s.thisCycle with
  | none => fin s
  | some c =>
    if s.ns < c + 5000 ∨ s.ring.testedAt = some c then fin s
    else
      let n := if s.ring.gotAt = some c then 0 else s.ring.misses + 1
      let s := { s with ring := { s.ring with testedAt := some c, misses := n } }
      let within := [nsSERVICE, nsRECAST, nsUPDATING].contains s.nodeState
      fin (if !s.activeHead && within && decide (max 1 (s.get RING_PARTTO.cycles) ≤ n) &&
          decide (s.ring.lastStart + 60000 ≤ s.now) then s.enterOrphan else s)

/-! ### Rejoin (R250) -/

/-- The queues of Kk into which a TX port or a CAN FD controller writes, and that are enabled stream queues. -/
def State.inputQueues (s : State) (k : Nat) : List Nat :=
  (List.range 32).filter (fun q => s.flag (CL_QCFG.en k q) && s.qStream k q &&
    ((List.range 9).any (fun n => s.flag (PE_QBIND.tx_en k n) && s.get (PE_QBIND.tx_queue k n) == q) ||
     (List.range 2).any (fun j => s.flag (CL_CANQ.rx_en k j) && s.canRxQ k j == q)))

/-- Buffered inputs are discarded. -/
def State.discardInputs (s : State) : State :=
  (List.range 12).foldl (fun s k => (s.inputQueues k).foldl (fun s q => s.qClear k q) s) s

/-- REJOIN (R250): at the active head's seam, whose map epoch is `epoch` before the splice. Engines halt in JOINING, and outputs keep
the partition state until admission (R35). -/
def execRejoin (epoch : Nat) (s : State) : Out :=
  if s.nodeState ≠ nsORPHAN ∨ s.inSeam s.ns = false then fin s
  else if epoch % 2 ^ 32 = (s.get RING_STATUS2.orphan_epoch + 1) % 2 ^ 32 then
    fin ((if s.cst.restart then s else s.endHold).setNodeState nsSERVICE)
  else fin (((s.discardInputs).haltEngines hcSTATE).setNodeState nsJOINING)

end Sys2Proof.Machine
end

