-- ==== Sys2Proof/Machine/Sleep.lean ====
section
/-! DEFINITION. Machine/Sleep.lean: the node's sleep states, the clusters' depths, pre-wake, and stowing (R422 to R441). -/

namespace Sys2Proof.Machine

/-- Node sleep states and cluster depths (R424, R428). -/
abbrev spRUN : Nat := 0
abbrev spDOZE : Nat := 1
abbrev spNAP : Nat := 2
abbrev spDEEP : Nat := 3
abbrev spSTOW : Nat := 4

/-- Causes of a wake (R442). -/
abbrev wkSCHEDULE : Nat := 1
abbrev wkPETIME : Nat := 2
abbrev wkPAD : Nat := 3
abbrev wkACCESS : Nat := 4
abbrev wkFRAME : Nat := 5
abbrev wkWAKE_N : Nat := 6
abbrev wkTONE : Nat := 7
abbrev wkHOLD_RUN : Nat := 8
abbrev wkQUENCH : Nat := 9
abbrev wkSEAM : Nat := 10

def State.sleepState (s : State) : Nat := s.get NODE_SLEEPSTAT.state
def State.clusterDepth (s : State) (k : Nat) : Nat := s.get (NODE_CLSLEEP.depth k)

/-- The pre-wake lead in ns (R442). -/
def State.lead (s : State) : Nat := 100 * max 1 (s.get NODE_SLEEPCFG.lead)

/-- Entry time and wake latency of a depth or state in ns (R424, R428). -/
def entryTime (d : Nat) : Nat := if d = spNAP then 200 else if spDEEP ≤ d then 10000 else 0
def wakeLatency (d : Nat) : Nat :=
  if d = spDOZE then 20 else if d = spNAP then 800 else if d = spDEEP then 60000 else if d = spSTOW then 8000000 else 0

/-- The deepest depth, and the deepest node state, that a deadline class allows (R427). -/
def classDepth (c : Nat) : Nat := min c spDEEP
def classState (c : Nat) : Nat := min c spSTOW

/-! ### Quiet clusters (R429) -/

/-- Engine n lets its cluster be quiet at depth d. -/
def State.peQuiet (s : State) (k n d : Nat) : Bool :=
  let op := s.get (PE_STATUS.wait_op k n)
  let pad := s.slotPad k n (fieldA (s.peWord k n))
  let wake := s.flag (NODE_CLSLEEP.wake_en k) && pad == some (s.get (NODE_CLSLEEP.wake_pad k))
  !s.peRunning k n ||
    (s.get (PE_STATUS.run k n) == 2 && (s.pe k n).tx.isEmpty &&
      (op == 0x06 || op == 0x09 || op == 0x0E || (op == 0x05 && (d == spDOZE || (d == spNAP && wake)))))

/-- Cluster k is quiet, as depth d asks. -/
def State.clusterQuiet (s : State) (k d : Nat) : Bool :=
  (List.range 9).all (fun n => decide (8 ≤ s.get (PE_STATUS.logical k n)) || s.peQuiet k n d) &&
    !s.canOn k 0 && !s.canOn k 1 && (List.range 32).all (fun q => (s.queue k q).held.isEmpty)

/-- The instant (ns of node time) at which a time of the 48-bit window is reached (R51). -/
def State.whenReached (s : State) (t : Nat) : Nat :=
  if reached 48 s.window t then s.ns else s.ns + (t % 2 ^ 48 + 2 ^ 48 - s.window) % 2 ^ 48

/-- The next scheduled target of cluster k (R432). -/
def State.clusterTarget (s : State) (k : Nat) : Option Nat :=
  if s.flag (NODE_CLWAKE.en k) && s.period != 0 then
    let t := s.startOf s.ns + s.get (NODE_CLWAKE.offset k)
    some (if t < s.ns then t + s.period else t).toNat
  else none

/-- The times for which the engines of cluster k wait (R429). -/
def State.engineTimes (s : State) (k : Nat) : List Nat :=
  (List.range 9).flatMap (fun n =>
    (if s.get (PE_STATUS.run k n) == 2 && s.get (PE_STATUS.wait_op k n) == 0x06 then [s.whenReached (s.peT k n)] else []) ++
      (s.pe k n).actions.map (fun a => s.whenReached a.t))

/-- The earlier of two targets; a scheduled one is marked true. -/
def earlier (a b : Option (Nat × Bool)) : Option (Nat × Bool) :=
  match a, b with
  | some x, some y => if y.1 < x.1 then some y else some x
  | some x, none => some x
  | none, y => y

/-- The instant by which cluster k must run (R429). -/
def State.clusterNext (s : State) (k : Nat) : Option (Nat × Bool) :=
  (s.engineTimes k).foldl (fun m t => earlier m (some (t, false))) ((s.clusterTarget k).map (fun t => (t, true)))

/-- The gap up to the next instant leaves room for depth d (R429). -/
def State.fits (s : State) (next : Option (Nat × Bool)) (d : Nat) : Bool :=
  match next with
  | none => true
  | some (t, _) => decide (s.ns + entryTime d + wakeLatency d + s.lead ≤ t)

/-- The depth that cluster k chooses (R429), RUN where it is not quiet or nothing fits. -/
def State.chosenDepth (s : State) (k : Nat) : Nat :=
  let next := s.clusterNext k
  ([spDEEP, spNAP, spDOZE].find? (fun d =>
    decide (d ≤ classDepth (s.get (NODE_CLSLEEP.class_ k))) && s.clusterQuiet k d && s.fits next d)).getD spRUN

/-- Cluster k enters depth d (R428). -/
def State.clusterSleep (s : State) (k d : Nat) : State :=
  let next := s.clusterNext k
  let outs := s.padOutputs k
  let levels := (List.range 32).foldl (fun v p => v + b2n (s.syncLevel k p) * 2 ^ p) 0
  let s := s.puts [(NODE_CLSLEEP.depth k, d), (CL_STATUS.asleep k, 1)]
  let s := if d = spDEEP then s.zero (CL_STATUS.time_lock k) else s
  { s with slp := { s.slp with naps := SMap.set s.slp.naps k (some ⟨next, outs, levels, s.window⟩) none } }

/-- CLUSTER_SLEEP (R425, R429). -/
def execClusterSleep (k : Fin 12) (s : State) : Out :=
  let d := s.chosenDepth k
  fin (if s.clusterDepth k ≠ 0 ∨ d = 0 ∨ s.flag NODE_SLEEPCTL.hold_run = true ∨ s.flag (CL_STATUS.in_reset k) = true ∨ s.slp.stowed = true
    then s else s.clusterSleep k d)

/-! ### The node (R425) -/

/-- A bridge channel holds an open transaction. -/
def State.bridgesOpen (s : State) : Bool :=
  s.chans.any (fun e => e.2.openCount != 0 || !e.2.posted.isEmpty || !e.2.line.isEmpty || !e.2.flight.isEmpty || !e.2.targets.isEmpty ||
    !e.2.crossing.isEmpty || !e.2.kept.isEmpty)

/-- The deepest node state that cluster k allows (R427): its class, and while it must run no deeper than its depth or the one it
would choose. -/
def State.clusterAllows (s : State) (k : Nat) : Nat :=
  let d := max (s.clusterDepth k) (s.chosenDepth k)
  min (classState (s.get (NODE_CLSLEEP.class_ k))) (if d = spDEEP then spSTOW else max spDOZE d)

/-- The deepest node state that die S allows (R425); a frame in an ingress buffer wakes it (R426). -/
def State.dieAllows (s : State) (wfi : Bool) : Nat :=
  let mail := (List.range 3).any (fun m => s.flag (NODE_CMDSTAT.busy m))
  if !wfi || mail || !s.sw.frames.isEmpty || !s.slp.ingress.isEmpty then spRUN
  else if s.bridgesOpen then spDOZE
  else spSTOW

/-- The deepest state that R425 allows; STOW is never selected. -/
def State.allowed (s : State) (wfi : Bool) : Nat :=
  let role := if s.get RING_STATUS.role = 0 then spSTOW else spNAP
  let auto := if s.flag NODE_SLEEPCFG.auto then spDEEP else spDOZE
  let held := if s.flag NODE_SLEEPCTL.hold_run then spRUN else spSTOW
  let cl := (List.range 12).foldl (fun m k => min m (s.clusterAllows k)) spDEEP
  min cl (min (s.get NODE_SLEEPCFG.max_state) (min (s.dieAllows wfi) (min role (min auto held))))

/-- The time in the present state is counted in whole ms (R442). -/
def State.countResidency (s : State) : State :=
  let st := s.sleepState
  let t := SMap.getD s.slp.rest st 0 + (s.now - s.slp.since)
  let s := { s with slp := { s.slp with since := s.now, rest := SMap.set s.slp.rest st (t % 1000000) 0 } }
  s.hw (NODE_RESIDENCY.ms st) (s.get (NODE_RESIDENCY.ms st) + t / 1000000)

/-- Frames that waited in the ingress buffers enter the switch core (R426). -/
def State.takeIngress (s : State) : State :=
  let q := s.slp.ingress
  let s := { s with slp := { s.slp with ingress := [] } }
  q.foldl (fun s e => e.2.foldl (fun s f => s.ingressNow e.1 { frame := f, route := .addr }) s) s

/-- The node takes a sleep state (R424): leaving HIBERNATE or STOW, the keep-alives start again (R431). -/
def State.setSleep (s : State) (st : Nat) : State :=
  let was := s.sleepState
  let s := (s.countResidency).put NODE_SLEEPSTAT.state st
  let s := s.showClocks
  let s := if spDEEP ≤ was ∧ st < spDEEP then
      { s with lev := { s.lev with sent := setNth (setNth s.lev.sent 0 s.now) 1 s.now } } else s
  if st ≤ spDOZE then s.takeIngress else s

/-- Clusters that are shallower than the node's state follow it (R424). -/
def State.clustersFollow (s : State) (st : Nat) : State :=
  if st < spNAP then s
  else (List.range 12).foldl (fun s k => if s.clusterDepth k < st then s.clusterSleep k st else s) s

/-- NODE_SLEEP_CHANGE (R425): wfi tells that every running core pair waits in WFI. -/
def execNodeSleepChange (wfi : Bool) (s : State) : Out :=
  if s.slp.stowed then fin s
  else
    let a := s.allowed wfi
    let s := s.put NODE_SLEEPSTAT.allowed a
    fin (if a = s.sleepState then s else (s.setSleep a).clustersFollow a)

/-! ### Waking (R430 to R436) -/

/-- The node's state is at most st: a wake needs it. -/
def State.wakeNode (s : State) (st : Nat) : State := if st < s.sleepState then s.setSleep st else s

/-- Cluster k wakes: from DOZE at once, else through the bellows (R430, R439, R441). -/
def State.wakeCluster (s : State) (k cause : Nat) : State :=
  let d := s.clusterDepth k
  if d = 0 then s
  else
    let s := (s.put NODE_SLEEPSTAT.last_wake cause).wakeNode spDOZE
    let nap := (SMap.getD s.slp.naps k none).map (fun x => { x with target := none })
    let s := { s with slp := { s.slp with naps := SMap.set s.slp.naps k nap none } }
    if d = spDOZE then s.clusterRuns k
    else s.want (if d = spNAP then bkNAP else bkCLUSTER) [k]

/-- CLUSTER_WAKE_EVENT (R430): a pad, a push or bus access, a quench, or seam work. -/
def execClusterWakeEvent (k : Fin 12) (cause : Fin 16) (s : State) : Out :=
  fin (if s.slp.stowed || !([wkPAD, wkACCESS, wkQUENCH, wkSEAM].contains cause.val) then s else s.wakeCluster k cause)

/-- A wake that ends after its target (R434). -/
def State.lateWake (s : State) (master a : Nat) : State :=
  (s.bump NODE_WAKELATE.count).report { src := 0xA1, master := master, addr := s.domainAddr a }

/-- Die S's next target: the earliest slot marker of this node on either port (R432). -/
def State.dieTarget (s : State) : Option Nat :=
  let offs := [0, 1].filterMap (fun p => if (s.slotOf p).2 = 0 then none else some (s.slotOf p).1)
  match offs with
  | [] => none
  | o :: os =>
    if s.period = 0 then none
    else
      let t := s.startOf s.ns + os.foldl min o
      some (if t < s.ns then t + s.period else t).toNat

/-- SCHEDULED_WAKE of cluster k, or of die S (12), whose wake ends `took` ns after its begin (R429, R432, R434). -/
def execScheduledWake (u : Fin 13) (took : Nat) (s : State) : Out :=
  if s.slp.stowed then fin s
  else if u.val = 12 then
    match s.dieTarget with
    | some t =>
      if s.sleepState < spNAP ∨ s.ns + s.lead + wakeLatency s.sleepState < t then fin s
      else
        let s := (s.put NODE_SLEEPSTAT.last_wake wkSCHEDULE).wakeNode spDOZE
        fin (if t < s.ns + took then s.lateWake (unitDIE 0) NODE_WAKELATE.addr else s)
    | none => fin s
  else
    let d := s.clusterDepth u
    match SMap.getD s.slp.naps u none with
    | some ⟨some (t, sched), _, _, _⟩ =>
      if d = 0 ∨ s.ns + s.lead + wakeLatency d < t then fin s
      else
        let s := s.wakeCluster u (if sched then wkSCHEDULE else wkPETIME)
        fin (if t < s.ns + took then s.lateWake (unitCLUSTER u) (NODE_CLSLEEP.addr u) else s)
    | _ => fin s

/-- FRAME_WAKE (R426): a frame for this node arrives on port p while the switch core sleeps. -/
def execFrameWake (p : Fin 2) (f : Frame) (s : State) : Out :=
  if s.sleepState < spNAP ∨ s.slp.stowed = true then fin s
  else
    let q := SMap.getD s.slp.ingress p []
    let s := s.put NODE_SLEEPSTAT.last_wake wkFRAME
    if (q.map frameLen).sum + frameLen f ≤ 16384 then
      fin { s with slp := { s.slp with ingress := SMap.set s.slp.ingress p (q ++ [f]) [] } }
    else
      let x : SwIn := { frame := f, route := .addr }
      fin (match s.plan p x with
        | some pl => s.dropAll p x pl (s.get SW_STATUS.live_epoch) drFULL []
        | none => s.ingressDrop p x none drNO_ROUTE)

/-! ### NODE_SLEEPCTL (R437, R442) -/

/-- The wear store takes what the wear unit holds, and counts the powered hours (R482). -/
def State.wearStore (s : State) : State :=
  let h := (s.now - s.wear.written) / 3600000000000
  let s := s.put WEAR_HOURS.hours (s.get WEAR_HOURS.hours + h)
  { s with wear := { s.wear with saved := s.wear.gauges, written := s.wear.written + h * 3600000000000 } }

/-- The node may be stowed (R437). -/
def State.mayStow (s : State) : Bool :=
  decide (spSTOW ≤ s.get NODE_SLEEPCFG.max_state) &&
    (List.range 12).all (fun k => decide (4 ≤ s.get (NODE_CLSLEEP.class_ k))) &&
    !s.isHead && !s.flag RING_HEADCFG.is_witness && (s.nodeState == nsSERVICE || s.nodeState == nsHALTED)

/-- The link of port p goes to STOWED (R217, R437). -/
def State.stowLink (s : State) (p : Nat) : State :=
  if s.linkState p = lsUP ∨ s.linkState p = lsFIDLE then
    (s.setLink p { s.link p with entered := s.now, tone := none }).put (RING_LSTAT.state p) lsSTOWED |>.linkLeaves p
  else s

/-- The node is stowed (R420, R437, R482). -/
def State.stow (s : State) : State :=
  let s := (List.range 12).foldl (fun s k => if s.clusterDepth k = spDEEP then s else s.clusterSleep k spDEEP) s
  let s := (s.stowLink 0).stowLink 1
  let s := { s.wearStore with cru := { s.cru with aonTime := s.time } }
  let s := { s with slp := { s.slp with stowed := true, waking := false } }
  (s.setSleep spSTOW)

/-- A write of NODE_SLEEPCTL. -/
def State.sleepCtl (s : State) (o : Origin) (w : Nat) : State :=
  if s.foreignCore o then s.done o stAUTH
  else
    let t := s.writeReg o NODE_SLEEPCTL.addr w
    let t := if bit w 1 then
        ((List.range 12).foldl (fun s k => s.wakeCluster k wkHOLD_RUN) t).wakeNode spRUN else t
    if !bit w 0 then t.done o stOK
    else if t.mayStow then (t.stow.put NODE_SLEEPCTL.last_status stOK).done o stOK
    else (s.put NODE_SLEEPCTL.last_status stSTATE).refuse o NODE_REFUSED.count

/-- HOLD_RUN (R425, R430). -/
def execHoldRun (o : Origin) (w : Nat) (s : State) : Out := fin (s.sleepCtl o w)

/-- STOW (R437). -/
def execStow (o : Origin) (w : Nat) (s : State) : Out := fin (s.sleepCtl o (withBit w 0))

/-! ### Waking from STOW (R226, R437, R438, R441) -/

/-- A stowed node begins to wake. -/
def State.stowWake (s : State) (cause : Nat) : State :=
  if s.slp.stowed && !s.slp.waking then
    ({ s with slp := { s.slp with waking := true } }).put NODE_SLEEPSTAT.last_wake cause
  else s

/-- WAKE_N (R437): low for 1 µs. -/
def execWakeN (s : State) : Out := fin (s.stowWake wkWAKE_N)

/-- WAKE_TONE_DETECT on port p (R226): the detector of a stowed port. -/
def execWakeToneDetect (p : Fin 2) (s : State) : Out :=
  fin (if s.linkState p ≠ lsSTOWED then s
    else if s.slp.stowed then s.stowWake wkTONE
    else s.trainTo p lsDETECT)

/-- Key material that a tamper zeroised in sleep comes back from the store; what is only volatile is gone (R395, R419). -/
def State.reloadKeys (s : State) : State :=
  if !s.cru.mat.isEmpty || s.flag CRU_STATUS.root_fail || !s.flag CRU_STATUS.unlocked then s
  else
    let s := s.loadTouchmark.loadStore
    slots.foldl (fun s i => if s.slotState i == slLIVE && (s.slotMat i).isEmpty then s.clearSlot i else s) s

/-- STOW_WAKE_DONE, SLOWCLK periods after the last record of node time (R420, R438, R441): time goes on from the always-on island's
count, in HOLDOVER; units start through the bellows. A pending tamper entry gives a node reset (R419). -/
def execStowWakeDone (periods : Nat) (s : State) : Out :=
  if !s.slp.waking then fin s
  else
    let s := { s with time := s.aonNow periods, slp := { s.slp with stowed := false, waking := false } }
    let s := s.setSleep spRUN
    if (List.range 8).any (fun i => s.tlogPending i) then fin s.nodeReset
    else
      let s := (s.reloadKeys).servoTo tsHOLDOVER
      let s := ((s.want bkDIE [1, 2]).want bkLANE (List.range 12)).want bkCLUSTER (List.range 12)
      fin { s with slp := { s.slp with naps := s.slp.naps.map (fun e => (e.1, e.2.map (fun x => { x with target := none }))) } }

end Sys2Proof.Machine
end

