-- ==== Sys2Proof/Machine/Wear.lean ====
section
/-! DEFINITION. Machine/Wear.lean: health scores, spare pools and anneals (R481 to R500). -/

namespace Sys2Proof.Machine

/-! ### Elements -/

/-- The physical unit that a unit ID names: a core ID names its pair, which an anneal may have moved (R494). -/
def State.unitKey (s : State) (id : Nat) : Nat :=
  if id / 256 = 4 then 0x0400 + 2 * s.get (WEAR_PAIRMAP.phys (id % 256 / 2)) else id

/-- The key of an element: a unit ID; 0x10000 + 256 × (2 l + d) + w of a wire; 0x30000 + 64 k + 2 p + leg of a pad leg, whose leg in
use WEAR_PADLEG shows; (die + 1) × 2²⁴ + macro × 2¹⁶ + row of an SRAM row. -/
def State.elementKey (s : State) : Element → Nat
  | .unit id => s.unitKey id
  | .wire l d w => 0x10000 + 256 * (2 * l.val + d.val) + w.val
  | .leg k p => 0x30000 + 64 * k.val + 2 * p.val + bits (s.get (WEAR_PADLEG.leg k)) p 1
  | .row die m r => 0x1000000 * (die.val + 1) + 0x10000 * m.val + r.val

/-- The kind of an element, as WEAR_THR counts them (R500); none for a unit that has no score. -/
def wearKind (key : Nat) : Option Nat :=
  if key < 0x10000 then
    let i := key % 256
    match key / 256 with
    | 1 => if i < 108 then some 0 else none
    | 2 => if i < 24 then some 1 else none
    | 3 => if i < 32 then some 2 else none
    | 4 => if i < 20 then some 3 else none
    | 5 => if i < 10 then some 4 else none
    | 6 => if i < 17 then some 5 else none
    | _ => none
  else if key < 0x30000 then some 7
  else if key < 0x1000000 then some 8
  else some 6

/-- The pool of an element (R483); CAN FD controllers and bridge channels have none. -/
def wearPool (key : Nat) : Option Nat :=
  let i := key % 256
  match wearKind key with
  | some 0 => some (i / 9)
  | some 3 => some 14
  | some 4 => some (12 + i / 5)
  | some 5 => some 15
  | some 6 => some (15 + key / 0x1000000)
  | some 7 => some (20 + (key - 0x10000) / 256)
  | some 8 => some (26 + (key - 0x30000) / 64)
  | _ => none

def State.gauge (s : State) (key : Nat) : Gauge := SMap.getD s.wear.gauges key {}

/-- The threshold in force of an element (R484, R500). -/
def State.wearThr (s : State) (key : Nat) : Nat :=
  match wearKind key with
  | some t => max 1 (min 254 (s.get (WEAR_THR.thr t)))
  | none => 0

/-- Spares left in the pool of an element. -/
def State.sparesLeft (s : State) (key : Nat) : Nat := ((wearPool key).map (fun i => s.get (WEAR_POOL.left i))).getD 0

/-! ### Scores (R481, R482) -/

/-- A monitor score held between 0 and 255. -/
def held (x : Int) : Nat := (max 0 (min 255 x)).toNat

/-- The score of each monitor and its raw value; none where the reading is not of the element's monitors (R481). -/
def monitors (kind : Nat) (r : Reading) : Option (List (Nat × Nat)) :=
  match kind, r with
  | 0, .oscillator d | 1, .oscillator d | 2, .oscillator d => some [(held (255 - (d / 400 : Nat)), d)]
  | 3, .pair d0 d1 n => some [(held (255 - (d0 / 400 : Nat)), d0), (held (255 - (d1 / 400 : Nat)), d1), (held (255 - 32 * n), n)]
  | 4, .margin m | 7, .margin m => some [(min 255 m, m)]
  | 5, .errors n => some [(held (255 - 4 * n), n)]
  | 6, .errors n => some [(held (255 - 64 * n), n)]
  | 8, .charge q rated => if rated = 0 then none else some [(if rated ≤ q then 0 else 255 * (rated - q) / rated, q)]
  | _, _ => none

/-- The lowest of the monitors (R481). -/
def lowestMonitor : List (Nat × Nat) → Nat × Nat
  | [] => (255, 0)
  | x :: l => if l.isEmpty then x else if (lowestMonitor l).1 < x.1 then lowestMonitor l else x

/-- Powered hours now (R482). -/
def State.hours (s : State) : Nat := s.get WEAR_HOURS.hours + (s.now - s.wear.written) / 3600000000000

/-- SCORE_UPDATE (R481, R482, R497). -/
def execScoreUpdate (e : Element) (r : Reading) (s : State) : Out :=
  let key := s.elementKey e
  match (wearKind key).bind (fun t => monitors t r) with
  | none => fin s
  | some ms =>
    let m := lowestMonitor ms
    let old := s.gauge key
    let hist := (old.hist.filter (fun x => decide (s.hours ≤ x.1 + 2000))) ++ [(s.hours, m.1)]
    let s := { s with wear := { s.wear with gauges := SMap.set s.wear.gauges key ⟨m.1, m.2, hist⟩ {} } }
    let thr := s.wearThr key
    let falls := decide (thr < old.score) && decide (m.1 ≤ thr) && s.sparesLeft key == 0
    fin (match wearPool key with
      | some i => if falls then s.poolReport i true else s
      | none => s)

/-- WEAR_STORE_WRITE (R482). -/
def execWearStoreWrite (s : State) : Out := fin s.wearStore

/-! ### The due list (R484, R485, R496, R497) -/

/-- The element is a spare that is not in use. -/
def State.isSpare (s : State) (key : Nat) : Bool :=
  let i := key % 256
  match wearKind key with
  | some 0 => s.get (PE_STATUS.logical (i / 9) (i % 9)) == 15
  | some 3 => (s.sparePairs).any (fun p => s.get (WEAR_PAIRMAP.phys p) == i / 2)
  | some 4 => s.get (RING_LANEMAP.spare (i / 5)) == i % 5
  | some 5 => s.get SW_STATUS.spare_bank == i
  | _ => false

/-- The element has been retired by an anneal. -/
def State.isRetired (s : State) (key : Nat) : Bool :=
  s.wear.retired.contains key || (wearKind key == some 4 && s.flag (RING_LANE.retired (key % 256 / 5) (key % 256 % 5)))

/-- The element is worn, or forced due. -/
def State.isWorn (s : State) (key : Nat) : Bool := decide ((s.gauge key).score ≤ s.wearThr key)

/-- A spare can still replace the element. -/
def State.hasSpare (s : State) (key : Nat) : Bool :=
  s.sparesLeft key != 0 &&
    (wearKind key != some 8 || !bit (s.get (WEAR_PADWORN.worn ((key - 0x30000) / 64))) ((key - 0x30000) % 64 / 2))

/-- The element is due (R484). -/
def State.isDue (s : State) (key : Nat) : Bool :=
  (wearKind key).isSome && !s.isSpare key && !s.isRetired key && s.hasSpare key && (s.isWorn key || s.wear.forced.contains key)

/-- Put a due element into a list by lowest score. -/
def insertDue (s : State) (key : Nat) : List Nat → List Nat
  | [] => [key]
  | x :: l => if (s.gauge key).score < (s.gauge x).score then key :: x :: l else if key = x then x :: l else x :: insertDue s key l

/-- The due list (R484). -/
def State.dueList (s : State) : List Nat :=
  (((s.wear.gauges.map (·.1)) ++ s.wear.forced.filter (fun k => !s.wear.gauges.any (fun e => e.1 == k))).filter s.isDue).foldl
    (fun l k => insertDue s k l) []

/-- The state of an element as WEAR_UNIT0 shows it (R500). -/
def State.wearState (s : State) (key : Nat) : Nat :=
  if (wearKind key).isNone then 6
  else if s.isRetired key then 4
  else if s.isSpare key then 1
  else if s.wear.copying == some (key % 256) && wearKind key == some 5 then 3
  else if s.isDue key then 2
  else if s.isWorn key then 5
  else 0

/-- The element is the first of its pool in the due list, at a seam in which its pool has had no anneal (R485). -/
def State.annealTurn (s : State) (key : Nat) : Bool :=
  let done := s.wear.seam == some s.seamOpening && ((wearPool key).any (fun i => s.wear.pools.contains i))
  s.inSeam s.ns && s.nodeState != nsBOOT && !done && (s.dueList.find? (fun k => wearPool k == wearPool key)) == some key

/-- The pool has had its anneal of this seam. -/
def State.noteAnneal (s : State) (pool : Nat) : State :=
  let o := some s.seamOpening
  let pools := if s.wear.seam = o then s.wear.pools else []
  { s with wear := { s.wear with seam := o, pools := pools ++ [pool] } }

/-- The element is retired, and a spare of its pool is taken (R485, R497). -/
def State.retire (s : State) (key : Nat) : State :=
  let s := { s with wear := { s.wear with
    retired := s.wear.retired ++ [key], forced := s.wear.forced.filter (· != key) } }
  match wearPool key with
  | some i => s.takePool i
  | none => s

/-- An anneal cannot reach its switch point before the seam's end (R485). -/
def State.defer (s : State) (key : Nat) : State :=
  (s.noteAnneal ((wearPool key).getD 0)).bump WEAR_LIFEPOOL.deferred

/-- Cluster k is being recast, or has been in this recast (R488). -/
def State.recastHere (s : State) (k : Nat) : Bool :=
  bit (s.get CST_RECAST.pending) k || s.cst.recasts.contains k || (s.nodeState == nsRECAST && bit (s.get CST_RECAST.done) k)

/-! ### Port engines (R486, R487) -/

/-- The engine is at an instruction boundary at which it may move: not at SYNC, not at WAITP for an edge, no swap pending, no action
due within 2 µs (R486). -/
def State.mayMove (s : State) (k n : Nat) : Bool :=
  let op := s.get (PE_STATUS.wait_op k n)
  let waits := s.get (PE_STATUS.run k n) == 2
  !(waits && op == 0x10) && !(waits && op == 0x05 && decide (2 ≤ fieldB (s.peWord k n))) &&
    !s.flag (PE_STATUS.swap_pending k n) && (s.pe k n).actions.all (fun a => decide (s.ns + 2000 ≤ s.whenReached a.t))

/-- The registers of engine b of Kk take the contents of those of engine a. -/
def State.copyEngine (s : State) (k a b : Nat) : State :=
  let within := fun (n x : Nat) => decide (PE_CTL.addr k n ≤ x / 8) && decide (x / 8 < PE_CTL.addr k n + 0x1000)
  let src := s.regs.filter (fun e => within a e.1)
  let rest := s.regs.filter (fun e => !within b e.1)
  { s with regs := src.foldl (fun m e => SMap.insert m (e.1 + 8 * (PE_CTL.addr k b) - 8 * (PE_CTL.addr k a)) e.2) rest }

/-- The worn engine's state, ownership and bindings move to the spare, which takes its logical number; the worn engine is halted and
drives nothing (R486, R487). R84 lists no cause for that halt, and its halt_cause keeps the earlier value (DESIGN CHOICE, log 282). -/
def State.moveEngine (s : State) (k n : Nat) : State :=
  let l := s.get (PE_STATUS.logical k n)
  let e := s.pe k n
  let s := (s.copyEngine k n 8).setPe k 8 e
  let s := s.setPe k n {}
  s.puts [(PE_STATUS.logical k 8, l), (PE_STATUS.logical k n, 14), (CL_STATUS.spare_pe k, 0xF), (PE_STATUS.run k n, 0),
    (PE_STATUS.wait_op k n, 0), (PE_OWN.own k n, 0), (PE_QBIND.tx_en k n, 0), (PE_QBIND.rx_en k n, 0)]

/-- PE_ANNEAL of Kk.PEn (R485 to R488). -/
def execPeAnneal (k : Fin 12) (n : Fin 9) (s : State) : Out :=
  let key := unitPE k n
  if !s.annealTurn key || s.recastHere k || s.get (CL_STATUS.spare_pe k) != 8 || decide (2 ≤ s.clusterDepth k) then fin s
  else if s.seamLate then fin (s.defer key)
  else if !s.mayMove k n then fin s
  else fin (((s.noteAnneal k).moveEngine k n).retire key)

/-! ### Lanes, wires and legs (R489 to R491) -/

/-- Lane j is the first of its pool in the due list, before a seam: its switch waits for the seam (R221, R489). -/
def State.laneTurn (s : State) (key : Nat) : Bool :=
  !s.inSeam s.ns && s.nodeState != nsBOOT && (s.dueList.find? (fun k => wearPool k == wearPool key)) == some key

/-- LANE_ANNEAL of lane j of port p (R221, R489): the planned switch is asked for before the seam; LANE_SWITCHED makes it. -/
def execLaneAnneal (p : Fin 2) (j : Fin 5) (s : State) : Out :=
  let key := 0x0500 + 5 * p.val + j.val
  if !s.laneTurn key || !s.linkUp p || !s.flag (RING_LSTAT.spare_ready p) || (s.link p).mirror.isSome then fin s
  else fin (s.laneSwitch p j)

/-- The data wire whose words a wire of link l, direction d carries: its own, or for a spare the one it replaced. -/
def State.carried (s : State) (l d w : Nat) : Nat :=
  if w < 64 then w else if w = 64 then s.get (WEAR_D2D.wire0 l d) else s.get (WEAR_D2D.wire1 l d)

/-- WIRE_ANNEAL (R490). -/
def execWireAnneal (l : Fin 3) (d : Fin 2) (w : Fin 66) (s : State) : Out :=
  let key := s.elementKey (.wire l d w)
  if !s.annealTurn key then fin s
  else if s.seamLate then fin (s.defer key)
  else
    let c := s.carried l d w
    let s := s.noteAnneal (20 + 2 * l + d)
    let s := if s.flag (WEAR_D2D.used0 l d) then s.puts [(WEAR_D2D.wire1 l d, c), (WEAR_D2D.used1 l d, 1)]
      else s.puts [(WEAR_D2D.wire0 l d, c), (WEAR_D2D.used0 l d, 1)]
    fin (s.retire key)

/-- LEG_ANNEAL of pad p of Kk (R488, R491): the idle leg takes over. -/
def execLegAnneal (k : Fin 12) (p : Fin 32) (s : State) : Out :=
  let key := s.elementKey (.leg k p)
  if !s.annealTurn key || s.recastHere k then fin s
  else
    let s := (s.noteAnneal (26 + k)).retire key
    fin (s.puts [(WEAR_PADLEG.leg k, setBit (s.get (WEAR_PADLEG.leg k)) p true),
      (WEAR_PADWORN.worn k, setBit (s.get (WEAR_PADWORN.worn k)) p true)])

/-! ### Banks, rows and pairs (R492 to R494) -/

/-- BANK_COPY_START of bank b (R492): as soon as it is due. -/
def execBankCopyStart (b : Fin 17) (s : State) : Out :=
  let key := 0x0600 + b.val
  if s.wear.copying.isSome || s.nodeState == nsBOOT || (s.dueList.find? (fun k => wearPool k == some 15)) != some key then fin s
  else fin ({ s with wear := { s.wear with copying := some b.val } }.takePool 15)

/-- BANK_SWITCH (R492): at the first seam after the copy is complete. -/
def execBankSwitch (s : State) : Out :=
  match s.wear.copying with
  | none => fin s
  | some b =>
    if !s.inSeam s.ns || s.nodeState == nsBOOT then fin s
    else
      let key := 0x0600 + b
      let s := (s.noteAnneal 15).put SW_STATUS.spare_bank 0x1F
      fin { s with wear := { s.wear with
        copying := none, retired := s.wear.retired ++ [key], forced := s.wear.forced.filter (· != key) } }

/-- ROW_ANNEAL of a row of a macro that has a spare row, or not; an uncorrectable error makes the row due too (R493). -/
def execRowAnneal (die : Fin 4) (macro_ : Fin 256) (row : Fin 65536) (spare uncorrectable : Bool) (s : State) : Out :=
  let key := s.elementKey (.row die macro_ row)
  let bad := uncorrectable && s.inSeam s.ns && s.nodeState != nsBOOT && s.hasSpare key && !s.isRetired key
  if !spare || !(s.annealTurn key || bad) then fin s
  else fin ((s.noteAnneal (16 + die)).retire key)

/-- A mailbox command or an operation of its crucible port runs on pair p (R494). -/
def State.pairBusy (s : State) (p : Nat) : Bool :=
  (p == s.managerPair && (List.range 3).any (fun m => s.flag (NODE_CMDSTAT.busy m))) || (SMap.getD s.cru.ops p none).isSome

/-- Pair p moves onto the physical pair behind spare number q, which then names the retired one (R494). -/
def State.movePair (s : State) (p q : Nat) : State :=
  let old := s.get (WEAR_PAIRMAP.phys p)
  let new := s.get (WEAR_PAIRMAP.phys q)
  let s := s.puts [(WEAR_PAIRMAP.phys p, new), (WEAR_PAIRMAP.phys q, old)]
  (s.retire (0x0400 + 2 * old)).zero WEAR_STATUS.blocked

/-- PAIR_ANNEAL of pair p (R494): a standby or halted pair at once; a running one at a long enough seam. -/
def execPairAnneal (p : Fin 10) (s : State) : Out :=
  let key := 0x0400 + 2 * s.get (WEAR_PAIRMAP.phys p)
  match s.sparePairs with
  | [] => fin s
  | q :: _ =>
    if q = p.val ∨ (s.dueList.find? (fun k => wearPool k == some 14)) ≠ some key ∨ s.nodeState = nsBOOT then fin s
    else if s.get (CORE_STAT.role p) = 2 ∨ s.pairHalted p = true then fin (s.movePair p q)
    else if s.get RING_SEAM.len < 20 then fin (s.raise WEAR_STATUS.blocked)
    else if !s.annealTurn key || s.pairBusy p then fin s
    else
      let s := (s.noteAnneal 14).movePair p q
      fin (if p.val = s.managerPair ∧ s.core.wdog.isSome = true then s.startWatchdog else s)

/-! ### Commands (R498) -/

/-- The status of WEAR_CTL.anneal for the element in WEAR_SEL, in the order of R13. -/
def State.annealStatus (s : State) (key : Nat) : Nat :=
  let kinds := [some 0, some 3, some 4, some 5]
  if !kinds.contains (wearKind key) || s.isSpare key || s.isRetired key then stRANGE
  else if s.sparesLeft key = 0 then stSTATE
  else if s.isDue key then stBUSY
  else stOK

/-- A write of WEAR_CTL. -/
def State.wearCtl (s : State) (o : Origin) (w : Nat) : State :=
  if s.foreignCore o then s.done o stAUTH
  else
    let key := s.unitKey (s.get WEAR_SEL.unit)
    let t := if bit w 1 then { s with wear := { s.wear with forced := s.wear.forced.filter (· != key) } } else s
    let st := if bit w 0 then t.annealStatus key else stOK
    if st = stOK then
      let t := if bit w 0 then { t with wear := { t.wear with forced := t.wear.forced ++ [key] } } else t
      (t.put WEAR_STATUS.last_status st).done o st
    else
      let s := s.put WEAR_STATUS.last_status st
      if st = stSTATE then s.refuse o WEAR_REFUSED.count else s.done o st

/-- ANNEAL (R498). -/
def execAnneal (o : Origin) (w : Nat) (s : State) : Out := fin (s.wearCtl o (withBit w 0))

/-- CANCEL (R498). -/
def execCancel (o : Origin) (w : Nat) (s : State) : Out := fin (s.wearCtl o (withBit w 1))

/-! ### Forecasts (R499) -/

/-- The least-squares loss of score in 0.01 points per 1,000 h, as numerator and denominator. -/
def lossOf (l : List (Nat × Nat)) : Int × Nat :=
  let n := l.length
  let h := (l.map (·.1)).sum
  let v := (l.map (·.2)).sum
  let hv := (l.map (fun x => x.1 * x.2)).sum
  let hh := (l.map (fun x => x.1 * x.1)).sum
  (((h * v : Nat) : Int) * 100000 - ((n * hv : Nat) : Int) * 100000, n * hh - h * h)

/-- The slope of an element: over the last 2,000 powered hours, or from time zero, where the score was 255. -/
def State.slope (s : State) (key : Nat) : Nat :=
  let l := (s.gauge key).hist.filter (fun x => decide (s.hours ≤ x.1 + 2000))
  let l := if s.hours < 2000 ∧ l ≠ [] then (0, 255) :: l else l
  let x := lossOf l
  if x.2 = 0 ∨ x.1 = 0 then 0
  else if 0 ≤ x.1 ∧ x.1 % x.2 = 0 then min 65535 (x.1 / x.2).toNat
  else Config.roundSlope x.1 x.2 % 65536

/-- The forecast of an element in hours. -/
def State.forecast (s : State) (key : Nat) : Nat :=
  let score := (s.gauge key).score
  let thr := s.wearThr key
  if score ≤ thr then 0
  else if s.slope key = 0 then 0xFFFFFFFF
  else min 0xFFFFFFFF ((score - thr) * 100000 / s.slope key)

/-- Put a number into a rising list. -/
def insertNat (x : Nat) : List Nat → List Nat
  | [] => [x]
  | y :: l => if x ≤ y then x :: y :: l else y :: insertNat x l

/-- The life of pool i: the forecast of the (left + 1)-th earliest crossing among its elements in service. -/
def State.poolLife (s : State) (i : Nat) : Nat :=
  let keys := (s.wear.gauges.map (·.1)).filter (fun k => wearPool k == some i && !s.isRetired k && !s.isSpare k)
  let l := (keys.map s.forecast).foldl (fun l x => insertNat x l) []
  l.getD (s.get (WEAR_POOL.left i)) 0xFFFFFFFF

/-- The lowest pool life and the pool that sets it. -/
def State.wearLife (s : State) : Nat × Nat :=
  (List.range 38).foldl (fun m i => if s.poolLife i < m.1 then (s.poolLife i, i) else m) (0xFFFFFFFF, 0)

/-- The WEAR registers that show all this (R500). -/
def State.showWear (s : State) : State :=
  let key := s.unitKey (s.get WEAR_SEL.unit)
  let known := (wearKind key).isSome
  let v := fun (x : Nat) => if known then x else 0
  let life := s.wearLife
  s.puts [(WEAR_UNIT0.score, v (s.gauge key).score), (WEAR_UNIT0.thr, v (s.wearThr key)), (WEAR_UNIT0.state, s.wearState key),
    (WEAR_UNIT1.slope, v (s.slope key)), (WEAR_UNIT2.forecast, v (s.forecast key)), (WEAR_UNIT3.raw, v (s.gauge key).raw),
    (WEAR_STATUS.due, min 255 s.dueList.length), (WEAR_STATUS.annealing, b2n s.wear.copying.isSome), (WEAR_LIFE.hours, life.1),
    (WEAR_LIFEPOOL.pool, life.2), (WEAR_HOURS.hours, s.hours)]

end Sys2Proof.Machine
end

