-- ==== Sys2Proof/Machine/RegWrite.lean ====
section
/-! DEFINITION. Machine/RegWrite.lean: REGISTER_WRITE, a write access to the node space (R6 to R9, R268 to R270). A register
whose write is a command of its own is served by the operation of that command. -/

namespace Sys2Proof.Machine

/-- What beside its fields a write of a plain register does: freeing entries of a host ring (R278) or of a core event ring
(R373), sending a pending vector whose mask a write of the MSI-X table clears (R279), and a shaper that starts afresh
(R339). -/
def State.afterWrite (s old : State) (a : Nat) : State :=
  if a = HOST_EVQ_RD.addr then
    let size := 2 ^ (s.get HOST_EVQ_CFG.n + 6)
    { s with host := { s.host with evq := ringFree s.host.evq size (old.get HOST_EVQ_RD.rd) (s.get HOST_EVQ_RD.rd) } }
  else if 0x304000 ≤ a ∧ a < 0x304800 ∧ a % 0x20 = 0x10 then
    let j := (a - 0x304000) / 0x20
    s.setRq j (ringFree (s.rq j) (s.rqSize j) (old.get (HOST_RQ_RD.rd j)) (s.get (HOST_RQ_RD.rd j)))
  else if 0x302000 ≤ a ∧ a < 0x303000 ∧ a % 16 = 12 then
    let v := (a - 0x302000) / 16
    if bit (s.get (MSIX_PBA.word (v / 32))) (v % 32) && !bit (s.get (MSIX_TABLE.word v 3)) 0 then
      (s.put (MSIX_PBA.word (v / 32)) (setBit (s.get (MSIX_PBA.word (v / 32))) (v % 32) false)).vector v
    else s
  else if 0x420000 ≤ a ∧ a < 0x422000 then
    { s with gates := { s.gates with next := SMap.set s.gates.next ((a - 0x420000) / 8) none none } }
  else if 0x800000 ≤ a ∧ a < 0x8A0000 ∧ a % 0x10000 = 0x20 then
    let p := (a - 0x800000) / 0x10000
    let n := (s.get (CORE_EVWR.wr p) + 64 - s.get (CORE_EVRD.rd p)) % 64
    { s with core := { s.core with unread := SMap.set s.core.unread p n 0 } }
  else s

/-- The register is guarded: a core pair other than the live manager pair may not write it (R24 and the register maps). -/
def guarded (a : Nat) : Bool :=
  [0x30000, 0x40020, 0x100000, 0x200000, 0x208000, 0x209000, 0x20000, 0x60000].contains a ||
  (decide (0x1000000 ≤ a) && decide (a < 0x1C00000) && a % 0x100000 == 0) ||
  (decide (0x2000000 ≤ a) && decide (a < 0x3000000) && a % 0x400000 == 0) ||
  (decide (0x401000 ≤ a) && decide (a < 0x401400) && a % 0x100 == 0xC) ||
  (decide (0x12000 ≤ a) && decide (a < 0x12400))

/-- The originator may write the register: not the guarded ones from a foreign core pair (R24), a mailbox only from its own
originators (R282), an operation port only from its own pair (R409). -/
def State.mayWrite (s : State) (o : Origin) (a : Nat) : Bool :=
  if guarded a then !s.foreignCore o
  else if 0x100 ≤ a ∧ a < 0x1C0 then s.mailboxOf o ((a - 0x100) / 0x40)
  else if 0x30400 ≤ a ∧ a < 0x30540 then
    match o with
    | .core c => c.val / 2 == (a - 0x30400) / 0x20
    | _ => false
  else true

/-- A write of a plain register. -/
def State.plainWrite (s : State) (o : Origin) (a w : Nat) : State :=
  if s.mayWrite o a then ((s.writeReg o a w).afterWrite s a).done o stOK else s.done o stAUTH

/-- A write in the block of cluster k at offset x that is a command of its own row. -/
def State.clusterWrite (s : State) (k : Fin 12) (o : Origin) (x w : Nat) : Option Out :=
  if x = 0 then (if bit w 0 then some (accClReset k o s) else none)
  else if 0x80000 ≤ x ∧ x < 0x89000 then
    let n : Fin 9 := Fin.ofNat 9 ((x - 0x80000) / 0x1000)
    let y := x % 0x1000
    if y = 0 then some (fin (s.peCtlWrite k n o w))
    else if 0x20 ≤ y ∧ y < 0x44 then some (accPeStateWrite k n (Fin.ofNat 9 ((y - 0x20) / 4)) o w s)
    else if 0x400 ≤ y ∧ y < 0x600 then some (accPeProgWrite k n (Fin.ofNat 128 ((y - 0x400) / 4)) o w s)
    else none
  else if x = 0xC00 ∨ x = 0xC40 then some (fin (s.canCfgWrite k ((x - 0xC00) / 0x40) o w))
  else if 0x1000 ≤ x ∧ x < 0x1800 then
    let q : Fin 32 := Fin.ofNat 32 ((x - 0x1000) / 0x40)
    let y := x % 0x40
    if y = 0x4 ∧ bit w 31 = true then some (accQReset k q o w s)
    else if y = 0x18 then some (accQpush k q o w s)
    else if y = 0x1C then some (accQpushend k q o w s)
    else if y = 0x20 then some (accQpusherr k q o w s)
    else none
  else none

/-- A write in the bridge register set of region r at offset x that is a command of its own row. -/
def State.bridgeWrite (s : State) (r : Fin 4) (o : Origin) (x w : Nat) : Option Out :=
  if x = 0 then (if bit w 0 then some (execStageClear r o s) else none)
  else if 0x1000 ≤ x ∧ x < 0x1800 ∧ x % 0x100 = 0x14 then
    some (fin (s.chCtlWrite (8 * r.val + (x - 0x1000) / 0x100) o w))
  else if 0x20000 ≤ x ∧ x < 0x24000 then
    some (execRouteStageWrite r (Fin.ofNat 1024 ((x - 0x20000) / 16)) (Fin.ofNat 4 (x % 16 / 4)) o w s)
  else none

/-- The operation that a write of CRU_OPCMD[p] with go starts (R409); an opcode that is not listed ends ILLEGAL. -/
def State.opWrite (s : State) (p : Nat) (o : Origin) (w : Nat) : Out :=
  let op := bits w 0 8
  if 1 ≤ op ∧ op ≤ 10 then fin (s.opStart p o op w)
  else fin ((if s.mayWrite o (CRU_OPCMD.addr p) then s.put (CRU_OPSTAT.status p) stILLEGAL else s).done o stILLEGAL)

/-- A write in the blocks of die S below 16 MiB that is a command of its own row. -/
def State.hubWrite (s : State) (o : Origin) (a w : Nat) : Option Out :=
  if 0x100 ≤ a ∧ a < 0x1C0 ∧ (a - 0x100) % 0x40 = 0 then some (execNodeCmd (Fin.ofNat 3 ((a - 0x100) / 0x40)) o w s)
  else if a = NODE_SLEEPCTL.addr then some (fin (s.sleepCtl o w))
  else if a = FLT_CTL.addr then some (fin (s.fltCtl o w))
  else if a = FLT_PIN.addr then some (execPinHoldWrite o w s)
  else if 0x12000 ≤ a ∧ a < 0x12400 then (if bit w 0 then some (execInject ((a - 0x12000) / 4) o w s) else none)
  else if a = TIM_CTL.addr then (if bits w 0 3 = 0 then none else some (fin (s.timCtl o w)))
  else if a = TIM_HOSTCAP.addr then (if bit w 0 then some (execHostcap o s) else none)
  else if a = TIM_HOSTADJ_HI.addr then some (execHostadjSubmit o w s)
  else if a = CRU_CTL.addr then some (fin (s.cruCtl o w []))
  else if 0x30400 ≤ a ∧ a < 0x30540 ∧ a % 0x20 = 0 then
    (if bit w 31 then some (s.opWrite ((a - 0x30400) / 0x20) o w) else none)
  else if a = CST_CTL.addr then (if bit w 0 then some (execSave o s) else none)
  else if 0x50100 ≤ a ∧ a < 0x50300 ∧ a % 0x20 = 0 then some (fin (s.feedCtl ((a - 0x50100) / 0x20) o w))
  else if a = WEAR_CTL.addr then (if bits w 0 2 = 0 then none else some (fin (s.wearCtl o w)))
  else if a = QCH_CTL.addr then some (fin (s.qchCtl o w))
  else if a = QCH_TMATCH_HI.addr then some (execTmatchArm o w s)
  else if a = SW_CTL.addr then (if bits w 0 2 = 0 then none else some (fin (s.swCtl o w)))
  else if a = SW_CAPRD.addr then some (execCaprdWrite o w s)
  else if a = SW_CAPCFG.addr ∧ bit w 4 = true then some (execCaptureResume o w s)
  else if 0x120000 ≤ a ∧ a < 0x124000 then
    some (execFlowStageWrite false (Fin.ofNat 1024 ((a - 0x120000) / 16)) (Fin.ofNat 4 (a % 16 / 4)) o w s)
  else if 0x150000 ≤ a ∧ a < 0x151000 then
    some (execFlowStageWrite true (Fin.ofNat 1024 ((a - 0x150000) / 16)) (Fin.ofNat 4 (a % 16 / 4)) o w s)
  else if a = RING_CTL.addr then (if bits w 0 3 = 0 then none else some (fin (s.ringCtl o w)))
  else if a = 0x208000 ∨ a = 0x209000 then
    (if bits w 0 5 = 0 then none else some (fin (s.linkCtl ((a - 0x208000) / 0x1000) o w)))
  else if a = HOST_IF_VERSION.addr then some (execIfVersionWrite o w s)
  else if 0x310000 ≤ a ∧ a < 0x314000 ∧ a % 0x40 = 0x10 then
    (if bit w 31 then some (execTsIssue (Fin.ofNat 256 ((a - 0x310000) / 0x40)) o w s) else none)
  else if 0x401000 ≤ a ∧ a < 0x401400 ∧ a % 0x100 = 0xC then
    (if bits w 0 2 = 0 then none else some (fin (s.gateCtl ((a - 0x401000) / 0x100) o w)))
  else if 0x410000 ≤ a ∧ a < 0x414000 ∧ 0x800 ≤ a % 0x1000 then
    some (execGateStageWrite (Fin.ofNat 4 ((a - 0x410000) / 0x1000)) (Fin.ofNat 256 ((a % 0x1000 - 0x800) / 8))
      (Fin.ofNat 2 (a % 8 / 4)) o w s)
  else if 0x800000 ≤ a ∧ a < 0x8A0000 then
    let p : Fin 10 := Fin.ofNat 10 ((a - 0x800000) / 0x10000)
    let x := a % 0x10000
    if x = 0 then (if bits w 0 3 = 0 then some (fin (if s.foreignCore o then s.done o stAUTH else s.done o stOK))
      else some (fin (s.coreCtl p o w)))
    else if x = 0x28 then some (execDoorbell p o w s)
    else if x = 0x2C then some (execDbclr p o w s)
    else none
  else if a = CORE_WDOG.addr ∧ bit w 31 = true then some (execKick o w s)
  else none

/-- A write of a register that is a command of its own row. -/
def State.ownWrite (s : State) (o : Origin) (a w : Nat) : Option Out :=
  if 0x1000000 ≤ a ∧ a < 0x1C00000 then
    s.clusterWrite (Fin.ofNat 12 ((a - 0x1000000) / 0x100000)) o (a % 0x100000) w
  else if 0x2000000 ≤ a ∧ a < 0x3000000 then
    s.bridgeWrite (Fin.ofNat 4 ((a - 0x2000000) / 0x400000)) o (a % 0x400000) w
  else if a < 0x1000000 then s.hubWrite o a w
  else none

/-- A little-endian word. -/
def leWord (bs : List Nat) : Nat := bs.foldr (fun b v => b % 256 + 256 * v) 0

/-- A write of a transaction slot or of the bench port is acknowledged, any other posted (R130). -/
def ackedBy : Origin → Bool
  | .slot => true
  | .bench => true
  | _ => false

/-- REGISTER_WRITE: originator o writes bytes from an offset of this node's space (R6 to R9, R268). A bridge window, a TCM
window, bulk RAM and the read-only views are no registers and follow their own rules (R122, R269, R270, R390). -/
def accRegisterWrite (o : Origin) (a : Nat) (bs : List Nat) (s : State) : Out :=
  let n := bs.length
  if !s.mapped a then fin (s.addrFault o a 2)
  else if 0x8000000 ≤ a ∧ a < 0x8600000 ∨ 0xE000000 ≤ a then fin (s.addrFault o a 2)
  else if 0xC000000 ≤ a then
    (if n = 0 ∨ 4096 < n then fin (s.done o stILLEGAL)
    else if !inBulk a n then fin (s.addrFault o a 2)
    else fin ((s.setBytes a bs).done o stOK))
  else if 0x3000000 ≤ a then
    execWindowAccess (Fin.ofNat 32 ((a - 0x3000000) / 0x100000)) o s.nodeId true (ackedBy o) (a % 0x100000) n bs none none s
  else if 0xC00000 ≤ a ∧ a < 0x1000000 then
    execTcmWindowWrite (Fin.ofNat 4 ((a - 0xC00000) / 0x100000)) o (Fin.ofNat 0x100000 (a % 0x100000)) bs s
  else if n ≠ 4 ∨ a % 4 ≠ 0 then fin (s.done o stILLEGAL)
  else
    match s.ownWrite o a (leWord bs) with
    | some r => r
    | none => fin (s.plainWrite o a (leWord bs))

end Sys2Proof.Machine
end

