-- ==== Sys2Proof/Machine/Access.lean ====
section
/-! DEFINITION. Machine/Access.lean: accesses to the block of a cluster that may sleep: they wake it, and one that finds it in
NAP or GATED completes after the wake (R430, R436). -/

namespace Sys2Proof.Machine

/-- An access c to the block of cluster k, with the effect f. A sleeping cluster wakes; in NAP and GATED the access is kept until
the cluster runs (R430, R436). -/
def State.access (s : State) (k : Nat) (c : Instr) (f : State → Out) : Out :=
  if s.get (NODE_CLSLEEP.depth k) < spNAP then f (s.wakeCluster k wkACCESS)
  else
    let t := if s.slp.stowed then s else s.wakeCluster k wkACCESS
    fin { t with slp := { t.slp with accesses := t.slp.accesses ++ [(k, c)] } }

/-- The first kept access whose cluster runs again, and the state without it (R436). -/
def State.readyAccess (s : State) : Option (Instr × State) :=
  (s.slp.accesses.find? (fun e => decide (s.get (NODE_CLSLEEP.depth e.1) < spNAP))).map (fun e =>
    (e.2, { s with slp := { s.slp with accesses := s.slp.accesses.erase e } }))

/-- PE_START (R80): an access to Kk. -/
def execPeStart (k : Fin 12) (n : Fin 9) (o : Origin) (w : Nat) (s : State) : Out :=
  s.access k (.peStart k n o w) (accPeStart k n o w)

/-- PE_HALT (R80): an access to Kk. -/
def execPeHalt (k : Fin 12) (n : Fin 9) (o : Origin) (w : Nat) (s : State) : Out :=
  s.access k (.peHalt k n o w) (accPeHalt k n o w)

/-- PE_STEP (R80): an access to Kk. -/
def execPeStep (k : Fin 12) (n : Fin 9) (o : Origin) (w : Nat) (s : State) : Out :=
  s.access k (.peStep k n o w) (accPeStep k n o w)

/-- SWAP_REQ (R73): an access to Kk. -/
def execSwapReq (k : Fin 12) (n : Fin 9) (o : Origin) (w : Nat) (s : State) : Out :=
  s.access k (.swapReq k n o w) (accSwapReq k n o w)

/-- SWAP_CANCEL (R73): an access to Kk. -/
def execSwapCancel (k : Fin 12) (n : Fin 9) (o : Origin) (w : Nat) (s : State) : Out :=
  s.access k (.swapCancel k n o w) (accSwapCancel k n o w)

/-- FORCE (R75, R79): an access to Kk. -/
def execForce (k : Fin 12) (n : Fin 9) (o : Origin) (w : Nat) (s : State) : Out :=
  s.access k (.force k n o w) (accForce k n o w)

/-- PE_UNIT_RESET (R23, R80): an access to Kk. -/
def execPeUnitReset (k : Fin 12) (n : Fin 9) (o : Origin) (w : Nat) (s : State) : Out :=
  s.access k (.peUnitReset k n o w) (accPeUnitReset k n o w)

/-- PE_PROG_WRITE of word i (R71, R72, R77): an access to Kk. -/
def execPeProgWrite (k : Fin 12) (n : Fin 9) (i : Fin 128) (o : Origin) (w : Nat) (s : State) : Out :=
  s.access k (.peProgWrite k n i o w) (accPeProgWrite k n i o w)

/-- PE_STATE_WRITE of the r-th engine state register, PE_X to PE_TAG (R82): an access to Kk. -/
def execPeStateWrite (k : Fin 12) (n : Fin 9) (r : Fin 9) (o : Origin) (w : Nat) (s : State) : Out :=
  s.access k (.peStateWrite k n r o w) (accPeStateWrite k n r o w)

/-- CL_RESET: a write of CL_CTL.cl_reset (R24, R87, R115): an access to Kk. -/
def execClReset (k : Fin 12) (o : Origin) (s : State) : Out :=
  s.access k (.clReset k o) (accClReset k o)

/-- QPUSH: the value with tag 0 (R107): an access to Kk. -/
def execQpush (k : Fin 12) (q : Fin 32) (o : Origin) (w : Nat) (s : State) : Out :=
  s.access k (.qpush k q o w) (accQpush k q o w)

/-- QPUSHEND: the value with tag END (R107): an access to Kk. -/
def execQpushend (k : Fin 12) (q : Fin 32) (o : Origin) (w : Nat) (s : State) : Out :=
  s.access k (.qpushend k q o w) (accQpushend k q o w)

/-- QPUSHERR: the value with tag ERR (R107): an access to Kk. -/
def execQpusherr (k : Fin 12) (q : Fin 32) (o : Origin) (w : Nat) (s : State) : Out :=
  s.access k (.qpusherr k q o w) (accQpusherr k q o w)

/-- QPOP (R104, R110, R111): an access to Kk. -/
def execQpop (k : Fin 12) (q : Fin 32) (o : Origin) (s : State) : Out :=
  s.access k (.qpop k q o) (accQpop k q o)

/-- Q_RESET: a write of CL_QCTL with q_reset (R112, R115): an access to Kk. -/
def execQReset (k : Fin 12) (q : Fin 32) (o : Origin) (w : Nat) (s : State) : Out :=
  s.access k (.qReset k q o w) (accQReset k q o w)

/-- BURST_READ of len bytes at offset ofs of queue q's view (R269): an access to Kk. -/
def execBurstRead (k : Fin 12) (q : Fin 32) (o : Origin) (ofs len : Nat) (s : State) : Out :=
  s.access k (.burstRead k q o ofs len) (accBurstRead k q o ofs len)

/-- PADSTAMP_READ of word r of pad p: a low word freezes the high word of its polarity until that is read (R115): an access to Kk. -/
def execPadstampRead (k : Fin 12) (p : Fin 32) (r : Fin 4) (o : Origin) (s : State) : Out :=
  s.access k (.padstampRead k p r o) (accPadstampRead k p r o)

/-- CAN_RECOVER: a write of CL_CANCFG with recover = 1 (R102): an access to Kk. -/
def execCanRecover (k : Fin 12) (j : Fin 2) (o : Origin) (w : Nat) (s : State) : Out :=
  s.access k (.canRecover k j o w) (accCanRecover k j o w)

/-- CAN_MODE_WRITE: a write of CL_CANCFG (R115, R463): an access to Kk. -/
def execCanModeWrite (k : Fin 12) (j : Fin 2) (o : Origin) (w : Nat) (s : State) : Out :=
  s.access k (.canModeWrite k j o w) (accCanModeWrite k j o w)

/-- REGISTER_WRITE: originator o writes bytes from an offset of this node's space (R6 to R9, R268). A bridge window, a TCM
window, bulk RAM and the read-only views are no registers and follow their own rules (R122, R269, R270, R390). One in the block of a cluster is an access to it. -/
def execRegisterWrite (o : Origin) (a : Nat) (bs : List Nat) (s : State) : Out :=
  if 0x1000000 ≤ a ∧ a < 0x1C00000 then s.access ((a - 0x1000000) / 0x100000) (.registerWrite o a bs) (accRegisterWrite o a bs)
  else accRegisterWrite o a bs s

end Sys2Proof.Machine
end

