-- ==== Sys2Proof/Machine/Exchange.lean ====
section
/-! DEFINITION. Machine/Exchange.lean: the key exchange of a protected link: the checks of the peer's certificate and signature, the
keys, and the change of phase (R213, R214, R395, R399, R403). -/

namespace Sys2Proof.Machine

/-- Both capability words as bytes, the East end's first (R213): the East end is the one whose port is its East port. -/
def State.capBytes (s : State) (p : Nat) : List Nat :=
  let own := leBytes 7 (s.capLocal p)
  let peer := leBytes 7 (s.capPeer p)
  if p = 0 then own ++ peer else peer ++ own

/-- What an exchange signature covers (R213): both capability words and both public keys, the East end's first (log 265). -/
def State.exchangeText (s : State) (p : Nat) (peerPub : List Nat) : List Nat :=
  let own := publicKey 4 (s.link p).ephemeral
  s.capBytes p ++ (if p = 0 then own ++ peerPub else peerPub ++ own)

/-- A part of a certificate. -/
def certPart (m : Exchange) (o n : Nat) : List Nat := (m.cert.drop o).take n

/-- Both signatures of the certificate's signature block verify under the issuer's keys (R346, R398, R399). -/
def certSigned (m : Exchange) : Bool :=
  let issuer := ofBytes (certPart m 32 2)
  let body := m.cert.take 2088
  match Config.deviceKey issuer with
  | none => false
  | some k => certPart m 2088 4 == [0x50, 0x4C, 0x47, 0x53] && ofBytes (certPart m 2092 2) == issuer &&
      verifies 3 k.1 body (certPart m 2096 96) && verifies 5 k.2 body (certPart m 2192 3309)

/-- The checks of R399 on what the peer has sent. -/
def State.exchangeOk (s : State) (p : Nat) (m : Exchange) : Bool :=
  let text := s.exchangeText p m.pub
  certPart m 0 4 == [0x50, 0x4C, 0x47, 0x4D] && certPart m 4 1 == [1] && ofBytes (certPart m 16 2) == 0x9664 && certSigned m &&
    certTag m.cert == bits (s.capPeer p) 32 16 &&
    verifies 3 (certPart m 36 97) text m.ecdsa && verifies 5 (certPart m 136 1952) text m.mldsa

/-- This end holds no domain key (R403). -/
def State.noDomainKey (s : State) : Bool := (s.keySlot idDOMAIN [2]).isNone

/-- The link salt: 48 zero bytes where either end holds no domain key (R395, R403). -/
def State.linkSalt (s : State) (m : Exchange) : List Nat :=
  if m.zero || s.noDomainKey then List.replicate 48 0
  else ((s.keySlot idSALT [2]).map s.slotMat).getD (List.replicate 48 0)

/-- The 72 bytes of an exchange (R213): key and IV salt for what the East end sends, then for what the West end sends. -/
def State.exchangeKeys (s : State) (p : Nat) (m : Exchange) : List Nat :=
  hkdf384 (s.linkSalt m) (ecdh (s.link p).ephemeral m.pub) (ascii "CHOGEN-LINK" ++ s.capBytes p) 72

/-- This end's signatures, and the byte after them whose bit 0 says that it holds no domain key (R213, R403). -/
def State.signExchange (s : State) (p : Nat) (m : Exchange) : State :=
  let text := s.exchangeText p m.pub
  (s.giveMgmt p (signature 3 (s.slotMat 0) text s.draws ++ signature 5 (s.slotMat 1) text s.draws ++
    [b2n s.noDomainKey])).draw

/-- The keys of an exchange take their session slots for a phase; false where no slot is free (R213, R393). -/
def State.takeKeys (s : State) (p phase : Nat) (m : Exchange) : State × Bool :=
  let okm := s.exchangeKeys p m
  let tx := okm.drop (36 * p)
  let rx := okm.drop (36 * (1 - p))
  let a := s.addSession p 0 phase (tx.take 32)
  let b := a.1.addSession p 1 phase (rx.take 32)
  let x := b.1.link p
  (b.1.setLink p { x with
    txSalts := SMap.set x.txSalts phase ((tx.drop 32).take 4) [], rxSalts := SMap.set x.rxSalts phase ((rx.drop 32).take 4) []
    restricted := m.zero || s.noDomainKey }, a.2 && b.2)

/-- The keys of a rekey take over the sending direction under the other phase, and the old sending key is dropped (R214, R216). -/
def State.switchPhase (s : State) (p : Nat) (m : Exchange) : State :=
  let old := s.get (RING_LSTAT.key_phase p)
  let r := s.takeKeys p (1 - old) m
  if !r.2 then s
  else
    let t := r.1.dropSession p 0 old
    (t.setLink p { t.link p with rekey := none, txCtr := 0 }).put (RING_LSTAT.key_phase p) (1 - old)

/-- This end's signature sheets can leave now: nothing waits before them and the replay buffer has room for 14 (R203, R213). -/
def State.maySign (s : State) (p : Nat) : Bool :=
  let x := s.link p
  s.mayManage p && x.resend.isNone && decide (x.replay.length + 14 ≤ 64) && x.mgmt.isEmpty && x.mirrors.isEmpty &&
    x.partial_.isEmpty && !s.halfSent p 2

/-- What the peer sent is judged (R399): in SECURE its keys lead to UP in phase 0, or any failed check to DOWN with reason 0x5; a
rekey changes the phase (R214, R217). -/
def State.agree (s : State) (p : Nat) (m : Exchange) : State :=
  let s := s.signExchange p m
  if s.linkState p = lsSECURE then
    let r := s.takeKeys p 0 m
    if s.exchangeOk p m && r.2 then r.1.enterUp p else s.linkDown p 0x5
  else if s.exchangeOk p m then s.switchPhase p m else s

/-- KEYS_AGREED (R213, R214, R217): what the peer's link-management sheets carried, or none: they came damaged or incomplete, which
fails the checks. -/
def execKeysAgreed (p : Fin 2) (m : Option Exchange) (s : State) : Out :=
  match m with
  | some m =>
    let due := (s.linkState p == lsSECURE && decide (s.inState p ≤ 30000000)) || (s.linkUp p && (s.link p).rekey.isSome)
    fin (if due && s.maySign p then s.agree p m else s)
  | none => fin (if s.linkState p = lsSECURE then s.linkDown p 0x5 else s)

end Sys2Proof.Machine
end

