-- ==== Sys2Proof/Machine/Levels.lean ====
section
/-! DEFINITION. Machine/Levels.lean: the keep-alives of the die-to-die links, the resets and their releases (R20 to R25, R506 to
R508). -/

namespace Sys2Proof.Machine

/-- Port die d (0 P0, 1 P1, 2 W) takes keep-alives: die S runs and, for a port die, it is not in HIBERNATE or STOW (R431). -/
def State.keptAlive (s : State) (d : Nat) : Bool :=
  !s.pow.dieOff && (d == 2 || decide (s.get NODE_SLEEPSTAT.state < 3))

/-- KEEPALIVE_SEND on the link to P0, P1 or W (R21). -/
def execKeepaliveSend (d : Fin 3) (s : State) : Out :=
  if !s.keptAlive d then next s
  else next ({ s with lev := { s.lev with sent := setNth s.lev.sent d s.now } }.emit (.keepalive d))

/-- A port die without keep-alives parks its pads and halts its engines and CAN FD controllers until its die reset (R21); its
regions' switch ports are down (R157). -/
def State.dieLost (s : State) (d : Nat) : State :=
  (dieClusters (d + 1)).foldl (fun s k =>
    let s := s.withEdges k s.t125 (fun s => s.setCluster k { s.cluster k with dieParked := true })
    (List.range 2).foldl (fun s j => s.canStop k j) (s.haltCluster k hcPARK)) (s.regionsDown d)

/-- PORT_DIE_KEEPALIVE_LOST (R21, R431): no keep-alive for 1 µs. -/
def execPortDieKeepaliveLost (d : Fin 2) (s : State) : Out :=
  if !s.keptAlive d || decide (s.now < nth s.lev.sent d + 1000) || (s.cluster (6 * d.val)).dieParked then fin s
  else
    fin ((s.dieLost d).report { src := 0x04, master := unitDIE (d + 1), addr := s.domainAddr (0x1000000 + 0x600000 * d.val) })

/-- W_KEEPALIVE_LOST (R21): no keep-alive for 1 µs; die W keeps its gates and obeys no command. -/
def execWKeepaliveLost (s : State) : Out :=
  next (if s.now < nth s.lev.sent 2 + 1000 then s else { s with lev := { s.lev with wLost := true } })

/-- W_LINK_RETURN (R21): die W obeys commands again; what it has to report reaches die S. -/
def execWLinkReturn (s : State) : Out :=
  if !s.lev.wLost || s.pow.dieOff then fin s
  else
    let waiting := s.pow.waiting
    let s := { s with
      lev := { s.lev with wLost := false, sent := setNth s.lev.sent 2 s.now }
      pow := { s.pow with waiting := [] } }
    fin (waiting.foldl (fun s f => s.report f) s)

/-- RST_N_ASSERT (R25, R506): RST_N has been low for 1 µs. -/
def execRstNAssert (s : State) : Out :=
  if s.lev.rstLow then fin s
  else
    let s := { s with lev := { s.lev with rstLow := true } }
    fin (if s.pow.dieOff then s else s.nodeReset)

/-- RST_N_RELEASE (R506 to R508): the straps are read, and the node leaves reset. -/
def execRstNRelease (r1 r2 r3 : Straps) (s : State) : Out :=
  if !s.lev.rstLow then fin s
  else
    let s := { s with lev := { s.lev with rstLow := false } }
    fin (if s.pow.dieOff || !s.lev.inReset then s else s.readStraps r1 r2 r3 false)

/-- NODE_RESET_BEGIN (R23, R25, R507): a node reset; one that a reaction, the watchdog or a mailbox began has taken its effect
already. While RST_N is low it lasts; else the straps are read for its release. -/
def execNodeResetBegin (r1 r2 r3 : Straps) (s : State) : Out :=
  if s.pow.dieOff then fin s
  else
    let s := if s.lev.inReset && s.lev.strapsDue then s else s.nodeReset
    fin (if s.lev.rstLow then s else s.readStraps r1 r2 r3 false)

/-- POWER_ON_RESET of die S (R23): with VAUX lost too, the card must be seated and powered again before its release (R443, R455);
else the straps are read for it (R507). -/
def execPowerOnReset (vaux : Bool) (r1 r2 r3 : Straps) (s : State) : Out :=
  let s := s.powerReset vaux
  fin (if s.pow.dieOff || s.lev.rstLow then s else s.readStraps r1 r2 r3 true)

end Sys2Proof.Machine
end

