-- ==== Sys2Proof/Machine/Views.lean ====
section
/-! DEFINITION. Machine/Views.lean: what a read of the node space returns: registers that show typed state, the snapshot
(R478), bulk RAM, the TCM windows and the ingot staging view (R268, R270, R390). -/

namespace Sys2Proof.Machine

/-- The state that a snapshot shows (R478). -/
def State.ofSnapshot (s : State) (x : Snapshot) : State :=
  { s with
    regs := x.regs, pes := x.pes, queues := x.queues, clusters := x.clusters, chans := x.chans, sw := x.sw, time := x.time }

/-- CL_STATUS.parked shows that all pads of the cluster are parked, for whatever cause (R29, R89, R115). -/
def State.showParked (s : State) : State :=
  (List.range 12).foldl (fun t k => t.put (CL_STATUS.parked k) (b2n (s.clusterParked k))) s

/-- Read pointer, write pointer and GAP words of queue q of a latched cluster (R478): the pointers are word offsets in queue
RAM (log 63). -/
def State.queueWords (s : State) (k q : Nat) : List Nat :=
  let x := s.queue k q
  let base := s.get (CL_QCFG.base k q)
  let gap := if x.gapOpen then ((x.words.getLast?).map (·.data)).getD 0 else 0
  [(base + x.rd) % 2 ^ 14 + (base + x.wr) % 2 ^ 14 * 2 ^ 16, gap % 2 ^ 24 + b2n x.gapOpen * 2 ^ 31]

/-- The rails of die d (R19): VDD_S, VDD_SER at 0.90 V and at 1.20 V, VAUX; VDD_P and 12 VDDIO banks; VAUX and VIN sense. -/
def dieRails : List Nat := [4, 13, 13, 2]

/-- The die-to-die wire map of die d: both directions of its link with S; S itself shows link S–P0. -/
def dieLink (d : Nat) : Nat := if d = 0 then 0 else d - 1

/-- The cells queued at output o in class c (R164). -/
def State.outDepth (t : State) (o c : Nat) : Nat := ((List.range 9).map (fun u => t.queueCells (queueKey o u c))).sum

/-- The words of unit u in a snapshot whose state is t (R478). -/
def State.snapWords (t : State) (pads : List (Nat × Nat)) (naps : SMap (Option Nap)) (u : Nat) : List Nat :=
  let i := u % 256
  let regs := fun (l : List Nat) => l.map t.readWord
  match u / 256 with
  | 0x00 => if i ≠ 0 then [] else
      let tick := t.time
      regs ([NODE_STATE.addr] ++ (List.range 8).map FLT_CAP.addr) ++
        [timeFrac tick, timeNs tick, timeSec tick % 2 ^ 32, timeSec tick / 2 ^ 32 % 2 ^ 32] ++
        regs [TIM_SECOFS_LO.addr, TIM_SECOFS_HI.addr] ++
        (List.range 10).flatMap (fun o => (List.range 8).map (fun c => t.outDepth o c))
  | 0x01 => if 108 ≤ i then [] else
      let k := i / 9
      let n := i % 9
      regs [PE_STATUS.addr k n, PE_X.addr k n, PE_Y.addr k n, PE_C.addr k n, PE_T_LO.addr k n, PE_T_HI.addr k n,
        PE_SHIN.addr k n, PE_SHOUT.addr k n, PE_SHCNT.addr k n, PE_TAG.addr k n]
  | 0x02 => if 24 ≤ i then [] else regs [CL_CANSTAT.addr (i / 2) (i % 2)]
  | 0x03 => if 32 ≤ i then [] else
      regs [BRG_CHSTAT.addr (i / 8) (i % 8), BRG_CHERR0.addr (i / 8) (i % 8), BRG_CHERR1.addr (i / 8) (i % 8)]
  | 0x05 => if 10 ≤ i then [] else regs [RING_LANE.addr (i / 5) (i % 5)]
  | 0x07 => if 12 ≤ i then [] else
      let nap := SMap.getD naps i none
      let p := (nap.map (·.outs)).getD (pads.getD i (0, 0))
      let window := (nap.map (·.window)).getD t.window
      regs [CL_STATUS.addr i] ++ [(nap.map (·.levels)).getD (t.readWord (CL_PADLVL.addr i))] ++
        [p.2, p.1, window % 2 ^ 32, window / 2 ^ 32] ++
        (List.range 32).flatMap (fun q => t.queueWords i q)
  | 0x08 => if 4 ≤ i then [] else
      regs [BRG_STATUS.addr i] ++ [t.drainCount] ++ (List.range 8).map (fun n => t.readWord (BRG_CHSTAT.addr i n))
  | 0x09 => if 4 ≤ i then [] else
      (List.range (1 + nth dieRails i)).map (fun w => Config.dieMonitor i w t.time) ++
        regs [WEAR_D2D.addr (dieLink i) 0, WEAR_D2D.addr (dieLink i) 1]
  | _ => []

/-- A feed's limit times its shunt lies outside 5 mV to 100 mV (R457); a shunt of 0 acts as 1. -/
def State.ilimClamped (s : State) (n : Nat) : Bool :=
  let v := max 100 (min 4000 (s.get (FEED_CFG0.ilim n))) * max 1 (s.get (FEED_CFG2.shunt n))
  decide (v < 50000) || decide (1000000 < v)

/-- The registers that show typed state, brought up to date; in the cycle in which a slot's result completes its VALID still shows 0
(R277; log 298). -/
def State.shown (s : State) : State :=
  let s := (List.range 10).foldl (fun s o => (List.range 8).foldl (fun s c => s.put (SW_OQSTAT.depth o c) (s.outDepth o c)) s) s
  let s := (List.range 4).foldl (fun s g => (List.range 8).foldl (fun s c => s.put (ETH_GWMAX.wmax g c) (s.gwMax g c)) s) s
  let s := (List.range 4).foldl (fun s g => s.showGates g) s
  let s := s.puts [(ETH_GCFG.sync 0, 1), (ETH_GCFG.sync 1, 1)]
  let s := (List.range 16).foldl (fun s n => s.put (FEED_STAT.ilim_clamped n) (b2n (s.ilimClamped n))) s
  let s := match s.flt.snap with
    | none => s
    | some x =>
      let ws := (s.ofSnapshot x).showParked.snapWords x.pads x.naps (s.get QCH_SNAPSEL.unit)
      (List.range 128).foldl (fun s w => s.put (QCH_SNAP.word w) (nth ws w)) s
  let s := s.showParked.puts [(SW_FREE.free, s.freeCells), (SW_DRAIN.frames, s.drainCount), (SW_OSTAT.up 10, s.get SW_CAPCFG.en),
    (ETH_WHEEL.ptr, s.gates.ptr), (ETH_WHEEL.entries, s.gates.wheel.length), (ETH_WOVF.entries, s.gates.overflow.length),
    (CRU_STATUS.free, ((slots.drop 2).filter (fun i => s.slotState i == slEMPTY)).length), (CRU_STATUS.bad, s.cru.bad.length),
    (TIM_NOW0.fraction, timeFrac s.time), (TIM_NOW1.ns, timeNs s.time), (TIM_NOW2.s_lo, timeSec s.time),
    (TIM_NOW3.s_hi, timeSec s.time / 2 ^ 32)]
  let s := s.host.slots.foldl (fun s e => if e.2.doneAt = some s.now then s.put (HOST_TS_RESULT.valid e.1) 0 else s) s
  s.showWear

/-- The word that a read of the register at a node-space offset returns. -/
def State.readReg (s : State) (a : Nat) : Nat :=
  if CRU_CERT.addr 0 ≤ a ∧ a < CRU_CERT.addr 1376 then ofBytes (s.cert (a - CRU_CERT.addr 0) 4) else s.shown.readWord a

/-- Status and word of a register read of n bytes at offset a: of any other width or alignment it is ILLEGAL (R6). -/
def State.readAccess (s : State) (a n : Nat) : Nat × Nat :=
  if readLegal a n then (stOK, s.readReg a) else (stILLEGAL, 0)

/-- The byte that a read of a node-space offset outside the registers returns: bulk RAM, the ingot staging view, a TCM
window (R270, R390). -/
def State.readByte (s : State) (a : Nat) : Nat :=
  if inBulk a 1 then s.byte a
  else if 0xE000000 ≤ a ∧ a < 0xF000000 then s.flashByte (stagingBase + (a - 0xE000000))
  else if 0xC00000 ≤ a ∧ a < 0x1000000 then
    nth (s.coreRead (s.get (CORE_WINSEL.pair ((a - 0xC00000) / 0x100000))) (a % 0x100000) 1) 0
  else 0

end Sys2Proof.Machine
end

