-- ==== Sys2Proof/Machine/Serve.lean ====
section
/-! DEFINITION. Machine/Serve.lean: frames leave the outputs of the switch core (R165, R188, R342), and a READ frame that leaves for a
unit of this node is answered there (R6, R263, R268, R270, R277, R402, R436). -/

namespace Sys2Proof.Machine

/-- A read that a command of its own makes: of a bridge window, a burst view, the node-time words, CL_QPOP and CL_PADSTAMP. -/
def ownRead (a : Nat) : Bool :=
  let o := a % 0x100000
  (decide (0x3000000 ≤ a) && decide (a < 0x5000000)) || (decide (0x8000000 ≤ a) && decide (a < 0x8600000)) ||
  (decide (0x20010 ≤ a) && decide (a < 0x20020)) ||
  (decide (0x1000000 ≤ a) && decide (a < 0x1C00000) &&
    ((decide (0x800 ≤ o) && decide (o < 0xA00)) || (decide (0x1000 ≤ o) && decide (o < 0x1800) && o % 0x40 == 0x10)))

/-- A block covers the n bytes at an offset: bulk RAM all of them (R268, R270). -/
def State.readCovered (s : State) (a n : Nat) : Bool :=
  s.mapped a && (inBulk a n || !(decide (0xC000000 ≤ a) && decide (a < 0xC200000)))

/-- The answer to a READ frame: a COMPL with a status and data (R234). -/
def State.answerRead (s : State) (f : Frame) (status detail : Nat) (data : List Nat) : State :=
  s.toSwitch 5 { frame := s.complFrame f status detail 0 data, route := .addr }

/-- A READ of an offset that no block covers returns 0 and is reported as ADDR; a request that carries a status receives FAULT with
detail 0x0F, one of the host or the bench port does not (R268). -/
def State.unmappedRead (s : State) (f : Frame) : State :=
  let u := frameUnit f
  let zeros := List.replicate (2 ^ (f.a % 16)) 0
  let s := s.fault { src := 0x21, master := u, addr := frameAddr f, acc := 1, status := stFAULT, detail := 0x0F }
  if u = 0x0020 ∨ u = 0x0002 then s.answerRead f stOK 0 zeros else s.answerRead f stFAULT 0x0F zeros

/-- A READ frame that has reached the unit that owns its offset is answered (R6, R263, R268, R270). -/
def State.serveRead (s : State) (f : Frame) : State :=
  let a := frameAddr f % 2 ^ 28
  let n := 2 ^ (f.a % 16)
  if !s.readCovered a n then s.unmappedRead f
  else if ownRead a then s
  else if registerOfs a then
    let r := s.readAccess a n
    s.answerRead f r.1 0 (if r.1 = stOK then leBytes 4 r.2 else [])
  else s.answerRead f stOK 0 ((List.range n).map (fun i => s.readByte (a + i)))

/-- A mailbox relay message has arrived (R402): a 4-byte read or write of this node's NODE or CRU block, or the answer to a read of the
head. -/
def State.serveRelay (s : State) (f : Frame) : State :=
  let ofs := ofBytes (f.b.take 4)
  let tag := nth f.b 4
  if nth f.b 5 = mrANSWER then
    match s.host.reads.find? (fun r => r.tag % 256 == tag) with
    | some r => s.complRead r { f with ftype := 5, a := nth f.b 6, b := [] }
    | none => s.bump HOST_DROP.late
  else if !relayOfs ofs then s
  else if nth f.b 5 = mrWRITE then
    match execRegisterWrite .host ofs (f.payload.take 4) s with
    | .next t => t
    | _ => s
  else
    let r := s.readAccess ofs 4
    s.toRing (s.relayFrame f.src ofs tag mrANSWER r.1 (leBytes 4 r.2))

/-- The cluster whose block a READ frame names. -/
def readCluster (f : Frame) : Option Nat :=
  let a := frameAddr f % 2 ^ 28
  if f.ftype = 2 ∧ 0x1000000 ≤ a ∧ a < 0x1C00000 then some ((a - 0x1000000) / 0x100000) else none

/-- The head of a queue leaves output o; a READ frame for this node is answered, once the cluster that it names is awake (R436). -/
def State.sendServed (s : State) (o u c : Nat) : State :=
  match s.swQueue (queueKey o u c) with
  | [] => s
  | x :: _ =>
    match (readCluster x.frame).filter (fun k => decide (2 ≤ o ∧ spNAP ≤ s.get (NODE_CLSLEEP.depth k))) with
    | some k => if s.slp.stowed then s else s.wakeCluster k wkACCESS
    | none =>
      let t := s.sendHead o u c
      if 2 ≤ o ∧ x.frame.ftype = 2 then t.serveRead x.frame
      else if o = 5 ∧ x.frame.ftype = 0xA ∧ x.frame.a = 0x20 then t.serveRelay x.frame
      else t

/-- FRAME_SELECT (R165, R188, R189, R342). -/
def execFrameSelect (o : Fin 10) (s : State) : Out :=
  let s := s.countWaits o
  if o.val < 2 then fin (if !s.linkUp (s.wayOut o) then s else s.selectRing o)
  else if !s.portUp o then fin s
  else match s.choose o with
    | (some (u, c), t) => fin (t.sendServed o u c)
    | (none, t) => fin t

end Sys2Proof.Machine
end

