-- ==== Sys2Proof/Machine/Dispatch.lean ====
section
/-! DEFINITION. Machine/Dispatch.lean: exec, one arm per command, each a direct call of its meaning. -/

namespace Sys2Proof.Machine

def exec (i : Instr) (s : State) : Host.Outcome State Fault Refusal :=
  match i with
  | .registerWrite o a bs => Sys2Proof.Machine.execRegisterWrite o a bs s
  | .keepaliveSend d => Sys2Proof.Machine.execKeepaliveSend d s
  | .portDieKeepaliveLost d => Sys2Proof.Machine.execPortDieKeepaliveLost d s
  | .wKeepaliveLost => Sys2Proof.Machine.execWKeepaliveLost s
  | .wLinkReturn => Sys2Proof.Machine.execWLinkReturn s
  | .rstNAssert => Sys2Proof.Machine.execRstNAssert s
  | .nodeResetBegin r1 r2 r3 => Sys2Proof.Machine.execNodeResetBegin r1 r2 r3 s
  | .powerOnReset vaux r1 r2 r3 => Sys2Proof.Machine.execPowerOnReset vaux r1 r2 r3 s
  | .halt k n => Sys2Proof.Machine.execHalt k n s
  | .nop k n => Sys2Proof.Machine.execNop k n s
  | .set k n => Sys2Proof.Machine.execSet k n s
  | .out k n => Sys2Proof.Machine.execOut k n s
  | .in_ k n => Sys2Proof.Machine.execIn k n s
  | .waitp k n => Sys2Proof.Machine.execWaitp k n s
  | .waitt k n => Sys2Proof.Machine.execWaitt k n s
  | .at_ k n => Sys2Proof.Machine.execAt k n s
  | .jmp k n => Sys2Proof.Machine.execJmp k n s
  | .pull k n => Sys2Proof.Machine.execPull k n s
  | .push k n => Sys2Proof.Machine.execPush k n s
  | .mov k n => Sys2Proof.Machine.execMov k n s
  | .add k n => Sys2Proof.Machine.execAdd k n s
  | .stamp k n => Sys2Proof.Machine.execStamp k n s
  | .ldt k n => Sys2Proof.Machine.execLdt k n s
  | .event k n => Sys2Proof.Machine.execEvent k n s
  | .sync k n => Sys2Proof.Machine.execSync k n s
  | .yield k n => Sys2Proof.Machine.execYield k n s
  | .timedActionApply k n => Sys2Proof.Machine.execTimedActionApply k n s
  | .txPortDeliver k n => Sys2Proof.Machine.execTxPortDeliver k n s
  | .rxPortFetch k n => Sys2Proof.Machine.execRxPortFetch k n s
  | .peStart k n o w => Sys2Proof.Machine.execPeStart k n o w s
  | .peHalt k n o w => Sys2Proof.Machine.execPeHalt k n o w s
  | .peStep k n o w => Sys2Proof.Machine.execPeStep k n o w s
  | .swapReq k n o w => Sys2Proof.Machine.execSwapReq k n o w s
  | .swapCancel k n o w => Sys2Proof.Machine.execSwapCancel k n o w s
  | .force k n o w => Sys2Proof.Machine.execForce k n o w s
  | .peUnitReset k n o w => Sys2Proof.Machine.execPeUnitReset k n o w s
  | .idleSwap k n => Sys2Proof.Machine.execIdleSwap k n s
  | .peProgWrite k n i1 o w => Sys2Proof.Machine.execPeProgWrite k n i1 o w s
  | .peStateWrite k n r o w => Sys2Proof.Machine.execPeStateWrite k n r o w s
  | .clReset k o => Sys2Proof.Machine.execClReset k o s
  | .timeLock k => Sys2Proof.Machine.execTimeLock k s
  | .vddioFall k b mv => Sys2Proof.Machine.execVddioFall k b mv s
  | .padEdge k p level fine => Sys2Proof.Machine.execPadEdge k p level fine s
  | .padstampRead k p r o => Sys2Proof.Machine.execPadstampRead k p r o s
  | .canTransmitRecord k j => Sys2Proof.Machine.execCanTransmitRecord k j s
  | .canLaunch k j => Sys2Proof.Machine.execCanLaunch k j s
  | .canFrameSent k j r => Sys2Proof.Machine.execCanFrameSent k j r s
  | .canReceive k j w0 w1 sof data => Sys2Proof.Machine.execCanReceive k j w0 w1 sof data s
  | .canBusEvent k j tec rec_ => Sys2Proof.Machine.execCanBusEvent k j tec rec_ s
  | .canRecover k j o w => Sys2Proof.Machine.execCanRecover k j o w s
  | .canRecoveryDone k j => Sys2Proof.Machine.execCanRecoveryDone k j s
  | .canModeWrite k j o w => Sys2Proof.Machine.execCanModeWrite k j o w s
  | .queuePush k q offers => Sys2Proof.Machine.execQueuePush k q offers s
  | .qpush k q o w => Sys2Proof.Machine.execQpush k q o w s
  | .qpushend k q o w => Sys2Proof.Machine.execQpushend k q o w s
  | .qpusherr k q o w => Sys2Proof.Machine.execQpusherr k q o w s
  | .qpop k q o => Sys2Proof.Machine.execQpop k q o s
  | .queueReadWaitExpire k q => Sys2Proof.Machine.execQueueReadWaitExpire k q s
  | .queuePointerMismatch k q refused => Sys2Proof.Machine.execQueuePointerMismatch k q refused s
  | .qReset k q o w => Sys2Proof.Machine.execQReset k q o w s
  | .burstRead k q o ofs len => Sys2Proof.Machine.execBurstRead k q o ofs len s
  | .windowAccess c o nd write acked ofs size data left bus => Sys2Proof.Machine.execWindowAccess c o nd write acked ofs size data left bus s
  | .farPartIssue c => Sys2Proof.Machine.execFarPartIssue c s
  | .outQueueEnter c => Sys2Proof.Machine.execOutQueueEnter c s
  | .responseRecord c => Sys2Proof.Machine.execResponseRecord c s
  | .farTimeout c => Sys2Proof.Machine.execFarTimeout c s
  | .readDeadline c => Sys2Proof.Machine.execReadDeadline c s
  | .discardTimer c => Sys2Proof.Machine.execDiscardTimer c s
  | .readAheadLifeExpire c => Sys2Proof.Machine.execReadAheadLifeExpire c s
  | .targetRequest c => Sys2Proof.Machine.execTargetRequest c s
  | .targetResponse c r => Sys2Proof.Machine.execTargetResponse c r s
  | .retryBackoffExpire c => Sys2Proof.Machine.execRetryBackoffExpire c s
  | .chReset c o w => Sys2Proof.Machine.execChReset c o w s
  | .dropHeld c o w => Sys2Proof.Machine.execDropHeld c o w s
  | .eventMessage c => Sys2Proof.Machine.execEventMessage c s
  | .routeLookup c => Sys2Proof.Machine.execRouteLookup c s
  | .stageClear r o => Sys2Proof.Machine.execStageClear r o s
  | .routeStageWrite r i1 w o v => Sys2Proof.Machine.execRouteStageWrite r i1 w o v s
  | .flowStageWrite grp i1 w o v => Sys2Proof.Machine.execFlowStageWrite grp i1 w o v s
  | .frameIngress i1 x => Sys2Proof.Machine.execFrameIngress i1 x s
  | .frameSelect o => Sys2Proof.Machine.execFrameSelect o s
  | .outputDown o => Sys2Proof.Machine.execOutputDown o s
  | .commit o w => Sys2Proof.Machine.execCommit o w s
  | .commitEnd => Sys2Proof.Machine.execCommitEnd s
  | .drainEnd => Sys2Proof.Machine.execDrainEnd s
  | .flush o w => Sys2Proof.Machine.execFlush o w s
  | .caprdWrite o v => Sys2Proof.Machine.execCaprdWrite o v s
  | .captureResume o w => Sys2Proof.Machine.execCaptureResume o w s
  | .transitForward d f w0 x => Sys2Proof.Machine.execTransitForward d f w0 x s
  | .sheetSend p => Sys2Proof.Machine.execSheetSend p s
  | .sheetReceive p y => Sys2Proof.Machine.execSheetReceive p y s
  | .ackSend p => Sys2Proof.Machine.execAckSend p s
  | .ackReceive p ack nakSeq nak => Sys2Proof.Machine.execAckReceive p ack nakSeq nak s
  | .replayTimeout p => Sys2Proof.Machine.execReplayTimeout p s
  | .amSend p => Sys2Proof.Machine.execAmSend p s
  | .amReceive p l found => Sys2Proof.Machine.execAmReceive p l found s
  | .rekey p o w => Sys2Proof.Machine.execRekey p o w s
  | .rekeyTimeout p => Sys2Proof.Machine.execRekeyTimeout p s
  | .retrain p o w => Sys2Proof.Machine.execRetrain p o w s
  | .down p o w => Sys2Proof.Machine.execDown p o w s
  | .laneSw p o w => Sys2Proof.Machine.execLaneSw p o w s
  | .wake p o w => Sys2Proof.Machine.execWake p o w s
  | .downRetry p => Sys2Proof.Machine.execDownRetry p s
  | .signalDetect p lanes => Sys2Proof.Machine.execSignalDetect p lanes s
  | .blockLock p lanes => Sys2Proof.Machine.execBlockLock p lanes s
  | .alignFound p skew => Sys2Proof.Machine.execAlignFound p skew s
  | .capReceive p w => Sys2Proof.Machine.execCapReceive p w s
  | .negotiation p => Sys2Proof.Machine.execNegotiation p s
  | .keysAgreed p m => Sys2Proof.Machine.execKeysAgreed p m s
  | .trainingTimeout p => Sys2Proof.Machine.execTrainingTimeout p s
  | .mirrorConfirm p j => Sys2Proof.Machine.execMirrorConfirm p j s
  | .laneSwitched e => Sys2Proof.Machine.execLaneSwitched e s
  | .mirrorTimeout p => Sys2Proof.Machine.execMirrorTimeout p s
  | .laneLoss p r => Sys2Proof.Machine.execLaneLoss p r s
  | .fidleRequest p => Sys2Proof.Machine.execFidleRequest p s
  | .fidleGrant p tx => Sys2Proof.Machine.execFidleGrant p tx s
  | .fidleBurst p => Sys2Proof.Machine.execFidleBurst p s
  | .fidleExit p tx => Sys2Proof.Machine.execFidleExit p tx s
  | .wakeToneDetect p => Sys2Proof.Machine.execWakeToneDetect p s
  | .wakeToneEnd p trained => Sys2Proof.Machine.execWakeToneEnd p trained s
  | .syncHeaderLoss p => Sys2Proof.Machine.execSyncHeaderLoss p s
  | .wrap e es => Sys2Proof.Machine.execWrap e es s
  | .mapFrame epoch m => Sys2Proof.Machine.execMapFrame epoch m s
  | .joinRequest m => Sys2Proof.Machine.execJoinRequest m s
  | .cycleStart => Sys2Proof.Machine.execCycleStart s
  | .cycleStartReceive num epoch flags => Sys2Proof.Machine.execCycleStartReceive num epoch flags s
  | .cycleTick => Sys2Proof.Machine.execCycleTick s
  | .slotMarker e => Sys2Proof.Machine.execSlotMarker e s
  | .slotMissed e => Sys2Proof.Machine.execSlotMissed e s
  | .seamOpen => Sys2Proof.Machine.execSeamOpen s
  | .spliceOrder p out_ => Sys2Proof.Machine.execSpliceOrder p out_ s
  | .linkHeld e => Sys2Proof.Machine.execLinkHeld e s
  | .spliceDrained e es => Sys2Proof.Machine.execSpliceDrained e es s
  | .spliceAbandon p => Sys2Proof.Machine.execSpliceAbandon p s
  | .leave o w => Sys2Proof.Machine.execLeave o w s
  | .partitionTest => Sys2Proof.Machine.execPartitionTest s
  | .rejoin epoch => Sys2Proof.Machine.execRejoin epoch s
  | .witGrantSample high => Sys2Proof.Machine.execWitGrantSample high s
  | .witGrantFall => Sys2Proof.Machine.execWitGrantFall s
  | .witHealthToggle => Sys2Proof.Machine.execWitHealthToggle s
  | .leaseRenew m => Sys2Proof.Machine.execLeaseRenew m s
  | .leaseExpire standby => Sys2Proof.Machine.execLeaseExpire standby s
  | .takeover => Sys2Proof.Machine.execTakeover s
  | .dualGrant other preferred => Sys2Proof.Machine.execDualGrant other preferred s
  | .revert => Sys2Proof.Machine.execRevert s
  | .revertNow o w => Sys2Proof.Machine.execRevertNow o w s
  | .release o w => Sys2Proof.Machine.execRelease o w s
  | .mirrorHello peer => Sys2Proof.Machine.execMirrorHello peer s
  | .mirrorUpdate m => Sys2Proof.Machine.execMirrorUpdate m s
  | .healthReport m => Sys2Proof.Machine.execHealthReport m s
  | .loopFrame p back => Sys2Proof.Machine.execLoopFrame p back s
  | .takeoverCompletion f => Sys2Proof.Machine.execTakeoverCompletion f s
  | .ethReceive e bs => Sys2Proof.Machine.execEthReceive e bs s
  | .ethRingReceive p f => Sys2Proof.Machine.execEthRingReceive p f s
  | .macAgeing => Sys2Proof.Machine.execMacAgeing s
  | .hostRead tag addr size => Sys2Proof.Machine.execHostRead tag addr size s
  | .hostWrite addr data => Sys2Proof.Machine.execHostWrite addr data s
  | .complReceive f => Sys2Proof.Machine.execComplReceive f s
  | .hostReadTimeout => Sys2Proof.Machine.execHostReadTimeout s
  | .tsIssue n o w => Sys2Proof.Machine.execTsIssue n o w s
  | .tsResult f => Sys2Proof.Machine.execTsResult f s
  | .tsTimeout n => Sys2Proof.Machine.execTsTimeout n s
  | .rqWrite j f idx => Sys2Proof.Machine.execRqWrite j f idx s
  | .evqWrite vec msg => Sys2Proof.Machine.execEvqWrite vec msg s
  | .rqModeration j => Sys2Proof.Machine.execRqModeration j s
  | .ifVersionWrite o w => Sys2Proof.Machine.execIfVersionWrite o w s
  | .flr linkLost => Sys2Proof.Machine.execFlr linkLost s
  | .nodeCmd m o w => Sys2Proof.Machine.execNodeCmd m o w s
  | .status m => Sys2Proof.Machine.execStatus m s
  | .unitReset m => Sys2Proof.Machine.execUnitReset m s
  | .clusterReset m => Sys2Proof.Machine.execClusterReset m s
  | .dieReset m => Sys2Proof.Machine.execDieReset m s
  | .nodeReset m => Sys2Proof.Machine.execNodeReset m s
  | .nodeHalt m => Sys2Proof.Machine.execNodeHalt m s
  | .holdClear m => Sys2Proof.Machine.execHoldClear m s
  | .recast m => Sys2Proof.Machine.execRecast m s
  | .recastCluster k => Sys2Proof.Machine.execRecastCluster k s
  | .castingInstall m => Sys2Proof.Machine.execCastingInstall m s
  | .castingWriteDone => Sys2Proof.Machine.execCastingWriteDone s
  | .ingotOpen m => Sys2Proof.Machine.execIngotOpen m s
  | .ingotData m => Sys2Proof.Machine.execIngotData m s
  | .ingotAbandon m => Sys2Proof.Machine.execIngotAbandon m s
  | .missing m => Sys2Proof.Machine.execMissing m s
  | .activatePause m => Sys2Proof.Machine.execActivatePause m s
  | .activateHitless m => Sys2Proof.Machine.execActivateHitless m s
  | .preparationEnd => Sys2Proof.Machine.execPreparationEnd s
  | .pauseStateSaved => Sys2Proof.Machine.execPauseStateSaved s
  | .pauseAssayDone => Sys2Proof.Machine.execPauseAssayDone s
  | .pauseRestart => Sys2Proof.Machine.execPauseRestart s
  | .hitlessAssayDone => Sys2Proof.Machine.execHitlessAssayDone s
  | .inStep readable => Sys2Proof.Machine.execInStep readable s
  | .roleMove => Sys2Proof.Machine.execRoleMove s
  | .hitlessTimeout => Sys2Proof.Machine.execHitlessTimeout s
  | .wrapReq m => Sys2Proof.Machine.execWrapReq m s
  | .install m kat assay => Sys2Proof.Machine.execInstall m kat assay s
  | .authority m kat assay => Sys2Proof.Machine.execAuthority m kat assay s
  | .generate m kat assay => Sys2Proof.Machine.execGenerate m kat assay s
  | .invalidate m => Sys2Proof.Machine.execInvalidate m s
  | .hallmark m => Sys2Proof.Machine.execHallmark m s
  | .quench m => Sys2Proof.Machine.execQuench m s
  | .ephemeralExpire i1 => Sys2Proof.Machine.execEphemeralExpire i1 s
  | .refusingZeroise i1 => Sys2Proof.Machine.execRefusingZeroise i1 s
  | .slotRenew i1 => Sys2Proof.Machine.execSlotRenew i1 s
  | .test o w bad => Sys2Proof.Machine.execTest o w bad s
  | .tlogClear o w => Sys2Proof.Machine.execTlogClear o w s
  | .random p o w => Sys2Proof.Machine.execRandom p o w s
  | .gcmEnc p o w => Sys2Proof.Machine.execGcmEnc p o w s
  | .gcmDec p o w => Sys2Proof.Machine.execGcmDec p o w s
  | .gmac p o w => Sys2Proof.Machine.execGmac p o w s
  | .sign p o w => Sys2Proof.Machine.execSign p o w s
  | .verify p o w => Sys2Proof.Machine.execVerify p o w s
  | .ecdhDerive p o w => Sys2Proof.Machine.execEcdhDerive p o w s
  | .hkdfDerive p o w => Sys2Proof.Machine.execHkdfDerive p o w s
  | .sha384 p o w => Sys2Proof.Machine.execSha384 p o w s
  | .public_ p o w => Sys2Proof.Machine.execPublic p o w s
  | .keyOpComplete p => Sys2Proof.Machine.execKeyOpComplete p s
  | .entropySourceFailure => Sys2Proof.Machine.execEntropySourceFailure s
  | .entropyRecover => Sys2Proof.Machine.execEntropyRecover s
  | .tamper srcs periods => Sys2Proof.Machine.execTamper srcs periods s
  | .benchEntry => Sys2Proof.Machine.execBenchEntry s
  | .aonTimeRecord => Sys2Proof.Machine.execAonTimeRecord s
  | .benchLogAppend => Sys2Proof.Machine.execBenchLogAppend s
  | .bootRomStart periods => Sys2Proof.Machine.execBootRomStart periods s
  | .unlock pufFail bad => Sys2Proof.Machine.execUnlock pufFail bad s
  | .castSelect => Sys2Proof.Machine.execCastSelect s
  | .firmwareSelect => Sys2Proof.Machine.execFirmwareSelect s
  | .settingsApply => Sys2Proof.Machine.execSettingsApply s
  | .bootEnd => Sys2Proof.Machine.execBootEnd s
  | .save o => Sys2Proof.Machine.execSave o s
  | .settingsSaveDone => Sys2Proof.Machine.execSettingsSaveDone s
  | .firmwareCompleteWrite => Sys2Proof.Machine.execFirmwareCompleteWrite s
  | .coreStart p o w => Sys2Proof.Machine.execCoreStart p o w s
  | .coreHalt p o w => Sys2Proof.Machine.execCoreHalt p o w s
  | .coreReset p o w => Sys2Proof.Machine.execCoreReset p o w s
  | .lockstepMismatch p => Sys2Proof.Machine.execLockstepMismatch p s
  | .managerRestart => Sys2Proof.Machine.execManagerRestart s
  | .coreEvent f => Sys2Proof.Machine.execCoreEvent f s
  | .doorbell p o w => Sys2Proof.Machine.execDoorbell p o w s
  | .dbclr p o w => Sys2Proof.Machine.execDbclr p o w s
  | .kick o w => Sys2Proof.Machine.execKick o w s
  | .watchdogExpire => Sys2Proof.Machine.execWatchdogExpire s
  | .coreAccessFault c a store status detail => Sys2Proof.Machine.execCoreAccessFault c a store status detail s
  | .tcmWindowWrite v o ofs bs => Sys2Proof.Machine.execTcmWindowWrite v o ofs bs s
  | .nodeSleepChange wfi => Sys2Proof.Machine.execNodeSleepChange wfi s
  | .clusterSleep k => Sys2Proof.Machine.execClusterSleep k s
  | .scheduledWake u took => Sys2Proof.Machine.execScheduledWake u took s
  | .clusterWakeEvent k cause => Sys2Proof.Machine.execClusterWakeEvent k cause s
  | .holdRun o w => Sys2Proof.Machine.execHoldRun o w s
  | .stow o w => Sys2Proof.Machine.execStow o w s
  | .wakeN => Sys2Proof.Machine.execWakeN s
  | .stowWakeDone periods => Sys2Proof.Machine.execStowWakeDone periods s
  | .bellowsStep kind => Sys2Proof.Machine.execBellowsStep kind s
  | .frameWake p f => Sys2Proof.Machine.execFrameWake p f s
  | .seatDebounce => Sys2Proof.Machine.execSeatDebounce s
  | .seatRelease => Sys2Proof.Machine.execSeatRelease s
  | .tempRestartOk u lo hi => Sys2Proof.Machine.execTempRestartOk u lo hi s
  | .tsenseMeasure reading => Sys2Proof.Machine.execTsenseMeasure reading s
  | .rampDone u supply vout => Sys2Proof.Machine.execRampDone u supply vout s
  | .faultTimerExpire u => Sys2Proof.Machine.execFaultTimerExpire u s
  | .fetModelTick u shunt tDieW => Sys2Proof.Machine.execFetModelTick u shunt tDieW s
  | .vinWindowLeave u v => Sys2Proof.Machine.execVinWindowLeave u v s
  | .retryOffExpire u => Sys2Proof.Machine.execRetryOffExpire u s
  | .fetDamage u supply vout => Sys2Proof.Machine.execFetDamage u supply vout s
  | .pgAssert u supply vout idle => Sys2Proof.Machine.execPgAssert u supply vout idle s
  | .pgDrop u supply vout => Sys2Proof.Machine.execPgDrop u supply vout s
  | .regSequenceStep pg since => Sys2Proof.Machine.execRegSequenceStep pg since s
  | .regPgTimeout i1 => Sys2Proof.Machine.execRegPgTimeout i1 s
  | .regPgAll pg r1 r2 r3 => Sys2Proof.Machine.execRegPgAll pg r1 r2 r3 s
  | .feedOn n o w => Sys2Proof.Machine.execFeedOn n o w s
  | .feedOff n o w => Sys2Proof.Machine.execFeedOff n o w s
  | .feedClear n o w => Sys2Proof.Machine.execFeedClear n o w s
  | .faultDetect f inj => Sys2Proof.Machine.execFaultDetect f inj s
  | .faultPulseEnd => Sys2Proof.Machine.execFaultPulseEnd s
  | .releaseCapture o w => Sys2Proof.Machine.execReleaseCapture o w s
  | .clear o w => Sys2Proof.Machine.execClear o w s
  | .hold o w => Sys2Proof.Machine.execHold o w s
  | .pinHoldWrite o w => Sys2Proof.Machine.execPinHoldWrite o w s
  | .inject src o w => Sys2Proof.Machine.execInject src o w s
  | .faultForward f => Sys2Proof.Machine.execFaultForward f s
  | .forwardBacklog => Sys2Proof.Machine.execForwardBacklog s
  | .quenchPin level => Sys2Proof.Machine.execQuenchPin level s
  | .quenchTimeMatch => Sys2Proof.Machine.execQuenchTimeMatch s
  | .trigger o w => Sys2Proof.Machine.execTrigger o w s
  | .rearm o w => Sys2Proof.Machine.execRearm o w s
  | .tmatchArm o w => Sys2Proof.Machine.execTmatchArm o w s
  | .quenchBroadcastReceive f => Sys2Proof.Machine.execQuenchBroadcastReceive f s
  | .pdelayReqSend p => Sys2Proof.Machine.execPdelayReqSend p s
  | .pdelayResp p seq deskew => Sys2Proof.Machine.execPdelayResp p seq deskew s
  | .pdelaySample p seq t2 t3 deskew => Sys2Proof.Machine.execPdelaySample p seq t2 t3 deskew s
  | .syncSend p => Sys2Proof.Machine.execSyncSend p s
  | .syncReceive p f deskew residence => Sys2Proof.Machine.execSyncReceive p f deskew residence s
  | .timeLossTimeout => Sys2Proof.Machine.execTimeLossTimeout s
  | .useSec o w => Sys2Proof.Machine.execUseSec o w s
  | .usePri o w => Sys2Proof.Machine.execUsePri o w s
  | .ldRestart o w => Sys2Proof.Machine.execLdRestart o w s
  | .blendStep => Sys2Proof.Machine.execBlendStep s
  | .autoRevert => Sys2Proof.Machine.execAutoRevert s
  | .hostcap o => Sys2Proof.Machine.execHostcap o s
  | .hostadjSubmit o w => Sys2Proof.Machine.execHostadjSubmit o w s
  | .timNowRead w o => Sys2Proof.Machine.execTimNowRead w o s
  | .ptpEgress e f peer => Sys2Proof.Machine.execPtpEgress e f peer s
  | .twoStepExpire e => Sys2Proof.Machine.execTwoStepExpire e s
  | .ethPdelay e m => Sys2Proof.Machine.execEthPdelay e m s
  | .ptpOrdinaryClock e domain source m => Sys2Proof.Machine.execPtpOrdinaryClock e domain source m s
  | .launch o u c => Sys2Proof.Machine.execLaunch o u c s
  | .gateEntry g => Sys2Proof.Machine.execGateEntry g s
  | .gateCommit g o w => Sys2Proof.Machine.execGateCommit g o w s
  | .gateCancel g o w => Sys2Proof.Machine.execGateCancel g o w s
  | .gateChange g => Sys2Proof.Machine.execGateChange g s
  | .gateStageWrite g i1 w o v => Sys2Proof.Machine.execGateStageWrite g i1 w o v s
  | .wheelTick => Sys2Proof.Machine.execWheelTick s
  | .wheelEnter o u c => Sys2Proof.Machine.execWheelEnter o u c s
  | .scoreUpdate e r => Sys2Proof.Machine.execScoreUpdate e r s
  | .wearStoreWrite => Sys2Proof.Machine.execWearStoreWrite s
  | .peAnneal k n => Sys2Proof.Machine.execPeAnneal k n s
  | .laneAnneal p j => Sys2Proof.Machine.execLaneAnneal p j s
  | .wireAnneal l d w => Sys2Proof.Machine.execWireAnneal l d w s
  | .legAnneal k p => Sys2Proof.Machine.execLegAnneal k p s
  | .bankCopyStart b => Sys2Proof.Machine.execBankCopyStart b s
  | .bankSwitch => Sys2Proof.Machine.execBankSwitch s
  | .rowAnneal die macro_ row spare uncorrectable => Sys2Proof.Machine.execRowAnneal die macro_ row spare uncorrectable s
  | .pairAnneal p => Sys2Proof.Machine.execPairAnneal p s
  | .anneal o w => Sys2Proof.Machine.execAnneal o w s
  | .cancel o w => Sys2Proof.Machine.execCancel o w s
  | .reservedOpcode k n => Sys2Proof.Machine.execReservedOpcode k n s
  | .rstNRelease r1 r2 r3 => Sys2Proof.Machine.execRstNRelease r1 r2 r3 s
  | .vddPBrownOut d => Sys2Proof.Machine.execVddPBrownOut d s
  | .vddPReturn d => Sys2Proof.Machine.execVddPReturn d s
  | .pcieLinkUp gen width mps => Sys2Proof.Machine.execPcieLinkUp gen width mps s
  | .ethLinkUp e mode => Sys2Proof.Machine.execEthLinkUp e mode s
  | .spareLaneLockLoss p => Sys2Proof.Machine.execSpareLaneLockLoss p s
  | .spareLaneRelock p => Sys2Proof.Machine.execSpareLaneRelock p s
  | .ingotFlashWriteDone => Sys2Proof.Machine.execIngotFlashWriteDone s
  | .currentLimitEngage u idle => Sys2Proof.Machine.execCurrentLimitEngage u idle s
  | .faultTimerClear u => Sys2Proof.Machine.execFaultTimerClear u s

end Sys2Proof.Machine
end

