-- ==== Sys2Proof/Safety.lean ====
section
/-! DEFINITION. Safety.lean: the terms in which claims are stated: a completed command, what a command leaves alone, a sound state. -/

namespace Sys2Proof.Machine

/-- The command completes: exec answers a next state. -/
def Completes (i : Instr) (s : State) : Prop := ∃ t, exec i s = .next t

/-- The command completes with the effect t, after which the faults that t holds detected, if any, have gone through the
collector (R459). With none detected it is exec i s = .next t (fin_eq). -/
def Ends (i : Instr) (s t : State) : Prop := exec i s = .next (t.settle 64)

/-- The command completes in exactly the state t. -/
def EndsIn (i : Instr) (s t : State) : Prop := exec i s = .next t

/-- Every register field is the same in t as in s, those of fs apart. -/
def SameRegs (s t : State) (fs : List Fld) : Prop := ∀ g : Fld, (∀ f ∈ fs, g.key ≠ f.key) → t.get g = s.get g

/-- Every byte of memory is the same in t as in s, the n bytes from a apart. -/
def SameMem (s t : State) (a n : Nat) : Prop := ∀ b, (b < a ∨ a + n ≤ b) → t.byte b = s.byte b

/-- Engine n of Kk runs at the legal instruction word w, in a cluster that sleeps no deeper than DOZE, and no detected fault waits
for the collector (R42, R46, R428). -/
def State.stands (s : State) (k n w : Nat) : Prop :=
  s.peRunning k n = true ∧ s.peWord k n = w ∧ legalWord w = true ∧ s.get (NODE_CLSLEEP.depth k) < 2 ∧
    s.get (CL_STATUS.time_lock k) ≠ 0 ∧ s.flt.due = []

/-- The register store and memory are in their one canonical form. -/
def State.sound (s : State) : Prop := SMap.sorted s.regs = true ∧ Memory.wf s.mem = true

end Sys2Proof.Machine
end

