-- ==== Sys2Proof/Certificates/Slice0/Obligations.lean ====
section
/-! DEFINITION. Certificates/Slice0/Obligations.lean: the statements for the provers. -/

open Sys2Proof Sys2Proof.Machine

/-- O1. With a command at the front of the queue, a step is exec of that command with the rest of the queue waiting. -/
def Obligations.StepRunsTheFrontCommand : Prop :=
  ∀ (c : Instr) (rest : List Instr) (s : State), s.pending = c :: rest → step s = exec c { s with pending := rest }

/-! ### Port engines (chapter 02) -/

/-- NOP, MOV, ADD, PULL, LDT, PUSH and EVENT at an engine that stands at them and need not wait: the register, the TAG, the T or the
port takes its value, and the engine goes on at the next address (R44, R45, R50, R63 to R67). -/
def Obligations.EngineDataInstructions : Prop :=
  ∀ (k : Fin 12) (n : Fin 9) (w : Nat) (s : State), s.stands k n w →
    let u := s.noteIssue k n
    let a := fieldA w
    let b := fieldB w
    let on := fun t : State => t.peGoOn k n ((s.get (PE_STATUS.pc k n) + 1) % 64)
    let fine := if b = rT then u.get (PE_T_HI.t_fine k n) else 0
    (opcodeOf w = 0x01 → Ends (.nop k n) s (on u)) ∧
    (opcodeOf w = 0x0B → s.shinBusy k n w = false →
      Ends (.mov k n) s (on (if a = rT then u.putT k n (u.readOpT k n b) fine else u.writeOp k n a (u.readOp k n b)))) ∧
    (opcodeOf w = 0x0C → s.shinBusy k n w = false →
      Ends (.add k n) s (on (if a = rT then u.putT k n (wrap 48 ((u.readOpT k n b : Int) + sext 16 (fieldImm w))) fine
        else u.writeOp k n a (wrap 32 ((u.readOp k n b : Int) + sext 16 (fieldImm w)))))) ∧
    (∀ x xs, opcodeOf w = 0x09 → (s.pe k n).rx = x :: xs →
      Ends (.pull k n) s (on (((u.setPe k n { u.pe k n with rx := xs }).writeOp k n a x.data).put (PE_TAG.tag k n) x.tag))) ∧
    (∀ x y xs, opcodeOf w = 0x0E → (s.pe k n).rx = x :: y :: xs →
      Ends (.ldt k n) s (on (((u.setPe k n { u.pe k n with rx := xs }).putT k n (x.data % 2 ^ 32 + 2 ^ 32 * bits y.data 0 16)
        (bits y.data 16 3)).put (PE_TAG.tag k n) y.tag))) ∧
    (opcodeOf w = 0x0A → s.txRoom k n 1 = true → (b = rSHIN → (s.pe k n).resv = []) →
      Ends (.push k n) s (on (if b = rSHIN then
          (u.txPut k n ⟨u.shinBits k n, fieldImm w % 16⟩ false).put (PE_SHCNT.in_count k n) 0
        else u.txPut k n ⟨u.readOp k n b, fieldImm w % 16⟩ false))) ∧
    (opcodeOf w = 0x0F → s.txRoom k n 1 = true →
      Ends (.event k n) s (on (u.txPut k n ⟨fieldImm w + s.get (PE_STATUS.logical k n) % 8 * 2 ^ 16 + k * 2 ^ 20 +
        u.readOp k n b % 256 * 2 ^ 24, tagEVENT⟩ (bit a 0))))

/-- SET, OUT, IN, WAITP, WAITT, AT and STAMP at an engine that stands at them and need not wait (R44, R48 to R58, R66): outputs are
entered for 4 ns after issue, samples are shifted in, actions enter the queue, stamps enter the TX port. -/
def Obligations.EnginePinInstructions : Prop :=
  ∀ (k : Fin 12) (n : Fin 9) (w : Nat) (s : State), s.stands k n w →
    let u := s.noteIssue k n
    let a := fieldA w
    let b := fieldB w
    let i := fieldImm w
    let on := fun t : State => t.peGoOn k n ((s.get (PE_STATUS.pc k n) + 1) % 64)
    (opcodeOf w = 0x02 → Ends (.set k n) s (on (u.untimed k n ((members 8 (i / 256)).map (fun sl =>
      (sl, if a = 0 then PadAct.drive (bit i sl) else if a = 1 then .release else .toggle)))))) ∧
    (opcodeOf w = 0x03 → a + i ≤ 8 → i ≤ s.get (PE_SHCNT.out_count k n) →
      Ends (.out k n) s (on ((u.shoutTakeN k n i).1.untimed k n ((List.range i).map (fun j =>
        (a + j, PadAct.drive ((u.shoutTakeN k n i).2.getD j false))))))) ∧
    (opcodeOf w = 0x04 → a + i ≤ 8 → s.shinPlaces k n + i ≤ s.inLen k n →
      Ends (.in_ k n) s (on ((List.range i).foldl (fun t j => t.shinIn k n (u.slotLevel k n (a + j))) u))) ∧
    (opcodeOf w = 0x05 → u.waitpCond k n a b = true → Ends (.waitp k n) s (on u)) ∧
    (opcodeOf w = 0x06 → reached 48 s.window (s.peT k n) = true → Ends (.waitt k n) s (on u)) ∧
    (opcodeOf w = 0x07 → (s.pe k n).actions.length < 4 → a % 4 < 2 →
      Ends (.at_ k n) s (on ((u.nextSeq k n).enqueue k n ((u.nextSeq k n).atEntry k n w false)))) ∧
    (opcodeOf w = 0x07 → (s.pe k n).actions.length < 4 → a % 4 = 2 → 0 < s.get (PE_SHCNT.out_count k n) →
      let r := (u.nextSeq k n).shoutTake k n
      Ends (.at_ k n) s (on (r.1.enqueue k n (r.1.atEntry k n w r.2)))) ∧
    (opcodeOf w = 0x07 → (s.pe k n).actions.length < 4 → a % 4 = 3 → s.shinPlaces k n + 1 ≤ s.inLen k n →
      Ends (.at_ k n) s (on (((u.nextSeq k n).shinReserve k n).enqueue k n ((u.nextSeq k n).atEntry k n w false)))) ∧
    (∀ t rise, opcodeOf w = 0x0D → s.txRoom k n 2 = true → bit b 2 = false → (s.pe k n).stampHit = some (t, rise) →
      Ends (.stamp k n) s (on (u.putStampWords k n a t rise false (s.pe k n).hitCounts)))

/-- HALT, JMP, SYNC, YIELD and a reserved word (R46, R47, R68, R73, R81): where the engine goes on, waits or stops. -/
def Obligations.EngineFlowInstructions : Prop :=
  ∀ (k : Fin 12) (n : Fin 9) (w : Nat) (s : State), s.stands k n w →
    let u := s.noteIssue k n
    let a := fieldA w
    let after := (s.get (PE_STATUS.pc k n) + 1) % 64
    let others := s.atBarrier k n a
    (opcodeOf w = 0x00 → Ends (.halt k n) s ((u.put (PE_STATUS.pc k n) after).peLeave k n hcHALT)) ∧
    (opcodeOf w = 0x08 → (a = 4 → (s.pe k n).resv = []) → u.jmpCond k n a (fieldB w) = true →
      Ends (.jmp k n) s ((u.jmpEffect k n a).peGoOn k n (fieldImm w % 64))) ∧
    (opcodeOf w = 0x08 → (a = 4 → (s.pe k n).resv = []) → u.jmpCond k n a (fieldB w) = false →
      Ends (.jmp k n) s (u.peGoOn k n after)) ∧
    (opcodeOf w = 0x11 → s.get (PE_STATUS.swap_pending k n) ≠ 0 →
      Ends (.yield k n) s ((u.swapBanks k n).peGoOn k n (fieldImm w % 64))) ∧
    (opcodeOf w = 0x11 → s.get (PE_STATUS.swap_pending k n) = 0 → Ends (.yield k n) s (u.peGoOn k n after)) ∧
    (opcodeOf w = 0x10 → s.get (PE_STATUS.logical k n) < 8 → bit (fieldImm w) (s.get (PE_STATUS.logical k n)) = true →
      (∀ m ∈ others, ∀ x, s.peSync k m = some x → x.2 = fieldImm w) →
      (∀ l, l < 8 → bit (fieldImm w) l = true → l = s.get (PE_STATUS.logical k n) ∨
        ∃ m ∈ others, s.get (PE_STATUS.logical k m) = l) →
      Ends (.sync k n) s ((others.foldl (fun t m => t.peStepEnd k m)
        (others.foldl (fun t m => t.peAdvance k m (t.pcNext k m)) u)).peGoOn k n after)) ∧
    (opcodeOf w = 0x10 → s.syncClash k n = true →
      Ends (.sync k n) s (s.syncMismatch k (n.val :: others)))

/-- RESERVED_OPCODE (R46): an engine that runs at a word that is no legal instruction stops on a program error with cause
ILLEGAL_OP. -/
def Obligations.ReservedWordStopsTheEngine : Prop :=
  ∀ (k : Fin 12) (n : Fin 9) (s : State), s.peRunning k n = true → legalWord (s.peWord k n) = false →
    Ends (.reservedOpcode k n) s ((s.reportPe k n hcILLEGAL).peLeave k n hcILLEGAL)

/-- TIMED_ACTION_APPLY, TX_PORT_DELIVER and RX_PORT_FETCH (R52, R53, R63): the head action leaves its queue at its instant, the
oldest word of the TX port enters its queue, a word comes ahead from the bound queue. -/
def Obligations.EnginePorts : Prop :=
  ∀ (k : Fin 12) (n : Fin 9) (s : State), 
    let e := s.pe k n
    (∀ x rest, e.actions = x :: rest → reached 48 s.window x.t = true → s.get (NODE_CLSLEEP.depth k) < 2 →
      s.get (CL_STATUS.time_lock k) ≠ 0 → x.late e.headAt = false →
      Ends (.timedActionApply k n) s
        ((s.setPe k n { e with actions := rest, headAt := s.actionTime x }).applyAction k n (s.actionTime x) x)) ∧
    (∀ w rest, e.tx = (w, false) :: rest → s.get (PE_QBIND.tx_en k n) = 1 → s.qHolds k (s.get (PE_QBIND.tx_queue k n)) = false →
      Ends (.txPortDeliver k n) s ((s.setPe k n { e with tx := rest }).qOffer k (s.get (PE_QBIND.tx_queue k n))
        { word := w, bus := false })) ∧
    (∀ w rest, s.qWords k (s.get (PE_QBIND.rx_queue k n)) = w :: rest → s.get (PE_QBIND.rx_en k n) = 1 →
      e.rx.length < 8 →
      Ends (.rxPortFetch k n) s ((s.setPe k n { e with rx := e.rx ++ [w] }).qTake k (s.get (PE_QBIND.rx_queue k n))))

/-- The commands of PE_CTL of a cluster that is awake, and the idle swap (R73 to R75, R79, R80), for a written word with the command's
bit alone. A forced swap of an engine that is not idle is set for the next PORTCLK cycle. -/
def Obligations.EngineCommands : Prop :=
  ∀ (k : Fin 12) (n : Fin 9) (o : Origin) (s : State), s.get (NODE_CLSLEEP.depth k) = 0 →
    let st := PE_CTL.start_pc k n
    let ok := fun t : State => t.emit (.done o stOK 0 0 [])
    (s.peStartable k n = true → s.programsRun = true → s.get (PE_STATUS.swap_pending k n) = 0 → ∀ pc, pc < 64 →
      Ends (.peStart k n o (pc * 2 ^ 16)) s (ok ((s.put st pc).peRun k n false))) ∧
    (s.get (PE_STATUS.swap_pending k n) = 0 →
      Ends (.peHalt k n o 0) s (ok ((s.put st 0).peLeave k n hcCOMMAND))) ∧
    (s.peStartable k n = true → s.get (PE_STATUS.swap_pending k n) = 0 →
      Ends (.peStep k n o 0) s (ok ((s.put st 0).peRun k n true))) ∧
    (s.peRunning k n = true → s.get (PE_STATUS.force_pending k n) = 0 →
      Ends (.swapReq k n o 0) s (ok ((s.put st 0).puts [(PE_CTL.swap_req k n, 1), (PE_STATUS.swap_pending k n, 1)]))) ∧
    (s.peRunning k n = false →
      Ends (.swapReq k n o 0) s (ok (((s.put st 0).puts [(PE_CTL.swap_req k n, 1), (PE_STATUS.swap_pending k n, 1)]).swapBanks k n))) ∧
    Ends (.swapCancel k n o 0) s (ok (((s.put st 0).puts [(PE_CTL.swap_req k n, 0), (PE_STATUS.swap_pending k n, 0),
      (PE_CTL.force k n, 0), (PE_STATUS.force_pending k n, 0)]).setPe k n { s.pe k n with forceAt := none })) ∧
    (s.get (PE_STATUS.swap_pending k n) = 1 → s.peRunning k n = true → s.peIdle k n = false →
      Ends (.force k n o 0) s (ok (((s.put st 0).puts [(PE_CTL.force k n, 1), (PE_STATUS.force_pending k n, 1)]).setPe k n
        { s.pe k n with forceAt := some ((s.pe k n).forceAt.getD s.now) }))) ∧
    Ends (.peUnitReset k n o 0) s (ok (s.peUnitReset k n)) ∧
    (s.get (PE_STATUS.swap_pending k n) = 1 → s.peIdle k n = true →
      Ends (.idleSwap k n) s ((s.swapBanks k n).peGoOn k n 0))

/-- Writes to program words and engine state registers of a cluster that is awake (R71, R72, R77, R82): taken, or refused with STATE, counted in CL_REFUSED. -/
def Obligations.EngineMemoryWrites : Prop :=
  ∀ (k : Fin 12) (n : Fin 9) (o : Origin) (w : Nat) (s : State), s.get (NODE_CLSLEEP.depth k) = 0 →
    (∀ i : Fin 128, s.progOpen k n i = true →
      Ends (.peProgWrite k n i o w) s ((s.put (PE_PROG.word k n i) w).emit (.done o stOK 0 0 []))) ∧
    (∀ i : Fin 128, s.progOpen k n i = false →
      Ends (.peProgWrite k n i o w) s (s.refuseWrite o (CL_REFUSED.count k) (PE_PROG.word k n i).addr)) ∧
    (∀ r : Fin 9, s.peRunning k n = false → ((r = 5 ∨ r = 7) → (s.pe k n).resv = []) →
      Ends (.peStateWrite k n r o w) s ((s.writeReg o (PE_X.addr k n + 4 * r) w).emit (.done o stOK 0 0 []))) ∧
    (∀ r : Fin 9, s.peRunning k n = true →
      Ends (.peStateWrite k n r o w) s (s.refuseWrite o (CL_REFUSED.count k) (PE_X.addr k n + 4 * r)))

/-! ### Register writes, die links and resets (chapters 00, 01) -/

/-- REGISTER_WRITE of a plain register, of bulk RAM, of a register the originator may not write, with a wrong width, and at an
offset that no block covers (R6 to R9, R24, R268, R270); a register of a cluster while the cluster is awake (R436). -/
def Obligations.RegisterWriteCompletes : Prop :=
  ∀ (o : Origin) (a : Nat) (bs : List Nat) (s : State),
    (0x1000000 ≤ a → a < 0x1C00000 → s.get (NODE_CLSLEEP.depth ((a - 0x1000000) / 0x100000)) = 0) →
    (s.mapped a = true → a < 0x8000000 → ¬(0x3000000 ≤ a ∧ a < 0x5000000) → ¬(0xC00000 ≤ a ∧ a < 0x1000000) →
      bs.length = 4 → a % 4 = 0 → s.ownWrite o a (leWord bs) = none →
      Ends (.registerWrite o a bs) s (if s.mayWrite o a then
          ((s.writeReg o a (leWord bs)).afterWrite s a).emit (.done o stOK 0 0 [])
        else s.emit (.done o stAUTH 0 0 []))) ∧
    (s.mapped a = true → a < 0x8000000 → ¬(0x3000000 ≤ a ∧ a < 0x5000000) → ¬(0xC00000 ≤ a ∧ a < 0x1000000) →
      (bs.length ≠ 4 ∨ a % 4 ≠ 0) → Ends (.registerWrite o a bs) s (s.emit (.done o stILLEGAL 0 0 []))) ∧
    (0xC000000 ≤ a → 0 < bs.length → bs.length ≤ 4096 → a + bs.length ≤ 0xC200000 →
      Ends (.registerWrite o a bs) s ((s.setBytes a bs).emit (.done o stOK 0 0 []))) ∧
    (s.mapped a = false → Ends (.registerWrite o a bs) s (s.addrFault o a 2))

/-- The die links, the resets and their releases (R21, R23, R25, R506 to R508, R513, R515): each takes effect where its condition
holds. -/
def Obligations.DieLinksAndResets : Prop :=
  ∀ s : State,
    (∀ d : Fin 3, s.keptAlive d = true → EndsIn (.keepaliveSend d) s
      ({ s with lev := { s.lev with sent := setNth s.lev.sent d s.now } }.emit (.keepalive d))) ∧
    (∀ d : Fin 2, s.keptAlive d = true → nth s.lev.sent d + 1000 ≤ s.now → (s.cluster (6 * d.val)).dieParked = false →
      Ends (.portDieKeepaliveLost d) s ((s.dieLost d).report
        { src := 0x04, master := 0x0900 + (d.val + 1), addr := s.nodeId * 0x10000000 + (0x1000000 + 0x600000 * d.val) })) ∧
    (nth s.lev.sent 2 + 1000 ≤ s.now → EndsIn .wKeepaliveLost s { s with lev := { s.lev with wLost := true } }) ∧
    (s.lev.wLost = true → s.pow.dieOff = false → s.pow.waiting = [] → Ends .wLinkReturn s
      { s with
        lev := { s.lev with wLost := false, sent := setNth s.lev.sent 2 s.now }
        pow := { s.pow with waiting := [] } }) ∧
    (s.lev.rstLow = false → s.pow.dieOff = false →
      Ends .rstNAssert s { s with lev := { s.lev with rstLow := true } }.nodeReset) ∧
    (∀ a b c, s.lev.rstLow = true → s.pow.dieOff = false → s.lev.inReset = true → Ends (.rstNRelease a b c) s
      ({ s with lev := { s.lev with rstLow := false } }.readStraps a b c false)) ∧
    (∀ a b c, s.pow.dieOff = false → s.lev.inReset = false → s.lev.rstLow = false →
      Ends (.nodeResetBegin a b c) s (s.nodeReset.readStraps a b c false)) ∧
    (∀ a b c, s.pow.dieOff = false → s.lev.rstLow = false →
      Ends (.powerOnReset false a b c) s ((s.powerReset false).readStraps a b c true)) ∧
    (∀ d : Fin 2, Ends (.vddPBrownOut d) s
      (let t := (dieClusters (d.val + 1)).foldl (fun s k =>
        s.withEdges k s.t125 (fun s => s.setCluster k { s.cluster k with dieParked := true })) (s.dieReset d)
      { t with lev := { t.lev with dieOff := setNth t.lev.dieOff d true } })) ∧
    (∀ d : Fin 2, s.lev.dieOff.getD d false = true → Ends (.vddPReturn d) s
      (({ s with lev := { s.lev with dieOff := setNth s.lev.dieOff d false } }.dieReset d).want bkDIE [d.val + 1]))

/-! ### Clusters, pads and queues (chapter 03) -/

/-- CL_RESET, TIME_LOCK, VDDIO_FALL, PAD_EDGE and PADSTAMP_READ at a cluster that is awake, and an access to one in NAP or GATED, which
wakes it and waits (R87, R88, R93, R115, R430, R436). -/
def Obligations.ClusterCommands : Prop :=
  (∀ (k : Fin 12) (q : Fin 32) (o : Origin) (s : State), 2 ≤ s.get (NODE_CLSLEEP.depth k) → s.slp.stowed = false →
    let t := s.wakeCluster k wkACCESS
    Ends (.qpop k q o) s { t with slp := { t.slp with accesses := t.slp.accesses ++ [((k : Nat), .qpop k q o)] } }) ∧
  ∀ (k : Fin 12) (s : State), s.get (NODE_CLSLEEP.depth k) = 0 →
    (∀ o, s.foreignCore o = false → Ends (.clReset k o) s ((s.clusterReset k).emit (.done o stOK 0 0 []))) ∧
    (∀ o, s.foreignCore o = true → Ends (.clReset k o) s (s.emit (.done o stAUTH 0 0 []))) ∧
    (s.get (CL_STATUS.time_lock k) = 0 → (s.cluster k).dieParked = false → s.dieWaits k = false →
      Ends (.timeLock k) s ((s.withEdges k s.t125 (fun s => s.puts [(CL_STATUS.time_lock k, 1), (CL_STATUS.in_reset k, 0),
        (CL_STATUS.parked k, 0)])).recastStep k)) ∧
    (∀ (b : Fin 2) (mv : Nat), s.get (bankVolt k b) ≠ 0 → bit (s.get (CL_STATUS.bank_ok k)) b = true →
      mv < bandBottom (s.get (bankVolt k b)) →
      Ends (.vddioFall k b mv) s (((s.setCluster k { s.cluster k with vddio := setNth (s.cluster k).vddio b mv }).puts
        [(bankMeas k b, vddioBand mv), (bankNoMatch k b, b2n (vddioBand mv == 0 && decide (500 ≤ mv)))]).withEdges k s.t125
          (fun s => s.bankFault k b))) ∧
    (∀ (p : Fin 32) (level : Option Bool) (fine : Fin 8),
      Ends (.padEdge k p level fine) s (s.withEdges k (s.t125 / 8 * 8 + fine) (fun s => s.setCluster k { s.cluster k with
        ext := setBit (s.cluster k).ext p (level.getD false), loose := setBit (s.cluster k).loose p level.isNone }))) ∧
    (∀ (p : Fin 32) (r : Fin 4) (o : Origin), r.val % 2 = 0 →
      Ends (.padstampRead k p r o) s ((s.setCluster k { s.cluster k with
        frozen := SMap.set (s.cluster k).frozen (2 * p.val + r.val / 2) (some (stampHi s k p (r.val / 2))) none }).emit
          (.done o stOK 0 0 [s.readWord (CL_PADSTAMP0.addr k p + 4 * r)]))) ∧
    (∀ (p : Fin 32) (r : Fin 4) (o : Origin), r.val % 2 = 1 →
      Ends (.padstampRead k p r o) s ((s.setCluster k { s.cluster k with
        frozen := SMap.set (s.cluster k).frozen (2 * p.val + r.val / 2) none none }).emit
          (.done o stOK 0 0 [(SMap.getD (s.cluster k).frozen (2 * p.val + r.val / 2) none).getD (stampHi s k p (r.val / 2))])))

/-- The writes and reads of a queue of a cluster that is awake (R104 to R112, R269). -/
def Obligations.QueueCommands : Prop :=
  ∀ (k : Fin 12) (q : Fin 32) (o : Origin) (s : State), s.get (NODE_CLSLEEP.depth k) = 0 →
    let x := s.queue k q
    let ok := fun t : State => t.emit (.done o stOK 0 0 [])
    (∀ w, x.late = [] → (s.qFull k q = false ∨ (s.qStream k q = true ∧ x.gapOpen = true)) →
      Ends (.qpush k q o w) s (ok (s.qPush k q ⟨w % 2 ^ 32, 0⟩)) ∧
      Ends (.qpushend k q o w) s (ok (s.qPush k q ⟨w % 2 ^ 32, tagEND⟩)) ∧
      Ends (.qpusherr k q o w) s (ok (s.qPush k q ⟨w % 2 ^ 32, tagERR⟩))) ∧
    (∀ w, s.qFull k q = true → x.gapOpen = false → Ends (.qpush k q o w) s
      (ok (s.setQueue k q { x with late := x.late ++ [{ word := ⟨w % 2 ^ 32, 0⟩, bus := true }] }))) ∧
    (∀ w, Ends (.queuePush k q [(.bus o, w)]) s (if s.qOn k q then (s.offer k q (.bus o, w)) else ok (s.qPush k q w))) ∧
    (∀ w ws, s.busQueue k q = true → s.qWords k q = w :: ws → x.held = [] →
      Ends (.qpop k q o) s (((s.qTake k q).put (CL_QDATA.data k q) w.data).emit
        (.done o stOK 0 0 [popWord w.tag stOK (((s.qTake k q).put (CL_QDATA.data k q) w.data).qDepth k q)]))) ∧
    (s.busQueue k q = true → s.qWords k q = [] →
      Ends (.qpop k q o) s (s.setQueue k q { x with held := x.held ++ [⟨o, s.now + s.readWait k, none⟩] })) ∧
    (s.busQueue k q = false →
      Ends (.qpop k q o) s (((s.put (CL_QDATA.data k q) 0).bump (CL_REFUSED.count k)).emit
        (.done o stOK 0 0 [popWord 0 stSTATE 0]))) ∧
    (∀ h, (x.held.drop x.words.length).find? (fun h => decide (h.until_ ≤ s.now)) = some h → h.burst = none →
      Ends (.queueReadWaitExpire k q) s (((s.setQueue k q { x with held := x.held.erase h }).put (CL_QDATA.data k q) 0).emit
        (.done h.who stOK 0 0 [popWord 0 stEMPTY 0]))) ∧
    (∀ refused, s.qOn k q = true → s.qStream k q = false →
      Ends (.queuePointerMismatch k q refused) s ((((s.qClear k q).setEvent (CL_QSTAT.reset_seen k q)).clusterIrq k
        (CL_IRQ.qreset k) (CL_IRQEN.qreset k)).report
          { src := 0x03, master := 0x0700 + k.val, addr := s.nodeId * 0x10000000 + CL_CTL.addr k, extra := q })) ∧
    (∀ w, s.foreignCore o = false →
      Ends (.qReset k q o w) s (ok ((s.writeReg o (CL_QCTL.addr k q) w).qClear k q))) ∧
    (∀ n, 0 < n → n ≤ 512 → s.busQueue k q = true → s.qStream k q = true → s.qWords k q ≠ [] → x.held = [] →
      Ends (.burstRead k q o 0 (8 * n)) s ((s.popUnits k q n).1.emit (.done o stOK 0 0 (s.popUnits k q n).2)))

/-- The CAN FD controllers of a cluster that is awake (R96 to R102, R463). -/
def Obligations.CanCommands : Prop :=
  ∀ (k : Fin 12) (j : Fin 2) (s : State), s.get (NODE_CLSLEEP.depth k) = 0 →
    let c := s.can k j
    let q := s.get (CL_CANQ.tx_queue k j)
    (∀ ws rest, s.canOn k j = true → s.get (CL_CANQ.tx_en k j) = 1 → c.record = none → c.discarding = false →
      takeRecord (s.qWords k q) = some (ws, rest) → s.canSendable k j ws = true →
      Ends (.canTransmitRecord k j) s
        ((s.qTakeN k q ws.length).setCan k j { c with record := some ws, arbitrating := false })) ∧
    (∀ ws, c.record = some ws → s.canOn k j = true → s.get (CL_CANCFG.mode k j) = 1 → s.get (CL_CANSTAT.bus k j) ≠ 2 →
      s.canSends k j = true → s.canDue ws = true → Ends (.canLaunch k j) s
        (s.withEdges k s.t125 (fun s => s.setCan k j { c with arbitrating := true, sof := s.t125 }))) ∧
    (c.arbitrating = true →
      let off := s.withEdges k s.t125 (fun s => s.setCan k j { c with arbitrating := false })
      Ends (.canFrameSent k j .sent) s
        ((((off.setCan k j { off.can k j with record := none }).measureDelay k j c).loopBack k j c).canCounts k j (c.tec - 1) c.rec_) ∧
      Ends (.canFrameSent k j .lostArbitration) s off ∧
      Ends (.canFrameSent k j .error) s (off.withEdges k off.t125 (fun t =>
        (t.canErrorFlag k j (t.get (CL_CANSTAT.bus k j))).canCounts k j (c.tec + 8) c.rec_))) ∧
    (∀ w0 w1 sof data, s.canOn k j = true → s.get (CL_CANPAD.rx_en k j) = 1 → s.get (CL_CANCFG.loopback k j) = 0 →
      s.get (CL_CANSTAT.bus k j) ≠ 2 → s.canFormat k j w0 w1 = true →
      Ends (.canReceive k j w0 w1 sof data) s
        ((s.withEdges k s.t125 (fun t => t.canAck k j w0 w1 sof data)).canTake k j w0 w1 sof data)) ∧
    (∀ tec rec_, c.rec_ < rec_ → s.canOn k j = true → s.get (CL_CANSTAT.bus k j) < 2 →
      Ends (.canBusEvent k j tec rec_) s
        ((s.withEdges k s.t125 (fun t => t.canErrorFlag k j (s.get (CL_CANSTAT.bus k j)))).canCounts k j tec rec_)) ∧
    (∀ tec rec_, rec_ ≤ c.rec_ → s.canOn k j = true → s.get (CL_CANSTAT.bus k j) < 2 → busState tec rec_ = s.get (CL_CANSTAT.bus k j) →
      Ends (.canBusEvent k j tec rec_) s ((s.setCan k j { c with tec := tec, rec_ := rec_ }).puts
        [(CL_CANSTAT.tec k j, min tec 255), (CL_CANSTAT.rec k j, min rec_ 255), (CL_CANSTAT.bus k j, busState tec rec_)])) ∧
    (∀ tec rec_, rec_ ≤ c.rec_ → s.canOn k j = true → s.get (CL_CANSTAT.bus k j) < 2 → busState tec rec_ ≠ s.get (CL_CANSTAT.bus k j) →
      busState tec rec_ < 2 →
      Ends (.canBusEvent k j tec rec_) s (((s.setCan k j { c with tec := tec, rec_ := rec_ }).puts
        [(CL_CANSTAT.tec k j, min tec 255), (CL_CANSTAT.rec k j, min rec_ 255), (CL_CANSTAT.bus k j, busState tec rec_)]).canEvent
          k j (if busState tec rec_ = 1 then 0x0001 else 0x0002) false)) ∧
    (∀ o w, Ends (.canModeWrite k j o w) s (s.canCfgWrite k j o w)) ∧
    (∀ o w, bit w 5 = true → Ends (.canRecover k j o w) s (s.canCfgWrite k j o w)) ∧
    (c.recovering = true → c.recoverAt + 1408 * s.canBitTime k j ≤ s.ns →
      Ends (.canRecoveryDone k j) s (((s.setCan k j { c with recovering := false, tec := 0, rec_ := 0 }).puts
        [(CL_CANSTAT.bus k j, 0), (CL_CANSTAT.tec k j, 0), (CL_CANSTAT.rec k j, 0)]).canEvent k j 0x0004 false))

/-! ### Region bridges (chapter 04) -/

/-- The far side of a controller-role channel (R122 to R135): an access that the window serves is taken, one that it does not serve
answers ILLEGAL or STATE; parts, responses, timeouts, deadlines and timers have their effect where their condition holds. -/
def Obligations.WindowChannelCommands : Prop :=
  ∀ (c : Fin 32) (s : State),
    let x := s.chan c
    (∀ (o : Origin) (nd ofs size : Nat) (left : Option Nat),
      size ∈ [1, 2, 4, 8] → ofs % size = 0 → s.chUnit c ≤ size → ofs + size ≤ 2 ^ 20 → s.chServes c = true →
      s.cst.recasts.contains (s.chCluster c) = false → x.noServer = false → x.stopped = false → x.kept = [] →
      Ends (.windowAccess c o nd false true ofs size [] left none) s (s.windowRead c
        { who := o, node := nd, write := false, acked := true, ofs := ofs, size := size, data := [], parts := size / s.chUnit c,
          due := (readLeft o left).map (· + s.now), extra := s.aheadParts c ofs size })) ∧
    (∀ (o : Origin) (nd ofs size : Nat) (left : Option Nat),
      size ∈ [1, 2, 4, 8] → ofs % size = 0 → s.chUnit c ≤ size → ofs + size ≤ 2 ^ 20 → s.chServes c = true →
      s.cst.recasts.contains (s.chCluster c) = true → x.kept = [] →
      Ends (.windowAccess c o nd false true ofs size [] left none) s (s.accessFails c
        { who := o, node := nd, write := false, acked := true, ofs := ofs, size := size, data := [], parts := size / s.chUnit c,
          due := (readLeft o left).map (· + s.now) } stRETRY 0x00)) ∧
    (∀ (o : Origin) (nd ofs size : Nat) (data : List Nat) (left : Option Nat),
      size ∈ [1, 2, 4, 8] → ofs % size = 0 → s.chUnit c ≤ size → ofs + size ≤ 2 ^ 20 → s.chServes c = true →
      x.noServer = false → x.stopped = false → x.posted.length < 32 → x.kept = [] →
      Ends (.windowAccess c o nd true false ofs size data left none) s (((s.stopFill c).dropOverlaps c ofs size).enterLine c
        { who := o, node := nd, write := true, acked := false, ofs := ofs, size := size, data := data,
          parts := size / s.chUnit c })) ∧
    (∀ (o : Origin) (nd ofs size : Nat) (bus : Option (Fin 32)),
      (size ∉ [1, 2, 4, 8] ∨ ofs % size ≠ 0 ∨ size < s.chUnit c ∨ 2 ^ 20 < ofs + size) →
      Ends (.windowAccess c o nd false true ofs size [] none bus) s (s.emit (.done o stILLEGAL 0 0 []))) ∧
    (∀ (o : Origin) (nd ofs size : Nat) (bus : Option (Fin 32)),
      size ∈ [1, 2, 4, 8] → ofs % size = 0 → s.chUnit c ≤ size → ofs + size ≤ 2 ^ 20 → s.chServes c = false →
      Ends (.windowAccess c o nd false true ofs size [] none bus) s
        ((s.bump (BRG_REFUSED.count (c.val / 8))).emit (.done o stSTATE 0 0 []))) ∧
    (∀ r rest, x.between = r :: rest → s.chRoom c (s.chOutQ c) r.words = true →
      Ends (.farPartIssue c) s ((s.setChan c { x with between := rest }).chIssue c r)) ∧
    (x.lineReady = true → Ends (.outQueueEnter c) s
      ((s.enterNonPosted c).takeKept c ((s.enterNonPosted c).chan c).kept.length)) ∧
    (x.lineReady = false → Ends (.outQueueEnter c) s
      ((s.enterPosted c).takeKept c ((s.enterPosted c).chan c).kept.length)) ∧
    (∀ ws, s.chServes c = true → s.inRecord c = some ws →
      Ends (.responseRecord c) s ((s.qTakeN (s.chCluster c) (s.chInQ c) ws.length).takeResponse c ws)) ∧
    (∀ f rest, x.flight = f :: rest → f.since + s.farTo c ≤ s.now → s.responseIn c f = false →
      Ends (.farTimeout c) s ((s.setChan c { x with expired := x.expired ++ [f.tid] }).partDone c f stTIMEOUT 0x04 0 0)) ∧
    (∀ r y, x.takeOverdue s.now = some (r, y) →
      Ends (.readDeadline c) s ((((s.setChan c y).lastStatus c stTIMEOUT).chError c stTIMEOUT 0x04 0 0 r.node r.ofs).chAnswer c r
        stTIMEOUT 0x04 [] 0)) ∧
    (∀ h rest, x.held = h :: rest → h.since + s.discardTimer c ≤ s.now →
      Ends (.discardTimer c) s ((s.setChan c { x with held := rest }).discardHeld c h)) ∧
    (∀ t, x.filled = some t → t + s.raLife c ≤ s.now → Ends (.readAheadLifeExpire c) s (s.dropAhead c))

/-- The target role, RETRY, and the commands of a channel (R135, R138 to R142, R145). -/
def Obligations.TargetChannelCommands : Prop :=
  ∀ (c : Fin 32) (s : State),
    let x := s.chan c
    (∀ ws, s.chMode c = 1 → s.chTarget c = true → s.inRecord c = some ws → requestOk ws = true →
      Ends (.targetRequest c) s ((s.qTakeN (s.chCluster c) (s.chInQ c) ws.length).takeRequest c ws)) ∧
    (∀ r, Ends (.targetResponse c (some r)) s
      ((s.targetResult c r).targetAnswers c ((s.targetResult c r).chan c).targets.length)) ∧
    (∀ y rest t, x.crossing = y :: rest → y.backoff = some t → t ≤ s.now →
      y.tries < s.get (BRG_CHCFG.retry_max (c.val / 8) (c.val % 8)) →
      Ends (.retryBackoffExpire c) s (s.targetAgain c 0 y)) ∧
    (∀ o, s.foreignCore o = false → Ends (.chReset c o 0) s ((s.chanReset c).emit (.done o stOK 0 0 []))) ∧
    (∀ o, s.foreignCore o = false → Ends (.dropHeld c o 0) s
      ((x.held.foldl (fun s h => s.discardHeld c h) (s.setChan c { x with held := [] })).emit (.done o stOK 0 0 []))) ∧
    (∀ o w, s.foreignCore o = true → Ends (.chReset c o w) s (s.emit (.done o stAUTH 0 0 [])) ∧
      Ends (.dropHeld c o w) s (s.emit (.done o stAUTH 0 0 [])))

/-- Event messages, route lookups and the staging of routes (R146, R148 to R155). -/
def Obligations.EventAndRouteCommands : Prop :=
  ∀ (c : Fin 32) (s : State),
    let q := s.chInQ c
    let k := s.chCluster c
    (∀ w rest, s.qWords k q = w :: rest → hasEvent w = true → s.chMode c ≠ 0 →
      (s.recordsOut c = false ∨ s.get (BRG_CHEVT.dest (c / 8) (c % 8)) = 0) →
      Ends (.eventMessage c) s ((s.qTake k q).sendEvent c w.data)) ∧
    (∀ ws, s.chMode c = 2 → (s.chan c).stopped = false → s.inRecord c = some ws → recordOk ws = true →
      Ends (.routeLookup c) s ((s.qTakeN k q ws.length).routeRecord c ws)) ∧
    (∀ ws, s.chMode c = 2 → (s.chan c).stopped = false → s.inRecord c = some ws → recordOk ws = false →
      Ends (.routeLookup c) s ((s.qTakeN k q ws.length).strayRecord c)) ∧
    (∀ (r : Fin 4) (o : Origin), s.foreignCore o = false →
      Ends (.stageClear r o) s ((s.unstage (BRG_ROUTE.word r) (BRG_ROUTESTG.word r) (BRG_RTSTGMAP.marked r) 1024).emit
        (.done o stOK 0 0 []))) ∧
    (∀ (r : Fin 4) (i : Fin 1024) (w : Fin 4) (o : Origin) (v : Nat), s.get SW_STATUS.committing = 0 →
      Ends (.routeStageWrite r i w o v) s (((s.put (BRG_ROUTESTG.word r i w) v).mark (BRG_RTSTGMAP.marked r) i).emit
        (.done o stOK 0 0 []))) ∧
    (∀ (r : Fin 4) (i : Fin 1024) (w : Fin 4) (o : Origin) (v : Nat), s.get SW_STATUS.committing = 1 →
      Ends (.routeStageWrite r i w o v) s
        (s.refuseWrite o (BRG_REFUSED.count r) (BRG_ROUTESTG.word r i w).addr))


/-! ### The switch core (chapter 05) -/

/-- The tables of the switch core and its capture: a staged entry is written or refused, SW_CTL commits and flushes, the epochs end,
the capture pointers move (R155, R173 to R177, R185, R186). -/
def Obligations.SwitchTableCommands : Prop :=
  ∀ (s : State) (o : Origin),
    (∀ (i : Fin 1024) (w : Fin 4) (v : Nat), s.get SW_STATUS.committing = 0 →
      Ends (.flowStageWrite false i w o v) s (((s.put (SW_FLOWSTG.word i w) v).mark SW_FLOWMAP.marked i).done o stOK)) ∧
    (∀ (i : Fin 1024) (w : Fin 4) (v : Nat), s.get SW_STATUS.committing = 0 →
      Ends (.flowStageWrite true i w o v) s
        (((s.put (SW_GRPSTG.word (i % 256) w) v).mark SW_GRPMAP.marked (i % 256)).done o stOK)) ∧
    (∀ (i : Fin 1024) (w : Fin 4) (v : Nat), s.get SW_STATUS.committing = 1 →
      Ends (.flowStageWrite false i w o v) s (s.refuseWrite o SW_REFUSED.count (SW_FLOWSTG.word i w).addr)) ∧
    (∀ w, s.foreignCore o = false → bit w 1 = false → s.get SW_STATUS.committing = 0 → s.get SW_STATUS.draining = 0 →
      s.noneMarked = false →
      Ends (.commit o w) s (((s.put SW_STATUS.last_status stOK).commitAll).done o stOK)) ∧
    (∀ w, s.foreignCore o = false → bit w 1 = false → s.get SW_STATUS.committing = 0 → s.get SW_STATUS.draining = 0 →
      s.noneMarked = true → Ends (.commit o w) s ((s.put SW_STATUS.last_status stOK).done o stOK)) ∧
    (∀ w, s.foreignCore o = false → bit w 1 = false → s.get SW_STATUS.committing = 1 →
      Ends (.commit o w) s ((s.put SW_STATUS.last_status stBUSY).done o stBUSY)) ∧
    (∀ w, s.foreignCore o = false → bit w 1 = false → s.get SW_STATUS.committing = 0 → s.get SW_STATUS.draining = 1 →
      Ends (.commit o w) s ((s.put SW_STATUS.last_status stSTATE).refuse o SW_REFUSED.count)) ∧
    (s.get SW_STATUS.committing = 1 → EndsIn .commitEnd s
      (s.putEpochs (s.get SW_STATUS.live_epoch) (s.get SW_STATUS.drain_epoch) (s.get SW_STATUS.draining) 0)) ∧
    (s.get SW_STATUS.draining = 1 → s.drainCount = 0 → EndsIn .drainEnd s
      (({ s with sw := { s.sw with drainVer := [], flushing := false } } : State).putEpochs (s.get SW_STATUS.live_epoch)
        (s.get SW_STATUS.drain_epoch) 0 (s.get SW_STATUS.committing))) ∧
    (∀ w, s.foreignCore o = false → bit w 0 = false → s.get SW_STATUS.draining = 1 →
      Ends (.flush o w) s (((s.put SW_STATUS.last_status stOK).flushAll).done o stOK)) ∧
    (∀ w, s.foreignCore o = false → bit w 0 = false → s.get SW_STATUS.draining = 0 →
      Ends (.flush o w) s ((s.put SW_STATUS.last_status stSTATE).refuse o SW_REFUSED.count)) ∧
    (∀ v, EndsIn (.caprdWrite o v) s ((s.put SW_CAPRD.rd v).done o stOK)) ∧
    (∀ w, Ends (.captureResume o w) s ((s.writeReg o SW_CAPCFG.addr (withBit w 4)).done o stOK))

/-- Frames in the switch core (R158 to R192, R319, R320, R342): a frame that arrives enters, is dropped or stays held at its input; an
output that is up sends the head that the order of classes chooses; an output that goes down loses its copies; a launch hold
ends at its time; a ring frame for another node goes on with one hop less. -/
def Obligations.SwitchFrameCommands : Prop :=
  ∀ s : State,
    (∀ (i : Fin 10) f r, s.lev.inReset = false → (i.val < 2 ∨ i.val = 3 ∨ i.val = 4) →
      Ends (.frameIngress i (some (f, r))) s (s.ingressNow i { frame := f, route := r })) ∧
    (∀ (i : Fin 10) y rest t, s.lev.inReset = false → 2 ≤ i.val → i.val ≠ 3 → i.val ≠ 4 →
      SMap.getD s.sw.held i [] = y :: rest → s.ingress i y = some t →
      Ends (.frameIngress i none) s { t with sw := { t.sw with held := SMap.set t.sw.held i rest [] } }) ∧
    (∀ (i : Fin 10) y rest, s.lev.inReset = false → 2 ≤ i.val → i.val ≠ 3 → i.val ≠ 4 →
      SMap.getD s.sw.held i [] = y :: rest → s.ingress i y = none →
      Ends (.frameIngress i none) s { s with sw := { s.sw with
        held := SMap.set s.sw.held i ({ y with epoch := some (y.epoch.getD (s.get SW_STATUS.live_epoch)) } :: rest) [] } }) ∧
    (∀ (o : Fin 10) u c t x rest, 2 ≤ o.val → (s.countWaits o).portUp o = true →
      (s.countWaits o).choose o = (some (u, c), t) → t.swQueue (queueKey o u c) = x :: rest → x.frame.ftype ≠ 2 →
      x.frame.ftype ≠ 0xA → Ends (.frameSelect o) s (t.sendHead o u c)) ∧
    (∀ (o : Fin 10) u c t x rest, 2 ≤ o.val → (s.countWaits o).portUp o = true →
      (s.countWaits o).choose o = (some (u, c), t) → t.swQueue (queueKey o u c) = x :: rest → x.frame.ftype = 2 →
      readCluster x.frame = none → Ends (.frameSelect o) s ((t.sendHead o u c).serveRead x.frame)) ∧
    (∀ (o : Fin 10) t, 2 ≤ o.val → (s.countWaits o).portUp o = true → (s.countWaits o).choose o = (none, t) →
      Ends (.frameSelect o) s t) ∧
    (∀ (o : Fin 10), o.val < 2 → (s.countWaits o).linkUp ((s.countWaits o).wayOut o) = true →
      Ends (.frameSelect o) s ((s.countWaits o).selectRing o)) ∧
    (∀ (o : Fin 10), s.get (SW_OSTAT.up o) = 1 → Ends (.outputDown o) s (s.outputDown o)) ∧
    (∀ (o : Fin 10), s.get (SW_OSTAT.up o) = 0 → Ends (.outputDown o) s s) ∧
    (∀ (o : Fin 10) (u : Fin 9) (c : Fin 8) x rest t, s.swQueue (queueKey o u c) = x :: rest → x.holding = true →
      x.due = some t → reached 56 (s.leaves56 o) t = true →
      EndsIn (.launch o u c) s (s.setSwQueue (queueKey o u c) ({ x with holding := false } :: rest))) ∧
    (∀ (d : Fin 2) f (w0 : Fin 32) (x : TransitSheets), domainBroadcast f = false → ringCopy f = false →
      f.dst ≠ s.nodeId → f.ftype ≠ 5 → 1 < f.hops → isSync f = false →
      Ends (.transitForward d f w0 x) s
        (s.forwardOn d { frame := { f with hops := f.hops - 1 }, w0 := w0, bad := x.bad.map (·.val), more := x.more })) ∧
    (∀ (d : Fin 2) f (w0 : Fin 32) (x : TransitSheets), isSync f = true → domainBroadcast f = true → f.src ≠ s.nodeId → 1 < f.hops →
      let t := s.takeLocal d f x.bad.isNone
      Ends (.transitForward d f w0 x) s (t.forwardOn d { frame := { f with hops := f.hops - 1 }, w0 := w0
                                                         bad := x.bad.map (·.val), more := x.more, rx := some (s.ringRx d 0, 0) })) ∧
    (∀ (d : Fin 2) f (w0 : Fin 32) more, domainBroadcast f = false → ringCopy f = false → f.dst = s.nodeId →
      s.lev.inReset = false → Ends (.transitForward d f w0 ⟨none, more⟩) s (s.ingressNow d { frame := f, route := .addr })) ∧
    (∀ (d : Fin 2) f (w0 : Fin 32) more, domainBroadcast f = false → ringCopy f = false → f.dst = s.nodeId →
      s.lev.inReset = true → Ends (.transitForward d f w0 ⟨none, more⟩) s (s.resetTransit d f)) ∧
    (∀ (d : Fin 2) f (w0 : Fin 32) (b : Fin 40) more, domainBroadcast f = false → ringCopy f = false → f.dst = s.nodeId →
      Ends (.transitForward d f w0 ⟨some b, more⟩) s s) ∧
    (∀ (d : Fin 2) f (w0 : Fin 32) (x : TransitSheets), domainBroadcast f = true → f.src = s.nodeId →
      Ends (.transitForward d f w0 x) s s)

/-! ### Ring links (chapter 06) -/

/-- Sheets on a ring link (R195 to R215): they are sent, acknowledged, resent, received in order, discarded with a NAK, and
the alignment markers go out and are missed. -/
def Obligations.LinkSheetCommands : Prop :=
  ∀ (s : State) (p : Fin 2),
    let x := s.link p
    (s.linkActive p = true → s.awake p = true → x.resend = none → x.room = true → Ends (.sheetSend p) s (s.nextSheet p)) ∧
    (∀ q, s.linkActive p = true → s.awake p = true → x.resend = some q → Ends (.sheetSend p) s (s.resendSheet p q)) ∧
    (∀ ack n, s.linkUp p = true → Ends (.ackReceive p ack n false) s (s.takeAck p ack)) ∧
    (∀ ack n, s.linkUp p = true → ((s.takeAck p ack).link p).replay.any (fun e => e.sheet.seq == n) = true →
      Ends (.ackReceive p ack n true) s (((s.takeAck p ack).takeAck p ((n + 4095) % 4096)).startReplay p n)) ∧
    (∀ e rest, x.replay = e :: rest → s.linkUp p = true →
      e.at_ + 100 * max 10 (s.get (RING_LTIMER.replay p)) ≤ s.now →
      Ends (.replayTimeout p) s (s.startReplay p e.sheet.seq)) ∧
    (∀ t, x.since = some t → s.linkUp p = true → x.ackCoal = false → t + 100 ≤ s.now →
      EndsIn (.ackSend p) s ((s.setLink p { x with unacked := 0, since := none }).sendBlock p 0x5A x.ackField)) ∧
    (∀ y, let t := (s.headerErrors p y).idleErrors p y
      t.linkUp p = true → sheetDamaged y = true → Ends (.sheetReceive p y) s ((t.bump (RING_ERR4.block_err p)).sendNak p)) ∧
    (∀ y, let t := (s.headerErrors p y).idleErrors p y
      t.linkUp p = true → sheetDamaged y = false → y.stomp = true → y.crc = sheetCrc y ^^^ 0xFFFFFFFF →
      Ends (.sheetReceive p y) s (t.bump (RING_ERR2.stomp_rx p))) ∧
    (∀ y, let t := (s.headerErrors p y).idleErrors p y
      t.linkUp p = true → sheetDamaged y = false → y.stomp = false → y.crc ≠ sheetCrc y →
      Ends (.sheetReceive p y) s ((t.bump (RING_ERR0.crc p)).sendNak p)) ∧
    (∀ y, let t := (s.headerErrors p y).idleErrors p y
      t.linkUp p = true → sheetDamaged y = false → y.stomp = false → y.crc = sheetCrc y → y.seq ≠ (t.link p).expect →
      Ends (.sheetReceive p y) s ((t.bump (RING_ERR0.seq p)).takeAck p y.ack)) ∧
    (∀ y w, let t := (s.headerErrors p y).idleErrors p y
      t.linkUp p = true → sheetDamaged y = false → y.stomp = false → y.crc = sheetCrc y → y.seq = (t.link p).expect →
      t.openSheet p y = some w → Ends (.sheetReceive p y) s (t.acceptSheet p y w)) ∧
    (s.linkState p = lsUP → x.amDue ≤ 25 * s.now → EndsIn (.amSend p) s
      ((s.setLink p { x with
        amDue := x.amDue + 16385 * 64, mirror := x.mirror.map (fun m => { m with on := true }) }).amRound p false)) ∧
    (s.linkState p = lsUP → 25 * s.now < x.amDue → EndsIn (.amSend p) s s) ∧
    (∀ l : Fin 5, EndsIn (.amReceive p l true) s
      ((s.setLink p { x with amMissed := setNth x.amMissed l 0 }).put (RING_LANE.margin p l) (Config.laneMargin p l s.now))) ∧
    (∀ l : Fin 5, nth x.amMissed l = 1 →
      ((s.setLink p { x with amMissed := setNth x.amMissed l 2 }).put (RING_LANE.aligned p l) 0).get (RING_LANEMAP.spare p) ≠ l →
      EndsIn (.amReceive p l false) s
        ((s.setLink p { x with amMissed := setNth x.amMissed l 2 }).put (RING_LANE.aligned p l) 0))

/-- The states of a ring link in training, and what takes it down (R213, R214, R217 to R219, R226 to R229). -/
def Obligations.LinkTrainingCommands : Prop :=
  ∀ (s : State) (p : Fin 2) (o : Origin) (w : Nat),
    let x := s.link p
    (s.foreignCore o = false → bit w 1 = false → bit w 2 = false → bit w 3 = false → bit w 4 = false →
      Ends (.retrain p o w) s (((s.writeReg o (RING_LCTL.addr p) (withBit w 0)).retrain p).linkOk p o)) ∧
    (s.foreignCore o = false → bit w 0 = false → bit w 2 = false → bit w 3 = false → bit w 4 = false →
      Ends (.down p o w) s
        (let t := (s.writeReg o (RING_LCTL.addr p) (withBit w 1)).linkDown p 0x1
        (t.setLink p { t.link p with downCmd := true }).linkOk p o)) ∧
    (s.foreignCore o = true → Ends (.retrain p o w) s (s.done o stAUTH) ∧ Ends (.down p o w) s (s.done o stAUTH)) ∧
    (s.flag (RING_LSTAT.protected p) = true → 2 ^ 31 ≤ x.txCtr → Ends (.rekey p none w) s (s.startRekey p false)) ∧
    (∀ t, x.rekey = some (t, true) → t + 1000000 ≤ s.now → Ends (.rekeyTimeout p) s (s.linkDown p 0x6)) ∧
    (s.linkState p = lsDOWN → x.downCmd = false → 1000000 ≤ s.inState p → s.get (RING_LSTAT.down_reason p) ≠ 0 →
      EndsIn (.downRetry p) s (s.trainTo p lsDETECT)) ∧
    (∀ lanes, s.linkState p = lsDETECT → 3 ≤ (members 5 lanes).length → s.inState p ≤ 2000000 →
      EndsIn (.signalDetect p lanes) s ((s.setLink p { x with signal := lanes % 32 }).trainTo p lsLOCK)) ∧
    (∀ lanes, s.linkState p = lsLOCK → (members 5 x.signal).all (bit lanes) = true → s.inState p ≤ 2000000 →
      EndsIn (.blockLock p lanes) s
        (((members 5 lanes).foldl (fun s l => s.put (RING_LANE.block_lock p l) 1) s).trainTo p lsALIGN)) ∧
    (∀ skew, s.linkState p = lsALIGN → skew ≤ 160 → s.inState p ≤ 1000000 →
      EndsIn (.alignFound p skew) s
        ((((List.range 5).foldl (fun s l => if s.flag (RING_LANE.block_lock p l) then s.put (RING_LANE.aligned p l) 1 else s)
          s).trainTo p lsCAPX).sendCap p false)) ∧
    (∀ v, s.linkState p = lsCAPX → x.alike = 0 → EndsIn (.capReceive p v) s
      ((s.setLink p { x with alike := 1 }).puts
        [(RING_CAPPEER0.lo p, v), (RING_CAPPEER1.hi p, v / 2 ^ 32 % 2 ^ 24)])) ∧
    (∀ r, s.linkState p = lsCAPX → bit (s.capLocal p) 55 = true → bit (s.capPeer p) 55 = true → s.inState p ≤ 1000000 →
      negotiate (s.capLocal p) (s.capPeer p) = .ok r →
      Ends (.negotiation p) s (s.applyOutcome p r.1 r.2.1 r.2.2.1 r.2.2.2.1 r.2.2.2.2)) ∧
    (∀ m, s.linkState p = lsSECURE → s.inState p ≤ 30000000 → s.maySign p = true →
      Ends (.keysAgreed p (some m)) s (s.agree p m)) ∧
    (∀ m, s.linkUp p = true → x.rekey.isSome = true → s.maySign p = true → Ends (.keysAgreed p (some m)) s (s.agree p m)) ∧
    (s.linkState p = lsSECURE → Ends (.keysAgreed p none) s (s.linkDown p 0x5)) ∧
    (∀ t, trainLimit (s.linkState p) = some t → t ≤ s.inState p → Ends (.trainingTimeout p) s (s.linkDown p 0x9)) ∧
    (s.linkState p = lsUP → s.laneRemedy p = false → Ends (.syncHeaderLoss p) s (s.linkDown p 0x2)) ∧
    (s.linkState p = lsUP → s.laneRemedy p = true → Ends (.syncHeaderLoss p) s s)

/-- Lanes, fast idle and the wake tone of a ring link (R195, R220 to R226). -/
def Obligations.LinkLaneCommands : Prop :=
  ∀ (s : State) (p : Fin 2) (o : Origin) (w : Nat),
    let x := s.link p
    (s.foreignCore o = false → bit w 0 = false → bit w 1 = false → bit w 3 = false → bit w 4 = false →
      Ends (.laneSw p (some o) w) s
        (let t := s.writeReg o (RING_LCTL.addr p) (withBit w 2)
        if s.flag (RING_LSTAT.spare_ready p) && s.linkState p == lsUP then
          (t.laneSwitch p (t.get (RING_LCTL.lane p))).linkOk p o
        else s.linkRefuse p o)) ∧
    (s.linkUp p = true → s.get (RING_LSTAT.spare_ready p) = 1 → (s.logicalOf p (bits w 8 3)).isSome = true →
      Ends (.laneSw p none w) s (s.startMirror p (bits w 8 3) false)) ∧
    (s.foreignCore o = false → bit w 0 = false → bit w 1 = false → bit w 2 = false → bit w 3 = false →
      Ends (.wake p (some o) w) s
        (let t := s.writeReg o (RING_LCTL.addr p) (withBit w 4)
        if s.linkState p = lsSTOWED then (t.startTone p).linkOk p o else s.linkRefuse p o)) ∧
    (s.linkState p = lsSTOWED → Ends (.wake p none w) s (s.startTone p)) ∧
    (∀ (j : Fin 5) m, s.linkUp p = true → x.mirror = some m → m.j = j → m.on = true → m.confirmed = none →
      EndsIn (.mirrorConfirm p j) s (s.setLink p { x with mirror := some { m with confirmed := some s.now } })) ∧
    (∀ m, x.mirror = some m → s.linkUp p = true → m.now = false → m.taken = false → m.confirmed.isSome = true →
      s.inSeam s.ns = true → s.seamInto ≤ 1000 →
      Ends (.laneSwitched ⟨p, none⟩) s
        (((s.setLink p { x with mirror := if m.peerTook then none else some { m with taken := true } }).takeSpare p m.j).sendLane
          p 2 m.j false)) ∧
    (∀ m, x.mirror = some m → s.linkUp p = true → m.now = true → m.taken = false →
      Ends (.laneSwitched ⟨p, none⟩) s ((s.setLink p { x with mirror := none }).takeSpare p m.j)) ∧
    (∀ m (j : Fin 5), x.mirror = some m → s.linkUp p = true → m.j = j → m.now = false →
      Ends (.laneSwitched ⟨p, some j⟩) s
        ((s.setLink p { x with mirror := if m.taken then none else some { m with peerTook := true } }).puts
          [(RING_LANE.retired p j, 1), (RING_LANEMAP.retired p, setBit (s.get (RING_LANEMAP.retired p)) j true)])) ∧
    (∀ m t, x.mirror = some m → m.taken = false → m.peerTook = false → m.confirmed = some t → t + 2000000 ≤ s.now →
      EndsIn (.mirrorTimeout p) s (s.setLink p { x with mirror := none })) ∧
    (∀ j : Fin 5, s.linkUp p = true → (s.logicalOf p j).isSome = true → Ends (.laneLoss p ⟨j, .lost⟩) s (s.laneLost p j)) ∧
    (∀ j : Fin 5, s.linkUp p = true → (s.logicalOf p j).isSome = true → s.get (RING_LANEMAP.spare p) < 5 →
      Ends (.laneLoss p ⟨j, .mirrorNow⟩) s
        ((s.setLink p { x with
          mirror := some { j := j, spare := s.get (RING_LANEMAP.spare p), now := true, asked := false, on := true } }).amRound p true)) ∧
    (∀ j : Fin 5, s.linkUp p = true → (s.logicalOf p j).isSome = true → s.get (RING_LSTAT.degraded p) = 0 →
      Ends (.laneLoss p ⟨j, .drop⟩) s (s.dropLane p j)) ∧
    (s.linkUp p = true → s.get (RING_LANEMAP.spare p) < 5 → EndsIn (.spareLaneLockLoss p) s
      (s.puts [(RING_LSTAT.spare_ready p, 0), (RING_LANE.block_lock p (s.get (RING_LANEMAP.spare p)), 0),
        (RING_LANE.aligned p (s.get (RING_LANEMAP.spare p)), 0)])) ∧
    (s.linkUp p = true → s.get (RING_LANEMAP.spare p) < 5 → EndsIn (.spareLaneRelock p) s
      (s.puts [(RING_LSTAT.spare_ready p, 1), (RING_LANE.block_lock p (s.get (RING_LANEMAP.spare p)), 1),
        (RING_LANE.aligned p (s.get (RING_LANEMAP.spare p)), 1),
        (RING_LANE.margin p (s.get (RING_LANEMAP.spare p)), Config.laneMargin p (s.get (RING_LANEMAP.spare p)) s.now)])) ∧
    (s.linkUp p = true → s.get (RING_LCTL.fidle_en p) = 1 → s.get (RING_LSTAT.fidle_tx p) = 0 → x.quiet = true →
      EndsIn (.fidleRequest p) s ((s.setLink p { x with fidleAsked := true }).sendBlock p 0x8D 1)) ∧
    (s.linkUp p = true → x.fidleAsked = true → x.quiet = true →
      EndsIn (.fidleGrant p true) s
        (((s.setLink p { x with fidleAsked := false }).put (RING_LSTAT.fidle_tx p) 1).fidleState p)) ∧
    (s.linkUp p = true → EndsIn (.fidleGrant p false) s
      (((s.put (RING_LSTAT.fidle_rx p) 1).sendBlock p 0x8D 2).fidleState p)) ∧
    (s.get (RING_LSTAT.fidle_tx p) = 1 → EndsIn (.fidleBurst p) s
      (s.emit (.idle p ((s.lanesUsed p).map (fun i => s.get (laneFld p i))) (some 256)))) ∧
    (s.get (RING_LSTAT.fidle_tx p) = 1 → EndsIn (.fidleExit p true) s
      ((((s.setLink p { x with exitAt := some s.now }).put (RING_LSTAT.fidle_tx p) 0).sendBlock p 0x8D 4).fidleState p)) ∧
    (s.get (RING_LSTAT.fidle_rx p) = 1 → EndsIn (.fidleExit p false) s ((s.put (RING_LSTAT.fidle_rx p) 0).fidleState p)) ∧
    (∀ t, x.tone = some t → t + 20000000 ≤ s.now → EndsIn (.wakeToneEnd p false) s (s.setLink p { x with tone := none })) ∧
    (∀ t, x.tone = some t → s.linkState p = lsSTOWED → t + 20000 ≤ s.now →
      EndsIn (.wakeToneEnd p true) s ((s.setLink p { x with tone := none }).trainTo p lsDETECT))

/-! ### The ring domain (chapter 07) -/

/-- The cycle, the slots, the seam and the map (R231, R236 to R240, R256, R262). -/
def Obligations.RingCycleCommands : Prop :=
  ∀ (s : State) (c : Nat),
    (∀ epoch m, s.activeHead = false → EndsIn (.mapFrame epoch m) s { s with ring := { s.ring with
      draft := some (epoch % 2 ^ 32, (m.filter (fun e => decide (e.1 < 64))).foldl (fun a e => SMap.insert a e.1 e.2) []) } }) ∧
    (s.thisCycle = some c → s.activeHead = true → s.ring.sentAt ≠ some c → EndsIn .cycleStart s (s.sendCycleStart c)) ∧
    (∀ num epoch flags, s.activeHead = false → s.ring.draft = none → EndsIn (.cycleStartReceive num epoch flags) s
      (({ s with ring := { s.ring with gotAt := s.thisCycle, misses := 0, lastStart := s.now, wrapped := bit flags 1 } }).puts
        [(RING_CYCNUM.cycle, num), (TIM_STATUS.sec_in_use, b2n (bit flags 2))])) ∧
    (∀ num flags d, s.activeHead = false → s.ring.draft = some d → d.1 < 2 ^ 32 → EndsIn (.cycleStartReceive num d.1 flags) s
      ((({ s with ring := { s.ring with gotAt := s.thisCycle, misses := 0, lastStart := s.now, wrapped := bit flags 1 } }).puts
        [(RING_CYCNUM.cycle, num), (TIM_STATUS.sec_in_use, b2n (bit flags 2))]).useMap d.1 d.2)) ∧
    (s.thisCycle = some c → s.ring.cycleAt = none → s.activeHead = false → EndsIn .cycleTick s
      { (s.bumpWrap RING_CYCNUM.cycle) with ring := { s.ring with cycleAt := some c, answered := [false, false] } }) ∧
    (∀ c', s.thisCycle = some c → s.ring.cycleAt = some c' → c' ≠ c → s.ring.gotAt ≠ some c' → s.activeHead = false →
      EndsIn .cycleTick s { ((s.bump RING_CYCMISS.starts).bumpWrap RING_CYCNUM.cycle) with
        ring := { s.ring with cycleAt := some c, answered := [false, false] } }) ∧
    (∀ (p : Fin 2) t u x, s.slotInto p = some t → t ≤ 1500 → s.spliceHolds p = false → s.ring.answered.getD p false = false →
      s.busy (s.wayOut p) = false → s.linkUp (s.wayOut p) = true → s.candidate p 7 = some (u, x) →
      Ends (.slotMarker ⟨p, none⟩) s (s.sendHead p u 7)) ∧
    (∀ (p : Fin 2) t, s.slotInto p = some t → t ≤ 1500 → s.spliceHolds p = false → s.ring.answered.getD p false = false →
      s.busy (s.wayOut p) = false → s.linkUp (s.wayOut p) = true → s.candidate p 7 = none →
      Ends (.slotMarker ⟨p, none⟩) s
        (let f : Frame := { ftype := 9, cls := 7, dst := s.mapHead.getD s.nodeId, src := s.nodeId, a := 1 }
        let t := s.ingressNow 5 { frame := f, route := .port p 0 7, since := some s.time }
        match t.candidate p 7 with
        | some (u, _) => t.sendHead p u 7
        | none => t)) ∧
    (∀ (p : Fin 2) t, s.slotInto p = some t → s.spliceHolds p = true → Ends (.slotMarker ⟨p, none⟩) s s) ∧
    (∀ (p : Fin 2) (n : Fin 64), s.activeHead = true →
      Ends (.slotMarker ⟨p, some n⟩) s (s.lateMark n false) ∧ Ends (.slotMissed ⟨p, some n⟩) s (s.lateMark n true)) ∧
    (∀ p : Fin 2, s.period ≠ 0 → (s.slotOf p).2 ≠ 0 → (s.slotOf p).1 + 1500 < s.ringPos s.ns →
      s.ring.answered.getD p false = false → s.activeHead = false →
      let t := ({ s with ring := { s.ring with answered := setNth s.ring.answered p true } } : State).bump RING_MISSED.slots
      Ends (.slotMissed ⟨p, none⟩) s (t.report { src := 0x41, master := unitPORT p, addr := t.domainAddr RING_MISSED.addr })) ∧
    (s.inSeam s.ns = true → s.ring.seamAt ≠ s.thisCycle → s.ring.leaving = false → s.activeHead = false →
      EndsIn .seamOpen s
        (let t := ({ s with ring := { s.ring with seamAt := s.thisCycle } } : State).noteMove
        { t with ring := { t.ring with revertAsked := false, releaseAsked := false } })) ∧
    (s.inSeam s.ns = true → s.ring.seamAt ≠ s.thisCycle → s.ring.leaving = true → s.activeHead = false →
      EndsIn .seamOpen s
        (let t := ({ s with ring := { s.ring with seamAt := s.thisCycle } } : State).noteMove
        { t with ring := { t.ring with leaving := false, left := true, revertAsked := false, releaseAsked := false } })) ∧
    (s.inSeam s.ns = true → s.ring.seamAt ≠ s.thisCycle → s.ring.leaving = false → s.activeHead = true →
      EndsIn .seamOpen s
        (let t := ({ s with ring := { s.ring with seamAt := s.thisCycle } } : State).noteMove.sendOrders
        if t.activeHead && t.ring.revertAsked && t.mayHandOver then
          { t with ring := { t.ring with revertAsked := false, releaseAsked := false } }.handOver
        else if t.activeHead && t.ring.releaseAsked then
          { t with ring := { t.ring with revertAsked := false, releaseAsked := false } }.mirrorSend.standDown
        else { t with ring := { t.ring with revertAsked := false, releaseAsked := false } }))

/-- Wraps, splices, membership and partitions (R36, R232, R242 to R250, R262). -/
def Obligations.RingTopologyCommands : Prop :=
  ∀ (s : State) (p : Fin 2) (es : List MapEdit),
    (s.linkUp p = false → s.get (wrapFld p) = 0 → EndsIn (.wrap ⟨p, none⟩ es) s
      (((s.dropJoin s.nodeId p).put (wrapFld p) 1).topology es)) ∧
    (∀ n : Fin 64, s.activeHead = true → EndsIn (.wrap ⟨p, some n⟩ es) s ((s.dropJoin n p).topology es)) ∧
    (s.linkUp p = true → s.get (spliceFld p) = 0 → EndsIn (.linkHeld ⟨p, none⟩) s
      ((s.put (spliceFld p) 1).addJoin s.nodeId p)) ∧
    (∀ n : Fin 64, EndsIn (.linkHeld ⟨p, some n⟩) s (s.addJoin n p)) ∧
    (s.inSeam s.ns = true → s.get (spliceFld p) = 3 → EndsIn (.spliceOrder (some p) true) s (s.put (spliceFld p) 4)) ∧
    (s.inSeam s.ns = true → s.get (spliceFld p) = 1 → EndsIn (.spliceOrder (some p) false) s (s.put (spliceFld p) 2)) ∧
    (∀ b, s.inSeam s.ns = true → EndsIn (.spliceOrder none b) s { s with ring := { s.ring with left := b } }) ∧
    (s.seamLate = false → s.get (spliceFld p) = 2 → s.drainedIn = true →
      EndsIn (.spliceDrained ⟨p, none⟩ es) s ((s.joinPort p).topology es)) ∧
    (∀ n : Fin 64, s.activeHead = true → EndsIn (.spliceDrained ⟨p, some n⟩ es) s ((s.dropJoin n p).topology es)) ∧
    (s.seamLate = false → s.get (spliceFld p) = 4 → (s.link p).quiet = true → (s.transitOf (1 - p.val)).fifo = [] →
      (s.transitOf (1 - p.val)).redo = none → EndsIn (.spliceDrained ⟨p, none⟩ es) s
        ((s.puts [(spliceFld p, 0), (wrapFld p, 1)]).topology (es ++ [⟨bits (s.capPeer p) 24 6, false, 0, 0, 0⟩]))) ∧
    (s.seamLate = true → s.get (spliceFld p) = 2 →
      EndsIn (.spliceAbandon p) s ((s.put (spliceFld p) 1).bump RING_SPLICE.abandoned)) ∧
    (s.seamLate = true → s.get (spliceFld p) = 4 →
      EndsIn (.spliceAbandon p) s ((s.put (spliceFld p) 3).bump RING_SPLICE.abandoned)) ∧
    (∀ o w, s.foreignCore o = false → bit w 1 = false → bit w 2 = false →
      s.nodeState = nsSERVICE →
      Ends (.leave (some o) w) s (((s.put RING_CTL.leave_id (bits (withBit w 0) 8 6)).askLeave).ringOk o)) ∧
    (∀ w, s.activeHead = true → Ends (.leave none w) s (s.addLeave (bits w 8 6))) ∧
    (s.nodeState = nsJOINING → s.inSeam s.ns = true → s.readyToJoin = true → s.activeHead = true →
      Ends (.joinRequest .ask) s s.joinSelf) ∧
    (s.get TIM_STATUS.state ≠ 2 → Ends (.joinRequest .ask) s s) ∧
    (∀ h, s.nodeState = nsJOINING → s.inSeam s.ns = true → s.readyToJoin = true → s.activeHead = false → s.mapHead = some h →
      s.linkUp p = true →
      Ends (.joinRequest .ask) s (s.toRing (s.mgmt mkJOIN h [s.nodeId, s.get CST_RUNID.id, b2n s.reservesStandby,
        s.get RING_STATUS.role]))) ∧
    (∀ e id a b c (r : Fin 4), s.activeHead = true → s.inSeam s.ns = true → s.joinReason e.node id a b c ≠ 0 →
      Ends (.joinRequest (.judge e id a b c r)) s (s.toRing (s.mgmt mkADMIT e.node [s.joinReason e.node id a b c]))) ∧
    (s.nodeState = nsJOINING → Ends (.joinRequest (.answer 0)) s s.admitted) ∧
    (∀ r, s.nodeState = nsJOINING → r % 8 ≠ 0 → Ends (.joinRequest (.answer r)) s (s.refused (r % 8))) ∧
    (∀ c, s.thisCycle = some c → c + 5000 ≤ s.ns → s.ring.testedAt ≠ some c → s.ring.gotAt = some c → s.activeHead = true →
      Ends .partitionTest s { s with ring := { s.ring with testedAt := some c, misses := 0 } }) ∧
    (∀ e, s.nodeState = nsORPHAN → s.inSeam s.ns = true → s.cst.restart = true → s.get RING_STATUS2.orphan_epoch + 1 < 2 ^ 32 →
      e = s.get RING_STATUS2.orphan_epoch + 1 → Ends (.rejoin e) s (s.setNodeState nsSERVICE)) ∧
    (∀ e, s.nodeState = nsORPHAN → s.inSeam s.ns = true → e % 2 ^ 32 ≠ (s.get RING_STATUS2.orphan_epoch + 1) % 2 ^ 32 →
      Ends (.rejoin e) s ((((s.discardInputs).haltEngines hcSTATE).setNodeState nsJOINING)))

/-- Heads: the witness, takeover, reversion and the mirror (R251 to R257, R262). -/
def Obligations.RingHeadCommands : Prop :=
  ∀ (s : State) (c : Nat) (p : Fin 2),
    (s.thisCycle = some c → s.isHead = true → s.get RING_HEADCFG.wit_mode = 0 → s.nodeState ≠ nsBOOT →
      s.ring.sampledAt ≠ some c → s.activeHead = true →
      EndsIn (.witGrantSample false) s
        (let t : State := { s with ring := { s.ring with sampledAt := some c } }
        if t.activeHead then t.standDown else t.zero RING_WIT.grant)) ∧
    (s.isHead = true → s.get RING_HEADCFG.wit_mode = 0 → s.activeHead = true → EndsIn .witGrantFall s s.standDown) ∧
    (s.isHead = true → s.get RING_HEADCFG.wit_mode = 0 → s.activeHead = false →
      EndsIn .witGrantFall s (s.put RING_WIT.grant 0)) ∧
    (s.thisCycle = some c → s.isHead = true → s.ring.toggledAt ≠ some c → s.nodeState ≠ nsBOOT → s.ring.failing = false →
      EndsIn .witHealthToggle s
      ({ s with ring := { s.ring with toggledAt := some c, witHealth := !s.ring.witHealth } }.emit
        (.witHealth (!s.ring.witHealth)))) ∧
    (s.isHead = true → s.get RING_HEADCFG.wit_mode = 1 → EndsIn (.leaseRenew .granted) s
      (({ s with ring := { s.ring with lease := some (s.nodeId, s.now) } }).put RING_WIT.grant 1)) ∧
    (∀ h, s.get RING_HEADCFG.is_witness = 1 → s.ring.lease = none → EndsIn (.leaseRenew (.renewal h)) s
      (({ s with ring := { s.ring with lease := some (h.val, s.now) } }).toRing (s.mgmt mkLEASE h [h.val]))) ∧
    (∀ g t, s.ring.lease = some (g, t) → t + s.leaseTime ≤ s.now → s.get RING_HEADCFG.is_witness = 1 →
      EndsIn (.leaseExpire none) s { s with ring := { s.ring with lease := none } }) ∧
    (s.thisCycle = some c → s.get RING_STATUS.role = 2 → s.get RING_WIT.grant = 1 → s.ring.mismatch = false →
      EndsIn .takeover s (s.becomeActive.sendCycleStart c)) ∧
    (∀ other, s.activeHead = true → s.nodeId ≠ other.val → s.get RING_HEADCFG.preferred = 0 →
      Ends (.dualGrant other true) s ((s.standDown.setEvent RING_WIT.dual).report
        { src := 0x43, master := 0, addr := s.domainAddr RING_WIT.addr, extra := other })) ∧
    (∀ n r, s.get RING_HEADCFG.revert ≠ 0 → s.inSeam s.ns = true → s.activeHead = true → s.get RING_HEADCFG.preferred = 0 →
      s.mapStandby = some n → s.ring.peerPref = true → s.ring.mismatch = false → s.ring.peerReport = some r → r % 16 = 15 →
      s.get RING_HEADCFG.revert ≤ s.ring.peerSecs → EndsIn .revert s s.handOver) ∧
    (s.inSeam s.ns = true → s.activeHead = false → s.get RING_STATUS.role = 2 → s.ring.mismatch = false →
      s.ring.offered = true → EndsIn .revert s (s.becomeActive true)) ∧
    (∀ t, s.get RING_HEADCFG.revert ≠ 0 → s.inSeam s.ns = true → s.activeHead = false → s.ring.healthy = some t →
      s.get RING_STATUS.role = 2 → s.ring.mismatch = false → s.get RING_HEADCFG.preferred = 1 →
      t + s.get RING_HEADCFG.revert * 1000000000 ≤ s.now → EndsIn .revert s (s.becomeActive true)) ∧
    (∀ o w, s.foreignCore o = false → bit w 0 = false → bit w 2 = false →
      s.activeHead = false → Ends (.revertNow o w) s (s.ringRefuse o)) ∧
    (∀ o w, s.foreignCore o = false → bit w 0 = false → bit w 2 = false →
      s.activeHead = true →
      Ends (.revertNow o w) s (({ (s.put RING_CTL.leave_id (bits (withBit w 1) 8 6)) with
        ring := { s.ring with revertAsked := true } }).ringOk o)) ∧
    (∀ o w, s.foreignCore o = false → bit w 0 = false → bit w 1 = false →
      s.activeHead = true →
      Ends (.release o w) s (({ (s.put RING_CTL.leave_id (bits (withBit w 2) 8 6)) with
        ring := { s.ring with releaseAsked := true } }).ringOk o)) ∧
    (∀ b, s.isHead = true → bit b 1 = true → Ends (.mirrorHello (some b)) s
      (({ s with ring := { s.ring with mismatch := false } }).put RING_MIRROR.version 0x11)) ∧
    (s.activeHead = true → s.get RING_MIRROR.version ≠ 0 → EndsIn (.mirrorUpdate .send) s s.mirrorSend) ∧
    (∀ u us, s.ring.updates = u :: us → EndsIn (.mirrorUpdate .acknowledged) s
      ((({ s with ring := { s.ring with updates := us } }).putLag).sendHeldReqs u.2)) ∧
    (∀ r, s.get RING_STATUS.role = 2 → EndsIn (.mirrorUpdate (.receive r)) s (s.takeMirror r)) ∧
    (∀ bs b, s.activeHead = true → EndsIn (.healthReport (.receive bs b)) s
      (({ s with ring := { s.ring with
        peerReport := some (ofBytes (bs.take 4)), peerSecs := ofBytes ((bs.drop 8).take 4), peerPref := b } }).put RING_PEERHEALTH.report (ofBytes (bs.take 4)))) ∧
    (s.get RING_STATUS.role = 2 → EndsIn (.loopFrame p true) s
      { s with ring := { s.ring with loopOk := setNth s.ring.loopOk p true } }) ∧
    (∀ f, s.activeHead = true → f.ftype = 5 → f.dst < 64 → s.get (RING_MAP.failed_over f.dst) = 1 → frameUnit f ≠ 0x0021 →
      EndsIn (.takeoverCompletion f) s (s.bump RING_HOSTDISC.count))

/-! ### The head's host interface and the Ethernet bridge (chapters 07 and 08) -/

/-- Windows, transaction slots, host rings and the links of host and Ethernet (R157, R264, R271 to R281). -/
def Obligations.HostCommands : Prop :=
  ∀ s : State,
    (∀ tag addr size, s.isHead = true → s.host.linkUp = true → addr < 2 ^ 34 → size ∈ [1, 2, 4, 8] → addr % size = 0 →
      readLegal (addr % 2 ^ 28) size = true → burstLegal (addr % 2 ^ 28) size = true → s.hostOpen addr = true →
      EndsIn (.hostRead tag addr size) s
        (let r : WinRead := { tag := tag, addr := addr, size := size, data := [], recv := s.now }
        ({ s with host := { s.host with reads := s.host.reads ++ [r] } }).sendRead r)) ∧
    (∀ tag addr size, s.isHead = true → s.host.linkUp = true → addr < 2 ^ 34 → size ∈ [1, 2, 4, 8] → addr % size ≠ 0 →
      longReads (addr % 2 ^ 28) = false →
      EndsIn (.hostRead tag addr size) s (s.readAborts tag addr stILLEGAL 0 0)) ∧
    (∀ tag addr size, s.isHead = true → s.host.linkUp = true → addr < 2 ^ 34 → readLegal (addr % 2 ^ 28) size = false →
      EndsIn (.hostRead tag addr size) s (s.readAborts tag addr stILLEGAL 0 0)) ∧
    (∀ addr data, s.isHead = true → s.host.linkUp = true → addr < 2 ^ 34 → data.length ≤ s.host.mps → s.hostOpen addr = true →
      addr / 2 ^ 28 = s.nodeId → addr % 2 ^ 28 < 0x3000000 → EndsIn (.hostWrite addr data) s
        ((writePieces 4096 600 addr data).foldl (fun s p => s.sendRequest 3 p.1 p.2.length 0 0x0020 p.2) s)) ∧
    (∀ addr data, s.isHead = true → s.host.linkUp = true → addr < 2 ^ 34 → data.length ≤ s.host.mps → s.hostOpen addr = true →
      addr / 2 ^ 28 ≠ s.nodeId → s.get (RING_MAP.present (addr / 2 ^ 28)) = 0 →
      EndsIn (.hostWrite addr data) s ((s.errLog stNO_NODE 0 0 true none addr).bump HOST_DROP.inactive)) ∧
    (∀ addr data, s.isHead = true → s.host.linkUp = true → addr < 2 ^ 34 → data.length ≤ s.host.mps → s.hostOpen addr = true →
      s.relays addr data.length = true →
      EndsIn (.hostWrite addr data) s (s.toRing (s.relayFrame (addr / 2 ^ 28) (addr % 2 ^ 28) 0 mrWRITE 0 data))) ∧
    (∀ addr data, s.isHead = true → s.host.linkUp = true → addr < 2 ^ 34 → s.host.mps < data.length →
      EndsIn (.hostWrite addr data) s (s.aerError aerMALFORMED)) ∧
    (∀ f r, s.isHead = true → f.ftype = 5 → frameUnit f = 0x0020 →
      s.host.reads.find? (fun r => r.tag % 256 == nth f.b 5) = some r → EndsIn (.complReceive f) s (s.complRead r f)) ∧
    (∀ f, s.isHead = true → f.ftype = 5 → frameUnit f = 0x0020 →
      s.host.reads.find? (fun r => r.tag % 256 == nth f.b 5) = none → EndsIn (.complReceive f) s (s.bump HOST_DROP.late)) ∧
    (∀ r, s.host.reads.find? (fun r => decide (r.due ≤ s.now)) = some r →
      EndsIn .hostReadTimeout s ((s.closeRead r).readAborts r.tag r.addr stTIMEOUT 0 0)) ∧
    (∀ (n : Fin 256) o w, s.isHead = false → Ends (.tsIssue n o w) s (s.addrFault o (HOST_TS_CMD.addr n) 2)) ∧
    (∀ (n : Fin 256) o w, s.isHead = true → (s.writeReg o (HOST_TS_CMD.addr n) w).get (HOST_TS_CMD.op n) = 0 →
      Ends (.tsIssue n o w) s ((s.put (HOST_TS_CMD.issue_status n) stILLEGAL).done o stOK)) ∧
    (∀ (n : Fin 256) o w, let t := s.writeReg o (HOST_TS_CMD.addr n) w
      s.isHead = true → t.get (HOST_TS_CMD.op n) = 1 → t.get (HOST_TS_CMD.size n) ≤ 3 →
      s.slotAddr n % 2 ^ t.get (HOST_TS_CMD.size n) = 0 → s.hostOpen (s.slotAddr n) = true → s.slotDue n = none →
      Ends (.tsIssue n o w) s ((t.slotIssue n).done o stOK)) ∧
    (∀ f t, s.isHead = true → f.ftype = 5 → frameUnit f = 0x0021 → nth f.b 5 < 256 → s.slotDue (nth f.b 5) = some t →
      EndsIn (.tsResult f) s
        (s.slotResult (nth f.b 5) (f.a % 256) (bits f.a 8 8) (nth f.b 0 % 8) (ofBytes (f.payload.take 8)))) ∧
    (∀ (n : Fin 256) t, s.slotDue n = some t → t ≤ s.now → EndsIn (.tsTimeout n) s (s.slotResult n stTIMEOUT 0 0 0)) ∧
    (∀ (j : Fin 64) f idx, s.rqOpen j = true → Ends (.rqWrite j f idx) s (s.rqEnter j f idx)) ∧
    (∀ vec msg, vec < 256 → EndsIn (.evqWrite vec msg) s (s.evqEnter vec msg)) ∧
    (∀ j : Fin 64, EndsIn (.rqModeration j) s (s.rqAnnounce j))

/-- The interface version, function-level reset, link up, and the Ethernet bridge (R157, R258 to R261, R264, R280, R281). -/
def Obligations.HostLinkAndEtherCommands : Prop :=
  ∀ s : State,
    (∀ o w, s.isHead = false → EndsIn (.ifVersionWrite o w) s (s.addrFault o HOST_IF_VERSION.addr 2)) ∧
    (∀ o w, s.isHead = true → s.host.reads = [] → s.host.slots = [] → bit w 1 = true → EndsIn (.ifVersionWrite o w) s
      ((s.puts [(HOST_IF_VERSION.offered, w), (HOST_IF_VERSION.agreed, 0x11), (HOST_IF_VERSION.status, stOK)]).done o stOK)) ∧
    (∀ o w, s.isHead = true → s.host.reads = [] → s.host.slots = [] → bit w 1 = false → bit w 0 = false → EndsIn (.ifVersionWrite o w) s
      ((s.puts [(HOST_IF_VERSION.offered, w), (HOST_IF_VERSION.agreed, 0), (HOST_IF_VERSION.status, stRANGE)]).done o stOK)) ∧
    (∀ o w, s.isHead = true → s.host.reads ≠ [] → EndsIn (.ifVersionWrite o w) s
      (((s.put HOST_IF_VERSION.status stSTATE).bump HOST_REFUSED.count).done o stOK)) ∧
    (s.isHead = true → Ends (.flr false) s s.flrClear) ∧
    (s.isHead = true → Ends (.flr true) s
      ((({ s.flrClear with host := { s.flrClear.host with linkUp := false } }).puts
        [(HOST_STAT.gen, 0), (HOST_STAT.width, 0)]).outputDown 2)) ∧
    (∀ gen width mps, s.isHead = true → s.nodeState ≠ nsBOOT → 1 ≤ gen → gen ≤ 5 → width ∈ [1, 2, 4, 8] → EndsIn (.pcieLinkUp gen width mps) s
      (({ s with host := { s.host with linkUp := true, mps := min 512 (max 128 mps) } }).puts
        [(HOST_STAT.gen, gen), (HOST_STAT.width, width), (SW_OSTAT.up 2, 1)])) ∧
    (∀ (e : Fin 2) bs, s.member e = true → s.ethOff e = false → (s.learn bs s.nodeId e).ptpEnds e bs = none →
      0x0180C200000F < ethDst bs → (s.learn bs s.nodeId e).lookupMac bs = none →
      let t := s.learn bs s.nodeId e
      Ends (.ethReceive e bs) s (t.flood e {
        ftype := 8, cls := t.ethClass bs, dst := t.nodeId, src := t.nodeId, a := 256 * (3 + e.val)
        ext := some (extOf (t.ethRx e) false), payload := bs })) ∧
    (∀ (e : Fin 2) bs t, s.member e = true → s.ethOff e = false → (s.learn bs s.nodeId e).ptpEnds e bs = some t →
      Ends (.ethReceive e bs) s t) ∧
    (∀ (p : Fin 2) f, f.ftype = 8 → Ends (.ethRingReceive p f) s (s.ingressNow p { frame := f, route := .addr })) ∧
    (EndsIn .macAgeing s
      (let macs := s.ring.macs.filter (fun e => decide (s.now < e.seen + 1000000000 * max 10 (s.get ETH_BRAGE.ageing)))
      ({ s with ring := { s.ring with macs := macs } }).put ETH_BRLEARN.entries macs.length)) ∧
    (∀ e : Fin 2, s.ethOff e = false → EndsIn (.ethLinkUp e 0) s
      (({ s with gates := { s.gates with ethRate := setNth s.gates.ethRate e 10000, ethMode := setNth s.gates.ethMode e 0 } }).put
        (SW_OSTAT.up (3 + e)) 1)) ∧
    (∀ e : Fin 2, s.ethOff e = false → EndsIn (.ethLinkUp e 4) s
      (({ s with gates := { s.gates with ethRate := setNth s.gates.ethRate e 10, ethMode := setNth s.gates.ethMode e 4 } }).put
        (SW_OSTAT.up (3 + e)) 1))

/-! ### Mailboxes and update (chapters 08, 11 and 12) -/

/-- NODE_CMD, STATUS, UNIT_RESET, CLUSTER_RESET, DIE_RESET, NODE_RESET, NODE_HALT, HOLD_CLEAR and QUENCH complete: a write of a
mailbox's command register, judged as it is written, and each command that runs in mailbox m with its own effect, on every argument
(R23, R25, R29, R36, R282 to R285, R463, R477). -/
def Obligations.MailboxCommands : Prop :=
  ∀ (s : State) (m : Fin 3),
    (∀ o w, s.mailboxOf o m = false → Ends (.nodeCmd m o w) s (s.done o stAUTH)) ∧
    (∀ o w, s.mailboxOf o m = true → s.get (NODE_CMDSTAT.busy m) = 1 →
      Ends (.nodeCmd m o w) s ((s.bump (NODE_MBXCNT.overrun m)).done o stOK)) ∧
    (∀ o w, s.mailboxOf o m = true → s.get (NODE_CMDSTAT.busy m) = 0 → s.judge m (bits w 0 8) = stOK →
      Ends (.nodeCmd m o w) s
        ((({ s with mbx := SMap.set s.mbx m { code := bits w 0 8, tag := bits w 8 8 } {} }).put (NODE_CMDSTAT.busy m) 1).done
          o stOK)) ∧
    (∀ o w, s.mailboxOf o m = true → s.get (NODE_CMDSTAT.busy m) = 0 → s.judge m (bits w 0 8) ≠ stOK →
      (s.judge m (bits w 0 8) ≠ stRANGE ∨ bits w 0 8 ∉ [mcCASTING_INSTALL, mcRECAST]) →
      Ends (.nodeCmd m o w) s ((s.mbxShow m (s.judge m (bits w 0 8)) (bits w 0 8) (bits w 8 8) []).done o stOK)) ∧
    (∀ o w, s.mailboxOf o m = true → s.get (NODE_CMDSTAT.busy m) = 0 → bits w 0 8 = mcCASTING_INSTALL →
      s.judge m mcCASTING_INSTALL = stRANGE → Ends (.nodeCmd m o w) s
        ((s.mbxShow m stRANGE mcCASTING_INSTALL (bits w 8 8) (s.installCheck m).2).done o stOK)) ∧
    (∀ o w x, s.mailboxOf o m = true → s.get (NODE_CMDSTAT.busy m) = 0 → bits w 0 8 = mcRECAST →
      s.judge m mcRECAST = stRANGE → s.recastDiffers = some x → Ends (.nodeCmd m o w) s
        ((s.mbxShow m stRANGE mcRECAST (bits w 8 8) [x]).done o stOK)) ∧
    (s.mbxRuns m mcSTATUS = true → Ends (.status m) s
      (s.mbxEnd m stOK [s.nodeState + 8 * s.get NODE_STATE.pause, s.get RING_MAPEPOCH.epoch])) ∧
    (s.mbxRuns m mcUNIT_RESET = true → unitResets (s.arg m 0) = true →
      Ends (.unitReset m) s ((s.unitReset (s.arg m 0)).mbxEnd m stOK)) ∧
    (s.mbxRuns m mcUNIT_RESET = true → unitResets (s.arg m 0) = false → Ends (.unitReset m) s (s.mbxEnd m stRANGE)) ∧
    (s.mbxRuns m mcCLUSTER_RESET = true → s.argCheck m mcCLUSTER_RESET ≠ stOK →
      Ends (.clusterReset m) s (s.mbxEnd m stRANGE)) ∧
    (s.mbxRuns m mcCLUSTER_RESET = true → s.argCheck m mcCLUSTER_RESET = stOK →
      Ends (.clusterReset m) s ((s.clusterReset (s.arg m 0 % 256)).mbxEnd m stOK)) ∧
    (s.mbxRuns m mcDIE_RESET = true → s.argCheck m mcDIE_RESET ≠ stOK → Ends (.dieReset m) s (s.mbxEnd m stRANGE)) ∧
    (s.mbxRuns m mcDIE_RESET = true → s.argCheck m mcDIE_RESET = stOK → s.arg m 0 % 256 = 3 →
      Ends (.dieReset m) s (s.resetW.mbxEnd m stOK)) ∧
    (∀ d, s.mbxRuns m mcDIE_RESET = true → s.argCheck m mcDIE_RESET = stOK → s.arg m 0 % 256 = d → d ≠ 3 →
      Ends (.dieReset m) s (((s.dieReset (d - 1)).want bkDIE [d]).mbxEnd m stOK)) ∧
    (s.mbxRuns m mcNODE_RESET = true → Ends (.nodeReset m) s s.nodeReset) ∧
    (s.mbxRuns m mcHALT = true → Ends (.nodeHalt m) s ((s.parkNode nsHALTED).mbxEnd m stOK)) ∧
    (s.mbxRuns m mcHOLD_CLEAR = true → Ends (.holdClear m) s (((s.put FLT_STATUS.node_hold 0).releaseOutputs).mbxEnd m stOK)) ∧
    (s.mbxRuns m mcQUENCH = true → bit (s.arg m 0) 1 = false →
      let t := s.latch (2 ^ qsSOFT) 0 s.nextEdge
      Ends (.quench m) s
        ((if bit (s.arg m 0) 0 then t.quenchBroadcast 0 else t).mbxEnd m stOK [b2n (s.flag QCH_STATUS.held)])) ∧
    (s.mbxRuns m mcQUENCH = true → bit (s.arg m 0) 1 = true →
      let i := s.arg m 1 + 2 ^ 32 * (s.arg m 2 % 65536)
      let t := s.armMatch i false true
      Ends (.quench m) s ((if bit (s.arg m 0) 0 then t.quenchBroadcast i else t).mbxEnd m stOK [0]))

/-- The staging of images and the casting (R355, R356, R363, R364, R380 to R382). -/
def Obligations.StagingCommands : Prop :=
  ∀ (s : State) (m : Fin 3),
    (s.mbxRuns m mcRECAST = true → s.recastDiffers = none → s.image (castBase s.highestCopy) 4 = 2 →
      20 ≤ s.get RING_SEAM.len → s.recastMask = 0 →
      Ends (.recast m) s (((s.mbxEnd m stOK [0]).zero CST_RECAST.done).recastDone s.highestCopy)) ∧
    (s.mbxRuns m mcRECAST = true → s.recastDiffers = none → s.image (castBase s.highestCopy) 4 = 2 →
      20 ≤ s.get RING_SEAM.len → s.recastMask ≠ 0 →
      Ends (.recast m) s
        (let t := s.mbxEnd m stOK [s.recastMask]
        ((({ t with cst := { t.cst with recast := some (s.highestCopy, t.ns) } }).puts
          [(CST_RECAST.pending, s.recastMask), (CST_RECAST.done, 0), (CST_STATUS.recasting, 1)]).setNodeState nsRECAST))) ∧
    (∀ x, s.mbxRuns m mcRECAST = true → s.recastDiffers = some x → Ends (.recast m) s (s.mbxEnd m stRANGE [x])) ∧
    (∀ (k : Fin 12) c t, s.cst.recast = some (c, t) → s.nodeState = nsRECAST → bit (s.get CST_RECAST.pending) k = true →
      s.inSeam s.ns = true → t + 1000000 ≤ s.seamOpening → Ends (.recastCluster k) s
        (let u := s.withEdges k s.t125 (fun s => (s.clusterReset k).loadCluster (s.image (castBase c)) k)
        let u := (u.bankChecks k).want bkPE (u.autostart k)
        let u : State := { u with cst := { u.cst with recasts := u.cst.recasts ++ [k.val] } }
        u.put CST_RECAST.pending (setBit (u.get CST_RECAST.pending) k false))) ∧
    (s.mbxRuns m mcCASTING_INSTALL = true → s.cst.waits = none → s.cst.job = none → (s.installCheck m).1 = stOK →
      Ends (.castingInstall m) s (s.startInstall m)) ∧
    (s.mbxRuns m mcCASTING_INSTALL = true → s.cst.waits = none → s.cst.job = none → (s.installCheck m).1 ≠ stOK →
      Ends (.castingInstall m) s (s.mbxEnd m (s.installCheck m).1 (s.installCheck m).2)) ∧
    (∀ n c, s.cst.job = some (.install n c) → Ends .castingWriteDone s
      (let t := (s.copyStaged (castBase c)).endJob.examineCopy c
      let seq := castSeq (t.image (castBase c))
      (t.mbxEnd n stOK [c, seq, seq / 2 ^ 32]).closeStaged)) ∧
    (s.ingotRuns m 1 = true → s.cst.job = none → (s.ingotCheck m).1 = stOK → Ends (.ingotOpen m) s
      (s.startJob (.openImage m (s.arg m 1) (s.arg m 2 % 2) (s.arg m 3) (s.bytes (s.arg m 4) (16 * ingots (s.arg m 3))))
        stagingBase 0x1000000)) ∧
    (s.ingotRuns m 2 = true → s.cst.job = none → s.ingotCheck m = (stOK, [0]) → Ends (.ingotData m) s
      (({ s with cst := { s.cst with job := some (.ingot m (s.arg m 2) (s.bytes (s.arg m 3) 4096)) } }).put
        CST_STG.writing 1)) ∧
    (s.ingotRuns m 3 = true → (s.ingotCheck m).1 = stOK → Ends (.ingotAbandon m) s
      (s.closeStaged.mbxEnd m (s.ingotCheck m).1 (s.ingotCheck m).2)) ∧
    (∀ n id kind size man, s.cst.job = some (.openImage n id kind size man) → Ends .ingotFlashWriteDone s
      ((((s.flashWrite manifestBase man).writeRecord id kind size).endJob.showStaged).mbxEnd n stOK)) ∧
    (∀ n i bs, s.cst.job = some (.ingot n i bs) → Ends .ingotFlashWriteDone s
      (let t := s.flashWrite (stagingBase + 4096 * i) bs
      ((t.flashWrite (bitmapBase + i / 8) [setBit (t.flashByte (bitmapBase + i / 8)) (i % 8) false]).endJob.showStaged).mbxEnd
        n stOK [0])) ∧
    (s.mbxRuns m mcMISSING = true → s.missingCheck m = stOK → Ends (.missing m) s
      (let l := s.missingIngots (s.get CST_STGSIZE.bytes)
      s.mbxEnd m stOK (l.length :: runsOf 4 (l.filter (fun i => decide (s.arg m 1 ≤ i))))))

/-- Activation of firmware, in pause form and in hitless form (R383 to R387). -/
def Obligations.ActivationCommands : Prop :=
  ∀ (s : State) (m : Fin 3),
    (s.mbxRuns m mcACTIVATE_PAUSE = true → Ends (.activatePause m) s (s.activate m false)) ∧
    (s.mbxRuns m mcACTIVATE_HITLESS = true → Ends (.activateHitless m) s (s.activate m true)) ∧
    (∀ n c h, s.cst.job = some (.prepare n c h) →
      let t := (s.copyStaged (fwBase c)).endJob
      let u := t.puts [(CST_FWSEQ_LO.seq c, t.fwSequence (t.image (fwBase c))),
        (CST_FWSEQ_HI.seq c, t.fwSequence (t.image (fwBase c)) / 2 ^ 32), (CST_FWSTAT.state c, 0)]
      u.nodeState ≠ nsSERVICE → Ends .preparationEnd s (u.abandonActivation n)) ∧
    (∀ n c, s.cst.job = some (.prepare n c false) →
      let t := (s.copyStaged (fwBase c)).endJob
      let u := t.puts [(CST_FWSEQ_LO.seq c, t.fwSequence (t.image (fwBase c))),
        (CST_FWSEQ_HI.seq c, t.fwSequence (t.image (fwBase c)) / 2 ^ 32), (CST_FWSTAT.state c, 0)]
      let v : State := { u with cst := { u.cst with act := some { m := n, hitless := false, t0 := u.now, copy := c } } }
      let w := ((v.holdOutputs).setNodeState nsUPDATING).puts [(NODE_STATE.pause, 1), (CST_ACT.phase, 2)]
      u.nodeState = nsSERVICE → Ends .preparationEnd s
        (((w.changedPairs c).foldl (fun s p => s.put (CORE_STAT.run p) 0) w).stopWatchdog)) ∧
    (∀ a, s.pauseAct = some a → a.inRom = false → Ends .pauseStateSaved s
      ((s.setAct { a with inRom := true }).put (CORE_STAT.run s.managerPair) 2)) ∧
    (∀ a, s.pauseAct = some a → a.inRom = true → a.newCode = none → Ends .pauseAssayDone s
      ((s.setAct { a with newCode := some (s.fwAssay (s.image (fwBase a.copy))) }).put (CST_FWSTAT.state a.copy)
        (if s.fwAssay (s.image (fwBase a.copy)) = 0 then 0xB else s.fwAssay (s.image (fwBase a.copy))))) ∧
    (∀ a n, s.pauseAct = some a → a.newCode = some n → n ≠ 0 → a.oldCode = some 0 → Ends .pauseRestart s
      (let t := (s.runManager (1 - a.copy)).restartPairs (s.changedPairs a.copy) (s.image (fwBase (1 - a.copy)))
      let t := t.report { src := 0x62, master := 0, addr := t.domainAddr (CST_FWSTAT.addr a.copy), extra := n }
      (((t.activationResult a.m stFAULT [n]).put NODE_STATE.pause 0).endHold).setNodeState nsSERVICE)) ∧
    (∀ a p, s.hitlessAct = some a → s.standbyPair = some p → a.shadow = false →
      s.fwAssay (s.image (fwBase a.copy)) = 0 → Ends .hitlessAssayDone s
      ((((s.put (CST_FWSTAT.state a.copy) 0xB).setAct { a with shadow := true }).loadFirmware (s.image (fwBase a.copy)) p
        []).put (CORE_STAT.run p) 1)) ∧
    (∀ a, s.hitlessAct = some a → a.shadow = true → a.inStep = none → Ends (.inStep true) s
      (s.setAct { a with inStep := some s.ns })) ∧
    (∀ a, s.hitlessAct = some a → a.shadow = true → a.inStep = none → Ends (.inStep false) s
      (s.endHitless a.m stFAULT [0xFE])) ∧
    (∀ a p, s.hitlessAct = some a → s.standbyPair = some p → s.inSeam s.ns = true → a.moving = some s.seamOpening →
      s.seamInto ≤ 10000 → Ends .roleMove s
      (let new := s.image (fwBase a.copy)
      let old := s.managerPair
      let u := s.puts [(CORE_ROLE.manager, p), (CORE_ROLE.standby, old), (CORE_STAT.role p, 0), (CORE_STAT.role old, 2),
        (CORE_STAT.run old, 2), (CORE_STAT.standby_ready old, 1), (CORE_STAT.standby_ready p, 0)]
      let u := (s.changedPairs a.copy).foldl (fun s q => match Img.customer new q with
        | some e => s.loadPair q (Img.program new e)
        | none => s) u
      let u := (u.restartPairs (s.changedPairs a.copy) new).bootFirmware a.copy
      let u := u.put (CST_FWSTAT.state (1 - a.copy)) 0xB
      ((u.activationResult a.m stOK []).closeStaged).setNodeState nsSERVICE)) ∧
    (∀ a, s.hitlessAct = some a → a.inStep = none → a.t0 + 10000000000 ≤ s.now → Ends .hitlessTimeout s
      (s.endHitless a.m stTIMEOUT []))

/-! ### The crucible, keys and tamper (chapter 13) -/

/-- Provisioning of keys and hallmarks by mailbox command (R395 to R405, R411 to R413). -/
def Obligations.ProvisioningCommands : Prop :=
  ∀ (s : State) (m : Fin 3),
    (∀ e i, s.provRuns m 1 = true → s.provisionCheck m = stOK → s.get CRU_ENTROPY.ok = 1 → s.slotState 0 = slLIVE →
      (List.range 8).find? (fun e => !slots.any (fun i => s.slotState i != slEMPTY && s.slotId i == 0xFFD0 + e)) = some e →
      s.freeSlot (0xFFD0 + e) = some i → Ends (.wrapReq m) s
      (let t := s.putSlot i slLIVE { keyId := 0xFFD0 + e, cls := 2, alg := 4, parent := idTOUCHMARK, pairs := 0, purpose := 0
                                     mat := Config.drbg s.draws 48, made := true } false
      let t := ({ t with cru := { t.cru with born := SMap.set t.cru.born i (some t.now) none } }).draw
      ((t.setBytes (t.arg m 3) (t.hallmark 2 (some i) (t.bytes (t.arg m 2) 32))).draw).mbxEnd m stOK [0xFFD0 + e, 3672])) ∧
    (∀ i mat, s.provRuns m 2 = true → s.provisionCheck m = stOK → s.keySlot (s.arg m 3 % 65536) [2, 4] = some i →
      isEphemeral (s.arg m 3 % 65536) = false → s.unwrap m i = some mat → s.provPurpose m ≠ 3 →
      let r := s.installKey { keyId := s.provId m, cls := purposeClass (s.provPurpose m), alg := s.provAlg m
                              parent := purposeParent (s.provPurpose m), pairs := s.keyPairs (s.provId m)
                              purpose := s.provPurpose m, mat := mat } true true true
      Ends (.install m true true) s (r.1.mbxEnd m r.2.1 (if r.2.1 = stOK then [] else [r.2.2]))) ∧
    (∀ i, s.provRuns m 2 = true → s.provisionCheck m = stOK → s.keySlot (s.arg m 3 % 65536) [2, 4] = some i →
      isEphemeral (s.arg m 3 % 65536) = false → s.unwrap m i = none → Ends (.install m true true) s (s.mbxEnd m stAUTH)) ∧
    (s.provRuns m 3 = true → s.provisionCheck m = stOK →
      let key := fun (alg : Nat) => ({
        keyId := s.provId m, cls := 1, alg := alg, parent := 0, pairs := s.keyPairs (s.provId m), purpose := s.provPurpose m
        mat := Config.statementKey alg (s.statement m) } : Stored)
      let r := s.installKey (key 6) true true true
      let q := r.1.installKey (key 7) true true true
      r.2.1 = stOK → q.2.1 = stOK → Ends (.authority m true true) s (q.1.mbxEnd m stOK)) ∧
    (s.provRuns m 4 = true → s.provisionCheck m = stOK → s.get CRU_ENTROPY.ok = 1 →
      let r := s.installKey { keyId := s.provId m, cls := purposeClass (s.provPurpose m), alg := s.provAlg m, parent := idDOMAIN
                              pairs := s.keyPairs (s.provId m), purpose := s.provPurpose m
                              mat := Config.drbg s.draws (algBytes (s.provAlg m)), made := true } true true true
      Ends (.generate m true true) s ((r.1.draw).mbxEnd m r.2.1 (if r.2.1 = stOK then [] else [r.2.2]))) ∧
    (s.provRuns m 4 = true → s.provisionCheck m = stOK → s.get CRU_ENTROPY.ok = 0 →
      Ends (.generate m true true) s (s.mbxEnd m stFAULT)) ∧
    (s.provRuns m 5 = true → s.provisionCheck m = stOK →
      Ends (.invalidate m) s ((s.invalidate (s.provId m)).mbxEnd m stOK)) ∧
    (s.provRuns m 5 = true → s.provisionCheck m ≠ stOK → Ends (.invalidate m) s (s.mbxEnd m (s.provisionCheck m))) ∧
    (s.mbxRuns m mcHALLMARK = true → s.hallmarkCheck m = stOK → s.slotState 0 = slLIVE → s.arg m 1 % 65536 = 0 →
      Ends (.hallmark m) s
        (((s.setBytes (s.arg m 3) (s.hallmark 3 none (s.bytes (s.arg m 2) 32))).draw).mbxEnd m stOK)) ∧
    (s.mbxRuns m mcHALLMARK = true → s.hallmarkCheck m = stOK → s.slotState 0 ≠ slLIVE →
      Ends (.hallmark m) s (s.mbxEnd m stFAULT))

/-- Operation ports (R409 to R411): the pair's own core starts an operation on a port that is not busy, another originator is
refused, and a result is copied only on success. -/
def Obligations.KeyOperations : Prop :=
  ∀ (s : State) (p : Fin 10) (w : Nat),
    (∀ c : Fin 20, c.val / 2 = p.val → s.get (CRU_OPSTAT.busy p) = 0 →
      let go := fun (op : Nat) =>
        let t := s.puts [(CRU_OPCMD.op p, op), (CRU_OPCMD.key_id p, bits w 8 16), (CRU_OPSTAT.busy p, 1)]
        (({ t with cru := { t.cru with ops := SMap.set t.cru.ops p (some {
          op := op, key := bits w 8 16, src := t.get (CRU_OPSRC.src p), len := t.get (CRU_OPLEN.src_len p)
          aad := t.get (CRU_OPLEN.aad_len p), dst := t.get (CRU_OPDST.dst p), aux := t.get (CRU_OPAUX.aux p) }) none } } :
          State).serveOps 10).done (.core c) stOK
      Ends (.random p (.core c) w) s (go 1) ∧ Ends (.gcmEnc p (.core c) w) s (go 2) ∧ Ends (.gcmDec p (.core c) w) s (go 3) ∧
      Ends (.gmac p (.core c) w) s (go 4) ∧ Ends (.sign p (.core c) w) s (go 5) ∧ Ends (.verify p (.core c) w) s (go 6) ∧
      Ends (.ecdhDerive p (.core c) w) s (go 7) ∧ Ends (.hkdfDerive p (.core c) w) s (go 8) ∧
      Ends (.sha384 p (.core c) w) s (go 9) ∧ Ends (.public_ p (.core c) w) s (go 10)) ∧
    (∀ c : Fin 20, c.val / 2 = p.val → s.get (CRU_OPSTAT.busy p) = 1 →
      (s.opCheck p { op := 1, key := bits w 8 16, src := s.get (CRU_OPSRC.src p), len := s.get (CRU_OPLEN.src_len p)
                     aad := s.get (CRU_OPLEN.aad_len p), dst := s.get (CRU_OPDST.dst p), aux := s.get (CRU_OPAUX.aux p) }).1 = stOK →
      Ends (.random p (.core c) w) s ((s.put (CRU_OPSTAT.status p) stBUSY).done (.core c) stOK)) ∧
    (∀ c : Fin 20, c.val / 2 ≠ p.val → Ends (.sign p (.core c) w) s (s.done (.core c) stAUTH)) ∧
    (Ends (.gcmEnc p .host w) s (s.done .host stAUTH)) ∧
    (∀ x, SMap.getD s.cru.ops p none = some x → x.running = true → x.newKey = none → x.status = stOK →
      Ends (.keyOpComplete p) s (((s.setBytes x.dst x.out).opEnd p stOK x.out.length).serveOps 10)) ∧
    (∀ x, SMap.getD s.cru.ops p none = some x → x.running = true → x.newKey = none → x.status ≠ stOK →
      Ends (.keyOpComplete p) s ((s.opEnd p x.status 0).serveOps 10))

/-- Slots, entropy, tamper and the bench (R392, R400, R405 to R408, R411, R415 to R421). -/
def Obligations.CrucibleCommands : Prop :=
  ∀ (s : State) (i : Fin 64) (o : Origin) (w : Nat),
    (∀ t, SMap.getD s.cru.born i none = some t → isEphemeral (s.slotId i) = true → t + 10000000000 ≤ s.now →
      (∀ m : Fin 3, s.mbxRuns m mcKEY_PROVISION = false) → EndsIn (.ephemeralExpire i) s (s.clearSlot i)) ∧
    (s.slotState i = slREFUSING → s.slotInUse i = false → s.sessionHeld i = false → EndsIn (.refusingZeroise i) s (s.clearSlot i)) ∧
    (s.sessionHeld i = true → EndsIn (.refusingZeroise i) s s) ∧
    (s.slotInUse i = false → EndsIn (.slotRenew i) s { s with cru := { s.cru with
      renewed := SMap.set s.cru.renewed i (SMap.getD s.cru.renewed i 0 + 1) 0
      renewDue := s.cru.renewDue.filter (· != i.val) } }) ∧
    (s.slotInUse i = true → EndsIn (.slotRenew i) s
      { s with cru := { s.cru with renewDue := s.cru.renewDue.filter (· != i.val) ++ [i.val] } }) ∧
    (∀ bad, s.foreignCore o = false → bit w 1 = false → Ends (.test o w bad) s ((s.assaySlots bad).done o stOK)) ∧
    (s.foreignCore o = false → bit w 0 = false → Ends (.tlogClear o w) s
      (((List.range 8).foldl (fun s i =>
        if s.tlogPending i then s else (List.range 4).foldl (fun s v => s.put (CRU_TLOG.word i v) 0) s) s).done o stOK)) ∧
    (s.foreignCore o = true → Ends (.tlogClear o w) s (s.done o stAUTH)) ∧
    (let t := (({ s with cru := { s.cru with noEntropy := true } }).zero CRU_ENTROPY.ok).bump CRU_ENTROPY.fails
     Ends .entropySourceFailure s (t.report { src := 0x83, master := 0, addr := t.domainAddr CRU_ENTROPY.addr })) ∧
    (EndsIn .entropyRecover s (({ s with cru := { s.cru with noEntropy := false } }).raise CRU_ENTROPY.ok)) ∧
    (∀ srcs periods, Ends (.tamper srcs periods) s (s.tamper (srcs.map (·.val)) periods)) ∧
    (s.lev.inReset = true → s.lev.rstLow = false → s.lev.straps.benchEn = true → s.lev.straps.lidOpen = true →
      let t := s.zeroise [2, 3]
      t.get CRU_BENCH.count < 255 → EndsIn .benchEntry s
        (({ (t.bump CRU_BENCH.count) with cru := { t.cru with bench := true, early := true } }).raise CRU_STATUS.bench)) ∧
    (EndsIn .aonTimeRecord s { s with cru := { s.cru with aonTime := s.time } }) ∧
    (s.nodeState ≠ nsBOOT → s.get CST_BOOT.no_fw = 0 → s.flashBusy = false → EndsIn .benchLogAppend s
      (((List.range 8).filter (fun i => s.tlogValid i && !s.cru.appended.contains i)).foldl (fun s i =>
        let bs := (List.range 4).flatMap (fun w => leBytes 4 (s.get (CRU_TLOG.word i w)))
        let s := s.benchRecord (bs ++ Config.benchTail s.cru.benchLog)
        { s with cru := { s.cru with appended := s.cru.appended ++ [i] } }) s)) ∧
    (∀ bad, s.nodeState = nsBOOT → s.get CST_BOOT.phase = 2 → s.lev.inReset = false → Ends (.unlock true bad) s
      (let t := (List.range 6).foldl (fun t i => t.put (tpolFld i) (nth t.cru.policy i)) s.consumePending
      (t.raise CRU_STATUS.root_fail).puts
        [(CRU_STATUS.unlocked, 1), (CRU_ENTROPY.ok, b2n !(t.raise CRU_STATUS.root_fail).cru.noEntropy), (CST_BOOT.phase, 3)])) ∧
    (∀ bad, s.nodeState = nsBOOT → s.get CST_BOOT.phase = 2 → s.lev.inReset = false → Ends (.unlock false bad) s
      (let t := (List.range 6).foldl (fun t i => t.put (tpolFld i) (nth t.cru.policy i)) s.consumePending
      let t : State := { t with cru := { t.cru with root := deviceRoot } }
      let t := ((t.loadTouchmark.loadStore).assaySlots bad).deriveSalt
      t.puts [(CRU_STATUS.unlocked, 1), (CRU_ENTROPY.ok, b2n !t.cru.noEntropy), (CST_BOOT.phase, 3)]))

/-! ### Boot and core pairs (chapters 11 and 12) -/

/-- The boot, and the settings (R353, R357 to R361, R378, R382). -/
def Obligations.BootCommands : Prop :=
  ∀ s : State,
    (∀ periods, s.nodeState = nsBOOT → s.lev.inReset = true → s.lev.rstLow = false → s.pow.dieOff = false →
      s.lev.straps.benchEn = false → s.lev.strapsDue = false → Ends (.bootRomStart periods) s
      (let t := (s.strapTamper periods).showStaged
      let u : State := { t with
        lev := { t.lev with inReset := false }
        pow := { t.pow with waiting := [] }
        cst := { t.cst with romAt := some t.now } }
      t.pow.waiting.foldl (fun s f => s.report f)
        (u.puts [(CST_BOOT.phase, bpCRUCIBLE), (CORE_STAT.run 0, 2), (CRU_STATUS.bench, b2n u.cru.bench)]))) ∧
    (s.inPhase bpCAST = true → Ends .castSelect s
      (let t := (s.examineCopy 0).examineCopy 1
      ((t.selectCasting (t.castOrder.filter (fun c => t.get (CST_COPYSTAT.state c) == 0xB))).castPairs).put CST_BOOT.phase
        bpFIRMWARE)) ∧
    (s.inPhase bpFIRMWARE = true →
      let t := (s.examineFirmware 0).examineFirmware 1
      t.fwOrder.find? (fun c => t.get (CST_FWSTAT.state c) == 0xB) = none → Ends .firmwareSelect s
        ((t.puts [(CST_BOOT.no_fw, 1), (CST_FWSTAT.target t.lowerFirmware, 1)]).put CST_BOOT.phase bpLOAD)) ∧
    (∀ c, s.inPhase bpFIRMWARE = true →
      let t := (s.examineFirmware 0).examineFirmware 1
      t.fwOrder.find? (fun c => t.get (CST_FWSTAT.state c) == 0xB) = some c → Ends .firmwareSelect s
        (let u := (t.strangePairs (t.image (fwBase c))).foldl (fun (u : State) p => u.emit (.pairIgnored p)) t
        ((u.bootFirmware c).loadFirmware (t.image (fwBase c)) u.managerPair (u.imagePairs (t.image (fwBase c)))).put
          CST_BOOT.phase bpLOAD)) ∧
    (s.inPhase bpLOAD = true →
      let t := s.commitCast.put CST_BOOT.phase bpSETTINGS
      t.hasSettings = true → Ends .settingsApply s
        { t.settingsApply with cst := { t.settingsApply.cst with applied := true } }) ∧
    (s.inPhase bpSETTINGS = true → s.cst.applied = true →
      let t := s.puts [(CST_BOOT.phase, 0), (CST_BOOT.boot_ms, min ((s.now - s.cst.romAt.getD s.now) / 1000000) 0xFFFF)]
      let t := t.put (SW_OSTAT.up 5) 1
      let t := if SMap.getD t.cst.written TIM_SERVO.addr 0 = 0 then t.put TIM_SERVO.lock_thr (if t.isHead then 20 else 4) else t
      let t := t.setRole (if t.flag RING_HEADCFG.is_witness then 3 else if t.isHead then 2 else 0)
      let t : State := { t with slp := { t.slp with since := t.now } }
      Ends .bootEnd s ((((t.startCores.startUnits).setNodeState t.afterBoot).showClocks))) ∧
    (∀ o key, s.foreignCore o = false → s.nodeState = nsSERVICE → s.flashBusy = false → s.settingsKey = some key →
      s.settingsCopies key = [] → Ends (.save o) s
      (((s.startJob (.save 0 1 (s.settingsBytes key 1)) (settingsBase 0) 0x10000).raise CST_SET.saving).done o stOK)) ∧
    (∀ o, s.foreignCore o = false → s.nodeState = nsSERVICE → s.flashBusy = true →
      Ends (.save o) s ((s.saveStatus stBUSY).done o stBUSY)) ∧
    (∀ o, s.foreignCore o = false → s.nodeState = nsJOINING →
      Ends (.save o) s ((s.saveStatus stSTATE).refuse o CST_REFUSED.count)) ∧
    (∀ c seq bs, s.cst.job = some (.save c seq bs) →
      let t := ((((s.flashWrite (settingsBase c) bs).endJob).put CST_SET.saving 0).saveStatus stOK).puts
        [(CST_SETSEQ_LO.seq, seq), (CST_SETSEQ_HI.seq, seq / 2 ^ 32)]
      t.cst.waits = none → Ends .settingsSaveDone s t) ∧
    (s.get CST_BOOT.no_fw = 1 → s.get CST_STG.state = 2 → s.get CST_STG.kind = 1 → s.flashBusy = false →
      Ends .firmwareCompleteWrite s
        (((s.flashErase (fwBase s.lowerFirmware) 0x800000).copyStaged (fwBase s.lowerFirmware)).examineFirmware
          s.lowerFirmware))

/-- Core pairs (R368 to R374, R384, R387, R390). -/
def Obligations.CoreCommands : Prop :=
  ∀ (s : State) (p : Fin 10) (o : Origin) (w : Nat),
    (s.foreignCore o = false →
      let end_ := fun (r : State × Nat) => let t := r.1.put (CORE_STAT.last_status p) r.2
        if r.2 = stSTATE then t.refuse o CORE_REFUSED.count else t.done o r.2
      Ends (.coreStart p o w) s (end_ (s.coreCommand p (withBit w 0))) ∧
      Ends (.coreHalt p o w) s (end_ (s.coreCommand p (withBit w 1))) ∧
      Ends (.coreReset p o w) s (end_ (s.coreCommand p (withBit w 2)))) ∧
    (s.foreignCore o = true → Ends (.coreStart p o w) s (s.done o stAUTH)) ∧
    (s.get (CORE_STAT.mode p) = 0 → s.get (CORE_STAT.run p) = 1 → s.get (CORE_STAT.role p) = 1 →
      let t := (s.put (CORE_STAT.run p) 3).bump (CORE_LSERR.mismatches p)
      Ends (.lockstepMismatch p) s
        (t.report { src := 0x71, master := unitCORE (2 * p), addr := t.domainAddr (CORE_CTL.addr p), extra := p })) ∧
    (s.get (CORE_STAT.mode p) = 0 → s.get (CORE_STAT.run p) = 1 → s.get (CORE_STAT.role p) = 0 →
      let t := ((s.put (CORE_STAT.run p) 3).bump (CORE_LSERR.mismatches p)).managerMismatch
      Ends (.lockstepMismatch p) s
        (t.report { src := 0x71, master := unitCORE (2 * p), addr := t.domainAddr (CORE_CTL.addr p), extra := p })) ∧
    (∀ c, s.cst.restart = true → s.cst.fwCopy = some c → s.fwAssay (s.image (fwBase c)) = 0 →
      Ends .managerRestart s
        (let t := (s.runManager c).restartPairs s.cst.paused (s.image (fwBase c))
        let t : State := { t with cst := { t.cst with restart := false, paused := [] } }
        if t.nodeState = nsORPHAN then t else t.endHold)) ∧
    (∀ f, f.ftype = 6 → bit f.a 15 = true → f.a % 256 < 10 → 64 ≤ s.unread (f.a % 256) →
      Ends (.coreEvent f) s (s.bump (CORE_EVDROP.count (f.a % 256)))) ∧
    (∀ f, f.ftype = 6 → bit f.a 15 = true → f.a % 256 < 10 → s.unread (f.a % 256) < 64 → Ends (.coreEvent f) s
      (let q := f.a % 256
      let t := s.coreWrite q (0x80000 + (16 * s.get (CORE_EVBASE.base q) + 16 * s.get (CORE_EVWR.wr q)) % 0x80000)
        ((f.payload ++ List.replicate 16 0).take 16)
      let t := t.put (CORE_EVWR.wr q) (s.get (CORE_EVWR.wr q) + 1)
      ({ t with core := { t.core with unread := SMap.set t.core.unread q (t.unread q + 1) 0 } }).emit
        (.irq (unitCORE (2 * q)) ciEVENT))) ∧
    (w % 2 ^ 32 ≠ 0 → Ends (.doorbell p o w) s
      (((s.put (CORE_DOORBELL.bells p) (s.get (CORE_DOORBELL.bells p) ||| w % 2 ^ 32)).emit
        (.irq (unitCORE (2 * p)) ciDOORBELL)).done o stOK)) ∧
    (Ends (.dbclr p o w) s
      ((s.put (CORE_DOORBELL.bells p) (s.get (CORE_DOORBELL.bells p) - (s.get (CORE_DOORBELL.bells p) &&& w))).done o stOK)) ∧
    (∀ c : Fin 20, c.val / 2 = s.managerPair →
      let t := s.writeReg (.core c) CORE_WDOG.addr w
      t.core.wdog.isSome = true → Ends (.kick (.core c) w) s (t.startWatchdog.done (.core c) stOK)) ∧
    (∀ c : Fin 20, c.val / 2 ≠ s.managerPair →
      Ends (.kick (.core c) w) s ((s.writeReg (.core c) CORE_WDOG.addr w).done (.core c) stOK)) ∧
    (∀ t, s.core.wdog = some t → t + 1000000 * max 1 (s.get CORE_WDOG.timeout) ≤ s.now → Ends .watchdogExpire s
      (s.stopWatchdog.report { src := 0x73, master := unitCORE (2 * s.managerPair), addr := s.domainAddr CORE_WDOG.addr
                               extra := s.managerPair })) ∧
    (∀ (c : Fin 20) ofs status detail, ofs < 0x10000000 → status % 256 ≠ stOK →
      Ends (.coreAccessFault c (0x20000000 + ofs) false status detail) s
        ((s.puts [(CORE_FAULT0.status (c.val / 2), status), (CORE_FAULT0.detail (c.val / 2), detail),
          (CORE_FAULT0.core (c.val / 2), c.val % 2), (CORE_FAULT0.node (c.val / 2), s.nodeId),
          (CORE_FAULT1.offset (c.val / 2), ofs)]).emit (.accessFault c false))) ∧
    (∀ (c : Fin 20) ofs status detail, ofs < 0x10000000 → status % 256 ≠ stOK → s.get (CORE_STAT.mode (c.val / 2)) = 0 →
      Ends (.coreAccessFault c (0x30000000 + ofs) false status detail) s
        ((s.puts [(CORE_FAULT0.status (c.val / 2), status), (CORE_FAULT0.detail (c.val / 2), detail),
          (CORE_FAULT0.core (c.val / 2), c.val % 2), (CORE_FAULT0.node (c.val / 2), s.get (CORE_DWIN.node0 (c.val / 2))),
          (CORE_FAULT1.offset (c.val / 2), ofs)]).emit (.accessFault c false))) ∧
    (∀ (c : Fin 20) a store status detail, 0x40000000 ≤ a →
      Ends (.coreAccessFault c a store status detail) s (s.emit (.accessFault c store))) ∧
    (∀ (v : Fin 4) (ofs : Fin 0x100000) bs, s.foreignCore o = false → s.get (CORE_WINSEL.pair v) < 10 →
      s.pairHalted (s.get (CORE_WINSEL.pair v)) = true → Ends (.tcmWindowWrite v o ofs bs) s
        ((s.coreWrite (s.get (CORE_WINSEL.pair v)) ofs (bs.take (0x100000 - ofs))).done o stOK)) ∧
    (∀ (v : Fin 4) (ofs : Fin 0x100000) bs, s.foreignCore o = false → s.get (CORE_WINSEL.pair v) < 10 →
      s.pairHalted (s.get (CORE_WINSEL.pair v)) = false → Ends (.tcmWindowWrite v o ofs bs) s (s.refuse o CORE_REFUSED.count))

/-! ### Sleep and the bellows (chapter 14) -/

/-- Sleep states of the node and the clusters, STOW, wakes and the bellows (R226, R425 to R430, R432, R434, R437 to R441). -/
def Obligations.SleepCommands : Prop :=
  ∀ (s : State) (o : Origin) (w : Nat),
    (∀ k : Fin 12, s.clusterDepth k = 0 → s.chosenDepth k ≠ 0 → s.get NODE_SLEEPCTL.hold_run = 0 →
      s.get (CL_STATUS.in_reset k) = 0 → s.slp.stowed = false →
      Ends (.clusterSleep k) s (s.clusterSleep k (s.chosenDepth k))) ∧
    (∀ wfi, s.slp.stowed = false → let t := s.put NODE_SLEEPSTAT.allowed (s.allowed wfi)
      s.allowed wfi ≠ t.sleepState →
      Ends (.nodeSleepChange wfi) s ((t.setSleep (s.allowed wfi)).clustersFollow (s.allowed wfi))) ∧
    (∀ (k : Fin 12) (cause : Fin 16), s.slp.stowed = false → cause.val ∈ [wkPAD, wkACCESS, wkQUENCH, wkSEAM] →
      Ends (.clusterWakeEvent k cause) s (s.wakeCluster k cause)) ∧
    (∀ took t, s.slp.stowed = false → s.dieTarget = some t → spNAP ≤ s.sleepState →
      t ≤ s.ns + s.lead + wakeLatency s.sleepState →
      let u := (s.put NODE_SLEEPSTAT.last_wake wkSCHEDULE).wakeNode spDOZE
      u.ns + took ≤ t → Ends (.scheduledWake 12 took) s u) ∧
    (s.foreignCore o = false → bit w 0 = false → bit w 1 = true → Ends (.holdRun o w) s
      ((((List.range 12).foldl (fun s k => s.wakeCluster k wkHOLD_RUN) (s.writeReg o NODE_SLEEPCTL.addr w)).wakeNode
        spRUN).done o stOK)) ∧
    (s.foreignCore o = false → bit w 0 = false → bit w 1 = false → Ends (.holdRun o w) s
      ((s.writeReg o NODE_SLEEPCTL.addr w).done o stOK)) ∧
    (s.foreignCore o = false → bit w 1 = false → (s.writeReg o NODE_SLEEPCTL.addr (withBit w 0)).mayStow = true →
      Ends (.stow o w) s
        ((((s.writeReg o NODE_SLEEPCTL.addr (withBit w 0)).stow).put NODE_SLEEPCTL.last_status stOK).done o stOK)) ∧
    (s.foreignCore o = false → bit w 1 = false → (s.writeReg o NODE_SLEEPCTL.addr (withBit w 0)).mayStow = false →
      Ends (.stow o w) s ((s.put NODE_SLEEPCTL.last_status stSTATE).refuse o NODE_REFUSED.count)) ∧
    (s.slp.stowed = true → s.slp.waking = false → Ends .wakeN s
      (({ s with slp := { s.slp with waking := true } }).put NODE_SLEEPSTAT.last_wake wkWAKE_N)) ∧
    (∀ p : Fin 2, s.linkState p = lsSTOWED → s.slp.stowed = false → Ends (.wakeToneDetect p) s (s.trainTo p lsDETECT)) ∧
    (∀ p : Fin 2, s.linkState p = lsSTOWED → s.slp.stowed = true → s.slp.waking = false → Ends (.wakeToneDetect p) s
      (({ s with slp := { s.slp with waking := true } }).put NODE_SLEEPSTAT.last_wake wkTONE)) ∧
    (∀ periods, s.slp.waking = true →
      let t : State := ({ s with time := s.aonNow periods, slp := { s.slp with stowed := false, waking := false } } :
        State).setSleep spRUN
      let u := (((t.reloadKeys.servoTo tsHOLDOVER).want bkDIE [1, 2]).want bkLANE (List.range 12)).want bkCLUSTER (List.range 12)
      (List.range 8).any (fun i => t.tlogPending i) = false →
      Ends (.stowWakeDone periods) s { u with slp := { u.slp with
        naps := u.slp.naps.map (fun e => (e.1, e.2.map (fun x => { x with target := none }))) } }) ∧
    (∀ (kind : Fin 6) u rest, s.wanted kind = u :: rest → s.mayStart kind u = true → kind.val = bkFEED →
      Ends (.bellowsStep kind) s
        (((s.setWanted kind rest).puts [(NODE_BELLOWS.kind, kind), (NODE_BELLOWS.step, u)]).startUnit kind u)) ∧
    (∀ (kind : Fin 6) u rest, s.wanted kind = u :: rest → s.mayStart kind u = true → kind.val ≠ bkFEED →
      let t := s.setWanted kind rest
      Ends (.bellowsStep kind) s
        (let t := (({ t with slp := { t.slp with started := SMap.set t.slp.started kind (some t.now) none } }).puts
          [(NODE_BELLOWS.kind, kind), (NODE_BELLOWS.step, u)]).startUnit kind u
        if kind.val = bkPE then t.recastStep (u / 9) else t)) ∧
    (∀ (p : Fin 2) f, spNAP ≤ s.sleepState → s.slp.stowed = false →
      ((SMap.getD s.slp.ingress p []).map frameLen).sum + frameLen f ≤ 16384 → Ends (.frameWake p f) s
        { (s.put NODE_SLEEPSTAT.last_wake wkFRAME) with
          slp := { s.slp with ingress := SMap.set s.slp.ingress p (SMap.getD s.slp.ingress p [] ++ [f]) [] } })

/-! ### Seating, feeds and regulators (chapter 15) -/

/-- The card and the field FETs (R443 to R454). -/
def Obligations.FetCommands : Prop :=
  ∀ (s : State) (u : Fin 17),
    (s.get PWR_STATUS.card_state = psSEAT → EndsIn .seatDebounce s (s.waitTemp 16 true)) ∧
    (s.get PWR_STATUS.card_state ≠ psSEAT → Ends .seatRelease s
      (let t := (List.range 16).foldl (fun s n =>
        let s := s.gateOff n (if s.flag (fetShort n) then psSHORT else psOFF)
        (s.put (fetTrips n) 0).setFet n { s.fet n with retries := 0 }) s
      let t := t.gateOff 16 psSEAT
      (t.put (fetTrips 16) 0).setFet 16 { t.fet 16 with retries := 0 })) ∧
    (∀ lo hi, s.get (fetState u) = psWAIT_TEMP → s.get (fetShort u) = 0 → s.inWindow lo = true → s.inWindow hi = true →
      s.coolEnough u = true → EndsIn (.tempRestartOk u lo hi) s ((s.put (fetState u) psRAMP).emit (.gate u true))) ∧
    (s.get PWR_STATUS.card_state = psWAIT_TEMP → (s.fet 16).cold = true → (s.fet 16).measAt = none →
      EndsIn (.tsenseMeasure none) s
        ((s.put PWR_STATUS.sensor_fault 1).setFet 16 { s.fet 16 with measAt := some s.now })) ∧
    (∀ t, s.get PWR_STATUS.card_state = psWAIT_TEMP → (s.fet 16).cold = true → (s.fet 16).measAt = none →
      let v := s.puts [(PWR_STATUS.sensor_fault, 0), (PWR_CARDMEAS1.t_meas, min t 255)]
      v.fetRestart 16 ≤ t → EndsIn (.tsenseMeasure (some t)) s (v.setFet 16 { s.fet 16 with measAt := some s.now })) ∧
    (∀ supply vout, let t := s.feedMeasure u supply vout
      t.get (fetState u) = psRAMP → t.outputGood supply vout = true →
      EndsIn (.rampDone u supply vout) s ((t.put (fetState u) psON).setFet u { t.fet u with onAt := some t.now })) ∧
    (∀ idle, s.gateOn u = true → (s.fet u).pgAt = none → EndsIn (.currentLimitEngage u idle) s
      ((s.put (fetLimit u) 1).setFet u
        { s.fet u with timer := if 1000 ≤ idle then 0 else s.faultTicks u - idle, limitAt := some s.now })) ∧
    (∀ t, (s.fet u).limitAt = some t → t + 1000000 ≤ s.now → EndsIn (.faultTimerClear u) s
      ((s.put (fetLimit u) 0).setFet u
        { s.fet u with timer := 0, limitAt := none, clearAt := some (s.now - 1000000) })) ∧
    (s.gateOn u = true → s.get (fetLimit u) = 1 → 100 * s.fetTime u ≤ s.faultTicks u →
      Ends (.faultTimerExpire u) s (s.trip u)) ∧
    (∀ shunt tDieW,
      let t := s.put PWR_FIELD.t_diew (min tDieW 255)
      let rise := t.fetRise u shunt
      let temp : Rat := (t.get PWR_FIELD.t_diew : Rat) + rise
      let t := (t.setFet u { t.fet u with rise := rise }).put (fetModel u) (min 255 temp.floor.toNat)
      let t := if u.val = 16 then
          t.put PWR_CARDMEAS1.current
            (if t.get PWR_CARDSH.shunt = 0 then Config.zeroShunt shunt else min 65535 (10 * shunt / t.get PWR_CARDSH.shunt))
        else t.put (FEED_MEAS.current u) (min 65535 (10 * shunt / max 1 (t.get (FEED_CFG2.shunt u))))
      Ends (.fetModelTick u shunt tDieW) s (if t.gateOn u && decide ((t.fetTripAt u : Rat) < temp) then t.trip u else t)) ∧
    (∀ v, s.gateOn u = true → s.inWindow v = false → u.val = 16 → Ends (.vinWindowLeave u v) s
      ((((s.put PWR_CARDMEAS0.vin v).bump PWR_CARDCNT.vin_out).gateOff u psOFF).waitTemp u false)) ∧
    (∀ v, s.gateOn u = true → s.inWindow v = false → u.val < 16 → Ends (.vinWindowLeave u v) s
      (((s.put PWR_FIELD.vfield v).gateOff u psOFF).waitTemp u false)) ∧
    (∀ t, s.get (fetState u) = psRETRY_WAIT → (s.fet u).offAt = some t → t + 12800000 * s.fetTime u ≤ s.now →
      s.fetRetries u = 0 → Ends (.retryOffExpire u) s
        ((s.setFet u { s.fet u with retries := (s.fet u).retries + 1 }).waitTemp u false)) ∧
    (∀ t, s.get (fetState u) = psRETRY_WAIT → (s.fet u).offAt = some t → t + 12800000 * s.fetTime u ≤ s.now →
      s.fetRetries u ≠ 0 → s.fetRetries u ≤ (s.fet u).retries → Ends (.retryOffExpire u) s
        (let v := s.put (fetState u) psSTOPPED
        v.fetReport u 0x91 0x92 (min 255 (v.get (fetTrips u))))) ∧
    (∀ supply vout t, s.gateOn u = false → s.get (fetShort u) = 0 → supply < 5 * vout → (s.fet u).offAt = some t →
      t + 10000000 < s.now → Ends (.fetDamage u supply vout) s
        (let v := (s.feedMeasure u supply vout).puts [(fetState u, psSHORT), (fetShort u, 1)]
        let v := if (u.val = 16 || v.flag (FEED_CFG0.eject u)) && !v.flag PWR_STATUS.eject then
          (v.put PWR_STATUS.eject 1).emit (.eject true) else v
        v.fetReport u 0x93 0x94 0))

/-- Power good, the regulators, the feeds' commands and the supply of a port die (R453 to R457, R507, R513, R515). -/
def Obligations.SupplyCommands : Prop :=
  ∀ s : State,
    (∀ (u : Fin 17) supply vout idle t, let v := s.feedMeasure u supply vout
      u.val < 16 → v.get (fetPg u) = 0 → v.get (fetState u) = psON → v.outputGood supply vout = true →
      (s.fet u).limitAt = none → (s.fet u).clearAt = none → (s.fet u).onAt = some t → t + 100000 * v.fetDelay u ≤ v.now →
      100 * v.fetDelay u ≤ idle → idle ≤ (v.now - t) / 1000 → EndsIn (.pgAssert u supply vout idle) s
        ((v.put (fetPg u) 1).setFet u { s.fet u with pgAt := some v.now })) ∧
    (∀ (u : Fin 17) supply vout, let v := s.feedMeasure u supply vout
      v.get (fetLimit u) = 0 → v.outputGood supply vout = false → EndsIn (.pgDrop u supply vout) s (v.pgDrop u)) ∧
    (∀ (pg : Fin 16) since i, let t := s.put PWR_STATUS.reg_pg pg
      t.regulators.find? (fun i => !bit (t.get PWR_STATUS.reg_en) i) = some i → t.get PWR_STATUS.card_pg = 1 →
      t.get PWR_STATUS.reg_en ≠ 0 → (t.regulators.filter (bit (t.get PWR_STATUS.reg_en))).all (bit pg) = true →
      100 * t.get PWR_SEQ.step ≤ since → EndsIn (.regSequenceStep pg since) s (t.enable i)) ∧
    (∀ (i : Fin 4) t, SMap.getD s.pow.enAt i none = some t → t + 1000000 * max 1 (s.get PWR_SEQ.timeout) ≤ s.now →
      bit (s.get PWR_STATUS.reg_en) i = true → bit (s.get PWR_STATUS.reg_pg) i = false →
      Ends (.regPgTimeout i) s (s.dropEnables.trip 16)) ∧
    (∀ (pg : Fin 16) a b c, let t := s.put PWR_STATUS.reg_pg pg
      s.pow.dieOff = true → t.regulators.all (fun i => bit (t.get PWR_STATUS.reg_en) i && bit pg i) = true →
      EndsIn (.regPgAll pg a b c) s (({ t with pow := { t.pow with dieOff := false } }).readStraps a b c true)) ∧
    (∀ (n : Fin 16) o w, s.foreignCore o = false → s.lev.wLost = false → bit w 1 = false → bit w 2 = false →
      s.get (FEED_STAT.state n) = psOFF → s.get (FEED_STAT.short n) = 0 → Ends (.feedOn n o w) s
        ((((s.setFet n { s.fet n with retries := 0 }).waitTemp n false).put (FEED_CTL.last_status n) stOK).done o stOK)) ∧
    (∀ (n : Fin 16) o w, s.foreignCore o = false → s.lev.wLost = false → bit w 1 = false → bit w 2 = false →
      s.get (FEED_STAT.state n) = psSHORT → Ends (.feedOn n o w) s
        ((s.put (FEED_CTL.last_status n) stSTATE).refuse o PWR_REFUSED.count)) ∧
    (∀ (n : Fin 16) o w, s.foreignCore o = false → s.lev.wLost = false → bit w 0 = false → bit w 2 = false →
      Ends (.feedOff n o w) s
        ((((s.gateOff n psOFF).setFet n { (s.gateOff n psOFF).fet n with retries := 0 }).put (FEED_CTL.last_status n) stOK).done
          o stOK)) ∧
    (∀ (n : Fin 16) o w, s.foreignCore o = false → s.lev.wLost = false → bit w 0 = false → bit w 1 = false →
      s.get (FEED_STAT.state n) = psSTOPPED → Ends (.feedClear n o w) s
        ((((s.setFet n { s.fet n with retries := 0 }).waitTemp n false).put (FEED_CTL.last_status n) stOK).done o stOK)) ∧
    (∀ (n : Fin 16) o w, s.foreignCore o = false → s.lev.wLost = false → bit w 0 = false → bit w 1 = false →
      s.get (FEED_STAT.state n) = psON → Ends (.feedClear n o w) s
        ((s.put (FEED_CTL.last_status n) stSTATE).refuse o PWR_REFUSED.count))

/-! ### Faults and quench (chapter 16) -/

/-- The fault collector, FAULT_N, injection and forwarding (R460 to R471, R479). -/
def Obligations.FaultCommands : Prop :=
  ∀ (s : State) (o : Origin) (w : Nat),
    (∀ f, f.src ∈ sources → f.src ≠ 0x84 → Ends (.faultDetect f none) s (s.fault f)) ∧
    (∀ f, f.src ∈ sources → f.src ≠ 0x84 → s.mayInject o = false →
      Ends (.faultDetect f (some (o, w))) s ((s.fault f).done o stAUTH)) ∧
    (∀ t, s.flt.pulseEnd = some t → t ≤ s.now → s.flt.resetPending = false → Ends .faultPulseEnd s
      ((({ s with flt := { s.flt with pulseEnd := none, resetPending := false } }).put FLT_PIN.pulsing 0).driveFaultN)) ∧
    (∀ t, s.flt.pulseEnd = some t → t ≤ s.now → s.flt.resetPending = true → Ends .faultPulseEnd s
      (((({ s with flt := { s.flt with pulseEnd := none, resetPending := false } }).put FLT_PIN.pulsing
        0).driveFaultN).nodeReset)) ∧
    (s.foreignCore o = false → bit w 1 = false → bit w 2 = false →
      Ends (.releaseCapture o w) s ((s.put FLT_STATUS.handling 0).done o stOK)) ∧
    (s.foreignCore o = false → bit w 0 = false → bit w 2 = false →
      Ends (.clear o w) s (((s.put FLT_STATUS.handling 0).put FLT_STATUS.valid 0).done o stOK)) ∧
    (s.foreignCore o = false → bit w 0 = false → bit w 1 = false →
      Ends (.hold o w) s ((s.put FLT_STATUS.handling 1).done o stOK)) ∧
    (s.foreignCore o = true → Ends (.hold o w) s (s.done o stAUTH) ∧ Ends (.clear o w) s (s.done o stAUTH)) ∧
    (s.foreignCore o = false → s.flt.pulseEnd = none →
      Ends (.pinHoldWrite o w) s (((s.put FLT_PIN.hold (bits w 0 1)).driveFaultN).done o stOK)) ∧
    (∀ t, s.foreignCore o = false → s.flt.pulseEnd = some t →
      Ends (.pinHoldWrite o w) s ((s.put FLT_PIN.hold (bits w 0 1)).done o stOK)) ∧
    (∀ src, src ∈ sources → s.mayInject o = true → s.get FLT_CFG.inj_en = 0 →
      Ends (.inject src o w) s (s.refuse o FLT_REFUSED.count)) ∧
    (∀ src, src ∈ sources → s.mayInject o = true → s.get FLT_CFG.inj_en = 1 →
      let t := s.put (FLT_INJ.record_only src) (bits w 1 1)
      Ends (.inject src o w) s
        ((t.collect (t.injected src o) (t.reactionOf (t.injected src o)) true (bit w 1) false).done o stOK)) ∧
    (∀ src, src ∈ sources → s.mayInject o = false → Ends (.inject src o w) s (s.done o stAUTH)) ∧
    (∀ f, s.isHead = true → f.ftype = 0xA → f.a = 0x30 → EndsIn (.faultForward f) s (s.enterRecord f)) ∧
    (s.activeHead = true → EndsIn .forwardBacklog s
      (s.flt.unsent.foldl (fun s n =>
        if 64 < (s.flt.seq + 2 ^ 32 - n) % 2 ^ 32 then s.bump FLT_FWDLOST.count else s.forward n (s.logBytes (n % 64)))
        { s with flt := { s.flt with unsent := [] } }))

/-- Quench (R472 to R476). -/
def Obligations.QuenchCommands : Prop :=
  ∀ (s : State) (o : Origin) (w : Nat),
    (∀ level, s.flt.pin ≠ level → s.lev.inReset = false → s.get QCH_CFG.pin_en = 1 → s.get QCH_CFG.pin_pol = b2n level →
      let t : State := { s with flt := { s.flt with pin := level } }
      Ends (.quenchPin level) s (t.trigger qsPIN 0 t.nextEdge)) ∧
    (∀ level, s.flt.pin = level → Ends (.quenchPin level) s { s with flt := { s.flt with pin := level } }) ∧
    (s.get QCH_TMATCH_HI.armed = 1 → reached 48 s.window s.flt.tmatch = true → s.flt.byRing = true →
      let t := s.put QCH_TMATCH_HI.armed 0
      Ends .quenchTimeMatch s (t.latch (2 ^ qsTIME + 2 ^ qsRING) 0
        ((t.tick - (t.window + 2 ^ 48 - t.flt.tmatch) % 2 ^ 48) * 65536))) ∧
    (s.foreignCore o = false → bit w 1 = false → Ends (.trigger o w) s ((s.trigger qsSOFT 0 s.nextEdge).done o stOK)) ∧
    (s.foreignCore o = false → bit w 0 = false → Ends (.rearm o w) s ((s.put QCH_STATUS.held 0).done o stOK)) ∧
    (s.foreignCore o = true → Ends (.trigger o w) s (s.done o stAUTH) ∧ Ends (.rearm o w) s (s.done o stAUTH)) ∧
    (bit w 31 = false → Ends (.tmatchArm o w) s
      (((s.put QCH_TMATCH_HI.ns (bits w 0 16)).put QCH_TMATCH_HI.armed 0).done o stOK)) ∧
    (bit w 31 = true → let t := s.put QCH_TMATCH_HI.ns (bits w 0 16)
      Ends (.tmatchArm o w) s ((t.armMatch (t.get QCH_TMATCH_LO.ns + 2 ^ 32 * bits w 0 16) false false).done o stOK)) ∧
    (∀ f, f.ftype = 0xA → f.a = 0x31 → s.get QCH_CFG.bcast_in = 1 → ofBytes (f.b.take 6) = 0 →
      Ends (.quenchBroadcastReceive f) s (s.latch (2 ^ qsRING) 0 s.nextEdge)) ∧
    (∀ f, f.ftype = 0xA → f.a = 0x31 → s.get QCH_CFG.bcast_in = 1 → ofBytes (f.b.take 6) ≠ 0 →
      Ends (.quenchBroadcastReceive f) s (s.armMatch (ofBytes (f.b.take 6)) true false))

/-! ### Domain time (chapter 09) -/

/-- Link delay, SYNC, the servo's loss of time, the scales and the host's captures (R295 to R303, R306, R308 to R311, R322). -/
def Obligations.TimeCommands : Prop :=
  ∀ (s : State) (p : Fin 2) (o : Origin) (w : Nat),
    (s.linkState p = lsUP → s.get (RING_LSTAT.fidle_tx p) = 0 → (s.delay p).sentAt = none → EndsIn (.pdelayReqSend p) s
      (let n := ((s.delay p).seq + 1) % 65536
      (s.setDelay p { s.delay p with seq := n, request := none, sentAt := some s.now }).toRingPort p
        (s.timeFrame p 1 n (s.peerOf p) 1 []))) ∧
    (∀ seq deskew, s.linkUp p = true → s.laneChange p = false → EndsIn (.pdelayResp p seq deskew) s
      (let t2 := stamp56 (s.ringRx p deskew)
      let n := ((s.delay p).respSeq + 1) % 65536
      (s.setDelay p { s.delay p with respSeq := n }).toRingPort p
        (s.timeFrame p 2 n (s.peerOf p) 1 (leBytes 6 (t2 / 256) ++ [t2 % 256, 0])))) ∧
    (∀ seq deskew, s.laneChange p = true → EndsIn (.pdelayResp p seq deskew) s s) ∧
    (∀ n seq t1 t2 t3 deskew, (s.delay p).request = some (n, t1) → s.laneChange p = true →
      EndsIn (.pdelaySample p seq t2 t3 deskew) s (s.setDelay p { s.delay p with request := none })) ∧
    (∀ n seq t1 t2 t3 deskew, (s.delay p).request = some (n, t1) → s.laneChange p = false →
      EndsIn (.pdelaySample p seq t2 t3 deskew) s
      (s.delaySample p ((windowDiff 56 (stamp56 (s.ringRx p deskew)) t1 - windowDiff 56 t3 t2) * 128))) ∧
    (s.activeHead = true → s.tim.syncAt.getD p none = none → EndsIn (.syncSend p) s
      (let t := s.secondary
      let n := (nth t.tim.syncSeq p + 1) % 65536
      let t : State := { t with tim := { t.tim with
        syncSeq := setNth t.tim.syncSeq p n, syncAt := setNth t.tim.syncAt p (some t.now) } }
      t.sendOn p (t.timeFrame p 0 n t.nodeId 127 t.syncPayload))) ∧
    (∀ f (deskew residence : Nat), f.ftype = 0xB → f.a % 256 = 0 → f.src ≠ s.nodeId → s.lev.inReset = false → s.activeHead = false →
      Ends (.syncReceive p f deskew residence) s
        ((s.transitHop p { frame := f, w0 := 0, rx := some (s.ringRx p deskew, residence) }).takeSync p f deskew)) ∧
    (s.get TIM_STATUS.state = tsLOCKED → s.tim.measured + s.lossTime ≤ s.now → s.isHead = false → s.activeHead = false →
      EndsIn .timeLossTimeout s
        ((({ s with tim := { s.tim with slew := 0, blendLeft := 0 } }).put TIM_STATUS.blending 0).servoTo tsHOLDOVER)) ∧
    (let t := s.loseSources
     t.get TIM_STATUS.state = tsLOCKED → t.tim.measured + t.lossTime ≤ t.now → t.activeHead = true →
      t.get TIM_STATUS.sec_in_use = 0 → t.get TIM_STATUS.sec_valid = 1 →
      EndsIn .timeLossTimeout s { t with tim := { t.tim with want := some true, measured := t.now } }) ∧
    (s.foreignCore o = false → bit w 1 = false → bit w 2 = false → s.activeHead = true → s.get TIM_STATUS.sec_valid = 1 →
      Ends (.useSec o w) s (({ s with tim := { s.tim with want := some true } }).timOk o)) ∧
    (s.foreignCore o = false → bit w 1 = false → bit w 2 = false → s.activeHead = false →
      Ends (.useSec o w) s (s.timRefuse o)) ∧
    (s.foreignCore o = false → bit w 0 = false → bit w 2 = false → s.activeHead = true → s.get TIM_STATUS.pri_ok = 1 →
      Ends (.usePri o w) s (({ s with tim := { s.tim with want := some false } }).timOk o)) ∧
    (s.foreignCore o = false → bit w 0 = false → bit w 1 = false →
      Ends (.ldRestart o w) s (((s.restartDelay 0).restartDelay 1).timOk o)) ∧
    (∀ c, s.activeHead = true → s.thisCycle = some c → s.tim.blendAt = none →
      let t := ({ s with tim := { s.tim with blendAt := some c } } : State).startBlend
      EndsIn .blendStep s (if t.tim.blendLeft = 0 then t else t.blendPart)) ∧
    (∀ t, s.tim.pri.since = some t → s.activeHead = true → s.get TIM_SCALECFG.auto_revert = 1 →
      s.get TIM_STATUS.sec_in_use = 1 → t + 1000000000 * max 1 (s.get TIM_SCALECFG.revert) ≤ s.now →
      EndsIn .autoRevert s { s with tim := { s.tim with want := some false } }) ∧
    (EndsIn (.hostcap o) s
      ((s.puts [(TIM_HOSTCAPT0.fraction, timeFrac s.time), (TIM_HOSTCAPT1.ns, timeNs s.time),
        (TIM_HOSTCAPT2.s_lo, timeSec s.time), (TIM_HOSTCAPT3.s_hi, timeSec s.time / 2 ^ 32)]).done o stOK)) ∧
    (let t := (s.put TIM_HOSTADJ_HI.ofs w).done o stOK
     t.isHead = false → Ends (.hostadjSubmit o w) s t) ∧
    (let t := (s.put TIM_HOSTADJ_HI.ofs w).done o stOK
     t.isHead = true → t.get TIM_SRC.pri_src = 1 → Ends (.hostadjSubmit o w) s
      (t.primary (sext 64 (t.get TIM_HOSTADJ_LO.ofs + 2 ^ 32 * t.get TIM_HOSTADJ_HI.ofs)))) ∧
    (EndsIn (.timNowRead 0 o) s
      (({ s with tim := { s.tim with latched := some s.time } }).done o stOK 0 [timeFrac s.time])) ∧
    (∀ t, s.tim.latched = some t → EndsIn (.timNowRead 3 o) s
      (({ s with tim := { s.tim with latched := none } }).done o stOK 0 [timeSec t / 2 ^ 32 % 2 ^ 32]))

/-- PTP at the Ethernet ports and at the head (R306, R307, R313, R315 to R318). -/
def Obligations.PtpCommands : Prop :=
  ∀ (s : State) (e : Fin 2),
    (∀ f peer, isPtp f.payload = false → EndsIn (.ptpEgress e f peer) s (s.ethOut e f f.payload)) ∧
    (∀ f peer, isPtp f.payload = true → ptpType f.payload = 0 → EndsIn (.ptpEgress e f peer) s (s.syncOut e f peer)) ∧
    (∀ f peer, isPtp f.payload = true → ptpType f.payload = 8 → EndsIn (.ptpEgress e f peer) s (s.followUp e f)) ∧
    (∀ f peer, isPtp f.payload = true → ptpType f.payload ∈ [2, 3, 10] →
      EndsIn (.ptpEgress e f peer) s (s.bump (TIM_PTPCNT.dropped e))) ∧
    (∀ f peer, isPtp f.payload = true → ptpType f.payload ∈ [1, 9] → s.get (TIM_ETHCFG.tc_mode e) = 1 →
      EndsIn (.ptpEgress e f peer) s (s.bump (TIM_PTPCNT.dropped e))) ∧
    (∀ f peer, isPtp f.payload = true → ptpType f.payload = 1 → s.get (TIM_ETHCFG.tc_mode e) = 0 →
      EndsIn (.ptpEgress e f peer) s ((s.residence e f).1.ethOut e f (ptpAdd f.payload (s.residence e f).2))) ∧
    (EndsIn (.twoStepExpire e) s
      (s.setTwoSteps e ((s.twoSteps e).filter (fun x => decide (s.now < x.at_ + 1000000000))))) ∧
    (s.get (TIM_ETHCFG.tc_mode e) = 1 → s.tim.pdelayAt.getD e none = none → EndsIn (.ethPdelay e .request) s
      (({ s with tim := { s.tim with pdelayAt := setNth s.tim.pdelayAt e (some s.now) } }).ptpSend e 2 [])) ∧
    (∀ bs, s.get (TIM_ETHCFG.tc_mode e) = 1 → EndsIn (.ethPdelay e (.respond bs)) s
      ((s.ptpSend e 3 (leBytes 12 (s.ethRx e) ++ bs)).ptpSend e 10 (leBytes 12 (s.ethTx e) ++ bs))) ∧
    (∀ t1 t2 t3 t4, s.get (TIM_ETHCFG.tc_mode e) = 1 → EndsIn (.ethPdelay e (.sample t1 t2 t3 t4)) s
      (s.put (TIM_ETHLINK.peer e) (wrap 24 ((windowDiff 56 t4 t1 - windowDiff 56 t3 t2) / 2)))) ∧
    (∀ d m source, s.isHead = false → Ends (.ptpOrdinaryClock e d source m) s s) ∧
    (∀ (d : Fin 256) m source, s.isHead = true → s.get TIM_SRC.sec_src = 0 → s.get TIM_SRC.ptp_dom0 ≠ d.val →
      Ends (.ptpOrdinaryClock e d source m) s s) ∧
    (∀ (d : Fin 256) source ds utc flags ms, e = 0 → s.isHead = true → s.get TIM_SRC.pri_src = 0 → s.get TIM_SRC.ptp_dom0 = d.val →
      s.get TIM_SRC.sec_src = 0 → s.get TIM_SRC.ptp_dom1 ≠ d.val →
      Ends (.ptpOrdinaryClock e d source (.announce ds utc flags ms)) s (s.announced 0 source ds utc flags ms)) ∧
    (∀ (d : Fin 256) source n twoStep origin c, s.isHead = true → s.get TIM_SRC.pri_src = 1 →
      s.get TIM_SRC.sec_src = e.val + 1 → s.get TIM_SRC.ptp_dom1 = d.val → (s.ptpClock 1).master = some source → twoStep = false →
      s.get TIM_SRC.profile = 0 → Ends (.ptpOrdinaryClock e d source (.sync n twoStep origin c)) s
        (s.synced 1 e ((s.ethRx e : Int) - origin - c)))

/-! ### Gates and the wheel (chapter 10) -/

/-- Gate lists and the wheel (R326, R327, R336, R340, R343). -/
def Obligations.GateCommands : Prop :=
  ∀ (s : State) (g : Fin 4) (o : Origin) (w : Nat),
    (s.listOn g = false → g.val < 2 → EndsIn (.gateEntry g) s
      (s.puts [(ETH_GSTAT.entry g, 0),
        (ETH_GSTAT.gates g, (List.range 8).foldl (fun v c => v + b2n (s.gateOpen g.val c s.ns false) * 2 ^ c) 0)])) ∧
    (s.listOn g = true → 2 ≤ g.val → EndsIn (.gateEntry g) s
      (s.puts [(ETH_GSTAT.entry g, (entryAt (s.listAt g (s.listStart g s.ns)) (s.gatePos g s.ns) 0).1),
        (ETH_GSTAT.gates g, (List.range 8).foldl (fun v c => v + b2n (s.gateOpen (g.val + 1) c s.ns false) * 2 ^ c) 0)])) ∧
    (s.foreignCore o = false → bit w 1 = false → s.get (ETH_GSTAT.pending g) = 0 → s.stagedOk g = true →
      Ends (.gateCommit g o w) s
        (let t := s.put (ETH_GSTAT.last_status g) stOK
        (({ t with gates := { t.gates with changeAt := SMap.set t.gates.changeAt g (some (t.changeStart g)) none } }).put
          (ETH_GSTAT.pending g) 1).done o stOK)) ∧
    (s.foreignCore o = false → bit w 1 = false → s.get (ETH_GSTAT.pending g) = 1 →
      Ends (.gateCommit g o w) s ((s.put (ETH_GSTAT.last_status g) stBUSY).done o stBUSY)) ∧
    (s.foreignCore o = false → bit w 1 = false → s.get (ETH_GSTAT.pending g) = 0 → s.stagedOk g = false →
      Ends (.gateCommit g o w) s ((s.put (ETH_GSTAT.last_status g) stRANGE).done o stRANGE)) ∧
    (s.foreignCore o = false → bit w 0 = false → s.get (ETH_GSTAT.pending g) = 1 → Ends (.gateCancel g o w) s
      ((s.puts [(ETH_GSTAT.last_status g, stOK), (ETH_GSTAT.pending g, 0)]).done o stOK)) ∧
    (s.foreignCore o = false → bit w 0 = false → s.get (ETH_GSTAT.pending g) = 0 → Ends (.gateCancel g o w) s
      ((s.put (ETH_GSTAT.last_status g) stSTATE).refuse o (ETH_GREFUSED.count g))) ∧
    (∀ a, s.changeAt g = some a → a ≤ s.ns → EndsIn (.gateChange g) s ((s.swapLists g).put (ETH_GSTAT.pending g) 0)) ∧
    (∀ (i : Fin 256) (j : Fin 2) v, s.get (ETH_GSTAT.pending g) = 0 →
      Ends (.gateStageWrite g i j o v) s ((s.put (ETH_GCLSTG.word g i j) v).done o stOK)) ∧
    (∀ (i : Fin 256) (j : Fin 2) v, s.get (ETH_GSTAT.pending g) = 1 →
      Ends (.gateStageWrite g i j o v) s (s.refuseWrite o (ETH_GREFUSED.count g) (ETH_GCLSTG.word g i j).addr)) ∧
    (∀ (out_ : Fin 10) (u : Fin 9) (c : Fin 8) x rest e, s.swQueue (queueKey out_ u c) = x :: rest → x.eligible = some e →
      s.t16 < e → x.onWheel = false →
      let t := s.setSwQueue (queueKey out_ u c) ({ x with onWheel := true } :: rest)
      t.inHorizon e = true → EndsIn (.wheelEnter out_ u c) s
        { t with gates := { t.gates with wheel := t.gates.wheel ++ [(queueKey out_ u c, wheelSlot e)] } }) ∧
    (∀ (out_ : Fin 10) (u : Fin 9) (c : Fin 8) x rest e, s.swQueue (queueKey out_ u c) = x :: rest → x.eligible = some e →
      s.t16 < e → x.onWheel = false →
      let t := s.setSwQueue (queueKey out_ u c) ({ x with onWheel := true } :: rest)
      t.inHorizon e = false →
      let t : State := { t with gates := { t.gates with overflow := t.gates.overflow ++ [(queueKey out_ u c, e)] } }
      EndsIn (.wheelEnter out_ u c) s (t.hw ETH_WOVF.max (max (t.get ETH_WOVF.max) t.gates.overflow.length))) ∧
    (s.ns / 64 % 4096 ≠ s.gates.ptr → s.gates.ptr < 4095 → EndsIn .wheelTick s
      (({ s with gates := { s.gates with
          ptr := s.gates.ptr + 1
          wheel := s.gates.wheel.filter (fun (e : Nat × Nat) => e.2 != s.gates.ptr + 1) } } : State).offWheel
        ((s.gates.wheel.filter (fun (e : Nat × Nat) => e.2 == s.gates.ptr + 1)).map Prod.fst)))

/-! ### Spares and anneal (chapter 17) -/

/-- Scores, the wear store and the anneal of every kind of element (R221, R481 to R498). -/
def Obligations.WearCommands : Prop :=
  ∀ (s : State) (o : Origin) (w : Nat),
    (∀ e r ms, (wearKind (s.elementKey e)).bind (fun t => monitors t r) = some ms → wearPool (s.elementKey e) = none →
      Ends (.scoreUpdate e r) s
        (let key := s.elementKey e
        let m := lowestMonitor ms
        let hist := ((s.gauge key).hist.filter (fun x => decide (s.hours ≤ x.1 + 2000))) ++ [(s.hours, m.1)]
        { s with wear := { s.wear with gauges := SMap.set s.wear.gauges key ⟨m.1, m.2, hist⟩ {} } })) ∧
    (Ends .wearStoreWrite s s.wearStore) ∧
    (∀ (k : Fin 12) (n : Fin 9), s.annealTurn (unitPE k n) = true → s.recastHere k = false →
      s.get (CL_STATUS.spare_pe k) = 8 → s.clusterDepth k < 2 → s.seamLate = false → s.mayMove k n = true →
      Ends (.peAnneal k n) s (((s.noteAnneal k).moveEngine k n).retire (unitPE k n))) ∧
    (∀ (p : Fin 2) (j : Fin 5), s.laneTurn (0x0500 + 5 * p.val + j.val) = true → s.linkUp p = true →
      s.get (RING_LSTAT.spare_ready p) = 1 → (s.link p).mirror = none →
      Ends (.laneAnneal p j) s (s.laneSwitch p j)) ∧
    (∀ (l : Fin 3) (d : Fin 2) (v : Fin 66), s.annealTurn (s.elementKey (.wire l d v)) = true → s.seamLate = false →
      let t := s.noteAnneal (20 + 2 * l + d)
      t.get (WEAR_D2D.used0 l d) = 0 → Ends (.wireAnneal l d v) s
        ((t.puts [(WEAR_D2D.wire0 l d, s.carried l d v), (WEAR_D2D.used0 l d, 1)]).retire (s.elementKey (.wire l d v)))) ∧
    (∀ (k : Fin 12) (p : Fin 32), s.annealTurn (s.elementKey (.leg k p)) = true → s.recastHere k = false →
      let t := (s.noteAnneal (26 + k)).retire (s.elementKey (.leg k p))
      Ends (.legAnneal k p) s (t.puts [(WEAR_PADLEG.leg k, setBit (t.get (WEAR_PADLEG.leg k)) p true),
        (WEAR_PADWORN.worn k, setBit (t.get (WEAR_PADWORN.worn k)) p true)])) ∧
    (∀ b : Fin 17, s.wear.copying = none → s.nodeState ≠ nsBOOT →
      s.dueList.find? (fun k => wearPool k == some 15) = some (0x0600 + b.val) →
      Ends (.bankCopyStart b) s (({ s with wear := { s.wear with copying := some b.val } } : State).takePool 15)) ∧
    (∀ b, s.wear.copying = some b → s.inSeam s.ns = true → s.nodeState ≠ nsBOOT →
      let t := (s.noteAnneal 15).put SW_STATUS.spare_bank 0x1F
      Ends .bankSwitch s { t with wear := { t.wear with
        copying := none, retired := t.wear.retired ++ [0x0600 + b]
        forced := t.wear.forced.filter (fun k => k != 0x0600 + b) } }) ∧
    (∀ (d : Fin 4) (m : Fin 256) (r : Fin 65536), s.annealTurn (s.elementKey (.row d m r)) = true →
      Ends (.rowAnneal d m r true false) s ((s.noteAnneal (16 + d)).retire (s.elementKey (.row d m r)))) ∧
    (∀ (p : Fin 10) q rest, s.sparePairs = q :: rest → q ≠ p.val → s.nodeState ≠ nsBOOT → s.get (CORE_STAT.role p) = 2 →
      s.dueList.find? (fun k => wearPool k == some 14) = some (0x0400 + 2 * s.get (WEAR_PAIRMAP.phys p)) →
      Ends (.pairAnneal p) s (s.movePair p q)) ∧
    (s.foreignCore o = false → bit w 1 = false →
      s.annealStatus (s.unitKey (s.get WEAR_SEL.unit)) = stOK →
      let t := s.put WEAR_STATUS.last_status stOK
      Ends (.anneal o w) s
        (({ t with wear := { t.wear with forced := t.wear.forced ++ [s.unitKey (s.get WEAR_SEL.unit)] } }).done o stOK)) ∧
    (s.foreignCore o = false → bit w 1 = false →
      s.annealStatus (s.unitKey (s.get WEAR_SEL.unit)) = stSTATE →
      Ends (.anneal o w) s ((s.put WEAR_STATUS.last_status stSTATE).refuse o WEAR_REFUSED.count)) ∧
    (s.foreignCore o = false → bit w 0 = false → Ends (.cancel o w) s
      ((({ s with wear := { s.wear with
        forced := s.wear.forced.filter (fun k => k != s.unitKey (s.get WEAR_SEL.unit)) } }).put WEAR_STATUS.last_status
          stOK).done o stOK)) ∧
    (s.foreignCore o = true → Ends (.anneal o w) s (s.done o stAUTH) ∧ Ends (.cancel o w) s (s.done o stAUTH))

/-! ### Every command, every state (chapters 00 and 01) -/

/-- With no command waiting, a step carries out an access that has waited for its cluster to wake (the model's choice, log 255), else it
is one TIMECLK cycle (the model's choice, log 5). -/
def Obligations.IdleStepIsATick : Prop :=
  ∀ s : State, s.pending = [] →
    (s.readyAccess = none → step s = .next s.clockTick) ∧ (∀ c t, s.readyAccess = some (c, t) → step s = exec c t)

/-- No command of the table ever ends in a fault or a refusal: exec answers a next state for every command, whatever its operands,
in every state. -/
def Obligations.EveryCommandCompletes : Prop := ∀ (c : Instr) (s : State), Completes c s

/-- The effect of a command is on everything but the queue: the commands that wait behind it stay as they are and in their order,
whatever it resets. -/
def Obligations.CommandsLeaveTheQueue : Prop := ∀ (c : Instr) (s t : State), exec c s = .next t → t.pending = s.pending

/-- After reset the register store and memory are in their canonical form (the form is the model's, logs 4 and 5). -/
def Obligations.ResetIsSound : Prop := State.reset.sound

/-- From every state whose register store and memory are in canonical form, a step leads to such a state: equal contents of registers
and memory stay equal data. -/
def Obligations.StepKeepsSound : Prop := ∀ s t : State, s.sound → step s = .next t → t.sound

/-- Commands that act on registers alone: a capture that is released, cleared or held (R465), a doorbell that is rung or cleared
(R373), the consumer index of the capture ring (R185), the return of the entropy source (R411), the details of a load that
faulted (R368), a refused command of an engine of a cluster that is awake (R12, R80), the head's hold on FAULT_N (R468). They change
the named fields and what leaves the block, and nothing else; the crucible also knows its source again. -/
def Obligations.RegisterCommandsFrame : Prop :=
  ∀ (s : State) (o : Origin) (w : Nat) (k : Fin 12) (n : Fin 9) (p : Fin 10) (c : Fin 20) (a : Nat) (store : Bool) (st d : Nat),
    let only := fun (i : Instr) (fs : List Fld) =>
      ∃ t, Ends i s t ∧ t = { s with regs := t.regs, out := t.out } ∧ SameRegs s t fs
    let now := fun (i : Instr) (fs : List Fld) =>
      ∃ t, EndsIn i s t ∧ t = { s with regs := t.regs, out := t.out } ∧ SameRegs s t fs
    only (.releaseCapture o w) [FLT_STATUS.handling, FLT_STATUS.valid] ∧
    only (.clear o w) [FLT_STATUS.handling, FLT_STATUS.valid] ∧
    only (.hold o w) [FLT_STATUS.handling, FLT_STATUS.valid] ∧
    only (.pinHoldWrite o w) [FLT_PIN.hold] ∧
    now (.caprdWrite o w) [SW_CAPRD.rd] ∧
    (∃ t, EndsIn .entropyRecover s t ∧ t = { s with regs := t.regs, cru := { s.cru with noEntropy := false } } ∧
      SameRegs s t [CRU_ENTROPY.ok]) ∧
    only (.doorbell p o w) [CORE_DOORBELL.bells p] ∧
    only (.dbclr p o w) [CORE_DOORBELL.bells p] ∧
    only (.coreAccessFault c a store st d) [CORE_FAULT0.status (c / 2), CORE_FAULT0.detail (c / 2), CORE_FAULT0.core (c / 2),
      CORE_FAULT0.node (c / 2), CORE_FAULT1.offset (c / 2)] ∧
    (s.get (NODE_CLSLEEP.depth k) = 0 → s.peRunning k n = true → bit w 31 = false → only (.peStart k n o w) [CL_REFUSED.count k])

/-! ### The rules of the port engines (chapter 02) -/

/-- LDT takes the two oldest words of the RX port: T takes bits [31:0] of the first and [15:0] of the second, the fine bits take
[18:16] of the second, TAG the tag of the second; no other register changes until the engine goes on. -/
def Obligations.LdtTakesTwoWords : Prop :=
  ∀ (k : Fin 12) (n : Fin 9) (w : Nat) (s : State) (x y : QWord) (xs : List QWord),
    s.stands k n w → opcodeOf w = 0x0E → (s.pe k n).rx = x :: y :: xs →
    ∃ t, Ends (.ldt k n) s (t.peGoOn k n ((s.get (PE_STATUS.pc k n) + 1) % 64)) ∧
      (t.pe k n).rx = xs ∧
      t.get (PE_T_LO.t_lo k n) = x.data % 2 ^ 32 ∧
      t.get (PE_T_HI.t_hi k n) = y.data % 2 ^ 16 ∧
      t.get (PE_T_HI.t_fine k n) = y.data / 2 ^ 16 % 8 ∧
      t.get (PE_TAG.tag k n) = y.tag % 16 ∧
      SameRegs s t [PE_T_LO.t_lo k n, PE_T_HI.t_hi k n, PE_T_HI.t_fine k n, PE_TAG.tag k n]

/-- EVENT puts one word with the EVENT tag behind the words of the TX port: the code of imm, the logical engine number, 0, the
cluster number and bits [7:0] of the register named in B. A word issued with A[0] = 1 raises the cluster's event interrupt as it
enters the queue. -/
def Obligations.EventWordAndInterrupt : Prop :=
  ∀ (k : Fin 12) (n : Fin 9) (s : State),
    (∀ w, s.stands k n w → opcodeOf w = 0x0F → s.get (PE_QBIND.tx_en k n) = 1 → (s.pe k n).tx.length < 8 →
      ∃ (t : State) (d : Nat), Ends (.event k n) s (t.peGoOn k n ((s.get (PE_STATUS.pc k n) + 1) % 64)) ∧
        (t.pe k n).tx = (s.pe k n).tx ++ [(⟨d, 2⟩, bit (fieldA w) 0)] ∧
        d % 2 ^ 16 = fieldImm w ∧ d / 2 ^ 16 % 8 = s.get (PE_STATUS.logical k n) % 8 ∧ d / 2 ^ 19 % 2 = 0 ∧
        d / 2 ^ 20 % 16 = k ∧ d / 2 ^ 24 = (s.noteIssue k n).readOp k n (fieldB w) % 256) ∧
    (∀ w rest, (s.pe k n).tx = (w, true) :: rest → s.get (PE_QBIND.tx_en k n) = 1 →
      (s.queue k (s.get (PE_QBIND.tx_queue k n))).late = [] → s.qTakes k (s.get (PE_QBIND.tx_queue k n)) = true →
      s.qFull k (s.get (PE_QBIND.tx_queue k n)) = false →
      ∃ t, Ends (.txPortDeliver k n) s t ∧ t.get (CL_IRQ.event k) = 1 ∧
        (t.get (CL_IRQEN.event k) ≠ 0 → Emit.irq (0x0700 + k) (CL_IRQ.event k).lsb ∈ t.out))

/-- While a swap is pending, a write of a word of the shadow bank of an engine whose cluster is awake completes with STATE and writes nothing: beside the cluster's
refused counter and the head's log of a host write (R12, R72), every register, every engine, every queue and memory stay as they
were. -/
def Obligations.ShadowBankClosedWhileASwapPends : Prop :=
  ∀ (k : Fin 12) (n : Fin 9) (i : Fin 128) (o : Origin) (w : Nat) (s : State),
    s.get (NODE_CLSLEEP.depth k) = 0 → s.get (PE_STATUS.swap_pending k n) ≠ 0 → i.val / 64 ≠ s.get (PE_STATUS.active_bank k n) →
    ∃ t, Ends (.peProgWrite k n i o w) s t ∧ t = { s with regs := t.regs, out := t.out, host := t.host } ∧
      Emit.done o stSTATE 0 0 [] ∈ t.out ∧
      SameRegs s t ([CL_REFUSED.count k, HOST_ERRLOG_WR.next, HOST_ERRLOG_WR.overwritten, MSIX_PBA.word 0] ++
        (List.range 8).map (fun j => HOST_ERRLOG.word (s.get HOST_ERRLOG_WR.next) j))

/-- NOP, MOV, ADD, PULL, LDT, PUSH, EVENT, WAITP, WAITT and JMP at an engine that is not single-stepped change nothing but that
engine's own state registers, its PC and what its ports hold: no other engine, no queue, no pad, no memory. This holds while they
wait as well. -/
def Obligations.EngineInstructionFrame : Prop :=
  ∀ (k : Fin 12) (n : Fin 9) (w : Nat) (s : State), s.stands k n w → (s.pe k n).stepping = false →
    ∀ c ∈ [Instr.nop k n, .mov k n, .add k n, .pull k n, .ldt k n, .push k n, .event k n, .waitp k n, .waitt k n, .jmp k n],
      ∃ t, Ends c s t ∧ t = { s with regs := t.regs, pes := t.pes } ∧
        (∀ (j : Fin 12) (m : Fin 9), (j, m) ≠ (k, n) → t.pe j m = s.pe j m) ∧
        (t.pe k n).actions = (s.pe k n).actions ∧ (t.pe k n).drv = (s.pe k n).drv ∧
        SameRegs s t [PE_STATUS.pc k n, PE_STATUS.run k n, PE_STATUS.wait_op k n, PE_X.x k n, PE_Y.y k n, PE_C.c0 k n,
          PE_C.c1 k n, PE_T_LO.t_lo k n, PE_T_HI.t_hi k n, PE_T_HI.t_fine k n, PE_SHIN.shin k n, PE_SHOUT.shout k n,
          PE_SHCNT.in_count k n, PE_SHCNT.out_count k n, PE_TAG.tag k n]

/-! ### The rules of the queues (chapter 03) -/

/-- A push of the bus into an enabled stream queue of a cluster that is awake never waits. Up to a depth of the cast depth − 1 the word is
written behind the others. Beyond it the word is dropped and counted: in the open GAP marker at the end of the queue, or, at the
end of the PORTCLK cycle, since a pop of the same cycle goes first (R114), in a new marker with count 1 in the reserved last slot. A
marker that has been read out is closed. No other push of the cycle waits for its end here, and software has not written the drop
counter in it (R9). -/
def Obligations.StreamQueueNeverHoldsBack : Prop :=
  ∀ (k : Fin 12) (q : Fin 32) (o : Origin) (w : Nat) (s : State),
    let x := s.queue k q
    let drops := s.get (CL_QDROP.drops k q)
    s.get (NODE_CLSLEEP.depth k) = 0 → s.qOn k q = true → s.qStream k q = true → x.held = [] → x.late = [] →
    s.race.wrote.contains (CL_QDROP.drops k q).key = false →
    (x.words.length + 1 ≤ s.qCast k q - 1 →
      ∃ t, Ends (.qpush k q o w) s t ∧ (t.queue k q).words = x.words ++ [⟨w % 2 ^ 32, 0⟩] ∧
        (t.queue k q).gapOpen = false ∧ t.get (CL_QDROP.drops k q) = drops ∧ Emit.done o stOK 0 0 [] ∈ t.out) ∧
    (∀ pre g, s.qCast k q - 1 < x.words.length + 1 → x.gapOpen = true → x.words = pre ++ [g] →
      ∃ t, Ends (.qpush k q o w) s t ∧
        (t.queue k q).words = pre ++ [⟨g.data / 2 ^ 24 * 2 ^ 24 + min (g.data % 2 ^ 24 + 1) 0xFFFFFF, g.tag⟩] ∧
        (t.queue k q).gapOpen = true ∧ t.get (CL_QDROP.drops k q) = min (drops + 1) (2 ^ 32 - 1) ∧
        Emit.done o stOK 0 0 [] ∈ t.out) ∧
    (s.qCast k q = x.words.length + 1 → x.gapOpen = false →
      ∃ t, Ends (.qpush k q o w) s t ∧ (t.queue k q).words = x.words ∧ Emit.done o stOK 0 0 [] ∈ t.out ∧
        let u := t.qCycleEnd k q
        (u.queue k q).words = x.words ++ [⟨1, 4⟩] ∧ (u.queue k q).gapOpen = true ∧
          u.get (CL_QDROP.drops k q) = min (drops + 1) (2 ^ 32 - 1)) ∧
    (∀ m, s.busQueue k q = true → s.qWords k q = [m] →
      ∃ t, Ends (.qpop k q o) s t ∧ (t.queue k q).words = [] ∧ (t.queue k q).gapOpen = false)

/-- The pushes of the bus to a cluster that is awake change one queue and its registers: every other queue, every engine, every pad and
memory stay as they were. LEVEL and a read that is held follow at the end of the PORTCLK cycle (R107, R113, R114). -/
def Obligations.QueuePushFrame : Prop :=
  ∀ (k : Fin 12) (q : Fin 32) (o : Origin) (w : Nat) (s : State),
    s.get (NODE_CLSLEEP.depth k) = 0 → ∀ c ∈ [Instr.qpush k q o w, .qpushend k q o w, .qpusherr k q o w],
      ∃ t, Ends c s t ∧ t = { s with regs := t.regs, queues := t.queues, out := t.out, race := t.race } ∧
        (∀ (j : Fin 12) (r : Fin 32), (j, r) ≠ (k, q) → t.queue j r = s.queue j r) ∧
        SameRegs s t [CL_QDROP.drops k q, CL_QSTAT.overrun k q, CL_IRQ.overrun k]

/-! ### Writes by access code and memory (chapters 00 and 08) -/

/-- A write of a field by its access code (R8): RW takes the value, RO and WO keep theirs, W1C loses the bits written 1 but those that
hardware has set in the same cycle, W1S gains them, RWL takes the value until the casting commits and keeps it after that. Once the
casting has committed, a write of a register leaves every RWL field of it alone, whatever other fields the register has. In one cycle
a set event wins against the clear of a W1C bit, and a write of an RW field against the update by hardware (R9). -/
def Obligations.FieldWritesByAccessCode : Prop :=
  ∀ (s : State) (w : Nat) (f : Fld),
    let v := w / 2 ^ f.lsb % 2 ^ f.width
    (s.writeField w (f, .rw)).get f = v ∧
    (s.writeField w (f, .ro)) = s ∧
    (s.writeField w (f, .wo)) = s ∧
    (s.get f < 2 ^ f.width → (s.writeField w (f, .w1c)).get f =
      ((s.get f - (s.get f &&& v)) ||| (s.get f &&& SMap.getD s.race.set_ f.key 0))) ∧
    (∀ b, b < 2 ^ f.width → ((s.setEvent f b).writeField w (f, .w1c)).get f &&& b = b) ∧
    (∀ x, ((s.writeField w (f, .rw)).hw f x).get f = v) ∧
    (s.get f < 2 ^ f.width → (s.writeField w (f, .w1s)).get f = (s.get f ||| v)) ∧
    (s.cst.committed = false → (s.writeField w (f, .rwl)).get f = v) ∧
    (∀ fs : List (Fld × Access), s.cst.committed = true → (∀ e ∈ fs, e.1.key = f.key → e.2 = .rwl) →
      (fs.foldl (fun s e => s.writeField w e) s).get f = s.get f)

/-- A write of bulk RAM (R270) changes exactly the bytes written, each to its value, and nothing else: a byte outside them, every
register, queue, engine and flag stay. -/
def Obligations.BulkRamWriteFrame : Prop :=
  ∀ (o : Origin) (a : Nat) (bs : List Nat) (s : State),
    0xC000000 ≤ a → 0 < bs.length → bs.length ≤ 4096 → a + bs.length ≤ 0xC200000 →
    ∃ t, Ends (.registerWrite o a bs) s t ∧ t = { s with mem := t.mem, out := t.out } ∧
      SameMem s t a bs.length ∧ (∀ i (h : i < bs.length), t.byte (a + i) = bs[i] % 256) ∧
      Emit.done o stOK 0 0 [] ∈ t.out

/-! ### Core memories and the crucible (chapters 12 and 13) -/

/-- A write through a TCM window changes exactly the bytes written, in the memories of the pair that the window shows, and nothing
else: of a pair in lockstep both TCMs, which hold the same contents (R369); of a pair that is not halted it writes nothing (R390). -/
def Obligations.CoreMemoryFrame : Prop :=
  ∀ (v : Fin 4) (o : Origin) (ofs : Fin 0x100000) (bs : List Nat) (s : State),
    let p := s.get (CORE_WINSEL.pair v)
    s.foreignCore o = false → p < 10 → ofs.val + bs.length ≤ 0x100000 →
    (s.pairHalted p = true → s.get (CORE_STAT.mode p) = 0 →
      ∃ t, Ends (.tcmWindowWrite v o ofs bs) s t ∧ t = { s with core := { s.core with mem := t.core.mem }, out := t.out } ∧
        (∀ r x n, x < 0x100000 → n = 0x100000 * r + x → (r ≠ p ∨ ∀ i < bs.length, ofs.val + i ≠ x ∧
            (ofs.val + i < 0x80000 → x < 0x80000 → (ofs.val + i) % 0x40000 ≠ x % 0x40000)) →
          SMap.getD t.core.mem n 0 = SMap.getD s.core.mem n 0) ∧
        (∀ i (h : i < bs.length), ∀ c < 2, ofs.val + i < 0x80000 →
          (∀ j < bs.length, i < j → ofs.val + j < 0x80000 → (ofs.val + j) % 0x40000 ≠ (ofs.val + i) % 0x40000) →
          SMap.getD t.core.mem (0x100000 * p + 0x40000 * c + (ofs.val + i) % 0x40000) 0 = bs[i] % 256) ∧
        (∀ i (h : i < bs.length), 0x80000 ≤ ofs.val + i →
          SMap.getD t.core.mem (0x100000 * p + (ofs.val + i)) 0 = bs[i] % 256)) ∧
    (s.pairHalted p = true → s.get (CORE_STAT.mode p) ≠ 0 →
      ∃ t, Ends (.tcmWindowWrite v o ofs bs) s t ∧ t = { s with core := { s.core with mem := t.core.mem }, out := t.out } ∧
        (∀ r x n, x < 0x100000 → (r ≠ p ∨ x < ofs.val ∨ ofs.val + bs.length ≤ x) → n = 0x100000 * r + x →
          SMap.getD t.core.mem n 0 = SMap.getD s.core.mem n 0) ∧
        (∀ i (h : i < bs.length), SMap.getD t.core.mem (0x100000 * p + ofs.val + i) 0 = bs[i] % 256)) ∧
    (s.pairHalted p = false →
      ∃ t, Ends (.tcmWindowWrite v o ofs bs) s t ∧ t = { s with regs := t.regs, out := t.out } ∧
        SameRegs s t [CORE_REFUSED.count] ∧ Emit.done o stSTATE 0 0 [] ∈ t.out)

/-- An operation of the crucible that ends writes its result at its destination only when it succeeds, and no other byte of memory;
one that failed writes nothing at all (R410). -/
def Obligations.KeyOperationMemory : Prop :=
  ∀ (p : Fin 10) (s : State) (x : KeyOp), SMap.getD s.cru.ops p none = some x → x.running = true → x.newKey = none →
    ∃ t, Ends (.keyOpComplete p) s t ∧
      (x.status = stOK → SameMem s t x.dst x.out.length ∧ ∀ i (h : i < x.out.length), t.byte (x.dst + i) = x.out[i] % 256) ∧
      (x.status ≠ stOK → t.mem = s.mem)

/-! ### Triggers and re-arms (chapter 16) -/

/-- A trigger while a snapshot of another edge is held is counted in QCH_IGNORED, which software has not written in the same cycle (R9),
and recorded in nothing else; a trigger that falls
together with a re-arm latches a new snapshot on its edge (R473, R474). -/
def Obligations.TriggersAndRearms : Prop :=
  ∀ (o : Origin) (w : Nat) (s : State), s.foreignCore o = false →
    (∀ sn, s.race.wrote.contains QCH_IGNORED.count.key = false → bit w 1 = false → s.get QCH_STATUS.held ≠ 0 → s.flt.snap = some sn → sn.time ≠ s.nextEdge →
      ∃ t, Ends (.trigger o w) s t ∧ t = { s with regs := t.regs, out := t.out } ∧ SameRegs s t [QCH_IGNORED.count] ∧
        t.get QCH_IGNORED.count = min (s.get QCH_IGNORED.count + 1) (2 ^ QCH_IGNORED.count.width - 1)) ∧
    (bit w 0 = true →
      ∃ t sn, Ends (.rearm o w) s t ∧ t.get QCH_STATUS.held = 1 ∧ t.get QCH_STATUS.srcs = 8 ∧ t.flt.snap = some sn ∧
        sn.time = s.nextEdge) ∧
    (bit w 0 = false →
      ∃ t, Ends (.rearm o w) s t ∧ t.get QCH_STATUS.held = 0 ∧ t = { s with regs := t.regs, out := t.out } ∧
        SameRegs s t [QCH_STATUS.held])
end

