-- ==== Sys2Proof/Laws/State.lean ====
section
/-! SUPPORT. Laws/State.lean: what each update of the state leaves alone, one lemma per field per update. -/

namespace Sys2Proof.Machine

variable (s : State)

/-! ### put -/

@[simp] theorem State.put_pending (f : Fld) (v : Nat) : (s.put f v).pending = s.pending := rfl
@[simp] theorem State.put_out (f : Fld) (v : Nat) : (s.put f v).out = s.out := rfl
@[simp] theorem State.put_time (f : Fld) (v : Nat) : (s.put f v).time = s.time := rfl
@[simp] theorem State.put_now (f : Fld) (v : Nat) : (s.put f v).now = s.now := rfl
@[simp] theorem State.put_draws (f : Fld) (v : Nat) : (s.put f v).draws = s.draws := rfl
@[simp] theorem State.put_mem (f : Fld) (v : Nat) : (s.put f v).mem = s.mem := rfl
@[simp] theorem State.put_lev (f : Fld) (v : Nat) : (s.put f v).lev = s.lev := rfl
@[simp] theorem State.put_pes (f : Fld) (v : Nat) : (s.put f v).pes = s.pes := rfl
@[simp] theorem State.put_cans (f : Fld) (v : Nat) : (s.put f v).cans = s.cans := rfl
@[simp] theorem State.put_queues (f : Fld) (v : Nat) : (s.put f v).queues = s.queues := rfl
@[simp] theorem State.put_clusters (f : Fld) (v : Nat) : (s.put f v).clusters = s.clusters := rfl
@[simp] theorem State.put_chans (f : Fld) (v : Nat) : (s.put f v).chans = s.chans := rfl
@[simp] theorem State.put_sw (f : Fld) (v : Nat) : (s.put f v).sw = s.sw := rfl
@[simp] theorem State.put_transit (f : Fld) (v : Nat) : (s.put f v).transit = s.transit := rfl
@[simp] theorem State.put_gates (f : Fld) (v : Nat) : (s.put f v).gates = s.gates := rfl
@[simp] theorem State.put_links (f : Fld) (v : Nat) : (s.put f v).links = s.links := rfl
@[simp] theorem State.put_ring (f : Fld) (v : Nat) : (s.put f v).ring = s.ring := rfl
@[simp] theorem State.put_tim (f : Fld) (v : Nat) : (s.put f v).tim = s.tim := rfl
@[simp] theorem State.put_cst (f : Fld) (v : Nat) : (s.put f v).cst = s.cst := rfl
@[simp] theorem State.put_core (f : Fld) (v : Nat) : (s.put f v).core = s.core := rfl
@[simp] theorem State.put_cru (f : Fld) (v : Nat) : (s.put f v).cru = s.cru := rfl
@[simp] theorem State.put_slp (f : Fld) (v : Nat) : (s.put f v).slp = s.slp := rfl
@[simp] theorem State.put_pow (f : Fld) (v : Nat) : (s.put f v).pow = s.pow := rfl
@[simp] theorem State.put_flt (f : Fld) (v : Nat) : (s.put f v).flt = s.flt := rfl
@[simp] theorem State.put_wear (f : Fld) (v : Nat) : (s.put f v).wear = s.wear := rfl
@[simp] theorem State.put_host (f : Fld) (v : Nat) : (s.put f v).host = s.host := rfl
@[simp] theorem State.put_mbx (f : Fld) (v : Nat) : (s.put f v).mbx = s.mbx := rfl
@[simp] theorem State.put_race (f : Fld) (v : Nat) : (s.put f v).race = s.race := rfl

/-! ### emit -/

@[simp] theorem State.emit_pending (e : Emit) : (s.emit e).pending = s.pending := rfl
@[simp] theorem State.emit_time (e : Emit) : (s.emit e).time = s.time := rfl
@[simp] theorem State.emit_now (e : Emit) : (s.emit e).now = s.now := rfl
@[simp] theorem State.emit_draws (e : Emit) : (s.emit e).draws = s.draws := rfl
@[simp] theorem State.emit_regs (e : Emit) : (s.emit e).regs = s.regs := rfl
@[simp] theorem State.emit_mem (e : Emit) : (s.emit e).mem = s.mem := rfl
@[simp] theorem State.emit_lev (e : Emit) : (s.emit e).lev = s.lev := rfl
@[simp] theorem State.emit_pes (e : Emit) : (s.emit e).pes = s.pes := rfl
@[simp] theorem State.emit_cans (e : Emit) : (s.emit e).cans = s.cans := rfl
@[simp] theorem State.emit_queues (e : Emit) : (s.emit e).queues = s.queues := rfl
@[simp] theorem State.emit_clusters (e : Emit) : (s.emit e).clusters = s.clusters := rfl
@[simp] theorem State.emit_chans (e : Emit) : (s.emit e).chans = s.chans := rfl
@[simp] theorem State.emit_sw (e : Emit) : (s.emit e).sw = s.sw := rfl
@[simp] theorem State.emit_transit (e : Emit) : (s.emit e).transit = s.transit := rfl
@[simp] theorem State.emit_gates (e : Emit) : (s.emit e).gates = s.gates := rfl
@[simp] theorem State.emit_links (e : Emit) : (s.emit e).links = s.links := rfl
@[simp] theorem State.emit_ring (e : Emit) : (s.emit e).ring = s.ring := rfl
@[simp] theorem State.emit_tim (e : Emit) : (s.emit e).tim = s.tim := rfl
@[simp] theorem State.emit_cst (e : Emit) : (s.emit e).cst = s.cst := rfl
@[simp] theorem State.emit_core (e : Emit) : (s.emit e).core = s.core := rfl
@[simp] theorem State.emit_cru (e : Emit) : (s.emit e).cru = s.cru := rfl
@[simp] theorem State.emit_slp (e : Emit) : (s.emit e).slp = s.slp := rfl
@[simp] theorem State.emit_pow (e : Emit) : (s.emit e).pow = s.pow := rfl
@[simp] theorem State.emit_flt (e : Emit) : (s.emit e).flt = s.flt := rfl
@[simp] theorem State.emit_wear (e : Emit) : (s.emit e).wear = s.wear := rfl
@[simp] theorem State.emit_host (e : Emit) : (s.emit e).host = s.host := rfl
@[simp] theorem State.emit_mbx (e : Emit) : (s.emit e).mbx = s.mbx := rfl
@[simp] theorem State.emit_race (e : Emit) : (s.emit e).race = s.race := rfl

/-! ### report -/

@[simp] theorem State.report_pending (f : FaultInfo) : (s.report f).pending = s.pending := rfl
@[simp] theorem State.report_out (f : FaultInfo) : (s.report f).out = s.out := rfl
@[simp] theorem State.report_time (f : FaultInfo) : (s.report f).time = s.time := rfl
@[simp] theorem State.report_now (f : FaultInfo) : (s.report f).now = s.now := rfl
@[simp] theorem State.report_draws (f : FaultInfo) : (s.report f).draws = s.draws := rfl
@[simp] theorem State.report_regs (f : FaultInfo) : (s.report f).regs = s.regs := rfl
@[simp] theorem State.report_mem (f : FaultInfo) : (s.report f).mem = s.mem := rfl
@[simp] theorem State.report_lev (f : FaultInfo) : (s.report f).lev = s.lev := rfl
@[simp] theorem State.report_pes (f : FaultInfo) : (s.report f).pes = s.pes := rfl
@[simp] theorem State.report_cans (f : FaultInfo) : (s.report f).cans = s.cans := rfl
@[simp] theorem State.report_queues (f : FaultInfo) : (s.report f).queues = s.queues := rfl
@[simp] theorem State.report_clusters (f : FaultInfo) : (s.report f).clusters = s.clusters := rfl
@[simp] theorem State.report_chans (f : FaultInfo) : (s.report f).chans = s.chans := rfl
@[simp] theorem State.report_sw (f : FaultInfo) : (s.report f).sw = s.sw := rfl
@[simp] theorem State.report_transit (f : FaultInfo) : (s.report f).transit = s.transit := rfl
@[simp] theorem State.report_gates (f : FaultInfo) : (s.report f).gates = s.gates := rfl
@[simp] theorem State.report_links (f : FaultInfo) : (s.report f).links = s.links := rfl
@[simp] theorem State.report_ring (f : FaultInfo) : (s.report f).ring = s.ring := rfl
@[simp] theorem State.report_tim (f : FaultInfo) : (s.report f).tim = s.tim := rfl
@[simp] theorem State.report_cst (f : FaultInfo) : (s.report f).cst = s.cst := rfl
@[simp] theorem State.report_core (f : FaultInfo) : (s.report f).core = s.core := rfl
@[simp] theorem State.report_cru (f : FaultInfo) : (s.report f).cru = s.cru := rfl
@[simp] theorem State.report_slp (f : FaultInfo) : (s.report f).slp = s.slp := rfl
@[simp] theorem State.report_pow (f : FaultInfo) : (s.report f).pow = s.pow := rfl
@[simp] theorem State.report_wear (f : FaultInfo) : (s.report f).wear = s.wear := rfl
@[simp] theorem State.report_host (f : FaultInfo) : (s.report f).host = s.host := rfl
@[simp] theorem State.report_mbx (f : FaultInfo) : (s.report f).mbx = s.mbx := rfl
@[simp] theorem State.report_race (f : FaultInfo) : (s.report f).race = s.race := rfl

/-! ### draw -/

@[simp] theorem State.draw_pending : s.draw.pending = s.pending := rfl
@[simp] theorem State.draw_out : s.draw.out = s.out := rfl
@[simp] theorem State.draw_time : s.draw.time = s.time := rfl
@[simp] theorem State.draw_now : s.draw.now = s.now := rfl
@[simp] theorem State.draw_regs : s.draw.regs = s.regs := rfl
@[simp] theorem State.draw_mem : s.draw.mem = s.mem := rfl
@[simp] theorem State.draw_lev : s.draw.lev = s.lev := rfl
@[simp] theorem State.draw_pes : s.draw.pes = s.pes := rfl
@[simp] theorem State.draw_cans : s.draw.cans = s.cans := rfl
@[simp] theorem State.draw_queues : s.draw.queues = s.queues := rfl
@[simp] theorem State.draw_clusters : s.draw.clusters = s.clusters := rfl
@[simp] theorem State.draw_chans : s.draw.chans = s.chans := rfl
@[simp] theorem State.draw_sw : s.draw.sw = s.sw := rfl
@[simp] theorem State.draw_transit : s.draw.transit = s.transit := rfl
@[simp] theorem State.draw_gates : s.draw.gates = s.gates := rfl
@[simp] theorem State.draw_links : s.draw.links = s.links := rfl
@[simp] theorem State.draw_ring : s.draw.ring = s.ring := rfl
@[simp] theorem State.draw_tim : s.draw.tim = s.tim := rfl
@[simp] theorem State.draw_cst : s.draw.cst = s.cst := rfl
@[simp] theorem State.draw_core : s.draw.core = s.core := rfl
@[simp] theorem State.draw_cru : s.draw.cru = s.cru := rfl
@[simp] theorem State.draw_slp : s.draw.slp = s.slp := rfl
@[simp] theorem State.draw_pow : s.draw.pow = s.pow := rfl
@[simp] theorem State.draw_flt : s.draw.flt = s.flt := rfl
@[simp] theorem State.draw_wear : s.draw.wear = s.wear := rfl
@[simp] theorem State.draw_host : s.draw.host = s.host := rfl
@[simp] theorem State.draw_mbx : s.draw.mbx = s.mbx := rfl
@[simp] theorem State.draw_race : s.draw.race = s.race := rfl

/-! ### setByte -/

@[simp] theorem State.setByte_pending (a v : Nat) : (s.setByte a v).pending = s.pending := rfl
@[simp] theorem State.setByte_out (a v : Nat) : (s.setByte a v).out = s.out := rfl
@[simp] theorem State.setByte_time (a v : Nat) : (s.setByte a v).time = s.time := rfl
@[simp] theorem State.setByte_now (a v : Nat) : (s.setByte a v).now = s.now := rfl
@[simp] theorem State.setByte_draws (a v : Nat) : (s.setByte a v).draws = s.draws := rfl
@[simp] theorem State.setByte_regs (a v : Nat) : (s.setByte a v).regs = s.regs := rfl
@[simp] theorem State.setByte_lev (a v : Nat) : (s.setByte a v).lev = s.lev := rfl
@[simp] theorem State.setByte_pes (a v : Nat) : (s.setByte a v).pes = s.pes := rfl
@[simp] theorem State.setByte_cans (a v : Nat) : (s.setByte a v).cans = s.cans := rfl
@[simp] theorem State.setByte_queues (a v : Nat) : (s.setByte a v).queues = s.queues := rfl
@[simp] theorem State.setByte_clusters (a v : Nat) : (s.setByte a v).clusters = s.clusters := rfl
@[simp] theorem State.setByte_chans (a v : Nat) : (s.setByte a v).chans = s.chans := rfl
@[simp] theorem State.setByte_sw (a v : Nat) : (s.setByte a v).sw = s.sw := rfl
@[simp] theorem State.setByte_transit (a v : Nat) : (s.setByte a v).transit = s.transit := rfl
@[simp] theorem State.setByte_gates (a v : Nat) : (s.setByte a v).gates = s.gates := rfl
@[simp] theorem State.setByte_links (a v : Nat) : (s.setByte a v).links = s.links := rfl
@[simp] theorem State.setByte_ring (a v : Nat) : (s.setByte a v).ring = s.ring := rfl
@[simp] theorem State.setByte_tim (a v : Nat) : (s.setByte a v).tim = s.tim := rfl
@[simp] theorem State.setByte_cst (a v : Nat) : (s.setByte a v).cst = s.cst := rfl
@[simp] theorem State.setByte_core (a v : Nat) : (s.setByte a v).core = s.core := rfl
@[simp] theorem State.setByte_cru (a v : Nat) : (s.setByte a v).cru = s.cru := rfl
@[simp] theorem State.setByte_slp (a v : Nat) : (s.setByte a v).slp = s.slp := rfl
@[simp] theorem State.setByte_pow (a v : Nat) : (s.setByte a v).pow = s.pow := rfl
@[simp] theorem State.setByte_flt (a v : Nat) : (s.setByte a v).flt = s.flt := rfl
@[simp] theorem State.setByte_wear (a v : Nat) : (s.setByte a v).wear = s.wear := rfl
@[simp] theorem State.setByte_host (a v : Nat) : (s.setByte a v).host = s.host := rfl
@[simp] theorem State.setByte_mbx (a v : Nat) : (s.setByte a v).mbx = s.mbx := rfl
@[simp] theorem State.setByte_race (a v : Nat) : (s.setByte a v).race = s.race := rfl

/-! ### setPe -/

@[simp] theorem State.setPe_pending (k n : Nat) (p : PE) : (s.setPe k n p).pending = s.pending := rfl
@[simp] theorem State.setPe_out (k n : Nat) (p : PE) : (s.setPe k n p).out = s.out := rfl
@[simp] theorem State.setPe_time (k n : Nat) (p : PE) : (s.setPe k n p).time = s.time := rfl
@[simp] theorem State.setPe_now (k n : Nat) (p : PE) : (s.setPe k n p).now = s.now := rfl
@[simp] theorem State.setPe_draws (k n : Nat) (p : PE) : (s.setPe k n p).draws = s.draws := rfl
@[simp] theorem State.setPe_regs (k n : Nat) (p : PE) : (s.setPe k n p).regs = s.regs := rfl
@[simp] theorem State.setPe_mem (k n : Nat) (p : PE) : (s.setPe k n p).mem = s.mem := rfl
@[simp] theorem State.setPe_lev (k n : Nat) (p : PE) : (s.setPe k n p).lev = s.lev := rfl
@[simp] theorem State.setPe_cans (k n : Nat) (p : PE) : (s.setPe k n p).cans = s.cans := rfl
@[simp] theorem State.setPe_queues (k n : Nat) (p : PE) : (s.setPe k n p).queues = s.queues := rfl
@[simp] theorem State.setPe_clusters (k n : Nat) (p : PE) : (s.setPe k n p).clusters = s.clusters := rfl
@[simp] theorem State.setPe_chans (k n : Nat) (p : PE) : (s.setPe k n p).chans = s.chans := rfl
@[simp] theorem State.setPe_sw (k n : Nat) (p : PE) : (s.setPe k n p).sw = s.sw := rfl
@[simp] theorem State.setPe_transit (k n : Nat) (p : PE) : (s.setPe k n p).transit = s.transit := rfl
@[simp] theorem State.setPe_gates (k n : Nat) (p : PE) : (s.setPe k n p).gates = s.gates := rfl
@[simp] theorem State.setPe_links (k n : Nat) (p : PE) : (s.setPe k n p).links = s.links := rfl
@[simp] theorem State.setPe_ring (k n : Nat) (p : PE) : (s.setPe k n p).ring = s.ring := rfl
@[simp] theorem State.setPe_tim (k n : Nat) (p : PE) : (s.setPe k n p).tim = s.tim := rfl
@[simp] theorem State.setPe_cst (k n : Nat) (p : PE) : (s.setPe k n p).cst = s.cst := rfl
@[simp] theorem State.setPe_core (k n : Nat) (p : PE) : (s.setPe k n p).core = s.core := rfl
@[simp] theorem State.setPe_cru (k n : Nat) (p : PE) : (s.setPe k n p).cru = s.cru := rfl
@[simp] theorem State.setPe_slp (k n : Nat) (p : PE) : (s.setPe k n p).slp = s.slp := rfl
@[simp] theorem State.setPe_pow (k n : Nat) (p : PE) : (s.setPe k n p).pow = s.pow := rfl
@[simp] theorem State.setPe_flt (k n : Nat) (p : PE) : (s.setPe k n p).flt = s.flt := rfl
@[simp] theorem State.setPe_wear (k n : Nat) (p : PE) : (s.setPe k n p).wear = s.wear := rfl
@[simp] theorem State.setPe_host (k n : Nat) (p : PE) : (s.setPe k n p).host = s.host := rfl
@[simp] theorem State.setPe_mbx (k n : Nat) (p : PE) : (s.setPe k n p).mbx = s.mbx := rfl
@[simp] theorem State.setPe_race (k n : Nat) (p : PE) : (s.setPe k n p).race = s.race := rfl

/-! ### setQueue -/

@[simp] theorem State.setQueue_pending (k q : Nat) (x : Queue) : (s.setQueue k q x).pending = s.pending := rfl
@[simp] theorem State.setQueue_out (k q : Nat) (x : Queue) : (s.setQueue k q x).out = s.out := rfl
@[simp] theorem State.setQueue_time (k q : Nat) (x : Queue) : (s.setQueue k q x).time = s.time := rfl
@[simp] theorem State.setQueue_now (k q : Nat) (x : Queue) : (s.setQueue k q x).now = s.now := rfl
@[simp] theorem State.setQueue_draws (k q : Nat) (x : Queue) : (s.setQueue k q x).draws = s.draws := rfl
@[simp] theorem State.setQueue_regs (k q : Nat) (x : Queue) : (s.setQueue k q x).regs = s.regs := rfl
@[simp] theorem State.setQueue_mem (k q : Nat) (x : Queue) : (s.setQueue k q x).mem = s.mem := rfl
@[simp] theorem State.setQueue_lev (k q : Nat) (x : Queue) : (s.setQueue k q x).lev = s.lev := rfl
@[simp] theorem State.setQueue_pes (k q : Nat) (x : Queue) : (s.setQueue k q x).pes = s.pes := rfl
@[simp] theorem State.setQueue_cans (k q : Nat) (x : Queue) : (s.setQueue k q x).cans = s.cans := rfl
@[simp] theorem State.setQueue_clusters (k q : Nat) (x : Queue) : (s.setQueue k q x).clusters = s.clusters := rfl
@[simp] theorem State.setQueue_chans (k q : Nat) (x : Queue) : (s.setQueue k q x).chans = s.chans := rfl
@[simp] theorem State.setQueue_sw (k q : Nat) (x : Queue) : (s.setQueue k q x).sw = s.sw := rfl
@[simp] theorem State.setQueue_transit (k q : Nat) (x : Queue) : (s.setQueue k q x).transit = s.transit := rfl
@[simp] theorem State.setQueue_gates (k q : Nat) (x : Queue) : (s.setQueue k q x).gates = s.gates := rfl
@[simp] theorem State.setQueue_links (k q : Nat) (x : Queue) : (s.setQueue k q x).links = s.links := rfl
@[simp] theorem State.setQueue_ring (k q : Nat) (x : Queue) : (s.setQueue k q x).ring = s.ring := rfl
@[simp] theorem State.setQueue_tim (k q : Nat) (x : Queue) : (s.setQueue k q x).tim = s.tim := rfl
@[simp] theorem State.setQueue_cst (k q : Nat) (x : Queue) : (s.setQueue k q x).cst = s.cst := rfl
@[simp] theorem State.setQueue_core (k q : Nat) (x : Queue) : (s.setQueue k q x).core = s.core := rfl
@[simp] theorem State.setQueue_cru (k q : Nat) (x : Queue) : (s.setQueue k q x).cru = s.cru := rfl
@[simp] theorem State.setQueue_slp (k q : Nat) (x : Queue) : (s.setQueue k q x).slp = s.slp := rfl
@[simp] theorem State.setQueue_pow (k q : Nat) (x : Queue) : (s.setQueue k q x).pow = s.pow := rfl
@[simp] theorem State.setQueue_flt (k q : Nat) (x : Queue) : (s.setQueue k q x).flt = s.flt := rfl
@[simp] theorem State.setQueue_wear (k q : Nat) (x : Queue) : (s.setQueue k q x).wear = s.wear := rfl
@[simp] theorem State.setQueue_host (k q : Nat) (x : Queue) : (s.setQueue k q x).host = s.host := rfl
@[simp] theorem State.setQueue_mbx (k q : Nat) (x : Queue) : (s.setQueue k q x).mbx = s.mbx := rfl
@[simp] theorem State.setQueue_race (k q : Nat) (x : Queue) : (s.setQueue k q x).race = s.race := rfl

/-! ### setCan -/

@[simp] theorem State.setCan_pending (k j : Nat) (x : Can) : (s.setCan k j x).pending = s.pending := rfl
@[simp] theorem State.setCan_out (k j : Nat) (x : Can) : (s.setCan k j x).out = s.out := rfl
@[simp] theorem State.setCan_time (k j : Nat) (x : Can) : (s.setCan k j x).time = s.time := rfl
@[simp] theorem State.setCan_now (k j : Nat) (x : Can) : (s.setCan k j x).now = s.now := rfl
@[simp] theorem State.setCan_draws (k j : Nat) (x : Can) : (s.setCan k j x).draws = s.draws := rfl
@[simp] theorem State.setCan_regs (k j : Nat) (x : Can) : (s.setCan k j x).regs = s.regs := rfl
@[simp] theorem State.setCan_mem (k j : Nat) (x : Can) : (s.setCan k j x).mem = s.mem := rfl
@[simp] theorem State.setCan_lev (k j : Nat) (x : Can) : (s.setCan k j x).lev = s.lev := rfl
@[simp] theorem State.setCan_pes (k j : Nat) (x : Can) : (s.setCan k j x).pes = s.pes := rfl
@[simp] theorem State.setCan_queues (k j : Nat) (x : Can) : (s.setCan k j x).queues = s.queues := rfl
@[simp] theorem State.setCan_clusters (k j : Nat) (x : Can) : (s.setCan k j x).clusters = s.clusters := rfl
@[simp] theorem State.setCan_chans (k j : Nat) (x : Can) : (s.setCan k j x).chans = s.chans := rfl
@[simp] theorem State.setCan_sw (k j : Nat) (x : Can) : (s.setCan k j x).sw = s.sw := rfl
@[simp] theorem State.setCan_transit (k j : Nat) (x : Can) : (s.setCan k j x).transit = s.transit := rfl
@[simp] theorem State.setCan_gates (k j : Nat) (x : Can) : (s.setCan k j x).gates = s.gates := rfl
@[simp] theorem State.setCan_links (k j : Nat) (x : Can) : (s.setCan k j x).links = s.links := rfl
@[simp] theorem State.setCan_ring (k j : Nat) (x : Can) : (s.setCan k j x).ring = s.ring := rfl
@[simp] theorem State.setCan_tim (k j : Nat) (x : Can) : (s.setCan k j x).tim = s.tim := rfl
@[simp] theorem State.setCan_cst (k j : Nat) (x : Can) : (s.setCan k j x).cst = s.cst := rfl
@[simp] theorem State.setCan_core (k j : Nat) (x : Can) : (s.setCan k j x).core = s.core := rfl
@[simp] theorem State.setCan_cru (k j : Nat) (x : Can) : (s.setCan k j x).cru = s.cru := rfl
@[simp] theorem State.setCan_slp (k j : Nat) (x : Can) : (s.setCan k j x).slp = s.slp := rfl
@[simp] theorem State.setCan_pow (k j : Nat) (x : Can) : (s.setCan k j x).pow = s.pow := rfl
@[simp] theorem State.setCan_flt (k j : Nat) (x : Can) : (s.setCan k j x).flt = s.flt := rfl
@[simp] theorem State.setCan_wear (k j : Nat) (x : Can) : (s.setCan k j x).wear = s.wear := rfl
@[simp] theorem State.setCan_host (k j : Nat) (x : Can) : (s.setCan k j x).host = s.host := rfl
@[simp] theorem State.setCan_mbx (k j : Nat) (x : Can) : (s.setCan k j x).mbx = s.mbx := rfl
@[simp] theorem State.setCan_race (k j : Nat) (x : Can) : (s.setCan k j x).race = s.race := rfl

/-! ### setCluster -/

@[simp] theorem State.setCluster_pending (k : Nat) (c : Cluster) : (s.setCluster k c).pending = s.pending := rfl
@[simp] theorem State.setCluster_out (k : Nat) (c : Cluster) : (s.setCluster k c).out = s.out := rfl
@[simp] theorem State.setCluster_time (k : Nat) (c : Cluster) : (s.setCluster k c).time = s.time := rfl
@[simp] theorem State.setCluster_now (k : Nat) (c : Cluster) : (s.setCluster k c).now = s.now := rfl
@[simp] theorem State.setCluster_draws (k : Nat) (c : Cluster) : (s.setCluster k c).draws = s.draws := rfl
@[simp] theorem State.setCluster_regs (k : Nat) (c : Cluster) : (s.setCluster k c).regs = s.regs := rfl
@[simp] theorem State.setCluster_mem (k : Nat) (c : Cluster) : (s.setCluster k c).mem = s.mem := rfl
@[simp] theorem State.setCluster_lev (k : Nat) (c : Cluster) : (s.setCluster k c).lev = s.lev := rfl
@[simp] theorem State.setCluster_pes (k : Nat) (c : Cluster) : (s.setCluster k c).pes = s.pes := rfl
@[simp] theorem State.setCluster_cans (k : Nat) (c : Cluster) : (s.setCluster k c).cans = s.cans := rfl
@[simp] theorem State.setCluster_queues (k : Nat) (c : Cluster) : (s.setCluster k c).queues = s.queues := rfl
@[simp] theorem State.setCluster_chans (k : Nat) (c : Cluster) : (s.setCluster k c).chans = s.chans := rfl
@[simp] theorem State.setCluster_sw (k : Nat) (c : Cluster) : (s.setCluster k c).sw = s.sw := rfl
@[simp] theorem State.setCluster_transit (k : Nat) (c : Cluster) : (s.setCluster k c).transit = s.transit := rfl
@[simp] theorem State.setCluster_gates (k : Nat) (c : Cluster) : (s.setCluster k c).gates = s.gates := rfl
@[simp] theorem State.setCluster_links (k : Nat) (c : Cluster) : (s.setCluster k c).links = s.links := rfl
@[simp] theorem State.setCluster_ring (k : Nat) (c : Cluster) : (s.setCluster k c).ring = s.ring := rfl
@[simp] theorem State.setCluster_tim (k : Nat) (c : Cluster) : (s.setCluster k c).tim = s.tim := rfl
@[simp] theorem State.setCluster_cst (k : Nat) (c : Cluster) : (s.setCluster k c).cst = s.cst := rfl
@[simp] theorem State.setCluster_core (k : Nat) (c : Cluster) : (s.setCluster k c).core = s.core := rfl
@[simp] theorem State.setCluster_cru (k : Nat) (c : Cluster) : (s.setCluster k c).cru = s.cru := rfl
@[simp] theorem State.setCluster_slp (k : Nat) (c : Cluster) : (s.setCluster k c).slp = s.slp := rfl
@[simp] theorem State.setCluster_pow (k : Nat) (c : Cluster) : (s.setCluster k c).pow = s.pow := rfl
@[simp] theorem State.setCluster_flt (k : Nat) (c : Cluster) : (s.setCluster k c).flt = s.flt := rfl
@[simp] theorem State.setCluster_wear (k : Nat) (c : Cluster) : (s.setCluster k c).wear = s.wear := rfl
@[simp] theorem State.setCluster_host (k : Nat) (c : Cluster) : (s.setCluster k c).host = s.host := rfl
@[simp] theorem State.setCluster_mbx (k : Nat) (c : Cluster) : (s.setCluster k c).mbx = s.mbx := rfl
@[simp] theorem State.setCluster_race (k : Nat) (c : Cluster) : (s.setCluster k c).race = s.race := rfl

/-! ### setChan -/

@[simp] theorem State.setChan_pending (c : Nat) (x : Chan) : (s.setChan c x).pending = s.pending := rfl
@[simp] theorem State.setChan_out (c : Nat) (x : Chan) : (s.setChan c x).out = s.out := rfl
@[simp] theorem State.setChan_time (c : Nat) (x : Chan) : (s.setChan c x).time = s.time := rfl
@[simp] theorem State.setChan_now (c : Nat) (x : Chan) : (s.setChan c x).now = s.now := rfl
@[simp] theorem State.setChan_draws (c : Nat) (x : Chan) : (s.setChan c x).draws = s.draws := rfl
@[simp] theorem State.setChan_regs (c : Nat) (x : Chan) : (s.setChan c x).regs = s.regs := rfl
@[simp] theorem State.setChan_mem (c : Nat) (x : Chan) : (s.setChan c x).mem = s.mem := rfl
@[simp] theorem State.setChan_lev (c : Nat) (x : Chan) : (s.setChan c x).lev = s.lev := rfl
@[simp] theorem State.setChan_pes (c : Nat) (x : Chan) : (s.setChan c x).pes = s.pes := rfl
@[simp] theorem State.setChan_cans (c : Nat) (x : Chan) : (s.setChan c x).cans = s.cans := rfl
@[simp] theorem State.setChan_queues (c : Nat) (x : Chan) : (s.setChan c x).queues = s.queues := rfl
@[simp] theorem State.setChan_clusters (c : Nat) (x : Chan) : (s.setChan c x).clusters = s.clusters := rfl
@[simp] theorem State.setChan_sw (c : Nat) (x : Chan) : (s.setChan c x).sw = s.sw := rfl
@[simp] theorem State.setChan_transit (c : Nat) (x : Chan) : (s.setChan c x).transit = s.transit := rfl
@[simp] theorem State.setChan_gates (c : Nat) (x : Chan) : (s.setChan c x).gates = s.gates := rfl
@[simp] theorem State.setChan_links (c : Nat) (x : Chan) : (s.setChan c x).links = s.links := rfl
@[simp] theorem State.setChan_ring (c : Nat) (x : Chan) : (s.setChan c x).ring = s.ring := rfl
@[simp] theorem State.setChan_tim (c : Nat) (x : Chan) : (s.setChan c x).tim = s.tim := rfl
@[simp] theorem State.setChan_cst (c : Nat) (x : Chan) : (s.setChan c x).cst = s.cst := rfl
@[simp] theorem State.setChan_core (c : Nat) (x : Chan) : (s.setChan c x).core = s.core := rfl
@[simp] theorem State.setChan_cru (c : Nat) (x : Chan) : (s.setChan c x).cru = s.cru := rfl
@[simp] theorem State.setChan_slp (c : Nat) (x : Chan) : (s.setChan c x).slp = s.slp := rfl
@[simp] theorem State.setChan_pow (c : Nat) (x : Chan) : (s.setChan c x).pow = s.pow := rfl
@[simp] theorem State.setChan_flt (c : Nat) (x : Chan) : (s.setChan c x).flt = s.flt := rfl
@[simp] theorem State.setChan_wear (c : Nat) (x : Chan) : (s.setChan c x).wear = s.wear := rfl
@[simp] theorem State.setChan_host (c : Nat) (x : Chan) : (s.setChan c x).host = s.host := rfl
@[simp] theorem State.setChan_mbx (c : Nat) (x : Chan) : (s.setChan c x).mbx = s.mbx := rfl
@[simp] theorem State.setChan_race (c : Nat) (x : Chan) : (s.setChan c x).race = s.race := rfl

/-! ### keepRegs and setBytes -/

@[simp] theorem State.keepRegs_pending (p : Nat → Bool) : (s.keepRegs p).pending = s.pending := rfl
@[simp] theorem State.keepRegs_out (p : Nat → Bool) : (s.keepRegs p).out = s.out := rfl
@[simp] theorem State.keepRegs_time (p : Nat → Bool) : (s.keepRegs p).time = s.time := rfl
@[simp] theorem State.keepRegs_now (p : Nat → Bool) : (s.keepRegs p).now = s.now := rfl
@[simp] theorem State.keepRegs_draws (p : Nat → Bool) : (s.keepRegs p).draws = s.draws := rfl
@[simp] theorem State.keepRegs_mem (p : Nat → Bool) : (s.keepRegs p).mem = s.mem := rfl
@[simp] theorem State.keepRegs_lev (p : Nat → Bool) : (s.keepRegs p).lev = s.lev := rfl
@[simp] theorem State.keepRegs_pes (p : Nat → Bool) : (s.keepRegs p).pes = s.pes := rfl
@[simp] theorem State.keepRegs_cans (p : Nat → Bool) : (s.keepRegs p).cans = s.cans := rfl
@[simp] theorem State.keepRegs_queues (p : Nat → Bool) : (s.keepRegs p).queues = s.queues := rfl
@[simp] theorem State.keepRegs_clusters (p : Nat → Bool) : (s.keepRegs p).clusters = s.clusters := rfl
@[simp] theorem State.keepRegs_chans (p : Nat → Bool) : (s.keepRegs p).chans = s.chans := rfl
@[simp] theorem State.keepRegs_sw (p : Nat → Bool) : (s.keepRegs p).sw = s.sw := rfl
@[simp] theorem State.keepRegs_transit (p : Nat → Bool) : (s.keepRegs p).transit = s.transit := rfl
@[simp] theorem State.keepRegs_gates (p : Nat → Bool) : (s.keepRegs p).gates = s.gates := rfl
@[simp] theorem State.keepRegs_links (p : Nat → Bool) : (s.keepRegs p).links = s.links := rfl
@[simp] theorem State.keepRegs_ring (p : Nat → Bool) : (s.keepRegs p).ring = s.ring := rfl
@[simp] theorem State.keepRegs_tim (p : Nat → Bool) : (s.keepRegs p).tim = s.tim := rfl
@[simp] theorem State.keepRegs_cst (p : Nat → Bool) : (s.keepRegs p).cst = s.cst := rfl
@[simp] theorem State.keepRegs_core (p : Nat → Bool) : (s.keepRegs p).core = s.core := rfl
@[simp] theorem State.keepRegs_cru (p : Nat → Bool) : (s.keepRegs p).cru = s.cru := rfl
@[simp] theorem State.keepRegs_slp (p : Nat → Bool) : (s.keepRegs p).slp = s.slp := rfl
@[simp] theorem State.keepRegs_pow (p : Nat → Bool) : (s.keepRegs p).pow = s.pow := rfl
@[simp] theorem State.keepRegs_flt (p : Nat → Bool) : (s.keepRegs p).flt = s.flt := rfl
@[simp] theorem State.keepRegs_wear (p : Nat → Bool) : (s.keepRegs p).wear = s.wear := rfl
@[simp] theorem State.keepRegs_host (p : Nat → Bool) : (s.keepRegs p).host = s.host := rfl
@[simp] theorem State.keepRegs_mbx (p : Nat → Bool) : (s.keepRegs p).mbx = s.mbx := rfl
@[simp] theorem State.keepRegs_race (p : Nat → Bool) : (s.keepRegs p).race = s.race := rfl

/-! ### setEvent and hw -/

@[simp] theorem State.setEvent_pending (g : Fld) (v : Nat) : (s.setEvent g v).pending = s.pending := rfl
@[simp] theorem State.setEvent_out (g : Fld) (v : Nat) : (s.setEvent g v).out = s.out := rfl
@[simp] theorem State.setEvent_time (g : Fld) (v : Nat) : (s.setEvent g v).time = s.time := rfl
@[simp] theorem State.setEvent_now (g : Fld) (v : Nat) : (s.setEvent g v).now = s.now := rfl
@[simp] theorem State.setEvent_draws (g : Fld) (v : Nat) : (s.setEvent g v).draws = s.draws := rfl
@[simp] theorem State.setEvent_mem (g : Fld) (v : Nat) : (s.setEvent g v).mem = s.mem := rfl
@[simp] theorem State.setEvent_lev (g : Fld) (v : Nat) : (s.setEvent g v).lev = s.lev := rfl
@[simp] theorem State.setEvent_pes (g : Fld) (v : Nat) : (s.setEvent g v).pes = s.pes := rfl
@[simp] theorem State.setEvent_cans (g : Fld) (v : Nat) : (s.setEvent g v).cans = s.cans := rfl
@[simp] theorem State.setEvent_queues (g : Fld) (v : Nat) : (s.setEvent g v).queues = s.queues := rfl
@[simp] theorem State.setEvent_clusters (g : Fld) (v : Nat) : (s.setEvent g v).clusters = s.clusters := rfl
@[simp] theorem State.setEvent_chans (g : Fld) (v : Nat) : (s.setEvent g v).chans = s.chans := rfl
@[simp] theorem State.setEvent_sw (g : Fld) (v : Nat) : (s.setEvent g v).sw = s.sw := rfl
@[simp] theorem State.setEvent_transit (g : Fld) (v : Nat) : (s.setEvent g v).transit = s.transit := rfl
@[simp] theorem State.setEvent_gates (g : Fld) (v : Nat) : (s.setEvent g v).gates = s.gates := rfl
@[simp] theorem State.setEvent_links (g : Fld) (v : Nat) : (s.setEvent g v).links = s.links := rfl
@[simp] theorem State.setEvent_ring (g : Fld) (v : Nat) : (s.setEvent g v).ring = s.ring := rfl
@[simp] theorem State.setEvent_tim (g : Fld) (v : Nat) : (s.setEvent g v).tim = s.tim := rfl
@[simp] theorem State.setEvent_cst (g : Fld) (v : Nat) : (s.setEvent g v).cst = s.cst := rfl
@[simp] theorem State.setEvent_core (g : Fld) (v : Nat) : (s.setEvent g v).core = s.core := rfl
@[simp] theorem State.setEvent_cru (g : Fld) (v : Nat) : (s.setEvent g v).cru = s.cru := rfl
@[simp] theorem State.setEvent_slp (g : Fld) (v : Nat) : (s.setEvent g v).slp = s.slp := rfl
@[simp] theorem State.setEvent_pow (g : Fld) (v : Nat) : (s.setEvent g v).pow = s.pow := rfl
@[simp] theorem State.setEvent_flt (g : Fld) (v : Nat) : (s.setEvent g v).flt = s.flt := rfl
@[simp] theorem State.setEvent_wear (g : Fld) (v : Nat) : (s.setEvent g v).wear = s.wear := rfl
@[simp] theorem State.setEvent_host (g : Fld) (v : Nat) : (s.setEvent g v).host = s.host := rfl
@[simp] theorem State.setEvent_mbx (g : Fld) (v : Nat) : (s.setEvent g v).mbx = s.mbx := rfl
@[simp] theorem State.hw_pending (g : Fld) (v : Nat) : (s.hw g v).pending = s.pending := by unfold State.hw; split <;> rfl
@[simp] theorem State.hw_out (g : Fld) (v : Nat) : (s.hw g v).out = s.out := by unfold State.hw; split <;> rfl
@[simp] theorem State.hw_time (g : Fld) (v : Nat) : (s.hw g v).time = s.time := by unfold State.hw; split <;> rfl
@[simp] theorem State.hw_now (g : Fld) (v : Nat) : (s.hw g v).now = s.now := by unfold State.hw; split <;> rfl
@[simp] theorem State.hw_draws (g : Fld) (v : Nat) : (s.hw g v).draws = s.draws := by unfold State.hw; split <;> rfl
@[simp] theorem State.hw_mem (g : Fld) (v : Nat) : (s.hw g v).mem = s.mem := by unfold State.hw; split <;> rfl
@[simp] theorem State.hw_lev (g : Fld) (v : Nat) : (s.hw g v).lev = s.lev := by unfold State.hw; split <;> rfl
@[simp] theorem State.hw_pes (g : Fld) (v : Nat) : (s.hw g v).pes = s.pes := by unfold State.hw; split <;> rfl
@[simp] theorem State.hw_cans (g : Fld) (v : Nat) : (s.hw g v).cans = s.cans := by unfold State.hw; split <;> rfl
@[simp] theorem State.hw_queues (g : Fld) (v : Nat) : (s.hw g v).queues = s.queues := by unfold State.hw; split <;> rfl
@[simp] theorem State.hw_clusters (g : Fld) (v : Nat) : (s.hw g v).clusters = s.clusters := by unfold State.hw; split <;> rfl
@[simp] theorem State.hw_chans (g : Fld) (v : Nat) : (s.hw g v).chans = s.chans := by unfold State.hw; split <;> rfl
@[simp] theorem State.hw_sw (g : Fld) (v : Nat) : (s.hw g v).sw = s.sw := by unfold State.hw; split <;> rfl
@[simp] theorem State.hw_transit (g : Fld) (v : Nat) : (s.hw g v).transit = s.transit := by unfold State.hw; split <;> rfl
@[simp] theorem State.hw_gates (g : Fld) (v : Nat) : (s.hw g v).gates = s.gates := by unfold State.hw; split <;> rfl
@[simp] theorem State.hw_links (g : Fld) (v : Nat) : (s.hw g v).links = s.links := by unfold State.hw; split <;> rfl
@[simp] theorem State.hw_ring (g : Fld) (v : Nat) : (s.hw g v).ring = s.ring := by unfold State.hw; split <;> rfl
@[simp] theorem State.hw_tim (g : Fld) (v : Nat) : (s.hw g v).tim = s.tim := by unfold State.hw; split <;> rfl
@[simp] theorem State.hw_cst (g : Fld) (v : Nat) : (s.hw g v).cst = s.cst := by unfold State.hw; split <;> rfl
@[simp] theorem State.hw_core (g : Fld) (v : Nat) : (s.hw g v).core = s.core := by unfold State.hw; split <;> rfl
@[simp] theorem State.hw_cru (g : Fld) (v : Nat) : (s.hw g v).cru = s.cru := by unfold State.hw; split <;> rfl
@[simp] theorem State.hw_slp (g : Fld) (v : Nat) : (s.hw g v).slp = s.slp := by unfold State.hw; split <;> rfl
@[simp] theorem State.hw_pow (g : Fld) (v : Nat) : (s.hw g v).pow = s.pow := by unfold State.hw; split <;> rfl
@[simp] theorem State.hw_flt (g : Fld) (v : Nat) : (s.hw g v).flt = s.flt := by unfold State.hw; split <;> rfl
@[simp] theorem State.hw_wear (g : Fld) (v : Nat) : (s.hw g v).wear = s.wear := by unfold State.hw; split <;> rfl
@[simp] theorem State.hw_host (g : Fld) (v : Nat) : (s.hw g v).host = s.host := by unfold State.hw; split <;> rfl
@[simp] theorem State.hw_mbx (g : Fld) (v : Nat) : (s.hw g v).mbx = s.mbx := by unfold State.hw; split <;> rfl
@[simp] theorem State.hw_race (g : Fld) (v : Nat) : (s.hw g v).race = s.race := by unfold State.hw; split <;> rfl

end Sys2Proof.Machine
end

