-- ==== Sys2Proof/Laws/Store.lean ====
section
/-! SUPPORT. Laws/Store.lean: reading back a sparse map after a change, and its canonical form. -/

namespace Sys2Proof.Machine

variable {α : Type}

theorem SMap.find?_insert_self (m : SMap α) (a : Nat) (v : α) : SMap.find? (SMap.insert m a v) a = some v := by
  induction m with
  | nil => simp [SMap.insert, SMap.find?]
  | cons e m ih =>
    obtain ⟨k, w⟩ := e
    unfold SMap.insert
    split
    · simp [SMap.find?]
    · split
      · simp [SMap.find?]
      · simp [SMap.find?, *]

theorem SMap.find?_insert_ne (m : SMap α) {a b : Nat} (v : α) (h : b ≠ a) :
    SMap.find? (SMap.insert m a v) b = SMap.find? m b := by
  induction m with
  | nil =>
    simp only [SMap.insert, SMap.find?]
    split <;> simp
  | cons e m ih =>
    obtain ⟨k, w⟩ := e
    unfold SMap.insert
    split
    · rename_i hak
      simp only [SMap.find?]
      split
      · rw [if_pos (by omega)]
      · simp
    · split
      · rename_i hk
        subst hk
        simp only [SMap.find?, h, if_false]
      · simp only [SMap.find?, ih]

theorem SMap.find?_dropWhile (m : SMap α) {a b : Nat} (h : a < b) :
    SMap.find? (m.dropWhile (fun e => decide (e.1 ≤ a))) b = SMap.find? m b := by
  induction m with
  | nil => rfl
  | cons e m ih =>
    obtain ⟨k, w⟩ := e
    by_cases hk : k ≤ a
    · rw [List.dropWhile_cons_of_pos (by simpa using hk), ih]
      simp only [SMap.find?]
      rw [if_neg (by omega), if_neg (by omega)]
    · rw [List.dropWhile_cons_of_neg (by simpa using hk)]

theorem SMap.find?_erase_self (m : SMap α) (a : Nat) : SMap.find? (SMap.erase m a) a = none := by
  induction m with
  | nil => rfl
  | cons e m ih =>
    obtain ⟨k, w⟩ := e
    unfold SMap.erase
    split
    · simp [SMap.find?, *]
    · split
      · clear ih
        induction m with
        | nil => rfl
        | cons e m ih =>
          obtain ⟨k', w'⟩ := e
          by_cases hk : k' ≤ a
          · rw [List.dropWhile_cons_of_pos (by simpa using hk)]
            exact ih
          · rw [List.dropWhile_cons_of_neg (by simpa using hk)]
            simp only [SMap.find?]
            rw [if_pos (by omega)]
      · simp only [SMap.find?]
        rw [if_neg (by omega), if_neg (by omega)]
        exact ih

theorem SMap.find?_erase_ne (m : SMap α) {a b : Nat} (h : b ≠ a) : SMap.find? (SMap.erase m a) b = SMap.find? m b := by
  induction m with
  | nil => rfl
  | cons e m ih =>
    obtain ⟨k, w⟩ := e
    unfold SMap.erase
    split
    · rfl
    · split
      · rename_i h1 h2
        subst h2
        simp only [SMap.find?, h, if_false]
        split
        · clear ih h1
          induction m with
          | nil => rfl
          | cons e m ih =>
            obtain ⟨k', w'⟩ := e
            by_cases hk : k' ≤ a
            · rw [List.dropWhile_cons_of_pos (by simpa using hk)]
              exact ih
            · rw [List.dropWhile_cons_of_neg (by simpa using hk)]
              simp only [SMap.find?]
              rw [if_pos (by omega)]
        · exact SMap.find?_dropWhile m (by omega)
      · simp only [SMap.find?, ih]

variable [DecidableEq α]

/-- A key that is set reads as what it was set to. -/
@[simp] theorem SMap.getD_set_self (m : SMap α) (a : Nat) (v d : α) : SMap.getD (SMap.set m a v d) a d = v := by
  unfold SMap.set SMap.getD
  split
  · simp [SMap.find?_erase_self, *]
  · simp [SMap.find?_insert_self]

/-- Setting a key leaves every other key alone. -/
theorem SMap.getD_set_ne (m : SMap α) {a b : Nat} (v d d' : α) (h : b ≠ a) :
    SMap.getD (SMap.set m a v d) b d' = SMap.getD m b d' := by
  unfold SMap.set SMap.getD
  split
  · rw [SMap.find?_erase_ne m h]
  · rw [SMap.find?_insert_ne m v h]

/-- Setting a key, read at any key. -/
theorem SMap.getD_set (m : SMap α) (a b : Nat) (v d : α) :
    SMap.getD (SMap.set m a v d) b d = if b = a then v else SMap.getD m b d := by
  split
  · subst_vars; simp
  · exact SMap.getD_set_ne m v d d ‹_›

/-! ### The canonical form -/

omit [DecidableEq α] in
theorem SMap.sorted_iff (m : SMap α) : SMap.sorted m = true ↔ m.Pairwise (fun x y => x.1 < y.1) := by
  induction m with
  | nil => simp [SMap.sorted]
  | cons e m ih =>
    obtain ⟨a, v⟩ := e
    cases m with
    | nil => simp [SMap.sorted]
    | cons e' m =>
      obtain ⟨b, w⟩ := e'
      simp only [SMap.sorted, Bool.and_eq_true, decide_eq_true_eq, ih, List.pairwise_cons]
      constructor
      · rintro ⟨hab, hb, hp⟩
        refine ⟨?_, hb, hp⟩
        intro x hx
        rcases List.mem_cons.1 hx with rfl | hx
        · exact hab
        · exact Nat.lt_trans hab (hb x hx)
      · rintro ⟨ha, hb, hp⟩
        exact ⟨ha _ (List.mem_cons_self ..), hb, hp⟩

omit [DecidableEq α] in
theorem SMap.mem_insert (m : SMap α) (a : Nat) (v : α) (x : Nat × α) (h : x ∈ SMap.insert m a v) : x = (a, v) ∨ x ∈ m := by
  induction m with
  | nil => simpa [SMap.insert] using h
  | cons e m ih =>
    obtain ⟨k, w⟩ := e
    unfold SMap.insert at h
    split at h
    · simpa using h
    · split at h
      · rcases List.mem_cons.1 h with h | h
        · exact .inl h
        · exact .inr (List.mem_cons_of_mem _ h)
      · rcases List.mem_cons.1 h with h | h
        · exact .inr (h ▸ List.mem_cons_self ..)
        · rcases ih h with h | h
          · exact .inl h
          · exact .inr (List.mem_cons_of_mem _ h)

omit [DecidableEq α] in
theorem SMap.mem_erase (m : SMap α) (a : Nat) (x : Nat × α) (h : x ∈ SMap.erase m a) : x ∈ m := by
  induction m with
  | nil => simp [SMap.erase] at h
  | cons e m ih =>
    obtain ⟨k, w⟩ := e
    unfold SMap.erase at h
    split at h
    · exact h
    · split at h
      · exact List.mem_cons_of_mem _ ((List.dropWhile_sublist _).mem h)
      · rcases List.mem_cons.1 h with h | h
        · exact h ▸ List.mem_cons_self ..
        · exact List.mem_cons_of_mem _ (ih h)

omit [DecidableEq α] in
theorem SMap.pairwise_insert (m : SMap α) (a : Nat) (v : α) (h : m.Pairwise (fun x y => x.1 < y.1)) :
    (SMap.insert m a v).Pairwise (fun x y => x.1 < y.1) := by
  induction m with
  | nil => simp [SMap.insert]
  | cons e m ih =>
    obtain ⟨k, w⟩ := e
    rw [List.pairwise_cons] at h
    unfold SMap.insert
    split
    · rename_i hak
      refine List.pairwise_cons.2 ⟨?_, List.pairwise_cons.2 h⟩
      intro x hx
      rcases List.mem_cons.1 hx with rfl | hx
      · exact hak
      · exact Nat.lt_trans hak (h.1 x hx)
    · split
      · rename_i hk
        subst hk
        exact List.pairwise_cons.2 ⟨fun x hx => h.1 x hx, h.2⟩
      · refine List.pairwise_cons.2 ⟨?_, ih h.2⟩
        intro x hx
        rcases SMap.mem_insert m a v x hx with rfl | hx
        · show k < a
          omega
        · exact h.1 x hx

omit [DecidableEq α] in
theorem SMap.pairwise_erase (m : SMap α) (a : Nat) (h : m.Pairwise (fun x y => x.1 < y.1)) :
    (SMap.erase m a).Pairwise (fun x y => x.1 < y.1) := by
  induction m with
  | nil => simp [SMap.erase]
  | cons e m ih =>
    obtain ⟨k, w⟩ := e
    rw [List.pairwise_cons] at h
    unfold SMap.erase
    split
    · exact List.pairwise_cons.2 h
    · split
      · exact h.2.sublist (List.dropWhile_sublist _)
      · exact List.pairwise_cons.2 ⟨fun x hx => h.1 x (SMap.mem_erase m a x hx), ih h.2⟩

/-- Setting a key keeps the keys strictly rising. -/
theorem SMap.sorted_set (m : SMap α) (a : Nat) (v d : α) (h : SMap.sorted m = true) :
    SMap.sorted (SMap.set m a v d) = true := by
  rw [SMap.sorted_iff] at h ⊢
  unfold SMap.set
  split
  · exact SMap.pairwise_erase m a h
  · exact SMap.pairwise_insert m a v h

omit [DecidableEq α] in
/-- Keeping some entries keeps the keys strictly rising. -/
theorem SMap.sorted_filter (m : SMap α) (p : Nat × α → Bool) (h : SMap.sorted m = true) :
    SMap.sorted (m.filter p) = true := by
  rw [SMap.sorted_iff] at h ⊢
  exact h.sublist List.filter_sublist

/-- Setting a key to what an unlisted key reads as leaves no such entry, and any other value is entered as it is. -/
theorem SMap.set_all (m : SMap α) (a : Nat) (v d : α) (h : m.all (fun e => decide (e.2 ≠ d)) = true) :
    (SMap.set m a v d).all (fun e => decide (e.2 ≠ d)) = true := by
  rw [List.all_eq_true] at h ⊢
  intro x hx
  unfold SMap.set at hx
  split at hx
  · exact h x (SMap.mem_erase m a x hx)
  · rcases SMap.mem_insert m a v x hx with rfl | hx
    · simpa using ‹¬v = d›
    · exact h x hx

/-! ### Bits -/

theorem setBit_split (n i : Nat) (b : Bool) :
    setBit n i b = 2 ^ i * (n / 2 ^ (i + 1) * 2 + b2n b) + n % 2 ^ i := by
  simp only [setBit, pow_succ]; ring
@[simp] theorem bit_setBit_self (n i : Nat) (b : Bool) : bit (setBit n i b) i = b := by
  have hr : n % 2 ^ i < 2 ^ i := Nat.mod_lt _ (by positivity)
  rw [bit, setBit_split, Nat.mul_add_div (by positivity), Nat.div_eq_of_lt hr]
  cases b <;> simp [b2n, Nat.add_mod]
theorem bit_setBit_ne (n : Nat) {i j : Nat} (b : Bool) (h : j ≠ i) : bit (setBit n i b) j = bit n j := by
  have hr : n % 2 ^ i < 2 ^ i := Nat.mod_lt _ (by positivity)
  have hb : b2n b ≤ 1 := by cases b <;> simp [b2n]
  rcases Nat.lt_or_gt_of_ne h with h | h
  · obtain ⟨d, rfl⟩ : ∃ d, i = j + 1 + d := ⟨i - (j + 1), by omega⟩
    have e : n = 2 ^ (j + 1 + d) * (n / 2 ^ (j + 1 + d)) + n % 2 ^ (j + 1 + d) := (Nat.div_add_mod _ _).symm
    have k (x r : Nat) : (2 ^ (j + 1 + d) * x + r) / 2 ^ j % 2 = r / 2 ^ j % 2 := by
      rw [show 2 ^ (j + 1 + d) * x + r = 2 ^ j * (2 * (2 ^ d * x)) + r by ring, Nat.mul_add_div (by positivity)]
      omega
    conv_rhs => rw [bit, e, k]
    rw [bit, setBit_split, k]
  · obtain ⟨d, rfl⟩ : ∃ d, j = i + 1 + d := ⟨j - (i + 1), by omega⟩
    have e (m : Nat) : m / 2 ^ (i + 1 + d) = m / 2 ^ i / 2 / 2 ^ d := by
      rw [Nat.div_div_eq_div_mul, Nat.div_div_eq_div_mul]; ring_nf
    rw [bit, bit, e, e, setBit_split, Nat.mul_add_div (by positivity), Nat.div_eq_of_lt hr, pow_succ, ← Nat.div_div_eq_div_mul]
    have : (n / 2 ^ i / 2 * 2 + b2n b + 0) / 2 = n / 2 ^ i / 2 := by omega
    rw [this]

/-- The bit a command sets in its word is set. -/
@[simp] theorem bit_withBit_self (w i : Nat) : bit (withBit w i) i = true := bit_setBit_self w i true

/-- Every other bit of the word stays. -/
theorem bit_withBit_ne (w : Nat) {i j : Nat} (h : j ≠ i) : bit (withBit w i) j = bit w j := bit_setBit_ne w true h

end Sys2Proof.Machine
end

