-- ==== Sys2Proof/Laws/Ops.lean ====
section
/-! SUPPORT. Laws/Ops.lean: what the shared operations do: reading a register back, memory and its canonical form, the end of a
command. -/

namespace Sys2Proof.Machine

variable (s : State)

/-! ### Every register operation is a put -/

@[simp] theorem State.raise_eq (f : Fld) : s.raise f = s.put f 1 := rfl
@[simp] theorem State.zero_eq (f : Fld) : s.zero f = s.put f 0 := rfl
@[simp] theorem State.bump_eq (f : Fld) : s.bump f = s.hw f (min (s.get f + 1) (2 ^ f.width - 1)) := rfl
@[simp] theorem State.bumpBy_eq (f : Fld) (n : Nat) : s.bumpBy f n = s.hw f (min (s.get f + n) (2 ^ f.width - 1)) := rfl
@[simp] theorem State.bumpWrap_eq (f : Fld) : s.bumpWrap f = s.hw f (s.get f + 1) := rfl
/-- A hardware update is a put, or nothing where software has written the field in the same cycle (R9). -/
theorem State.hw_eq (f : Fld) (v : Nat) : s.hw f v = if s.race.wrote.contains f.key then s else s.put f v := rfl
@[simp] theorem State.puts_nil : s.puts [] = s := rfl
@[simp] theorem State.puts_cons (f : Fld) (v : Nat) (l : List (Fld × Nat)) : s.puts ((f, v) :: l) = (s.put f v).puts l := rfl
@[simp] theorem State.done_eq (o : Origin) (st d : Nat) (data : List Nat) (i : Nat) :
    s.done o st d data i = s.emit (.done o st d i data) := rfl
@[simp] theorem State.refuse_eq (o : Origin) (f : Fld) : s.refuse o f = (s.bump f).done o stSTATE := rfl

/-! ### Reading a register back -/

/-- A field that is written reads as the value narrowed to its width. -/
@[simp] theorem State.get_put_self (f : Fld) (v : Nat) : (s.put f v).get f = v % 2 ^ f.width := by
  simp [State.put, State.get]

/-- Writing a field leaves every field at another bit address alone. -/
theorem State.get_put_ne (f g : Fld) (v : Nat) (h : g.key ≠ f.key) : (s.put f v).get g = s.get g := by
  simp [State.put, State.get, SMap.getD_set_ne _ _ _ _ h]

theorem State.get_congr {s t : State} (h : t.regs = s.regs) (f : Fld) : t.get f = s.get f := by simp [State.get, h]

@[simp] theorem State.get_emit (e : Emit) (f : Fld) : (s.emit e).get f = s.get f := rfl
@[simp] theorem State.get_report (x : FaultInfo) (f : Fld) : (s.report x).get f = s.get f := rfl
@[simp] theorem State.get_draw (f : Fld) : s.draw.get f = s.get f := rfl
@[simp] theorem State.get_setByte (a v : Nat) (f : Fld) : (s.setByte a v).get f = s.get f := rfl
@[simp] theorem State.get_setPe (k n : Nat) (p : PE) (f : Fld) : (s.setPe k n p).get f = s.get f := rfl
@[simp] theorem State.get_setQueue (k q : Nat) (x : Queue) (f : Fld) : (s.setQueue k q x).get f = s.get f := rfl
@[simp] theorem State.get_setCan (k j : Nat) (x : Can) (f : Fld) : (s.setCan k j x).get f = s.get f := rfl
@[simp] theorem State.get_setCluster (k : Nat) (c : Cluster) (f : Fld) : (s.setCluster k c).get f = s.get f := rfl
@[simp] theorem State.get_setChan (c : Nat) (x : Chan) (f : Fld) : (s.setChan c x).get f = s.get f := rfl

/-- A field below its width is kept whole by a put. -/
theorem State.get_put_of_lt (f : Fld) (v : Nat) (h : v < 2 ^ f.width) : (s.put f v).get f = v := by
  rw [State.get_put_self, Nat.mod_eq_of_lt h]

@[simp] theorem State.flag_eq (f : Fld) : s.flag f = (s.get f != 0) := rfl

/-! ### Units -/

@[simp] theorem State.pe_setPe_self (k n : Nat) (p : PE) : (s.setPe k n p).pe k n = p := by simp [State.setPe, State.pe]
@[simp] theorem State.queue_setQueue_self (k q : Nat) (x : Queue) : (s.setQueue k q x).queue k q = x := by
  simp [State.setQueue, State.queue]
@[simp] theorem State.can_setCan_self (k j : Nat) (x : Can) : (s.setCan k j x).can k j = x := by simp [State.setCan, State.can]
@[simp] theorem State.cluster_setCluster_self (k : Nat) (c : Cluster) : (s.setCluster k c).cluster k = c := by
  simp [State.setCluster, State.cluster]
@[simp] theorem State.chan_setChan_self (c : Nat) (x : Chan) : (s.setChan c x).chan c = x := by
  simp [State.setChan, State.chan]

/-! ### Memory -/

/-- A byte that is written reads back, narrowed to 8 bits. -/
@[simp] theorem State.byte_setByte_self (a v : Nat) : (s.setByte a v).byte a = v % 256 := by
  simp [State.setByte, State.byte]

/-- A write of a byte leaves every other byte alone. -/
theorem State.byte_setByte_ne {a b : Nat} (v : Nat) (h : b ≠ a) : (s.setByte a v).byte b = s.byte b := by
  simp [State.setByte, State.byte, SMap.getD_set_ne _ _ _ _ h]

/-- Writing bytes from a on leaves every byte before a and after them alone. -/
theorem State.byte_setBytes_of_lt (bs : List Nat) (s : State) {a b : Nat} (h : b < a ∨ a + bs.length ≤ b) :
    (s.setBytes a bs).byte b = s.byte b := by
  induction bs generalizing s a with
  | nil => rfl
  | cons x xs ih =>
    simp only [List.length_cons] at h
    rw [State.setBytes, ih _ (by omega), State.byte_setByte_ne _ _ (by omega)]

/-- Bytes that are written read back. -/
theorem State.byte_setBytes (bs : List Nat) (s : State) (a i : Nat) (h : i < bs.length) :
    (s.setBytes a bs).byte (a + i) = bs[i] % 256 := by
  induction bs generalizing s a i with
  | nil => simp at h
  | cons x xs ih =>
    rw [State.setBytes]
    cases i with
    | zero => rw [Nat.add_zero, State.byte_setBytes_of_lt _ _ (by omega)]; simp
    | succ i =>
      rw [show a + (i + 1) = a + 1 + i by omega, ih _ _ _ (by simpa using h)]
      simp

/-- Setting a byte of a memory in canonical form keeps the form. -/
theorem Memory.wf_set (m : List Host.Cell) (a : Nat) (v : BitVec 8) (h : Memory.wf m = true) :
    Memory.wf (SMap.set m a v 0) = true := by
  unfold Memory.wf at h ⊢
  rw [Bool.and_eq_true] at h ⊢
  refine ⟨SMap.sorted_set m a v 0 h.1, ?_⟩
  have := SMap.set_all m a v 0 (by simpa [bne_iff_ne] using h.2)
  simpa [bne_iff_ne] using this

/-- Keeping some bytes of a memory in canonical form keeps the form. -/
theorem Memory.wf_filter (m : List Host.Cell) (p : Host.Cell → Bool) (h : Memory.wf m = true) :
    Memory.wf (m.filter p) = true := by
  unfold Memory.wf at h ⊢
  rw [Bool.and_eq_true] at h ⊢
  refine ⟨SMap.sorted_filter m p h.1, ?_⟩
  rw [List.all_eq_true] at h ⊢
  exact fun x hx => h.2 x (List.mem_of_mem_filter hx)

/-! ### The canonical form of the whole state -/

variable {s}

theorem State.sound_congr {t : State} (hr : t.regs = s.regs) (hm : t.mem = s.mem) (h : s.sound) : t.sound := by
  unfold State.sound; rw [hr, hm]; exact h

theorem State.put_sound (f : Fld) (v : Nat) (h : s.sound) : (s.put f v).sound := ⟨SMap.sorted_set _ _ _ _ h.1, h.2⟩
theorem State.puts_sound (l : List (Fld × Nat)) (h : s.sound) : (s.puts l).sound := by
  induction l generalizing s with
  | nil => exact h
  | cons e l ih => exact ih (State.put_sound e.1 e.2 h)
theorem State.keepRegs_sound (p : Nat → Bool) (h : s.sound) : (s.keepRegs p).sound := ⟨SMap.sorted_filter _ _ h.1, h.2⟩
theorem State.setByte_sound (a v : Nat) (h : s.sound) : (s.setByte a v).sound := ⟨h.1, Memory.wf_set _ _ _ h.2⟩
theorem State.setBytes_sound (a : Nat) (bs : List Nat) (h : s.sound) : (s.setBytes a bs).sound := by
  induction bs generalizing s a with
  | nil => exact h
  | cons b bs ih => exact ih (a + 1) (State.setByte_sound a b h)
theorem State.emit_sound (e : Emit) (h : s.sound) : (s.emit e).sound := h

/-! ### Frames: what a write, an emission and a choice leave alone -/

theorem SameRegs.refl (s : State) (fs : List Fld) : SameRegs s s fs := fun _ _ => rfl
theorem SameRegs.put {t : State} {fs : List Fld} (f : Fld) (v : Nat) (hf : f ∈ fs) (h : SameRegs s t fs) : SameRegs s (t.put f v) fs :=
  fun g hg => by rw [State.get_put_ne _ _ _ _ (hg f hf)]; exact h g hg
theorem SameRegs.hw {t : State} {fs : List Fld} (f : Fld) (v : Nat) (hf : f ∈ fs) (h : SameRegs s t fs) : SameRegs s (t.hw f v) fs := by
  unfold State.hw; split
  · exact h
  · exact SameRegs.put f v hf h
theorem SameRegs.bump {t : State} {fs : List Fld} (f : Fld) (hf : f ∈ fs) (h : SameRegs s t fs) : SameRegs s (t.bump f) fs :=
  SameRegs.hw f _ hf h
theorem SameRegs.emit {t : State} {fs : List Fld} (e : Emit) (h : SameRegs s t fs) : SameRegs s (t.emit e) fs := h
theorem SameRegs.done {t : State} {fs : List Fld} (o : Origin) (st detail : Nat) (l : List Nat) (idx : Nat)
    (h : SameRegs s t fs) : SameRegs s (t.done o st detail l idx) fs := h
theorem SameRegs.ite {t u : State} {fs : List Fld} (c : Prop) [Decidable c] (h : SameRegs s t fs) (h' : SameRegs s u fs) :
    SameRegs s (if c then t else u) fs := by split <;> assumption
theorem SameRegs.trans {t u : State} {fs : List Fld} (h : SameRegs s t fs) (h' : SameRegs t u fs) : SameRegs s u fs :=
  fun g hg => (h' g hg).trans (h g hg)

/-! ### The end of a command -/

/-- With no fault detected, the collector has nothing to do. -/
@[simp] theorem State.settle_nil (n : Nat) (h : s.flt.due = []) : s.settle n = s := by
  cases n <;> simp [State.settle, h]

/-- A command that detects no fault ends in the state it made. -/
theorem fin_eq (h : s.flt.due = []) : fin s = .next s := by simp [fin, h]

end Sys2Proof.Machine
end

