-- ==== Sys2Proof/Laws/Pe.lean ====
section
/-! SUPPORT. Laws/Pe.lean: what issuing an instruction of an engine does. -/

namespace Sys2Proof.Machine

/-- An engine that stands at a legal word with the opcode of the command carries out its effect. -/
theorem State.peIssue_of_stands {s : State} {k n w op} (h : s.stands k n w) (ho : opcodeOf w = op) (eff : State → Nat → Eff) :
    s.peIssue k n op eff = (s.noteIssue k n).peApply k n op (eff (s.noteIssue k n) w) := by
  obtain ⟨h1, h2, h3, h4, h5, -⟩ := h
  unfold State.peIssue State.issues
  simp [State.flag, h1, h2, h3, h4, h5, ho]

/-! ### noteIssue only notes the time of issue -/

@[simp] theorem State.get_noteIssue (s : State) (k n) (f : Fld) : (s.noteIssue k n).get f = s.get f := by
  unfold State.noteIssue; split <;> simp
@[simp] theorem State.pcNext_noteIssue (s : State) (k n) : (s.noteIssue k n).pcNext k n = (s.get (PE_STATUS.pc k n) + 1) % 64 := by
  simp [State.pcNext]
@[simp] theorem State.noteIssue_rx (s : State) (k n) : ((s.noteIssue k n).pe k n).rx = (s.pe k n).rx := by
  unfold State.noteIssue; split <;> simp
@[simp] theorem State.noteIssue_resv (s : State) (k n) : ((s.noteIssue k n).pe k n).resv = (s.pe k n).resv := by
  unfold State.noteIssue; split <;> simp
@[simp] theorem State.noteIssue_tx (s : State) (k n) : ((s.noteIssue k n).pe k n).tx = (s.pe k n).tx := by
  unfold State.noteIssue; split <;> simp
@[simp] theorem State.noteIssue_actions (s : State) (k n) : ((s.noteIssue k n).pe k n).actions = (s.pe k n).actions := by
  unfold State.noteIssue; split <;> simp
@[simp] theorem State.noteIssue_stampHit (s : State) (k n) : ((s.noteIssue k n).pe k n).stampHit = (s.pe k n).stampHit := by
  unfold State.noteIssue; split <;> simp
theorem State.noteIssue_eq (s : State) (k n) : s.noteIssue k n = { s with pes := (s.noteIssue k n).pes } := by
  unfold State.noteIssue; split <;> simp [State.setPe]
@[simp] theorem State.noteIssue_time (s : State) (k n) : (s.noteIssue k n).time = s.time := by
  unfold State.noteIssue; split <;> simp
@[simp] theorem State.noteIssue_regs (s : State) (k n) : (s.noteIssue k n).regs = s.regs := by
  unfold State.noteIssue; split <;> simp
@[simp] theorem State.shinBusy_noteIssue (s : State) (k n w) : (s.noteIssue k n).shinBusy k n w = s.shinBusy k n w := by
  simp [State.shinBusy]
@[simp] theorem State.txRoom_noteIssue (s : State) (k n m) : (s.noteIssue k n).txRoom k n m = s.txRoom k n m := by
  simp [State.txRoom]
@[simp] theorem State.atBarrier_noteIssue (s : State) (k n b) : (s.noteIssue k n).atBarrier k n b = s.atBarrier k n b := by
  simp [State.atBarrier, State.peSync, State.peWord]

/-! ### Waiting -/

/-- WAITT goes on once its time is reached (R51). -/
theorem effWaitt_reached {s : State} {k n : Nat} (w : Nat) (h : reached 48 s.window (s.peT k n) = true) :
    effWaitt k n s w = .go s := if_pos h

theorem State.window_noteIssue (s : State) (k n : Nat) : (s.noteIssue k n).window = s.window := by
  unfold State.window; rw [State.noteIssue_time]

theorem State.peT_noteIssue (s : State) (k n : Nat) : (s.noteIssue k n).peT k n = s.peT k n := by
  unfold State.peT; rw [State.get_noteIssue, State.get_noteIssue]

/-- An access to the block of a cluster that is awake has its effect at once (R436). -/
theorem State.access_of_awake {s : State} {k : Nat} (h : s.get (NODE_CLSLEEP.depth k) = 0) (c : Instr) (f : State → Out) :
    s.access k c f = f s := by
  have hw : s.wakeCluster k wkACCESS = s := by simp [State.wakeCluster, State.clusterDepth, h]
  have hd : s.get (NODE_CLSLEEP.depth k) < spNAP := by rw [h]; decide
  simp only [State.access, if_pos hd, hw]

end Sys2Proof.Machine
end

