-- ==== Sys2Proof/WellFormed.lean ====
section
/-! DEFINITION. WellFormed.lean: the ranges that the spec gives the operands of a command, beyond what their types say. A
command that is not well formed does not reach the block; its meaning is still defined. -/

namespace Sys2Proof

/-- A value of n bits. -/
def fits (n v : Nat) : Bool := decide (v < 2 ^ n)

/-- Bytes. -/
def bytesOk (bs : List Nat) : Bool := bs.all (fits 8)

/-- A time extension (R235). -/
def TimeExt.wf (t : TimeExt) : Bool := fits 48 t.ns && fits 8 t.frac

/-- A frame (R158, R233): the widths of the header's fields, the 8 bytes of field B where it is given, and at most 9,728 bytes
in all. -/
def Frame.wf (f : Frame) : Bool :=
  fits 4 f.ftype && fits 3 f.cls && fits 6 f.dst && fits 6 f.src && fits 7 f.hops && fits 16 f.a &&
    decide (f.b.length ≤ 8) && bytesOk f.b && bytesOk f.payload && decide (f.payload.length ≤ 9712) &&
    f.ext.all TimeExt.wf

/-- A classification at the switch core: flow entries 0 to 1,023, group entries 0 to 255, ports 0 to 9 (R157, R169, R170). -/
def SwRoute.wf : SwRoute → Bool
  | .addr => true
  | .flow i => decide (i < 1024)
  | .group g => decide (g < 256)
  | .port p _ cls => decide (p < 10) && fits 3 cls

/-- What detecting hardware says of a fault (R460). -/
def FaultInfo.wf (f : FaultInfo) : Bool :=
  fits 8 f.src && fits 16 f.master && fits 40 f.addr && decide (f.acc ≤ 5) && fits 8 f.status && fits 8 f.detail && fits 8 f.extra

/-- The result of a target access: a status of R11, a detail of R144, 64 bits of data, a part index and an exception code
(R119, R120). -/
def TargetResult.wf (r : TargetResult) : Bool :=
  decide (r.status ≤ 0x0C) && decide (r.detail ≤ 0x11) && fits 64 r.value && fits 3 r.idx && fits 8 r.exc

/-- A sheet (R196, R197): 256 payload bytes, an 8-byte tag where it is protected, 12-bit numbers, a 32-bit CRC, stray
block types of a byte and physical lanes 0 to 4. -/
def Sheet.wf (y : Sheet) : Bool :=
  decide (y.payload.length = 256) && bytesOk y.payload && decide (y.tag.length = if y.prot then 8 else 0) && bytesOk y.tag &&
    fits 12 y.seq && fits 12 y.ack && fits 32 y.crc && bytesOk y.strays && y.hdrErr.all (fun l => decide (l < 5))

/-- What a link exchange carries (R213, R398): a certificate, a public key and the two signatures. -/
def Exchange.wf (m : Exchange) : Bool :=
  decide (m.cert.length = 5504) && decide (m.pub.length = 97) && decide (m.ecdsa.length = 96) && decide (m.mldsa.length = 3309) &&
    bytesOk m.cert && bytesOk m.pub && bytesOk m.ecdsa && bytesOk m.mldsa

/-- A node of the domain (R230). -/
def MapEdit.wf (e : MapEdit) : Bool := fits 6 e.node && fits 3 e.state

/-- The ends of a join. -/
def JoinMsg.wf : JoinMsg → Bool
  | .ask => true
  | .judge e _ _ _ _ _ => e.wf
  | .answer reason => fits 3 reason

/-- MIRROR updates: slots 0 to 255 (R275), a map and node states (R231). -/
def MirrorMsg.wf : MirrorMsg → Bool
  | .send => true
  | .acknowledged => true
  | .receive r => r.slots.all (fits 8) && fits 32 r.epoch && fits 32 r.cycle &&
    r.map.all (fun e => fits 6 e.1 && fits 32 e.2.1 && fits 32 e.2.2) && r.nodes.all (fun e => fits 6 e.1 && fits 3 e.2)

/-- Health reports. -/
def HealthMsg.wf : HealthMsg → Bool
  | .send _ _ _ => true
  | .receive bs _ => bytesOk bs

/-- Peer delay at an Ethernet port. -/
def EthPdelayMsg.wf : EthPdelayMsg → Bool
  | .request => true
  | .respond bs => bytesOk bs
  | .sample _ _ _ _ => true

/-- A message of a PTP master (R318). -/
def PtpMsg.wf : PtpMsg → Bool
  | .announce _ utc flags _ => fits 16 utc && fits 3 flags
  | .sync n _ _ _ => fits 16 n
  | .followUp n _ _ => fits 16 n
  | .delayResp n _ _ => fits 16 n
  | .pdelayResp n _ _ => fits 16 n
  | .pdelayRespFollowUp n _ _ => fits 16 n

/-- The straps (R507). -/
def Straps.wf (r : Straps) : Bool := fits 6 r.nodeId

/-- A queue word: 32 bits and a 4-bit tag (R64). -/
def QWord.wf (w : QWord) : Bool := fits 32 w.data && fits 4 w.tag

/-- The operands lie in the ranges that the spec gives them. -/
def wellFormed : Instr → Bool
  | .registerWrite _ a bs => fits 28 a && bytesOk bs
  | .keepaliveSend _ => true
  | .portDieKeepaliveLost _ => true
  | .wKeepaliveLost => true
  | .wLinkReturn => true
  | .rstNAssert => true
  | .nodeResetBegin r1 r2 r3 => r1.wf && r2.wf && r3.wf
  | .powerOnReset _ r1 r2 r3 => r1.wf && r2.wf && r3.wf
  | .halt _ _ => true
  | .nop _ _ => true
  | .set _ _ => true
  | .out _ _ => true
  | .in_ _ _ => true
  | .waitp _ _ => true
  | .waitt _ _ => true
  | .at_ _ _ => true
  | .jmp _ _ => true
  | .pull _ _ => true
  | .push _ _ => true
  | .mov _ _ => true
  | .add _ _ => true
  | .stamp _ _ => true
  | .ldt _ _ => true
  | .event _ _ => true
  | .sync _ _ => true
  | .yield _ _ => true
  | .timedActionApply _ _ => true
  | .txPortDeliver _ _ => true
  | .rxPortFetch _ _ => true
  | .peStart _ _ _ w => fits 32 w
  | .peHalt _ _ _ w => fits 32 w
  | .peStep _ _ _ w => fits 32 w
  | .swapReq _ _ _ w => fits 32 w
  | .swapCancel _ _ _ w => fits 32 w
  | .force _ _ _ w => fits 32 w
  | .peUnitReset _ _ _ w => fits 32 w
  | .idleSwap _ _ => true
  | .peProgWrite _ _ _ _ w => fits 32 w
  | .peStateWrite _ _ _ _ w => fits 32 w
  | .clReset _ _ => true
  | .timeLock _ => true
  | .vddioFall _ _ mv => fits 16 mv
  | .padEdge _ _ _ _ => true
  | .padstampRead _ _ _ _ => true
  | .canTransmitRecord _ _ => true
  | .canLaunch _ _ => true
  | .canFrameSent _ _ _ => true
  | .canReceive _ _ w0 w1 _ data => fits 32 w0 && fits 32 w1 && bytesOk data
  | .canBusEvent _ _ tec rec_ => fits 9 tec && fits 8 rec_
  | .canRecover _ _ _ w => fits 32 w
  | .canRecoveryDone _ _ => true
  | .canModeWrite _ _ _ w => fits 32 w
  | .queuePush _ _ offers => offers.all (fun e => e.2.wf)
  | .qpush _ _ _ w => fits 32 w
  | .qpushend _ _ _ w => fits 32 w
  | .qpusherr _ _ _ w => fits 32 w
  | .qpop _ _ _ => true
  | .queueReadWaitExpire _ _ => true
  | .queuePointerMismatch _ _ _ => true
  | .qReset _ _ _ w => fits 32 w
  | .burstRead _ _ _ ofs _ => fits 14 ofs
  | .windowAccess _ _ nd _ _ ofs _ data _ _ => fits 6 nd && fits 20 ofs && bytesOk data
  | .farPartIssue _ => true
  | .outQueueEnter _ => true
  | .responseRecord _ => true
  | .farTimeout _ => true
  | .readDeadline _ => true
  | .discardTimer _ => true
  | .readAheadLifeExpire _ => true
  | .targetRequest _ => true
  | .targetResponse _ r => r.all TargetResult.wf
  | .retryBackoffExpire _ => true
  | .chReset _ _ w => fits 32 w
  | .dropHeld _ _ w => fits 32 w
  | .eventMessage _ => true
  | .routeLookup _ => true
  | .stageClear _ _ => true
  | .routeStageWrite _ _ _ _ v => fits 32 v
  | .flowStageWrite _ _ _ _ v => fits 32 v
  | .frameIngress _ x => x.all (fun e => e.1.wf && e.2.wf)
  | .frameSelect _ => true
  | .outputDown _ => true
  | .commit _ w => fits 32 w
  | .commitEnd => true
  | .drainEnd => true
  | .flush _ w => fits 32 w
  | .caprdWrite _ v => fits 32 v
  | .captureResume _ w => fits 32 w
  | .transitForward _ f _ _ => f.wf
  | .sheetSend _ => true
  | .sheetReceive _ y => y.wf
  | .ackSend _ => true
  | .ackReceive _ ack nakSeq _ => fits 12 ack && fits 12 nakSeq
  | .replayTimeout _ => true
  | .amSend _ => true
  | .amReceive _ _ _ => true
  | .rekey _ _ w => fits 32 w
  | .rekeyTimeout _ => true
  | .retrain _ _ w => fits 32 w
  | .down _ _ w => fits 32 w
  | .laneSw _ _ w => fits 32 w
  | .wake _ _ w => fits 32 w
  | .downRetry _ => true
  | .signalDetect _ lanes => fits 5 lanes
  | .blockLock _ lanes => fits 5 lanes
  | .alignFound _ _ => true
  | .capReceive _ w => fits 56 w
  | .negotiation _ => true
  | .keysAgreed _ m => m.all Exchange.wf
  | .trainingTimeout _ => true
  | .mirrorConfirm _ _ => true
  | .laneSwitched _ => true
  | .mirrorTimeout _ => true
  | .laneLoss _ _ => true
  | .fidleRequest _ => true
  | .fidleGrant _ _ => true
  | .fidleBurst _ => true
  | .fidleExit _ _ => true
  | .wakeToneDetect _ => true
  | .wakeToneEnd _ _ => true
  | .syncHeaderLoss _ => true
  | .wrap _ es => es.all MapEdit.wf
  | .mapFrame epoch m => fits 32 epoch && m.all (fun e => fits 6 e.1 && fits 32 e.2.1 && fits 32 e.2.2)
  | .joinRequest m => m.wf
  | .cycleStart => true
  | .cycleStartReceive _ epoch _ => fits 32 epoch
  | .cycleTick => true
  | .slotMarker _ => true
  | .slotMissed _ => true
  | .seamOpen => true
  | .spliceOrder _ _ => true
  | .linkHeld _ => true
  | .spliceDrained _ es => es.all MapEdit.wf
  | .spliceAbandon _ => true
  | .leave _ w => fits 32 w
  | .partitionTest => true
  | .rejoin epoch => fits 32 epoch
  | .witGrantSample _ => true
  | .witGrantFall => true
  | .witHealthToggle => true
  | .leaseRenew _ => true
  | .leaseExpire _ => true
  | .takeover => true
  | .dualGrant _ _ => true
  | .revert => true
  | .revertNow _ w => fits 32 w
  | .release _ w => fits 32 w
  | .mirrorHello _ => true
  | .mirrorUpdate m => m.wf
  | .healthReport m => m.wf
  | .loopFrame _ _ => true
  | .takeoverCompletion f => f.wf
  | .ethReceive _ bs => bytesOk bs
  | .ethRingReceive _ f => f.wf
  | .macAgeing => true
  | .hostRead tag addr _ => fits 10 tag && fits 64 addr
  | .hostWrite addr data => fits 64 addr && bytesOk data
  | .complReceive f => f.wf
  | .hostReadTimeout => true
  | .tsIssue _ _ w => fits 32 w
  | .tsResult f => f.wf
  | .tsTimeout _ => true
  | .rqWrite _ f _ => f.wf
  | .evqWrite vec msg => fits 8 vec && bytesOk msg
  | .rqModeration _ => true
  | .ifVersionWrite _ w => fits 32 w
  | .flr _ => true
  | .nodeCmd _ _ w => fits 32 w
  | .status _ => true
  | .unitReset _ => true
  | .clusterReset _ => true
  | .dieReset _ => true
  | .nodeReset _ => true
  | .nodeHalt _ => true
  | .holdClear _ => true
  | .recast _ => true
  | .recastCluster _ => true
  | .castingInstall _ => true
  | .castingWriteDone => true
  | .ingotOpen _ => true
  | .ingotData _ => true
  | .ingotAbandon _ => true
  | .missing _ => true
  | .activatePause _ => true
  | .activateHitless _ => true
  | .preparationEnd => true
  | .pauseStateSaved => true
  | .pauseAssayDone => true
  | .pauseRestart => true
  | .hitlessAssayDone => true
  | .inStep _ => true
  | .roleMove => true
  | .hitlessTimeout => true
  | .wrapReq _ => true
  | .install _ _ _ => true
  | .authority _ _ _ => true
  | .generate _ _ _ => true
  | .invalidate _ => true
  | .hallmark _ => true
  | .quench _ => true
  | .ephemeralExpire _ => true
  | .refusingZeroise _ => true
  | .slotRenew _ => true
  | .test _ w _ => fits 32 w
  | .tlogClear _ w => fits 32 w
  | .random _ _ w => fits 32 w
  | .gcmEnc _ _ w => fits 32 w
  | .gcmDec _ _ w => fits 32 w
  | .gmac _ _ w => fits 32 w
  | .sign _ _ w => fits 32 w
  | .verify _ _ w => fits 32 w
  | .ecdhDerive _ _ w => fits 32 w
  | .hkdfDerive _ _ w => fits 32 w
  | .sha384 _ _ w => fits 32 w
  | .public_ _ _ w => fits 32 w
  | .keyOpComplete _ => true
  | .entropySourceFailure => true
  | .entropyRecover => true
  | .tamper _ _ => true
  | .benchEntry => true
  | .aonTimeRecord => true
  | .benchLogAppend => true
  | .bootRomStart _ => true
  | .unlock _ _ => true
  | .castSelect => true
  | .firmwareSelect => true
  | .settingsApply => true
  | .bootEnd => true
  | .save _ => true
  | .settingsSaveDone => true
  | .firmwareCompleteWrite => true
  | .coreStart _ _ w => fits 32 w
  | .coreHalt _ _ w => fits 32 w
  | .coreReset _ _ w => fits 32 w
  | .lockstepMismatch _ => true
  | .managerRestart => true
  | .coreEvent f => f.wf
  | .doorbell _ _ w => fits 32 w
  | .dbclr _ _ w => fits 32 w
  | .kick _ w => fits 32 w
  | .watchdogExpire => true
  | .coreAccessFault _ a _ status detail => fits 32 a && fits 8 status && fits 8 detail
  | .tcmWindowWrite _ _ _ bs => bytesOk bs
  | .nodeSleepChange _ => true
  | .clusterSleep _ => true
  | .scheduledWake _ _ => true
  | .clusterWakeEvent _ _ => true
  | .holdRun _ w => fits 32 w
  | .stow _ w => fits 32 w
  | .wakeN => true
  | .stowWakeDone _ => true
  | .bellowsStep _ => true
  | .frameWake _ f => f.wf
  | .seatDebounce => true
  | .seatRelease => true
  | .tempRestartOk _ _ _ => true
  | .tsenseMeasure _ => true
  | .rampDone _ _ _ => true
  | .faultTimerExpire _ => true
  | .fetModelTick _ _ _ => true
  | .vinWindowLeave _ _ => true
  | .retryOffExpire _ => true
  | .fetDamage _ _ _ => true
  | .pgAssert _ _ _ _ => true
  | .pgDrop _ _ _ => true
  | .regSequenceStep _ _ => true
  | .regPgTimeout _ => true
  | .regPgAll _ r1 r2 r3 => r1.wf && r2.wf && r3.wf
  | .feedOn _ _ w => fits 32 w
  | .feedOff _ _ w => fits 32 w
  | .feedClear _ _ w => fits 32 w
  | .faultDetect f inj => f.wf && inj.all (fun e => fits 32 e.2)
  | .faultPulseEnd => true
  | .releaseCapture _ w => fits 32 w
  | .clear _ w => fits 32 w
  | .hold _ w => fits 32 w
  | .pinHoldWrite _ w => fits 32 w
  | .inject src _ w => fits 8 src && fits 32 w
  | .faultForward f => f.wf
  | .forwardBacklog => true
  | .quenchPin _ => true
  | .quenchTimeMatch => true
  | .trigger _ w => fits 32 w
  | .rearm _ w => fits 32 w
  | .tmatchArm _ w => fits 32 w
  | .quenchBroadcastReceive f => f.wf
  | .pdelayReqSend _ => true
  | .pdelayResp _ _ _ => true
  | .pdelaySample _ _ _ _ _ => true
  | .syncSend _ => true
  | .syncReceive _ f _ _ => f.wf
  | .timeLossTimeout => true
  | .useSec _ w => fits 32 w
  | .usePri _ w => fits 32 w
  | .ldRestart _ w => fits 32 w
  | .blendStep => true
  | .autoRevert => true
  | .hostcap _ => true
  | .hostadjSubmit _ w => fits 32 w
  | .timNowRead _ _ => true
  | .ptpEgress _ f _ => f.wf
  | .twoStepExpire _ => true
  | .ethPdelay _ m => m.wf
  | .ptpOrdinaryClock _ _ source m => fits 80 source && m.wf
  | .launch _ _ _ => true
  | .gateEntry _ => true
  | .gateCommit _ _ w => fits 32 w
  | .gateCancel _ _ w => fits 32 w
  | .gateChange _ => true
  | .gateStageWrite _ _ _ _ v => fits 32 v
  | .wheelTick => true
  | .wheelEnter _ _ _ => true
  | .scoreUpdate _ _ => true
  | .wearStoreWrite => true
  | .peAnneal _ _ => true
  | .laneAnneal _ _ => true
  | .wireAnneal _ _ _ => true
  | .legAnneal _ _ => true
  | .bankCopyStart _ => true
  | .bankSwitch => true
  | .rowAnneal _ _ _ _ _ => true
  | .pairAnneal _ => true
  | .anneal _ w => fits 32 w
  | .cancel _ w => fits 32 w
  | .reservedOpcode _ _ => true
  | .rstNRelease r1 r2 r3 => r1.wf && r2.wf && r3.wf
  | .vddPBrownOut _ => true
  | .vddPReturn _ => true
  | .pcieLinkUp _ _ _ => true
  | .ethLinkUp _ _ => true
  | .spareLaneLockLoss _ => true
  | .spareLaneRelock _ => true
  | .ingotFlashWriteDone => true
  | .currentLimitEngage _ _ => true
  | .faultTimerClear _ => true

end Sys2Proof
end

