-- ==== Sys2Proof/Tests/Slice0.lean ====
section
/-! SUPPORT. Tests/Slice0.lean: ill-formed operands that WellFormed.lean refuses, checks of meanings against the worked values
of the spec, and witnesses for the hypotheses of the statements. -/

namespace Sys2Proof.Tests

open Sys2Proof.Machine

/-! ### WellFormed refuses -/

/-- A TIME frame of 8 payload bytes. -/
def goodFrame : Frame := { ftype := 1, cls := 0, dst := 3, src := 2, b := [0, 0, 0, 0, 0, 0, 0, 0], payload := [1, 2, 3, 4, 5, 6, 7, 8] }

theorem test_wf_frame_good : wellFormed (.tsResult goodFrame) = true := by decide
theorem test_wf_frame_ftype : wellFormed (.tsResult { goodFrame with ftype := 16 }) = false := by decide
theorem test_wf_frame_cls : wellFormed (.tsResult { goodFrame with cls := 8 }) = false := by decide
theorem test_wf_frame_dst : wellFormed (.tsResult { goodFrame with dst := 64 }) = false := by decide
theorem test_wf_frame_src : wellFormed (.tsResult { goodFrame with src := 64 }) = false := by decide
theorem test_wf_frame_hops : wellFormed (.tsResult { goodFrame with hops := 128 }) = false := by decide
theorem test_wf_frame_a : wellFormed (.tsResult { goodFrame with a := 65536 }) = false := by decide
theorem test_wf_frame_b_length : wellFormed (.tsResult { goodFrame with b := [0, 0, 0, 0, 0, 0, 0, 0, 0] }) = false := by decide
theorem test_wf_frame_b_byte : wellFormed (.tsResult { goodFrame with b := [256] }) = false := by decide
theorem test_wf_frame_payload_byte : wellFormed (.tsResult { goodFrame with payload := [256] }) = false := by decide
theorem test_wf_frame_payload_length :
    wellFormed (.tsResult { goodFrame with payload := List.replicate 9713 0 }) = false := by decide +kernel
theorem test_wf_ext_ns : wellFormed (.tsResult { goodFrame with ext := some ⟨2 ^ 48, 0, false, false⟩ }) = false := by decide
theorem test_wf_ext_frac : wellFormed (.tsResult { goodFrame with ext := some ⟨0, 256, false, false⟩ }) = false := by decide
theorem test_wf_route_flow : wellFormed (.frameIngress 0 (some (goodFrame, .flow 1024))) = false := by decide
theorem test_wf_route_group : wellFormed (.frameIngress 0 (some (goodFrame, .group 256))) = false := by decide
theorem test_wf_route_port : wellFormed (.frameIngress 0 (some (goodFrame, .port 10 0 0))) = false := by decide
theorem test_wf_route_cls : wellFormed (.frameIngress 0 (some (goodFrame, .port 0 0 8))) = false := by decide
theorem test_wf_fault_src : wellFormed (.faultDetect { src := 256, master := 0 } none) = false := by decide
theorem test_wf_fault_master : wellFormed (.faultDetect { src := 0, master := 65536 } none) = false := by decide
theorem test_wf_fault_addr : wellFormed (.faultDetect { src := 0, master := 0, addr := 2 ^ 40 } none) = false := by decide
theorem test_wf_fault_acc : wellFormed (.faultDetect { src := 0, master := 0, acc := 6 } none) = false := by decide
theorem test_wf_fault_status : wellFormed (.faultDetect { src := 0, master := 0, status := 256 } none) = false := by decide
theorem test_wf_fault_detail : wellFormed (.faultDetect { src := 0, master := 0, detail := 256 } none) = false := by decide
theorem test_wf_fault_extra : wellFormed (.faultDetect { src := 0, master := 0, extra := 256 } none) = false := by decide
theorem test_wf_inject_word : wellFormed (.faultDetect { src := 0, master := 0 } (some (.host, 2 ^ 32))) = false := by decide
theorem test_wf_target_status : wellFormed (.targetResponse 0 (some ⟨false, 0, 0x0D, 0, 0, 0, 0⟩)) = false := by decide
theorem test_wf_target_detail : wellFormed (.targetResponse 0 (some ⟨false, 0, 0, 0x12, 0, 0, 0⟩)) = false := by decide
theorem test_wf_target_value : wellFormed (.targetResponse 0 (some ⟨false, 0, 0, 0, 2 ^ 64, 0, 0⟩)) = false := by decide
theorem test_wf_target_idx : wellFormed (.targetResponse 0 (some ⟨false, 0, 0, 0, 0, 8, 0⟩)) = false := by decide
theorem test_wf_target_exc : wellFormed (.targetResponse 0 (some ⟨false, 0, 0, 0, 0, 0, 256⟩)) = false := by decide

-- One proof after the other: their kernel evaluations at once ask for too many threads.
set_option Elab.async false

/-- A whole sheet of zeros. -/
def goodSheet : Sheet := { starts := 0, cont := false, payload := List.replicate 256 0, seq := 0, ack := 0, crc := 0 }

/-- An exchange of zeros. -/
def goodExchange : Exchange :=
  { cert := List.replicate 5504 0, pub := List.replicate 97 0, ecdsa := List.replicate 96 0, mldsa := List.replicate 3309 0, zero := false }

theorem test_wf_exchange_good : wellFormed (.keysAgreed 0 (some goodExchange)) = true := by decide +kernel
theorem test_wf_exchange_cert : wellFormed (.keysAgreed 0 (some { goodExchange with cert := [] })) = false := by decide +kernel
theorem test_wf_exchange_pub : wellFormed (.keysAgreed 0 (some { goodExchange with pub := [] })) = false := by decide +kernel
theorem test_wf_exchange_ecdsa : wellFormed (.keysAgreed 0 (some { goodExchange with ecdsa := [] })) = false := by decide +kernel
theorem test_wf_exchange_mldsa : wellFormed (.keysAgreed 0 (some { goodExchange with mldsa := [] })) = false := by decide +kernel
theorem test_wf_exchange_byte :
    wellFormed (.keysAgreed 0 (some { goodExchange with cert := List.replicate 5504 256 })) = false := by decide +kernel
theorem test_wf_sheet_good : wellFormed (.sheetReceive 0 goodSheet) = true := by decide +kernel
theorem test_wf_sheet_length : wellFormed (.sheetReceive 0 { goodSheet with payload := [0] }) = false := by decide
theorem test_wf_sheet_byte : wellFormed (.sheetReceive 0 { goodSheet with payload := List.replicate 256 256 }) = false := by
  decide +kernel
theorem test_wf_sheet_tag : wellFormed (.sheetReceive 0 { goodSheet with tag := [0] }) = false := by decide +kernel
theorem test_wf_sheet_no_tag : wellFormed (.sheetReceive 0 { goodSheet with prot := true }) = false := by decide +kernel
theorem test_wf_sheet_tag_byte :
    wellFormed (.sheetReceive 0 { goodSheet with prot := true, tag := List.replicate 8 256 }) = false := by decide +kernel
theorem test_wf_sheet_stray : wellFormed (.sheetReceive 0 { goodSheet with strays := [256] }) = false := by decide +kernel
theorem test_wf_sheet_lane : wellFormed (.sheetReceive 0 { goodSheet with hdrErr := [5] }) = false := by decide +kernel
theorem test_wf_sheet_seq : wellFormed (.sheetReceive 0 { goodSheet with seq := 4096 }) = false := by decide +kernel
theorem test_wf_sheet_ack : wellFormed (.sheetReceive 0 { goodSheet with ack := 4096 }) = false := by decide +kernel
theorem test_wf_sheet_crc : wellFormed (.sheetReceive 0 { goodSheet with crc := 2 ^ 32 }) = false := by decide +kernel
theorem test_wf_wrap_node : wellFormed (.wrap ⟨0, none⟩ [⟨64, true, 0, 0, 2⟩]) = false := by decide
theorem test_wf_join_node : wellFormed (.joinRequest (.judge ⟨64, true, 0, 0, 2⟩ 0 false false false 0)) = false := by decide
theorem test_wf_map_state : wellFormed (.wrap ⟨0, none⟩ [⟨0, true, 0, 0, 8⟩]) = false := by decide
theorem test_wf_join_reason : wellFormed (.joinRequest (.answer 8)) = false := by decide
theorem test_wf_mirror_slot : wellFormed (.mirrorUpdate (.receive { epoch := 0, map := [], slots := [256] })) = false := by decide
theorem test_wf_mirror_cycle : wellFormed (.mirrorUpdate (.receive { epoch := 0, map := [], cycle := 2 ^ 32 })) = false := by decide
theorem test_wf_mirror_map : wellFormed (.mirrorUpdate (.receive { epoch := 0, map := [(64, 0, 0)] })) = false := by decide
theorem test_wf_mirror_node : wellFormed (.mirrorUpdate (.receive { epoch := 0, map := [], nodes := [(0, 8)] })) = false := by decide
theorem test_wf_mirror_epoch : wellFormed (.mirrorUpdate (.receive { epoch := 2 ^ 32, map := [] })) = false := by decide
theorem test_wf_health : wellFormed (.healthReport (.receive [256] false)) = false := by decide
theorem test_wf_pdelay : wellFormed (.ethPdelay 0 (.respond [256])) = false := by decide
theorem test_wf_straps : wellFormed (.rstNRelease { nodeId := 64 } {} {}) = false := by decide
theorem test_wf_qword_data : wellFormed (.queuePush 0 0 [(.bus .host, ⟨2 ^ 32, 0⟩)]) = false := by decide
theorem test_wf_qword_tag : wellFormed (.queuePush 0 0 [(.bus .host, ⟨0, 16⟩)]) = false := by decide
theorem test_wf_address : wellFormed (.registerWrite .host (2 ^ 28) []) = false := by decide
theorem test_wf_byte : wellFormed (.registerWrite .host 0 [256]) = false := by decide
theorem test_wf_word : wellFormed (.peStart 0 0 .host (2 ^ 32)) = false := by decide
theorem test_wf_vddio : wellFormed (.vddioFall 0 0 65536) = false := by decide
theorem test_wf_can_tec : wellFormed (.canBusEvent 0 0 512 0) = false := by decide
theorem test_wf_can_rec : wellFormed (.canBusEvent 0 0 0 256) = false := by decide
theorem test_wf_window_node : wellFormed (.windowAccess 0 .host 64 false false 0 0 [] none none) = false := by decide
theorem test_wf_map_node : wellFormed (.mapFrame 0 [(64, 0, 0)]) = false := by decide
theorem test_wf_map_word : wellFormed (.mapFrame 0 [(0, 2 ^ 32, 0)]) = false := by decide
theorem test_wf_read_tag : wellFormed (.hostRead 1024 0 0) = false := by decide
theorem test_wf_read_addr : wellFormed (.hostRead 0 (2 ^ 64) 0) = false := by decide
theorem test_wf_vector : wellFormed (.evqWrite 256 []) = false := by decide
theorem test_wf_lanes : wellFormed (.signalDetect 0 32) = false := by decide
theorem test_wf_burst : wellFormed (.burstRead 0 0 .host 16384 0) = false := by decide

/-! ### The standards' own examples -/

/-- FIPS 180-4's example: the digest of "abc". -/
theorem test_sha384_abc : beBytes (sha384 [0x61, 0x62, 0x63]) =
    0xCB00753F45A35E8BB5A03D699AC65007272C32AB0EDED1631A8B605A43FF5BED8086072BA1E7CC2358BAECA134C825A7 := by decide +kernel
/-- FIPS 197, appendix C.3. -/
theorem test_aes256 : beBytes (aesBlock (List.range 32) ((List.range 16).map (fun i => 17 * i))) =
    0x8EA2B7CA516745BFEAFC49904B496089 := by decide +kernel
/-- The Galois/counter mode specification's test cases 13 and 14. -/
theorem test_gcm_empty : beBytes (gcmTag (List.replicate 32 0) (List.replicate 12 0) [] []) =
    0x530F8AFBC74536B9A963B4F1C4CB738B := by decide +kernel
theorem test_gcm_block : beBytes (gcmTag (List.replicate 32 0) (List.replicate 12 0) []
    (gcmCipher (List.replicate 32 0) (List.replicate 12 0) (List.replicate 16 0))) = 0xD0D1C8A799996BF0265B98B5D48AB919 := by
  decide +kernel

/-! ### Witnesses: states and operands that meet the hypotheses of the statements -/

/-- The state after reset with some register fields written. -/
def st (l : List (Fld × Nat)) : State := State.reset.puts l

/-- An instruction word (R43). -/
def insn (op a b imm : Nat) : Nat := op * 2 ^ 26 + a * 2 ^ 21 + b * 2 ^ 16 + imm

/-- Engine 8 of K11 runs at address 63 of bank 1, at the instruction word w. -/
def peAt (w : Nat) (l : List (Fld × Nat) := []) (e : PE := {}) : State :=
  { st ([(PE_STATUS.run 11 8, 1), (PE_STATUS.pc 11 8, 63), (PE_STATUS.active_bank 11 8, 1), (PE_PROG.word 11 8 127, w),
    (CL_STATUS.time_lock 11, 1)] ++ l) with
    pes := [(107, e)] }

theorem stands_of {s : State} {k n w : Nat} (h : (s.peRunning k n && s.peWord k n == w && legalWord w &&
    decide (s.get (NODE_CLSLEEP.depth k) < 2) && decide (s.get (CL_STATUS.time_lock k) ≠ 0) && s.flt.due.isEmpty) = true) :
    s.stands k n w := by
  simp only [Bool.and_eq_true, beq_iff_eq, decide_eq_true_eq, List.isEmpty_iff] at h
  exact ⟨h.1.1.1.1.1, h.1.1.1.1.2, h.1.1.1.2, h.1.1.2, h.1.2, h.2⟩

theorem witness_StepRunsTheFrontCommand : { State.reset with pending := [Instr.wKeepaliveLost] }.pending = Instr.wKeepaliveLost :: [] := rfl

theorem witness_EngineDataInstructions :
    (peAt (insn 0x01 0 0 0)).stands 11 8 (insn 0x01 0 0 0) ∧
    (∃ (w : Nat) (s : State), s.stands 11 8 w ∧ opcodeOf w = 0x0B ∧ fieldA w = rT ∧ s.shinBusy 11 8 w = false) ∧
    (∃ (w : Nat) (s : State), s.stands 11 8 w ∧ opcodeOf w = 0x0C ∧ fieldImm w = 65535 ∧ s.shinBusy 11 8 w = false) ∧
    (∃ (w : Nat) (s : State) (x : QWord) (xs : List QWord), s.stands 11 8 w ∧ opcodeOf w = 0x09 ∧ (s.pe 11 8).rx = x :: xs) ∧
    (∃ (w : Nat) (s : State) (x y : QWord) (xs : List QWord), s.stands 11 8 w ∧ opcodeOf w = 0x0E ∧ (s.pe 11 8).rx = x :: y :: xs) ∧
    (∃ (w : Nat) (s : State), s.stands 11 8 w ∧ opcodeOf w = 0x0A ∧ s.txRoom 11 8 1 = true ∧ fieldB w = rSHIN ∧ (s.pe 11 8).resv = []) ∧
    (∃ (w : Nat) (s : State), s.stands 11 8 w ∧ opcodeOf w = 0x0F ∧ s.txRoom 11 8 1 = true) :=
  ⟨stands_of (by decide +kernel),
    ⟨insn 0x0B 5 5 0, peAt (insn 0x0B 5 5 0), stands_of (by decide +kernel), by decide +kernel⟩,
    ⟨insn 0x0C 1 10 65535, peAt (insn 0x0C 1 10 65535), stands_of (by decide +kernel), by decide +kernel⟩,
    ⟨insn 0x09 1 0 0, peAt (insn 0x09 1 0 0) [] { rx := [⟨7, 1⟩] }, ⟨7, 1⟩, [], stands_of (by decide +kernel), by decide +kernel⟩,
    ⟨insn 0x0E 0 0 0, peAt (insn 0x0E 0 0 0) [] { rx := [⟨7, 0⟩, ⟨0x7FFFF, 1⟩] }, ⟨7, 0⟩, ⟨0x7FFFF, 1⟩, [],
      stands_of (by decide +kernel), by decide +kernel⟩,
    ⟨insn 0x0A 0 7 9, peAt (insn 0x0A 0 7 9) [(PE_QBIND.tx_en 11 8, 1)] { tx := List.replicate 7 (⟨0, 0⟩, false) },
      stands_of (by decide +kernel), by decide +kernel⟩,
    ⟨insn 0x0F 1 10 0xFFFF, peAt (insn 0x0F 1 10 0xFFFF), stands_of (by decide +kernel), by decide +kernel⟩⟩

theorem witness_EnginePinInstructions :
    (∃ (w : Nat) (s : State), s.stands 11 8 w ∧ opcodeOf w = 0x02) ∧
    (∃ (w : Nat) (s : State), s.stands 11 8 w ∧ opcodeOf w = 0x03 ∧ fieldA w + fieldImm w = 8 ∧ fieldImm w = s.get (PE_SHCNT.out_count 11 8)) ∧
    (∃ (w : Nat) (s : State), s.stands 11 8 w ∧ opcodeOf w = 0x04 ∧ fieldA w + fieldImm w = 8 ∧ s.shinPlaces 11 8 + fieldImm w = s.inLen 11 8) ∧
    (∃ (w : Nat) (s : State), s.stands 11 8 w ∧ opcodeOf w = 0x05 ∧ (s.noteIssue 11 8).waitpCond 11 8 (fieldA w) (fieldB w) = true) ∧
    (∃ (w : Nat) (s : State), s.stands 11 8 w ∧ opcodeOf w = 0x06 ∧ reached 48 s.window (s.peT 11 8) = true) ∧
    (∃ (w : Nat) (s : State), s.stands 11 8 w ∧ opcodeOf w = 0x07 ∧ (s.pe 11 8).actions.length < 4 ∧ fieldA w % 4 < 2) ∧
    (∃ (w : Nat) (s : State), s.stands 11 8 w ∧ opcodeOf w = 0x07 ∧ (s.pe 11 8).actions.length < 4 ∧ fieldA w % 4 = 2 ∧
      0 < s.get (PE_SHCNT.out_count 11 8)) ∧
    (∃ (w : Nat) (s : State), s.stands 11 8 w ∧ opcodeOf w = 0x07 ∧ (s.pe 11 8).actions.length < 4 ∧ fieldA w % 4 = 3 ∧
      s.shinPlaces 11 8 + 1 ≤ s.inLen 11 8) ∧
    (∃ (w : Nat) (s : State), s.stands 11 8 w ∧ opcodeOf w = 0x0D ∧ s.txRoom 11 8 2 = true ∧ bit (fieldB w) 2 = false ∧
      (s.pe 11 8).stampHit = some (9, true)) :=
  ⟨⟨insn 0x02 2 0 0xFF00, peAt (insn 0x02 2 0 0xFF00), stands_of (by decide +kernel), by decide +kernel⟩,
    ⟨insn 0x03 7 0 1, peAt (insn 0x03 7 0 1) [(PE_SHCNT.out_count 11 8, 1)], stands_of (by decide +kernel), by decide +kernel⟩,
    ⟨insn 0x04 0 0 8, peAt (insn 0x04 0 0 8) [(PE_SHCNT.in_count 11 8, 24)], stands_of (by decide +kernel), by decide +kernel⟩,
    ⟨insn 0x05 7 0 0, peAt (insn 0x05 7 0 0), stands_of (by decide +kernel), by decide +kernel⟩,
    ⟨insn 0x06 0 0 0, peAt (insn 0x06 0 0 0), stands_of (by decide +kernel), by decide +kernel⟩,
    ⟨insn 0x07 1 15 0xFFFF, peAt (insn 0x07 1 15 0xFFFF), stands_of (by decide +kernel), by decide +kernel⟩,
    ⟨insn 0x07 30 0 0, peAt (insn 0x07 30 0 0) [(PE_SHCNT.out_count 11 8, 1)], stands_of (by decide +kernel), by decide +kernel⟩,
    ⟨insn 0x07 31 0 0, peAt (insn 0x07 31 0 0) [(PE_SHCNT.in_count 11 8, 31)], stands_of (by decide +kernel), by decide +kernel⟩,
    ⟨insn 0x0D 7 2 0, peAt (insn 0x0D 7 2 0) [] { stampHit := some (9, true) }, stands_of (by decide +kernel), by decide +kernel⟩⟩

theorem witness_EngineFlowInstructions :
    (∃ (w : Nat) (s : State), s.stands 11 8 w ∧ opcodeOf w = 0x00) ∧
    (∃ (w : Nat) (s : State), s.stands 11 8 w ∧ opcodeOf w = 0x08 ∧ (s.pe 11 8).resv = [] ∧
      (s.noteIssue 11 8).jmpCond 11 8 (fieldA w) (fieldB w) = true) ∧
    (∃ (w : Nat) (s : State), s.stands 11 8 w ∧ opcodeOf w = 0x08 ∧ fieldA w ≠ 4 ∧ (s.noteIssue 11 8).jmpCond 11 8 (fieldA w) (fieldB w) = false) ∧
    (∃ (w : Nat) (s : State), s.stands 11 8 w ∧ opcodeOf w = 0x11 ∧ s.get (PE_STATUS.swap_pending 11 8) ≠ 0) ∧
    (∃ (w : Nat) (s : State), s.stands 11 8 w ∧ opcodeOf w = 0x11 ∧ s.get (PE_STATUS.swap_pending 11 8) = 0) ∧
    (∃ (w : Nat) (s : State), s.stands 11 8 w ∧ opcodeOf w = 0x10 ∧ s.get (PE_STATUS.logical 11 8) = 7 ∧ bit (fieldImm w) 7 = true ∧
      s.atBarrier 11 8 (fieldA w) = [0] ∧ s.peSync 11 0 = some (3, fieldImm w) ∧ s.get (PE_STATUS.logical 11 0) = 0 ∧
      ∀ l, l < 8 → bit (fieldImm w) l = true → l = 7 ∨ l = 0) ∧
    (∃ (w : Nat) (s : State), s.stands 11 8 w ∧ opcodeOf w = 0x10 ∧ s.syncClash 11 8 = true) :=
  ⟨⟨0, peAt 0, stands_of (by decide +kernel), by decide +kernel⟩,
    ⟨insn 0x08 4 0 63, peAt (insn 0x08 4 0 63) [(PE_SHCNT.in_count 11 8, 32)], stands_of (by decide +kernel), by decide +kernel⟩,
    ⟨insn 0x08 1 0 63, peAt (insn 0x08 1 0 63), stands_of (by decide +kernel), by decide +kernel⟩,
    ⟨insn 0x11 0 0 63, peAt (insn 0x11 0 0 63) [(PE_STATUS.swap_pending 11 8, 1)], stands_of (by decide +kernel), by decide +kernel⟩,
    ⟨insn 0x11 0 0 63, peAt (insn 0x11 0 0 63), stands_of (by decide +kernel), by decide +kernel⟩,
    ⟨insn 0x10 3 0 0x81, peAt (insn 0x10 3 0 0x81) [(PE_STATUS.logical 11 8, 7), (PE_STATUS.run 11 0, 2),
      (PE_STATUS.wait_op 11 0, 0x10), (PE_PROG.word 11 0 0, insn 0x10 3 0 0x81), (PE_STATUS.logical 11 0, 0)],
      stands_of (by decide +kernel), by decide +kernel⟩,
    ⟨insn 0x10 3 0 0x81, peAt (insn 0x10 3 0 0x81) [(PE_STATUS.logical 11 8, 7), (PE_STATUS.run 11 0, 2),
      (PE_STATUS.wait_op 11 0, 0x10), (PE_PROG.word 11 0 0, insn 0x10 3 0 0xFF)],
      stands_of (by decide +kernel), by decide +kernel⟩⟩

theorem witness_ReservedWordStopsTheEngine :
    (∃ s : State, s.peRunning 11 8 = true ∧ legalWord (s.peWord 11 8) = false) :=
  ⟨peAt (insn 0x12 0 0 0), by decide +kernel⟩

theorem witness_EnginePorts :
    (∃ (s : State) (x : Action), (s.pe 11 8).actions = [x] ∧ reached 48 s.window x.t = true ∧ s.get (NODE_CLSLEEP.depth 11) < 2 ∧
      s.get (CL_STATUS.time_lock 11) ≠ 0 ∧ x.late (s.pe 11 8).headAt = false) ∧
    (∃ (s : State), (s.pe 11 8).tx = [(⟨7, 1⟩, false)] ∧ s.get (PE_QBIND.tx_en 11 8) = 1 ∧
      s.qHolds 11 (s.get (PE_QBIND.tx_queue 11 8)) = false) ∧
    (∃ (s : State), s.qWords 11 (s.get (PE_QBIND.rx_queue 11 8)) = [⟨7, 1⟩] ∧ s.get (PE_QBIND.rx_en 11 8) = 1 ∧
      (s.pe 11 8).rx.length = 7) :=
  ⟨⟨peAt 0 [] { actions := [⟨0, 0, 0, 0, 0, 0, false, 0⟩] }, ⟨0, 0, 0, 0, 0, 0, false, 0⟩, by decide +kernel⟩,
    ⟨peAt 0 [(PE_QBIND.tx_en 11 8, 1), (PE_QBIND.tx_queue 11 8, 31)] { tx := [(⟨7, 1⟩, false)] }, by decide +kernel⟩,
    ⟨{ peAt 0 [(PE_QBIND.rx_en 11 8, 1), (PE_QBIND.rx_queue 11 8, 31)] { rx := List.replicate 7 ⟨0, 0⟩ } with
      queues := [(32 * 11 + 31, { words := [⟨7, 1⟩] })] }, by decide +kernel⟩⟩

theorem witness_EngineCommands :
    (∃ s : State, s.get (NODE_CLSLEEP.depth 11) = 0 ∧ s.peStartable 11 8 = true ∧ s.programsRun = true ∧ s.get (PE_STATUS.swap_pending 11 8) = 0) ∧
    (∃ s : State, s.get (NODE_CLSLEEP.depth 11) = 0 ∧ s.peRunning 11 8 = true ∧ s.get (PE_STATUS.force_pending 11 8) = 0) ∧
    (∃ s : State, s.get (NODE_CLSLEEP.depth 11) = 0 ∧ s.get (PE_STATUS.swap_pending 11 8) = 1 ∧ s.peRunning 11 8 = true ∧ s.peIdle 11 8 = false) ∧
    (∃ s : State, s.get (NODE_CLSLEEP.depth 11) = 0 ∧ s.get (PE_STATUS.swap_pending 11 8) = 1 ∧ s.peIdle 11 8 = true) :=
  ⟨⟨st [(NODE_STATE.state, 2), (CL_STATUS.in_reset 11, 0)], by decide +kernel⟩, ⟨peAt 0, by decide +kernel⟩,
    ⟨peAt 0 [(PE_STATUS.swap_pending 11 8, 1)], by decide +kernel⟩,
    ⟨st [(PE_STATUS.swap_pending 11 8, 1), (PE_STATUS.run 11 8, 2), (PE_STATUS.wait_op 11 8, 6)], by decide +kernel⟩⟩

theorem witness_EngineMemoryWrites :
    (∃ s : State, s.get (NODE_CLSLEEP.depth 11) = 0 ∧ s.progOpen 11 8 127 = true ∧ s.get (PE_STATUS.active_bank 11 8) = 1) ∧
    (∃ s : State, s.get (NODE_CLSLEEP.depth 11) = 0 ∧ s.progOpen 11 8 64 = false ∧ s.progOpen 11 8 63 = true) ∧
    (∃ s : State, s.get (NODE_CLSLEEP.depth 11) = 0 ∧ s.peRunning 11 8 = false ∧ (s.pe 11 8).resv = []) :=
  ⟨⟨st [(PE_STATUS.active_bank 11 8, 1)], by decide +kernel⟩, ⟨peAt 0, by decide +kernel⟩, ⟨State.reset, by decide +kernel⟩⟩

theorem witness_RegisterWriteCompletes :
    (∃ s : State, s.mapped 0x50000 = true ∧ s.ownWrite .host 0x50000 (leWord [1, 0, 0, 0]) = none) ∧
    (∃ s : State, s.mapped 0x1BFFFFC = true ∧ s.get (NODE_CLSLEEP.depth ((0x1BFFFFC - 0x1000000) / 0x100000)) = 0) ∧ (∃ s : State, s.mapped 0x80000 = false ∧ s.mapped 0x7FFFF = true) :=
  ⟨⟨State.reset, by decide +kernel⟩, ⟨State.reset, by decide +kernel⟩, ⟨State.reset, by decide +kernel⟩⟩

theorem witness_DieLinksAndResets :
    (∃ s : State, s.keptAlive 2 = true ∧ s.keptAlive 1 = true) ∧
    (∃ s : State, s.keptAlive 1 = true ∧ nth s.lev.sent 1 + 1000 = s.now ∧ (s.cluster 6).dieParked = false) ∧
    (∃ s : State, s.lev.wLost = true ∧ s.pow.dieOff = false ∧ s.pow.waiting = []) ∧
    (∃ s : State, s.lev.rstLow = false ∧ s.pow.dieOff = false) ∧
    (∃ s : State, s.lev.rstLow = true ∧ s.pow.dieOff = false ∧ s.lev.inReset = true) ∧
    (∃ s : State, s.pow.dieOff = false ∧ s.lev.inReset = false ∧ s.lev.rstLow = false) ∧
    (∃ s : State, s.lev.dieOff.getD 1 false = true) :=
  ⟨⟨st [(NODE_STATE.state, 2)], by decide +kernel⟩,
    ⟨{ State.reset with pow := { dieOff := false }, now := 1000 }, by decide +kernel⟩,
    ⟨{ State.reset with pow := { dieOff := false }, lev := { wLost := true } }, by decide +kernel⟩,
    ⟨st [(NODE_STATE.state, 2)], by decide +kernel⟩,
    ⟨{ State.reset with pow := { dieOff := false }, lev := { rstLow := true } }, by decide +kernel⟩,
    ⟨{ State.reset with pow := { dieOff := false }, lev := { inReset := false } }, by decide +kernel⟩,
    ⟨{ State.reset with lev := { dieOff := [false, true] } }, by decide +kernel⟩⟩

theorem witness_ClusterCommands :
    (∃ s : State, s.get (NODE_CLSLEEP.depth 11) = 2 ∧ s.slp.stowed = false) ∧
    State.reset.get (NODE_CLSLEEP.depth 11) = 0 ∧ State.reset.foreignCore .host = false ∧ State.reset.foreignCore (.core 2) = true ∧
    (∃ s : State, s.get (NODE_CLSLEEP.depth 11) = 0 ∧ s.get (CL_STATUS.time_lock 11) = 0 ∧ (s.cluster 11).dieParked = false ∧ s.dieWaits 11 = false) ∧
    (∃ s : State, s.get (NODE_CLSLEEP.depth 11) = 0 ∧ s.get (bankVolt 11 1) ≠ 0 ∧ bit (s.get (CL_STATUS.bank_ok 11)) 1 = true ∧ 0 < bandBottom (s.get (bankVolt 11 1))) :=
  ⟨⟨st [(NODE_CLSLEEP.depth 11, 2)], by decide +kernel⟩, by decide +kernel, by decide +kernel, by decide +kernel,
    ⟨st [(NODE_STATE.state, 2)], by decide +kernel⟩,
    ⟨st [(bankVolt 11 1, 3), (CL_STATUS.bank_ok 11, 2)], by decide +kernel⟩⟩

/-- Queue 31 of K11, enabled with depth 4 and more register fields. -/
def queueAt (x : Queue) (l : List (Fld × Nat) := []) : State :=
  { st ([(CL_QCFG.en 11 31, 1), (CL_QCFG.depth 11 31, 4)] ++ l) with queues := [(32 * 11 + 31, x)] }

theorem witness_QueueCommands :
    (∃ s : State, s.get (NODE_CLSLEEP.depth 11) = 0 ∧ (s.queue 11 31).late = [] ∧ s.qFull 11 31 = false ∧ s.qDepth 11 31 = 3) ∧
    (∃ s : State, s.get (NODE_CLSLEEP.depth 11) = 0 ∧ (s.queue 11 31).late = [] ∧ s.qFull 11 31 = true ∧ s.qStream 11 31 = true ∧
      (s.queue 11 31).gapOpen = true) ∧
    (∃ s : State, s.get (NODE_CLSLEEP.depth 11) = 0 ∧ s.qFull 11 31 = true ∧ (s.queue 11 31).gapOpen = false) ∧
    (∃ s : State, s.get (NODE_CLSLEEP.depth 11) = 0 ∧ s.busQueue 11 31 = true ∧ s.qWords 11 31 = [⟨1, 0⟩] ∧ (s.queue 11 31).held = []) ∧
    (∃ s : State, s.get (NODE_CLSLEEP.depth 11) = 0 ∧ s.busQueue 11 31 = true ∧ s.qWords 11 31 = []) ∧
    (∃ s : State, s.get (NODE_CLSLEEP.depth 11) = 0 ∧ s.busQueue 11 31 = false) ∧
    (∃ (s : State) (h : HeldRead), s.get (NODE_CLSLEEP.depth 11) = 0 ∧
      ((s.queue 11 31).held.drop (s.queue 11 31).words.length).find? (fun h => decide (h.until_ ≤ s.now)) = some h ∧ h.until_ = s.now ∧ h.burst = none) ∧
    (∃ s : State, s.get (NODE_CLSLEEP.depth 11) = 0 ∧ s.qOn 11 31 = true ∧ s.qStream 11 31 = false) ∧
    (∃ s : State, s.get (NODE_CLSLEEP.depth 11) = 0 ∧ s.busQueue 11 31 = true ∧ s.qStream 11 31 = true ∧ s.qWords 11 31 ≠ [] ∧ (s.queue 11 31).held = []) :=
  ⟨⟨queueAt { words := List.replicate 3 ⟨1, 0⟩ }, by decide +kernel⟩,
    ⟨queueAt { words := List.replicate 3 ⟨1, 0⟩ ++ [⟨2, 4⟩], gapOpen := true } [(CL_QCFG.class_ 11 31, 1)], by decide +kernel⟩,
    ⟨queueAt { words := List.replicate 4 ⟨1, 0⟩ }, by decide +kernel⟩,
    ⟨queueAt { words := [⟨1, 0⟩] }, by decide +kernel⟩, ⟨queueAt {}, by decide +kernel⟩, ⟨State.reset, by decide +kernel⟩,
    ⟨queueAt { held := [⟨.host, 0, none⟩] }, ⟨.host, 0, none⟩, by decide +kernel⟩, ⟨queueAt {}, by decide +kernel⟩,
    ⟨queueAt { words := [⟨1, 0⟩] } [(CL_QCFG.class_ 11 31, 1)], by decide +kernel⟩⟩

/-- CAN FD controller 1 of K11 in the normal mode, its transmit and receive queue 31 with 8 places. -/
def canAt (c : Can) (x : Queue := {}) (l : List (Fld × Nat) := []) : State :=
  { st ([(CL_CANCFG.mode 11 1, 1), (CL_CANQ.tx_en 11 1, 1), (CL_CANQ.tx_queue 11 1, 31), (CL_CANQ.rx_en 11 1, 1),
      (CL_CANPAD.tx_en 11 1, 1), (CL_CANPAD.rx_en 11 1, 1),
      (CL_CANQ.rx_queue 11 1, 31), (CL_QCFG.en 11 31, 1), (CL_QCFG.depth 11 31, 8)] ++ l) with
    cans := [(23, c)], queues := [(32 * 11 + 31, x)] }

theorem witness_CanCommands :
    (∃ s : State, s.get (NODE_CLSLEEP.depth 11) = 0 ∧ s.canOn 11 1 = true ∧ s.get (CL_CANQ.tx_en 11 1) = 1 ∧ (s.can 11 1).record = none ∧
      (s.can 11 1).discarding = false ∧
      takeRecord (s.qWords 11 (s.get (CL_CANQ.tx_queue 11 1))) = some ([⟨0, 0⟩, ⟨0, 1⟩], []) ∧
      s.canSendable 11 1 [⟨0, 0⟩, ⟨0, 1⟩] = true) ∧
    (∃ s : State, s.get (NODE_CLSLEEP.depth 11) = 0 ∧ (s.can 11 1).record = some [⟨0, 0⟩, ⟨0, 1⟩] ∧ s.canOn 11 1 = true ∧ s.get (CL_CANCFG.mode 11 1) = 1 ∧
      s.get (CL_CANSTAT.bus 11 1) ≠ 2 ∧ s.canSends 11 1 = true ∧ s.canDue [⟨0, 0⟩, ⟨0, 1⟩] = true) ∧
    (∃ s : State, s.get (NODE_CLSLEEP.depth 11) = 0 ∧ (s.can 11 1).arbitrating = true) ∧
    (∃ s : State, s.get (NODE_CLSLEEP.depth 11) = 0 ∧ s.canOn 11 1 = true ∧ s.get (CL_CANPAD.rx_en 11 1) = 1 ∧
      s.get (CL_CANCFG.loopback 11 1) = 0 ∧ s.get (CL_CANSTAT.bus 11 1) ≠ 2 ∧ s.canFormat 11 1 0 1 = true) ∧
    (∃ s : State, s.get (NODE_CLSLEEP.depth 11) = 0 ∧ (s.can 11 1).rec_ < 1 ∧ s.canOn 11 1 = true ∧ s.get (CL_CANSTAT.bus 11 1) < 2) ∧
    (∃ s : State, s.get (NODE_CLSLEEP.depth 11) = 0 ∧ s.canOn 11 1 = true ∧ 0 ≤ (s.can 11 1).rec_ ∧ s.get (CL_CANSTAT.bus 11 1) < 2 ∧ busState 127 0 = s.get (CL_CANSTAT.bus 11 1)) ∧
    (∃ s : State, s.get (NODE_CLSLEEP.depth 11) = 0 ∧ s.canOn 11 1 = true ∧ 0 ≤ (s.can 11 1).rec_ ∧ s.get (CL_CANSTAT.bus 11 1) < 2 ∧ busState 128 0 ≠ s.get (CL_CANSTAT.bus 11 1) ∧
      busState 128 0 < 2) ∧
    (∃ s : State, s.get (NODE_CLSLEEP.depth 11) = 0 ∧ (s.can 11 1).recovering = true ∧
      (s.can 11 1).recoverAt + 1408 * s.canBitTime 11 1 ≤ s.ns) :=
  ⟨⟨canAt {} { words := [⟨0, 0⟩, ⟨0, 1⟩] }, by decide +kernel⟩,
    ⟨canAt { record := some [⟨0, 0⟩, ⟨0, 1⟩] }, by decide +kernel⟩, ⟨canAt { arbitrating := true }, by decide +kernel⟩,
    ⟨canAt {}, by decide +kernel⟩, ⟨canAt {}, by decide +kernel⟩, ⟨canAt {}, by decide +kernel⟩, ⟨canAt {}, by decide +kernel⟩,
    ⟨{ canAt { recovering := true } with time := 4224 * 65536 }, by decide +kernel⟩⟩

/-- Channel 31 (channel 7 of region 3) of cluster K11, in a role, its out queue 30 and in queue 31 with 8 places. -/
def chanAt (x : Chan) (mode : Nat) (l : List (Fld × Nat) := []) (inq : Queue := {}) : State :=
  { st ([(BRG_CHCFG.mode 3 7, mode), (BRG_CHCFG.cluster 3 7, 2), (BRG_CHQ.out_q 3 7, 30), (BRG_CHQ.in_q 3 7, 31),
      (CL_QCFG.en 11 30, 1), (CL_QCFG.depth 11 30, 8), (CL_QCFG.en 11 31, 1), (CL_QCFG.depth 11 31, 8)] ++ l) with
    chans := [(31, x)], queues := [(32 * 11 + 31, inq)] }

/-- A read of 4 bytes at offset 0 that has one part. -/
def aRead : ChReq := { who := .host, node := 0, write := false, acked := true, ofs := 0, size := 4, data := [], parts := 1, due := some 5 }

theorem witness_WindowChannelCommands :
    (∃ s : State, 0xFFFF8 % 8 = 0 ∧ s.chUnit 31 ≤ 8 ∧ 0xFFFF8 + 8 ≤ 2 ^ 20 ∧ s.chServes 31 = true ∧
      s.cst.recasts.contains (s.chCluster 31) = false ∧ (s.chan 31).noServer = false ∧
      (s.chan 31).stopped = false ∧ (s.chan 31).posted.length < 32 ∧ (s.chan 31).kept = []) ∧
    (∃ s : State, 0xFFFF8 % 8 = 0 ∧ s.chUnit 31 ≤ 8 ∧ 0xFFFF8 + 8 ≤ 2 ^ 20 ∧ s.chServes 31 = true ∧
      s.cst.recasts.contains (s.chCluster 31) = true ∧ (s.chan 31).kept = []) ∧
    (∃ s : State, s.chServes 31 = false ∧ s.chUnit 31 ≤ 8) ∧
    (∃ (s : State) (r : ChReq), (s.chan 31).between = [r] ∧ s.chRoom 31 (s.chOutQ 31) r.words = true) ∧
    (∃ s : State, (s.chan 31).lineReady = true) ∧ (∃ s : State, (s.chan 31).lineReady = false) ∧
    (∃ (s : State) (ws : List QWord), s.chServes 31 = true ∧ s.inRecord 31 = some ws) ∧
    (∃ (s : State) (f : Flight), (s.chan 31).flight = [f] ∧ f.since + s.farTo 31 = s.now ∧ s.responseIn 31 f = false) ∧
    (∃ (s : State) (r : ChReq) (y : Chan), (s.chan 31).takeOverdue s.now = some (r, y)) ∧
    (∃ (s : State) (h : HeldResult), (s.chan 31).held = [h] ∧ h.since + s.discardTimer 31 = s.now) ∧
    (∃ s : State, (s.chan 31).filled = some 0 ∧ 0 + s.raLife 31 = s.now) :=
  ⟨⟨chanAt {} 1, by decide +kernel⟩, ⟨{ chanAt {} 1 with cst := { recasts := [11] } }, by decide +kernel⟩, ⟨State.reset, by decide +kernel⟩, ⟨chanAt { between := [aRead] } 1, aRead, by decide +kernel⟩,
    ⟨chanAt { line := [aRead] } 1, by decide +kernel⟩, ⟨chanAt {} 1, by decide +kernel⟩,
    ⟨chanAt {} 1 [] { words := [⟨0, 1⟩] }, [⟨0, 1⟩], by decide +kernel⟩,
    ⟨{ chanAt { flight := [⟨aRead, 0, 0⟩] } 1 with now := (chanAt {} 1).farTo 31 }, ⟨aRead, 0, 0⟩, by decide +kernel⟩,
    ⟨{ chanAt { line := [aRead] } 1 with now := 5 }, aRead, { line := [{ aRead with late := true }] }, by decide +kernel⟩,
    ⟨{ chanAt { held := [⟨.host, 0, 0, 4, 0, 0, 0, [], 0, 0⟩] } 1 with now := (chanAt {} 1).discardTimer 31 },
      ⟨.host, 0, 0, 4, 0, 0, 0, [], 0, 0⟩, by decide +kernel⟩,
    ⟨{ chanAt { filled := some 0 } 1 with now := (chanAt {} 1).raLife 31 }, by decide +kernel⟩⟩

/-- A transfer that received RETRY, in its first back-off. -/
def aTransfer : Target := { tid := 0, write := false, ack := true, ofs := 0, size := 4, data := 0, backoff := some 0 }

theorem witness_TargetChannelCommands :
    (∃ (s : State) (ws : List QWord), s.chMode 31 = 1 ∧ s.chTarget 31 = true ∧ s.inRecord 31 = some ws ∧ requestOk ws = true) ∧
    (∃ (s : State) (y : Target), (s.chan 31).crossing = [y] ∧ y.backoff = some 0 ∧ 0 ≤ s.now ∧
      y.tries + 1 = s.get (BRG_CHCFG.retry_max 3 7)) ∧
    State.reset.foreignCore .bench = false ∧ State.reset.foreignCore (.core 19) = true :=
  ⟨⟨chanAt {} 1 [(BRG_CHCFG.role 3 7, 1)] { words := [⟨0, 1⟩] }, [⟨0, 1⟩], by decide +kernel⟩,
    ⟨chanAt { crossing := [aTransfer] } 1 [(BRG_CHCFG.retry_max 3 7, 1)], aTransfer, by decide +kernel⟩,
    by decide +kernel, by decide +kernel⟩

theorem witness_EventAndRouteCommands :
    (∃ (s : State) (w : QWord), s.qWords 11 (s.chInQ 31) = [w] ∧ hasEvent w = true ∧ s.chMode 31 ≠ 0 ∧ s.chCluster 31 = 11 ∧
      s.recordsOut 31 = false) ∧
    (∃ (s : State) (ws : List QWord), s.chMode 31 = 2 ∧ (s.chan 31).stopped = false ∧ s.inRecord 31 = some ws ∧ recordOk ws = true) ∧
    (∃ (s : State) (ws : List QWord), s.chMode 31 = 2 ∧ (s.chan 31).stopped = false ∧ s.inRecord 31 = some ws ∧ recordOk ws = false) ∧
    State.reset.get SW_STATUS.committing = 0 ∧ (st [(SW_STATUS.committing, 1)]).get SW_STATUS.committing = 1 :=
  ⟨⟨chanAt {} 1 [] { words := [⟨0, 2⟩] }, ⟨0, 2⟩, by decide +kernel⟩,
    ⟨chanAt {} 2 [] { words := [⟨0, 0⟩, ⟨0, 1⟩] }, [⟨0, 0⟩, ⟨0, 1⟩], by decide +kernel⟩,
    ⟨chanAt {} 2 [] { words := [⟨0, 1⟩] }, [⟨0, 1⟩], by decide +kernel⟩, by decide +kernel, by decide +kernel⟩

theorem witness_SwitchTableCommands :
    State.reset.noneMarked = true ∧ (st [(BRG_RTSTGMAP.marked 3 31, 1)]).noneMarked = false ∧
    (∃ s : State, s.get SW_STATUS.committing = 1) ∧
    (∃ s : State, s.get SW_STATUS.draining = 1 ∧ s.drainCount = 0 ∧ s.get SW_STATUS.committing = 0) :=
  ⟨by decide +kernel, by decide +kernel, ⟨st [(SW_STATUS.committing, 1)], by decide +kernel⟩,
    ⟨st [(SW_STATUS.draining, 1)], by decide +kernel⟩⟩

/-- A FLOW frame of 8 payload bytes to node 3. -/
def flowFrame : Frame := { ftype := 0, cls := 7, dst := 3, src := 2, payload := [1, 2, 3, 4, 5, 6, 7, 8] }

/-- A copy of that frame in class 7. -/
def aCopy : SwCopy := { id := 0, frame := flowFrame, cells := 1, cls := 7, input := 2, entered := 0, epoch := 0 }

theorem witness_SwitchFrameCommands :
    (∃ s : State, s.lev.inReset = false) ∧
    (∃ (s t : State) (y : SwIn), s.lev.inReset = false ∧ SMap.getD s.sw.held 9 [] = [y] ∧ s.ingress 9 y = some t) ∧
    (∃ (s : State) (y : SwIn), s.lev.inReset = false ∧ SMap.getD s.sw.held 9 [] = [y] ∧ s.ingress 9 y = none) ∧
    (∃ (s t : State) (x : SwCopy), (s.countWaits 9).portUp 9 = true ∧ (s.countWaits 9).choose 9 = (some (8, 7), t) ∧
      t.swQueue (queueKey 9 8 7) = [x] ∧ x.frame.ftype ≠ 2 ∧ x.frame.ftype ≠ 0xA) ∧
    (∃ (s t : State) (x : SwCopy), (s.countWaits 9).portUp 9 = true ∧ (s.countWaits 9).choose 9 = (some (8, 7), t) ∧
      t.swQueue (queueKey 9 8 7) = [x] ∧ x.frame.ftype = 2 ∧ readCluster x.frame = none) ∧
    (∃ (s t : State), (s.countWaits 9).portUp 9 = true ∧ (s.countWaits 9).choose 9 = (none, t)) ∧
    (∃ s : State, (s.countWaits 1).linkUp ((s.countWaits 1).wayOut 1) = true) ∧
    (∃ s : State, s.get (SW_OSTAT.up 9) = 1) ∧ (∃ s : State, s.get (SW_OSTAT.up 9) = 0) ∧
    (∃ (s : State) (x : SwCopy) (t : Nat), s.swQueue (queueKey 9 8 7) = [x] ∧ x.holding = true ∧ x.due = some t ∧
      reached 56 (s.leaves56 9) t = true) ∧
    (∃ (s : State) (f : Frame), domainBroadcast f = false ∧ ringCopy f = false ∧ f.dst ≠ s.nodeId ∧ f.ftype ≠ 5 ∧ f.hops = 2 ∧ isSync f = false) ∧
    (∃ (s : State) (f : Frame), isSync f = true ∧ domainBroadcast f = true ∧ f.src ≠ s.nodeId ∧ f.hops = 2) ∧
    (∃ (s : State) (f : Frame), domainBroadcast f = false ∧ ringCopy f = false ∧ f.dst = s.nodeId ∧ s.lev.inReset = false) ∧
    (∃ (s : State) (f : Frame), domainBroadcast f = false ∧ ringCopy f = false ∧ f.dst = s.nodeId ∧ s.lev.inReset = true) ∧
    (∃ (s : State) (f : Frame), domainBroadcast f = true ∧ f.src = s.nodeId) :=
  ⟨⟨{ State.reset with lev := { inReset := false } }, rfl⟩,
    ⟨{ State.reset with lev := { inReset := false }, sw := { held := [(9, [{ frame := flowFrame, route := .flow 0 }])] } }, _, { frame := flowFrame, route := .flow 0 }, rfl, rfl, rfl⟩,
    ⟨{ st [(SW_BUFCFG.be_floor, 24576)] with
      lev := { inReset := false }, sw := { held := [(9, [{ frame := flowFrame, route := .port 9 0 3 }])] } },
      { frame := flowFrame, route := .port 9 0 3 }, rfl, rfl, by decide +kernel⟩,
    ⟨{ st [(SW_OSTAT.up 9, 1)] with sw := { queues := [(queueKey 9 8 7, [aCopy])] } }, _, aCopy, by decide +kernel, rfl, by decide +kernel⟩,
    ⟨{ st [(SW_OSTAT.up 9, 1)] with sw := { queues := [(queueKey 9 8 7, [{ aCopy with frame := { flowFrame with ftype := 2 } }])] } }, _,
      { aCopy with frame := { flowFrame with ftype := 2 } }, by decide +kernel, rfl, by decide +kernel⟩,
    ⟨st [(SW_OSTAT.up 9, 1)], _, by decide +kernel, rfl⟩,
    ⟨st [(RING_LSTAT.state 1, 6), (RING_LSTAT.state 0, 6), (RING_STATUS.west_wrap, 0), (RING_STATUS.east_wrap, 0)], by decide +kernel⟩, ⟨st [(SW_OSTAT.up 9, 1)], by decide +kernel⟩, ⟨st [(SW_OSTAT.up 9, 0)], by decide +kernel⟩,
    ⟨{ State.reset with sw := { queues := [(queueKey 9 8 7, [{ aCopy with holding := true, due := some 0 }])] } },
      { aCopy with holding := true, due := some 0 }, 0, by decide +kernel⟩,
    ⟨State.reset, { flowFrame with hops := 2 }, by decide +kernel⟩,
    ⟨State.reset, { ftype := 0xB, cls := 7, dst := 127, src := 63, hops := 2 }, by decide +kernel⟩,
    ⟨{ State.reset with lev := { inReset := false } }, { flowFrame with dst := 0 }, by decide +kernel⟩,
    ⟨State.reset, { flowFrame with dst := 0 }, by decide +kernel⟩,
    ⟨State.reset, { ftype := 0xB, cls := 7, dst := 0, src := 0 }, by decide +kernel⟩⟩

/-- Ring port West in a link state, with more of its link and more register fields. -/
def linkAt (state : Nat) (x : LinkSt := {}) (l : List (Fld × Nat) := []) (now : Nat := 0) : State :=
  { st ([(RING_LSTAT.state 1, state)] ++ l) with links := [(1, x)], now := now }

/-- An empty sheet with its CRC. -/
def aSheet (seq : Nat) (stomp : Bool := false) : Sheet :=
  sealSheet { starts := 0, cont := false, payload := [], seq := seq, ack := 0, crc := 0, stomp := stomp }

theorem aSheet_crc (seq : Nat) : (aSheet seq).crc = sheetCrc (aSheet seq) := by simp [aSheet, sealSheet, sheetCrc, ssBytes]
theorem aSheet_stomp (seq : Nat) : (aSheet seq true).crc = sheetCrc (aSheet seq true) ^^^ 0xFFFFFFFF := by simp [aSheet, sealSheet, sheetCrc, ssBytes]

theorem witness_LinkSheetCommands :
    (∃ s : State, s.linkActive 1 = true ∧ s.awake 1 = true ∧ (s.link 1).resend = none ∧ (s.link 1).room = true) ∧
    (∃ s : State, s.linkActive 1 = true ∧ s.awake 1 = true ∧ (s.link 1).resend = some 4095) ∧
    (∃ s : State, s.linkUp 1 = true) ∧
    (∃ s : State, s.linkUp 1 = true ∧ ((s.takeAck 1 4094).link 1).replay.any (fun e => e.sheet.seq == 4095) = true) ∧
    (∃ (s : State) (e : Sent), (s.link 1).replay = [e] ∧ s.linkUp 1 = true ∧
      e.at_ + 100 * max 10 (s.get (RING_LTIMER.replay 1)) ≤ s.now) ∧
    (∃ s : State, (s.link 1).since = some 0 ∧ s.linkUp 1 = true ∧ (s.link 1).ackCoal = false ∧ 0 + 100 = s.now) ∧
    (∃ (s : State) (y : Sheet), ((s.headerErrors 1 y).idleErrors 1 y).linkUp 1 = true ∧ sheetDamaged y = true) ∧
    (∃ (s : State) (y : Sheet), ((s.headerErrors 1 y).idleErrors 1 y).linkUp 1 = true ∧ sheetDamaged y = false ∧ y.stomp = true ∧ y.crc = sheetCrc y ^^^ 0xFFFFFFFF) ∧
    (∃ (s : State) (y : Sheet), ((s.headerErrors 1 y).idleErrors 1 y).linkUp 1 = true ∧ sheetDamaged y = false ∧ y.stomp = false ∧ y.crc ≠ sheetCrc y) ∧
    (∃ (s : State) (y : Sheet), ((s.headerErrors 1 y).idleErrors 1 y).linkUp 1 = true ∧ sheetDamaged y = false ∧ y.stomp = false ∧ y.crc = sheetCrc y ∧
      y.seq ≠ (((s.headerErrors 1 y).idleErrors 1 y).link 1).expect) ∧
    (∃ (s : State) (y : Sheet) (w : List Nat), ((s.headerErrors 1 y).idleErrors 1 y).linkUp 1 = true ∧ sheetDamaged y = false ∧ y.stomp = false ∧
      y.crc = sheetCrc y ∧ y.seq = (((s.headerErrors 1 y).idleErrors 1 y).link 1).expect ∧ ((s.headerErrors 1 y).idleErrors 1 y).openSheet 1 y = some w) ∧
    (∃ s : State, s.linkState 1 = lsUP ∧ (s.link 1).amDue = 25 * s.now) ∧
    (∃ s : State, s.linkState 1 = lsUP ∧ 25 * s.now + 1 = (s.link 1).amDue) ∧
    (∃ s : State, nth (s.link 1).amMissed 4 = 1 ∧
      ((s.setLink 1 { s.link 1 with amMissed := setNth (s.link 1).amMissed 4 2 }).put (RING_LANE.aligned 1 4) 0).get (RING_LANEMAP.spare 1) ≠ 4) :=
  ⟨⟨linkAt 6, by decide +kernel⟩, ⟨linkAt 6 { resend := some 4095 }, by decide +kernel⟩, ⟨linkAt 7, by decide +kernel⟩,
    ⟨linkAt 6 { replay := [⟨{ aSheet 4095 with crc := 0 }, 0⟩] }, by decide +kernel⟩,
    ⟨linkAt 6 { replay := [⟨aSheet 0, 0⟩] } [] 1000000, ⟨aSheet 0, 0⟩, by decide +kernel⟩,
    ⟨linkAt 6 { since := some 0 } [] 100, by decide +kernel⟩,
    ⟨linkAt 6, { aSheet 0 with blockErr := true }, by decide +kernel, by decide +kernel⟩,
    ⟨linkAt 6, aSheet 0 true, by decide +kernel, by decide +kernel, rfl, aSheet_stomp 0⟩,
    ⟨linkAt 6, { aSheet 0 with crc := 2 ^ 32 }, by decide +kernel, by decide +kernel, rfl, by decide +kernel⟩,
    ⟨linkAt 6, aSheet 4095, by decide +kernel, by decide +kernel, rfl, aSheet_crc 4095, by decide +kernel⟩,
    ⟨linkAt 6, aSheet 0, (aSheet 0).payload, by decide +kernel, by decide +kernel, rfl, aSheet_crc 0, by decide +kernel, by decide +kernel⟩,
    ⟨linkAt 6, by decide +kernel⟩, ⟨linkAt 6 { amDue := 1 }, by decide +kernel⟩,
    ⟨linkAt 6 { amMissed := [0, 0, 0, 0, 1] } [(RING_LANEMAP.spare 1, 0)], by decide +kernel⟩⟩

theorem witness_LinkTrainingCommands :
    (∃ w : Nat, bit w 0 = false ∧ bit w 1 = false ∧ bit w 2 = false ∧ bit w 3 = false ∧ bit w 4 = false) ∧
    (∃ s : State, s.flag (RING_LSTAT.protected 1) = true ∧ (s.link 1).txCtr = 2 ^ 31) ∧
    (∃ s : State, (s.link 1).rekey = some (0, true) ∧ 0 + 1000000 = s.now) ∧
    (∃ s : State, s.linkState 1 = lsDOWN ∧ (s.link 1).downCmd = false ∧ s.inState 1 = 1000000 ∧ s.get (RING_LSTAT.down_reason 1) ≠ 0) ∧
    (∃ s : State, s.linkState 1 = lsDETECT ∧ (members 5 0x1C).length = 3 ∧ s.inState 1 = 2000000) ∧
    (∃ s : State, s.linkState 1 = lsLOCK ∧ (members 5 (s.link 1).signal).all (bit 0x1F) = true ∧ s.inState 1 = 2000000) ∧
    (∃ s : State, s.linkState 1 = lsALIGN ∧ s.inState 1 = 1000000) ∧
    (∃ s : State, s.linkState 1 = lsCAPX ∧ (s.link 1).alike = 0) ∧
    (∃ (s : State) (r : Nat × List Nat × Option Nat × Bool × Bool), s.linkState 1 = lsCAPX ∧ bit (s.capLocal 1) 55 = true ∧
      bit (s.capPeer 1) 55 = true ∧ s.inState 1 = 1000000 ∧
      (negotiate (s.capLocal 1) (s.capPeer 1)).toOption = some r) ∧
    (∃ s : State, s.linkState 1 = lsSECURE ∧ s.inState 1 = 30000000 ∧ trainLimit (s.linkState 1) = some 30000000) ∧
    (∃ s : State, s.linkState 1 = lsSECURE ∧ s.inState 1 = 30000000 ∧ s.maySign 1 = true) ∧
    (∃ s : State, s.linkUp 1 = true ∧ (s.link 1).rekey.isSome = true ∧ s.maySign 1 = true) ∧
    (∃ s : State, s.linkState 1 = lsUP ∧ s.laneRemedy 1 = false) ∧ (∃ s : State, s.linkState 1 = lsUP ∧ s.laneRemedy 1 = true) :=
  ⟨⟨0, by decide +kernel⟩, ⟨linkAt 6 { txCtr := 2 ^ 31 } [(RING_LSTAT.protected 1, 1)], by decide +kernel⟩,
    ⟨linkAt 6 { rekey := some (0, true) } [] 1000000, by decide +kernel⟩,
    ⟨linkAt 0 {} [(RING_LSTAT.down_reason 1, 9)] 1000000, by decide +kernel⟩,
    ⟨linkAt 1 {} [] 2000000, by decide +kernel⟩, ⟨linkAt 2 { signal := 0x1F } [] 2000000, by decide +kernel⟩,
    ⟨linkAt 3 {} [] 1000000, by decide +kernel⟩, ⟨linkAt 4, by decide +kernel⟩,
    ⟨linkAt 4 {} [(RING_CAPLOC0.lo 1, 0x1F02), (RING_CAPLOC1.hi 1, 0x800000), (RING_CAPPEER0.lo 1, 0x40001F02),
      (RING_CAPPEER1.hi 1, 0x800000)] 1000000, (2, [0, 1, 2, 3], none, false, false), by decide +kernel⟩,
    ⟨linkAt 5 {} [] 30000000, by decide +kernel⟩, ⟨linkAt 5 {} [] 30000000, by decide +kernel⟩,
    ⟨linkAt 6 { rekey := some (0, false) } [(RING_LSTAT.protected 1, 1), (CRU_SLOT0.state 0, slLIVE), (CRU_SLOT0.key_id 0, 0xFFE4), (CRU_SLOT0.alg 0, 1)], by decide +kernel⟩,
    ⟨linkAt 6, by decide +kernel⟩, ⟨linkAt 6 {} [(RING_LSTAT.version 1, 2)], by decide +kernel⟩⟩

/-- Lane 4 is mirrored on a spare for a planned switch. -/
def lane4 : LaneMirror := { j := 4, spare := 3, now := false, asked := false }

theorem witness_LinkLaneCommands :
    (∃ w : Nat, bit w 0 = false ∧ bit w 1 = false ∧ bit w 2 = false ∧ bit w 3 = false ∧ bit w 4 = false) ∧
    (∃ (s : State) (w : Nat), s.linkUp 1 = true ∧ s.get (RING_LSTAT.spare_ready 1) = 1 ∧ (s.logicalOf 1 (bits w 8 3)).isSome = true) ∧
    (∃ s : State, s.linkState 1 = lsSTOWED) ∧
    (∃ (s : State) (m : LaneMirror), s.linkUp 1 = true ∧ (s.link 1).mirror = some m ∧ m.j = 4 ∧ m.on = true ∧ m.confirmed = none) ∧
    (∃ (s : State) (m : LaneMirror), (s.link 1).mirror = some m ∧ s.linkUp 1 = true ∧ m.now = false ∧ m.taken = false ∧
      m.confirmed.isSome = true ∧ s.inSeam s.ns = true ∧ s.seamInto ≤ 1000) ∧
    (∃ (s : State) (m : LaneMirror), (s.link 1).mirror = some m ∧ s.linkUp 1 = true ∧ m.now = true ∧ m.taken = false) ∧
    (∃ (s : State) (m : LaneMirror), (s.link 1).mirror = some m ∧ s.linkUp 1 = true ∧ m.j = 4 ∧ m.now = false) ∧
    (∃ (s : State) (m : LaneMirror), (s.link 1).mirror = some m ∧ m.taken = false ∧ m.peerTook = false ∧ m.confirmed = some 0 ∧
      0 + 2000000 = s.now) ∧
    (∃ s : State, s.linkUp 1 = true ∧ (s.logicalOf 1 4).isSome = true ∧ s.get (RING_LANEMAP.spare 1) < 5 ∧
      s.get (RING_LSTAT.degraded 1) = 0) ∧
    (∃ s : State, s.linkUp 1 = true ∧ s.get (RING_LANEMAP.spare 1) = 4) ∧
    (∃ s : State, s.linkUp 1 = true ∧ s.get (RING_LCTL.fidle_en 1) = 1 ∧ s.get (RING_LSTAT.fidle_tx 1) = 0 ∧ (s.link 1).quiet = true) ∧
    (∃ s : State, s.linkUp 1 = true ∧ (s.link 1).fidleAsked = true ∧ (s.link 1).quiet = true) ∧
    (∃ s : State, s.get (RING_LSTAT.fidle_tx 1) = 1) ∧ (∃ s : State, s.get (RING_LSTAT.fidle_rx 1) = 1) ∧
    (∃ s : State, (s.link 1).tone = some 0 ∧ 0 + 20000000 = s.now) ∧ (∃ s : State, (s.link 1).tone = some 0 ∧ s.linkState 1 = lsSTOWED ∧ 0 + 20000 = s.now) :=
  ⟨⟨0, by decide +kernel⟩,
    ⟨linkAt 6 {} [(RING_LSTAT.spare_ready 1, 1), (RING_LSTAT.lanes 1, 4), (RING_LANEMAP.l3 1, 4)], 1024, by decide +kernel⟩,
    ⟨linkAt 8, by decide +kernel⟩,
    ⟨linkAt 6 { mirror := some { lane4 with on := true } }, { lane4 with on := true }, by decide +kernel⟩,
    ⟨{ st [(RING_CYCPER.period, 100000), (RING_SEAM.interval, 1), (RING_SEAM.len, 40), (RING_LSTAT.state 1, 6)] with
      time := 61000 * 65536, links := [(1, { mirror := some { lane4 with confirmed := some 0 } })] },
      { lane4 with confirmed := some 0 }, by decide +kernel⟩,
    ⟨linkAt 6 { mirror := some { lane4 with now := true } }, { lane4 with now := true }, by decide +kernel⟩,
    ⟨linkAt 6 { mirror := some lane4 }, lane4, by decide +kernel⟩,
    ⟨linkAt 6 { mirror := some { lane4 with confirmed := some 0 } } [] 2000000, { lane4 with confirmed := some 0 }, by decide +kernel⟩,
    ⟨linkAt 6 {} [(RING_LSTAT.lanes 1, 4), (RING_LANEMAP.l3 1, 4), (RING_LANEMAP.spare 1, 3)], by decide +kernel⟩,
    ⟨linkAt 6 {} [(RING_LANEMAP.spare 1, 4)], by decide +kernel⟩, ⟨linkAt 6 {} [(RING_LCTL.fidle_en 1, 1)], by decide +kernel⟩,
    ⟨linkAt 6 { fidleAsked := true }, by decide +kernel⟩, ⟨linkAt 7 {} [(RING_LSTAT.fidle_tx 1, 1)], by decide +kernel⟩,
    ⟨linkAt 7 {} [(RING_LSTAT.fidle_rx 1, 1)], by decide +kernel⟩, ⟨linkAt 8 { tone := some 0 } [] 20000000, by decide +kernel⟩,
    ⟨linkAt 8 { tone := some 0 } [] 20000, by decide +kernel⟩⟩

/-- Node 0 at a place of a ring cycle of 100 µs whose seam is its last 40 µs. -/
def ringAt (r : RingSt := {}) (l : List (Fld × Nat) := []) (ns : Nat := 70000) (now : Nat := 0) : State :=
  { st ([(RING_CYCPER.period, 100000), (RING_SEAM.interval, 1), (RING_SEAM.len, 40)] ++ l) with
    ring := r, time := ns * 65536, now := now }

/-- A frame of a kind from node 5. -/
def aFrame (ftype dst a : Nat) (b : List Nat := []) (payload : List Nat := []) : Frame :=
  { ftype := ftype, cls := 7, dst := dst, src := 5, a := a, b := b, payload := payload }

theorem witness_RingCycleCommands :
    (∃ s : State, s.activeHead = false ∧ s.ring.draft = none) ∧
    (∃ s : State, s.thisCycle = some 0 ∧ s.activeHead = true ∧ s.ring.sentAt ≠ some 0) ∧
    (∃ (s : State) (d : Nat × SMap (Nat × Nat)), s.activeHead = false ∧ s.ring.draft = some d ∧ d.1 = 2 ^ 32 - 1) ∧
    (∃ s : State, s.thisCycle = some 0 ∧ s.ring.cycleAt = none ∧ s.activeHead = false) ∧ (∃ s : State, s.activeHead = true) ∧
    (∃ s : State, s.thisCycle = some 100000 ∧ s.ring.cycleAt = some 0 ∧ s.ring.gotAt ≠ some 0 ∧ s.activeHead = false) ∧
    (∃ (s : State) (u : Nat) (x : SwCopy), s.slotInto 1 = some 1500 ∧ s.spliceHolds 1 = false ∧ s.ring.answered.getD 1 false = false ∧
      s.busy (s.wayOut 1) = false ∧ s.linkUp (s.wayOut 1) = true ∧ s.candidate 1 7 = some (u, x)) ∧
    (∃ s : State, s.slotInto 1 = some 0 ∧ s.spliceHolds 1 = false ∧ s.ring.answered.getD 1 false = false ∧ s.busy (s.wayOut 1) = false ∧
      s.linkUp (s.wayOut 1) = true ∧ s.candidate 1 7 = none) ∧ (∃ s : State, s.slotInto 1 = some 0 ∧ s.spliceHolds 1 = true) ∧
    (∃ s : State, s.period ≠ 0 ∧ (s.slotOf 1).2 ≠ 0 ∧ (s.slotOf 1).1 + 1500 + 1 = s.ringPos s.ns ∧
      s.ring.answered.getD 1 false = false ∧ s.activeHead = false) ∧
    (∃ s : State, s.inSeam s.ns = true ∧ s.ring.seamAt ≠ s.thisCycle ∧ s.ring.leaving = false ∧ s.activeHead = false) ∧
    (∃ s : State, s.inSeam s.ns = true ∧ s.ring.seamAt ≠ s.thisCycle ∧ s.ring.leaving = true ∧ s.activeHead = false) ∧
    (∃ s : State, s.inSeam s.ns = true ∧ s.ring.seamAt ≠ s.thisCycle ∧ s.ring.leaving = false ∧ s.activeHead = true) :=
  let slot := fun (len : Nat) (off : Nat) => [(RING_SLOT.offset State.reset.nodeId 1, off), (RING_SLOTLEN.len State.reset.nodeId 1, len),
    (RING_LSTAT.state 0, 6), (RING_LSTAT.state 1, 6), (RING_STATUS.east_wrap, 0), (RING_STATUS.west_wrap, 0)]
  ⟨⟨ringAt, by decide +kernel⟩, ⟨ringAt {} [(RING_STATUS.role, 1)], by decide +kernel⟩,
    ⟨ringAt { draft := some (2 ^ 32 - 1, []) }, (2 ^ 32 - 1, []), by decide +kernel⟩, ⟨ringAt, by decide +kernel⟩,
    ⟨st [(RING_STATUS.role, 1)], by decide +kernel⟩,
    ⟨ringAt { cycleAt := some 0 } [] 170000, by decide +kernel⟩,
    ⟨{ ringAt {} (slot 3000 68500) with sw := { queues := [(queueKey 1 0 7, [aCopy])] } }, 0, aCopy, by decide +kernel⟩,
    ⟨ringAt {} (slot 3000 70000), by decide +kernel⟩,
    ⟨ringAt { left := true } (slot 3000 70000), by decide +kernel⟩, ⟨ringAt {} (slot 3000 68499), by decide +kernel⟩,
    ⟨ringAt, by decide +kernel⟩, ⟨ringAt { leaving := true }, by decide +kernel⟩,
    ⟨ringAt {} [(RING_STATUS.role, 1)], by decide +kernel⟩⟩

theorem witness_RingTopologyCommands :
    (∃ s : State, s.linkUp 1 = false ∧ s.get (wrapFld 1) = 0) ∧ (∃ s : State, s.activeHead = true) ∧ (∃ s : State, s.linkUp 1 = true ∧ s.get (spliceFld 1) = 0) ∧
    (∃ s : State, s.inSeam s.ns = true ∧ s.get (spliceFld 1) = 3) ∧ (∃ s : State, s.inSeam s.ns = true ∧ s.get (spliceFld 1) = 1) ∧
    (∃ s : State, s.seamLate = false ∧ s.get (spliceFld 1) = 2 ∧ s.drainedIn = true) ∧
    (∃ s : State, s.seamLate = false ∧ s.get (spliceFld 1) = 4 ∧ (s.link 1).quiet = true ∧ (s.transitOf 0).fifo = [] ∧
      (s.transitOf 0).redo = none) ∧
    (∃ s : State, s.seamLate = true ∧ s.get (spliceFld 1) = 2) ∧ (∃ s : State, s.seamLate = true ∧ s.get (spliceFld 1) = 4) ∧
    (∃ (s : State) (w : Nat), s.foreignCore .host = false ∧ bit w 1 = false ∧ bit w 2 = false ∧ s.nodeState = nsSERVICE) ∧
    (∃ s : State, s.nodeState = nsJOINING ∧ s.inSeam s.ns = true ∧ s.readyToJoin = true ∧ s.activeHead = true) ∧
    (∃ s : State, s.get TIM_STATUS.state ≠ 2) ∧
    (∃ s : State, s.nodeState = nsJOINING ∧ s.inSeam s.ns = true ∧ s.readyToJoin = true ∧ s.activeHead = false ∧ s.mapHead = some 63 ∧
      s.linkUp 1 = true) ∧
    (∃ s : State, s.activeHead = true ∧ s.inSeam s.ns = true ∧ s.joinReason 5 1 false false false ≠ 0) ∧
    (∃ s : State, s.thisCycle = some 0 ∧ 0 + 5000 = s.ns ∧ s.ring.testedAt ≠ some 0 ∧ s.ring.gotAt = some 0 ∧ s.activeHead = true) ∧
    (∃ s : State, s.nodeState = nsORPHAN ∧ s.inSeam s.ns = true ∧ s.cst.restart = true ∧
      s.get RING_STATUS2.orphan_epoch + 1 + 1 = 2 ^ 32) ∧
    (∃ s : State, s.nodeState = nsORPHAN ∧ s.inSeam s.ns = true ∧
      0 % 2 ^ 32 ≠ (s.get RING_STATUS2.orphan_epoch + 1) % 2 ^ 32) :=
  ⟨⟨st [(wrapFld 1, 0)], by decide +kernel⟩, ⟨st [(RING_STATUS.role, 1)], by decide +kernel⟩, ⟨linkAt 6, by decide +kernel⟩, ⟨ringAt {} [(spliceFld 1, 3)], by decide +kernel⟩,
    ⟨ringAt {} [(spliceFld 1, 1)], by decide +kernel⟩, ⟨ringAt {} [(spliceFld 1, 2)] 60000, by decide +kernel⟩,
    ⟨ringAt {} [(spliceFld 1, 4)] 98000, by decide +kernel⟩, ⟨ringAt {} [(spliceFld 1, 2)] 98001, by decide +kernel⟩,
    ⟨ringAt {} [(spliceFld 1, 4)] 59999, by decide +kernel⟩, ⟨st [(NODE_STATE.state, nsSERVICE)], 0, by decide +kernel⟩,
    ⟨ringAt {} [(NODE_STATE.state, nsJOINING), (TIM_STATUS.state, 2), (RING_STATUS.role, 1)], by decide +kernel⟩,
    ⟨State.reset, by decide +kernel⟩,
    ⟨ringAt {} [(NODE_STATE.state, nsJOINING), (TIM_STATUS.state, 2), (RING_LSTAT.state 1, 6), (RING_MAP.present 63, 1), (RING_MAP.role 63, 1)], by decide +kernel⟩,
    ⟨ringAt {} [(RING_STATUS.role, 1)], by decide +kernel⟩,
    ⟨ringAt { gotAt := some 0 } [(RING_STATUS.role, 1)] 5000, by decide +kernel⟩,
    ⟨{ ringAt {} [(NODE_STATE.state, nsORPHAN), (RING_STATUS2.orphan_epoch, 2 ^ 32 - 2)] with cst := { restart := true } },
      by decide +kernel⟩,
    ⟨ringAt {} [(NODE_STATE.state, nsORPHAN), (RING_STATUS2.orphan_epoch, 0)], by decide +kernel⟩⟩

theorem witness_RingHeadCommands :
    (∃ s : State, s.thisCycle = some 0 ∧ s.isHead = true ∧ s.get RING_HEADCFG.wit_mode = 0 ∧ s.nodeState ≠ nsBOOT ∧
      s.ring.sampledAt ≠ some 0 ∧ s.activeHead = true) ∧
    (∃ s : State, s.isHead = true ∧ s.get RING_HEADCFG.wit_mode = 0 ∧ s.activeHead = true) ∧
    (∃ s : State, s.isHead = true ∧ s.get RING_HEADCFG.wit_mode = 0 ∧ s.activeHead = false) ∧
    (∃ s : State, s.thisCycle = some 0 ∧ s.isHead = true ∧ s.ring.toggledAt ≠ some 0 ∧ s.nodeState ≠ nsBOOT ∧ s.ring.failing = false) ∧
    (∃ s : State, s.isHead = true ∧ s.get RING_HEADCFG.wit_mode = 1) ∧
    (∃ s : State, s.get RING_HEADCFG.is_witness = 1 ∧ s.ring.lease = none) ∧
    (∃ s : State, s.ring.lease = some (5, 0) ∧ 0 + s.leaseTime = s.now ∧ s.get RING_HEADCFG.is_witness = 1) ∧
    (∃ s : State, s.thisCycle = some 0 ∧ s.get RING_STATUS.role = 2 ∧ s.get RING_WIT.grant = 1 ∧ s.ring.mismatch = false) ∧
    (∃ (s : State) (other : Fin 64), s.activeHead = true ∧ s.nodeId ≠ other.val ∧ s.get RING_HEADCFG.preferred = 0) ∧
    (∃ s : State, s.get RING_HEADCFG.revert ≠ 0 ∧ s.inSeam s.ns = true ∧ s.activeHead = true ∧ s.get RING_HEADCFG.preferred = 0 ∧
      s.mapStandby = some 63 ∧ s.ring.peerPref = true ∧ s.ring.mismatch = false ∧ s.ring.peerReport = some 15 ∧ s.get RING_HEADCFG.revert = s.ring.peerSecs) ∧
    (∃ s : State, s.inSeam s.ns = true ∧ s.activeHead = false ∧ s.get RING_STATUS.role = 2 ∧ s.ring.mismatch = false ∧
      s.ring.offered = true) ∧
    (∃ s : State, s.get RING_HEADCFG.revert ≠ 0 ∧ s.inSeam s.ns = true ∧ s.activeHead = false ∧ s.ring.healthy = some 0 ∧
      s.get RING_STATUS.role = 2 ∧ s.ring.mismatch = false ∧ s.get RING_HEADCFG.preferred = 1 ∧ 0 + s.get RING_HEADCFG.revert * 1000000000 = s.now) ∧
    (∃ (s : State) (w : Nat), s.foreignCore .host = false ∧ bit w 0 = false ∧ bit w 2 = false ∧
      s.activeHead = false) ∧
    (∃ (s : State) (w : Nat), s.foreignCore .host = false ∧ bit w 0 = false ∧ bit w 2 = false ∧
      s.activeHead = true) ∧
    (∃ (s : State) (w : Nat), s.foreignCore .host = false ∧ bit w 0 = false ∧ bit w 1 = false ∧
      s.activeHead = true) ∧
    (∃ (s : State) (b : Nat), s.isHead = true ∧ bit b 1 = true) ∧
    (∃ s : State, s.activeHead = true ∧ s.get RING_MIRROR.version ≠ 0) ∧ (∃ s : State, s.ring.updates ≠ []) ∧
    (∃ (s : State) (f : Frame), s.activeHead = true ∧ f.ftype = 5 ∧ f.dst = 63 ∧ s.get (RING_MAP.failed_over f.dst) = 1 ∧
      frameUnit f ≠ 0x0021) :=
  ⟨⟨ringAt {} [(HOST_CFG.head_cast, 1), (NODE_STATE.state, 2), (RING_STATUS.role, 1)], by decide +kernel⟩,
    ⟨st [(HOST_CFG.head_cast, 1), (RING_STATUS.role, 1)], by decide +kernel⟩,
    ⟨st [(HOST_CFG.head_cast, 1)], by decide +kernel⟩,
    ⟨ringAt {} [(HOST_CFG.head_cast, 1), (NODE_STATE.state, 2)], by decide +kernel⟩,
    ⟨st [(HOST_CFG.head_cast, 1), (RING_HEADCFG.wit_mode, 1)], by decide +kernel⟩, ⟨st [(RING_HEADCFG.is_witness, 1)], by decide +kernel⟩,
    ⟨ringAt { lease := some (5, 0) } [(RING_HEADCFG.is_witness, 1)] 70000 200000, by decide +kernel⟩,
    ⟨ringAt {} [(RING_STATUS.role, 2), (RING_WIT.grant, 1)], by decide +kernel⟩, ⟨st [(RING_STATUS.role, 1)], 63, by decide +kernel⟩,
    ⟨ringAt { peerReport := some 15, peerSecs := 1, peerPref := true } [(RING_HEADCFG.revert, 1), (RING_STATUS.role, 1), (RING_MAP.present 63, 1),
      (RING_MAP.role 63, 2)], by decide +kernel⟩,
    ⟨ringAt { offered := true } [(RING_STATUS.role, 2)], by decide +kernel⟩,
    ⟨ringAt { healthy := some 0 } [(RING_HEADCFG.revert, 1), (RING_STATUS.role, 2), (RING_HEADCFG.preferred, 1)] 70000 1000000000,
      by decide +kernel⟩,
    ⟨State.reset, 0, by decide +kernel⟩, ⟨st [(RING_STATUS.role, 1)], 0, by decide +kernel⟩,
    ⟨st [(RING_STATUS.role, 1)], 0, by decide +kernel⟩, ⟨st [(HOST_CFG.head_cast, 1)], 2, by decide +kernel⟩,
    ⟨st [(RING_STATUS.role, 1), (RING_MIRROR.version, 0x11)], by decide +kernel⟩, ⟨ringAt { updates := [(0, 0)] }, by decide +kernel⟩,
    ⟨st [(RING_STATUS.role, 1), (RING_MAP.failed_over 63, 1)], aFrame 5 63 0, by decide +kernel⟩⟩

/-- The active head with its host link up and the interface version agreed on. -/
def hostAt (h : HostSt := { linkUp := true }) (l : List (Fld × Nat) := []) (now : Nat := 0) : State :=
  { st ([(HOST_CFG.head_cast, 1), (RING_STATUS.role, 1), (HOST_IF_VERSION.agreed, 0x11),
    (NODE_STATE.state, nsSERVICE)] ++ l) with host := h, now := now }

theorem witness_HostCommands :
    (∃ (s : State) (addr size : Nat), s.isHead = true ∧ s.host.linkUp = true ∧ addr + 8 = 2 ^ 34 ∧ size = 8 ∧ addr % size = 0 ∧
      readLegal (addr % 2 ^ 28) size = true ∧ burstLegal (addr % 2 ^ 28) size = true ∧ s.hostOpen addr = true) ∧
    (∃ (s : State) (addr size : Nat), s.isHead = true ∧ s.host.linkUp = true ∧ addr = 0 ∧ size = 8 ∧
      readLegal (addr % 2 ^ 28) size = false) ∧
    (∃ (s : State) (addr size : Nat), s.isHead = true ∧ s.host.linkUp = true ∧ addr + 1 = 2 ^ 34 ∧ size = 2 ∧ addr % size ≠ 0 ∧
      longReads (addr % 2 ^ 28) = false) ∧
    (∃ (s : State) (addr : Nat) (data : List Nat), s.isHead = true ∧ s.host.linkUp = true ∧ data.length = s.host.mps ∧
      s.hostOpen addr = true ∧ addr / 2 ^ 28 = s.nodeId ∧ addr % 2 ^ 28 + 1 = 0x3000000) ∧
    (∃ (s : State) (addr : Nat) (data : List Nat), s.isHead = true ∧ s.host.linkUp = true ∧ data.length = s.host.mps ∧
      s.hostOpen addr = true ∧ addr + 1 = 2 ^ 34 ∧ addr / 2 ^ 28 ≠ s.nodeId ∧ s.get (RING_MAP.present (addr / 2 ^ 28)) = 0) ∧
    (∃ (s : State) (addr : Nat) (data : List Nat), s.isHead = true ∧ s.host.linkUp = true ∧ data.length ≤ s.host.mps ∧
      s.hostOpen addr = true ∧ addr = 2 ^ 28 * 63 + 0x3FFFC ∧ s.relays addr data.length = true) ∧
    (∃ (s : State) (data : List Nat), s.isHead = true ∧ s.host.linkUp = true ∧ s.host.mps + 1 = data.length) ∧
    (∃ (s : State) (f : Frame) (r : WinRead), s.isHead = true ∧ f.ftype = 5 ∧ frameUnit f = 0x0020 ∧
      s.host.reads.find? (fun r => r.tag % 256 == nth f.b 5) = some r) ∧
    (∃ (s : State) (f : Frame), s.isHead = true ∧ f.ftype = 5 ∧ frameUnit f = 0x0020 ∧
      s.host.reads.find? (fun r => r.tag % 256 == nth f.b 5) = none) ∧
    (∃ (s : State) (r : WinRead), s.host.reads.find? (fun r => decide (r.due ≤ s.now)) = some r ∧ r.due = s.now) ∧
    (∃ s : State, s.isHead = false) ∧
    (∃ (s : State) (w : Nat), s.isHead = true ∧ (s.writeReg .host (HOST_TS_CMD.addr 255) w).get (HOST_TS_CMD.op 255) = 0) ∧
    (∃ (s : State) (w : Nat), let t := s.writeReg .host (HOST_TS_CMD.addr 255) w
      s.isHead = true ∧ t.get (HOST_TS_CMD.op 255) = 1 ∧ t.get (HOST_TS_CMD.size 255) = 3 ∧
      s.slotAddr 255 % 2 ^ t.get (HOST_TS_CMD.size 255) = 0 ∧ s.hostOpen (s.slotAddr 255) = true ∧ s.slotDue 255 = none) ∧
    (∃ (s : State) (f : Frame), s.isHead = true ∧ f.ftype = 5 ∧ frameUnit f = 0x0021 ∧ nth f.b 5 = 255 ∧ s.slotDue (nth f.b 5) = some 0 ∧
      0 ≤ s.now) ∧
    (∃ s : State, s.rqOpen 63 = true) :=
  let read : WinRead := ⟨7, 0, 4, [], 0, some 1⟩
  ⟨⟨hostAt, 2 ^ 34 - 8, 8, by decide +kernel⟩, ⟨hostAt, 0, 8, by decide +kernel⟩, ⟨hostAt, 2 ^ 34 - 1, 2, by decide +kernel⟩,
    ⟨hostAt, 2 ^ 28 * State.reset.nodeId + 0x2FFFFFF, List.replicate 128 0, by decide +kernel⟩,
    ⟨hostAt, 2 ^ 34 - 1, List.replicate 128 0, by decide +kernel⟩,
    ⟨hostAt { linkUp := true } [(RING_MAP.present 63, 1), (RING_MAP.state 63, nsJOINING)], 2 ^ 28 * 63 + 0x3FFFC, [1, 2, 3, 4], by decide +kernel⟩, ⟨hostAt, List.replicate 129 0, by decide +kernel⟩,
    ⟨hostAt { linkUp := true, reads := [read] }, aFrame 5 0 0 [0, 0, 0, 0, 0, 7, 0x20], read, by decide +kernel⟩,
    ⟨hostAt, aFrame 5 0 0 [0, 0, 0, 0, 0, 7, 0x20], by decide +kernel⟩,
    ⟨hostAt { reads := [read] } [] 40001, read, by decide +kernel⟩, ⟨State.reset, by decide +kernel⟩, ⟨hostAt, 0, by decide +kernel⟩,
    ⟨hostAt, 0x31, by decide +kernel⟩, ⟨hostAt { slots := [(255, { due := some 0 })] }, aFrame 5 0 0 [0, 0, 0, 0, 0, 255, 0x21], by decide +kernel⟩,
    ⟨st [(HOST_RQ_CFG.en 63, 1)], by decide +kernel⟩⟩

theorem witness_HostLinkAndEtherCommands :
    (∃ s : State, s.isHead = false) ∧
    (∃ (s : State) (w : Nat), s.isHead = true ∧ s.host.reads = [] ∧ s.host.slots = [] ∧ bit w 1 = true) ∧
    (∃ (s : State) (w : Nat), s.isHead = true ∧ s.host.reads = [] ∧ s.host.slots = [] ∧ bit w 1 = false ∧ bit w 0 = false) ∧
    (∃ s : State, s.isHead = true ∧ s.host.reads ≠ []) ∧ (∃ s : State, s.isHead = true ∧ s.nodeState ≠ nsBOOT) ∧
    (∃ (s : State) (bs : List Nat), s.member 1 = true ∧ s.ethOff 1 = false ∧ (s.learn bs s.nodeId 1).ptpEnds 1 bs = none ∧
      0x0180C200000F + 1 = ethDst bs ∧
      (s.learn bs s.nodeId 1).lookupMac bs = none) ∧
    (∃ (s t : State) (bs : List Nat), s.member 1 = true ∧ s.ethOff 1 = false ∧ (s.learn bs s.nodeId 1).ptpEnds 1 bs = some t) ∧
    (∃ f : Frame, f.ftype = 8) ∧ (∃ s : State, s.ethOff 1 = false) :=
  ⟨⟨State.reset, by decide +kernel⟩, ⟨hostAt, 2, by decide +kernel⟩, ⟨hostAt, 0xFFFFFFFC, by decide +kernel⟩,
    ⟨hostAt { reads := [⟨7, 0, 4, [], 0, none⟩] }, by decide +kernel⟩,
    ⟨st [(HOST_CFG.head_cast, 1), (NODE_STATE.state, 1)], by decide +kernel⟩,
    ⟨st [(ETH_BRCFG.mode1, 1)], [0x01, 0x80, 0xC2, 0, 0, 0x10, 2, 0, 0, 0, 0, 1, 8, 0], by decide +kernel⟩,
    ⟨st [(ETH_BRCFG.mode1, 1)], _, [1, 0x80, 0xC2, 0, 0, 0xE, 2, 0, 0, 0, 0, 1, 0x88, 0xF7, 2, 2] ++ List.replicate 60 0,
      by decide +kernel, by decide +kernel, rfl⟩,
    ⟨aFrame 8 0 0, rfl⟩, ⟨st [(ETH_BRCFG.mode1, 1)], by decide +kernel⟩⟩

/-- An image of 144 bytes without a signature (R345, R375): its last magic byte, its digest, and its one table entry, of a kind and empty. -/
def bareImage (magic : Nat) (digest : List Nat) (kind : Nat) : List Nat :=
  [80, 76, 71] ++ [magic] ++ [1, 0, 128, 0, 0, 0, 0, 0, 0, 0, 0, 0, 144, 0, 0, 0, 100, 150, 160, 1, 160, 160, 160, 160, 0, 0, 0, 0, 128, 0, 0, 0, 1, 0, 0, 0] ++
    List.replicate 40 0 ++ digest ++ [kind] ++ List.replicate 15 0

/-- An image in flash. -/
def inFlash (base : Nat) (bs : List Nat) : SMap Nat := bs.zipIdx.map (fun e => (base + e.2, e.1))

/-- A staged casting whose one section is of no known type. -/
def stagedCasting : SMap Nat :=
  inFlash stagingBase (bareImage 0x43
    [174, 64, 101, 157, 161, 25, 60, 222, 200, 223, 71, 75, 94, 54, 65, 106, 130, 71, 59, 131, 211, 45, 187, 225,
      221, 109, 248, 236, 148, 153, 210, 73, 2, 202, 8, 195, 52, 135, 107, 200, 230, 158, 129, 139, 238, 204, 4, 106] 0)

/-- A firmware copy with a manager image alone. -/
def bareFirmware (c : Nat) : SMap Nat :=
  inFlash (fwBase c) (bareImage 0x46
    [41, 52, 35, 11, 59, 113, 203, 163, 212, 237, 54, 207, 77, 216, 215, 131, 87, 18, 110, 246, 41, 150, 247,
      147, 251, 112, 248, 202, 130, 50, 137, 221, 254, 168, 191, 214, 127, 89, 105, 147, 33, 47, 86, 27, 40, 204, 92, 164] 1)

/-- Mailbox m runs a command, with the arguments and more register fields. -/
def mbxAt (m code : Nat) (args : List Nat := []) (l : List (Fld × Nat) := []) : State :=
  { st ((NODE_CMDSTAT.busy m, 1) :: (List.range args.length).map (fun i => (NODE_ARG.arg m i, nth args i)) ++ l) with
    mbx := [(m, { code := code, tag := 9 })] }

theorem witness_MailboxCommands :
    (∃ s : State, s.mailboxOf .host 2 = false) ∧
    (∃ s : State, s.mailboxOf .bench 2 = true ∧ s.get (NODE_CMDSTAT.busy 2) = 1) ∧
    (∃ (s : State) (w : Nat), s.mailboxOf .bench 2 = true ∧ s.get (NODE_CMDSTAT.busy 2) = 0 ∧ s.judge 2 (bits w 0 8) = stOK) ∧
    (∃ (s : State) (w : Nat), s.mailboxOf .bench 2 = true ∧ s.get (NODE_CMDSTAT.busy 2) = 0 ∧ s.judge 2 (bits w 0 8) ≠ stOK ∧
      s.judge 2 (bits w 0 8) ≠ stRANGE) ∧
    (∃ (s : State) (w : Nat), s.mailboxOf .bench 2 = true ∧ s.get (NODE_CMDSTAT.busy 2) = 0 ∧ s.judge 2 (bits w 0 8) = stRANGE ∧
      bits w 0 8 ∉ [mcCASTING_INSTALL, mcRECAST]) ∧
    (∃ (s : State) (w : Nat), s.mailboxOf .bench 2 = true ∧ s.get (NODE_CMDSTAT.busy 2) = 0 ∧ bits w 0 8 = mcCASTING_INSTALL ∧
      s.judge 2 mcCASTING_INSTALL = stRANGE) ∧
    (∃ (s : State) (w x : Nat), s.mailboxOf .bench 2 = true ∧ s.get (NODE_CMDSTAT.busy 2) = 0 ∧ bits w 0 8 = mcRECAST ∧
      s.judge 2 mcRECAST = stRANGE ∧ s.recastDiffers = some x) ∧
    (∃ s : State, s.mbxRuns 2 mcSTATUS = true) ∧
    (∃ s : State, s.mbxRuns 2 mcUNIT_RESET = true ∧ s.arg 2 0 = 0x016B ∧ unitResets (s.arg 2 0) = true) ∧
    (∃ s : State, s.mbxRuns 2 mcUNIT_RESET = true ∧ s.arg 2 0 = 0x016C ∧ unitResets (s.arg 2 0) = false) ∧
    (∃ s : State, s.mbxRuns 2 mcCLUSTER_RESET = true ∧ s.argCheck 2 mcCLUSTER_RESET = stOK) ∧
    (∃ s : State, s.mbxRuns 2 mcCLUSTER_RESET = true ∧ s.argCheck 2 mcCLUSTER_RESET ≠ stOK) ∧
    (∃ s : State, s.mbxRuns 2 mcDIE_RESET = true ∧ s.argCheck 2 mcDIE_RESET ≠ stOK) ∧
    (∃ s : State, s.mbxRuns 2 mcDIE_RESET = true ∧ s.argCheck 2 mcDIE_RESET = stOK ∧ s.arg 2 0 % 256 = 3) ∧
    (∃ s : State, s.mbxRuns 2 mcDIE_RESET = true ∧ s.argCheck 2 mcDIE_RESET = stOK ∧ s.arg 2 0 % 256 = 1) ∧
    (∃ s : State, s.mbxRuns 2 mcNODE_RESET = true) ∧ (∃ s : State, s.mbxRuns 2 mcHALT = true) ∧
    (∃ s : State, s.mbxRuns 2 mcHOLD_CLEAR = true) ∧
    (∃ s : State, s.mbxRuns 2 mcQUENCH = true ∧ bit (s.arg 2 0) 1 = false) ∧
    (∃ s : State, s.mbxRuns 2 mcQUENCH = true ∧ bit (s.arg 2 0) 1 = true) :=
  ⟨⟨State.reset, by decide +kernel⟩, ⟨mbxAt 2 0, by decide +kernel⟩, ⟨st [(NODE_STATE.state, nsSERVICE)], mcSTATUS, by decide +kernel⟩,
    ⟨st [(NODE_STATE.state, nsSERVICE)], 0xFF, by decide +kernel⟩,
    ⟨st [(NODE_STATE.state, nsTAMPERED)], mcDIE_RESET, by decide +kernel⟩,
    ⟨{ st [(NODE_STATE.state, nsRECAST)] with cst := { flash := stagedCasting }, cru := { bench := true } }, mcCASTING_INSTALL, by decide +kernel⟩,
    ⟨{ st [(NODE_STATE.state, nsHALTED)] with cst := { flash := [(4, 2), (36, 0), (37, 0)], sections := [(0x10, 0, 0)] } }, mcRECAST, 0x10,
      by decide +kernel⟩, ⟨mbxAt 2 mcSTATUS, by decide +kernel⟩,
    ⟨mbxAt 2 mcUNIT_RESET [0x016B], by decide +kernel⟩, ⟨mbxAt 2 mcUNIT_RESET [0x016C], by decide +kernel⟩,
    ⟨mbxAt 2 mcCLUSTER_RESET [0x070B], by decide +kernel⟩,
    ⟨mbxAt 2 mcCLUSTER_RESET [0x070C], by decide +kernel⟩, ⟨mbxAt 2 mcDIE_RESET [0x0904], by decide +kernel⟩, ⟨mbxAt 2 mcDIE_RESET [0x0903], by decide +kernel⟩,
    ⟨mbxAt 2 mcDIE_RESET [0x0901], by decide +kernel⟩, ⟨mbxAt 2 mcNODE_RESET, by decide +kernel⟩, ⟨mbxAt 2 mcHALT, by decide +kernel⟩,
    ⟨mbxAt 2 mcHOLD_CLEAR, by decide +kernel⟩, ⟨mbxAt 2 mcQUENCH [0], by decide +kernel⟩, ⟨mbxAt 2 mcQUENCH [2], by decide +kernel⟩⟩

theorem witness_StagingCommands :
    (∃ s : State, s.mbxRuns 2 mcRECAST = true ∧ s.recastDiffers = none ∧ s.image (castBase s.highestCopy) 4 = 2 ∧
      20 = s.get RING_SEAM.len ∧ s.recastMask = 0) ∧
    (∃ (s : State) (t : Nat), s.cst.recast = some (1, t) ∧ s.nodeState = nsRECAST ∧ bit (s.get CST_RECAST.pending) 11 = true ∧
      s.inSeam s.ns = true ∧ t + 1000000 = s.seamOpening) ∧
    (∃ s : State, s.mbxRuns 2 mcCASTING_INSTALL = true ∧ s.cst.waits = none ∧ s.cst.job = none) ∧
    (∃ s : State, s.cst.job = some (.install 2 1)) ∧
    (∃ s : State, s.ingotRuns 2 1 = true ∧ s.cst.job = none ∧ (s.ingotCheck 2).1 = stOK ∧ s.arg 2 3 = 8388608) ∧
    (∃ s : State, s.ingotRuns 2 3 = true ∧ (s.ingotCheck 2).1 = stOK) ∧
    (∃ s : State, s.cst.job = some (.openImage 2 7 0 4096 [])) ∧ (∃ s : State, s.cst.job = some (.ingot 2 2047 [])) ∧
    (∃ s : State, s.mbxRuns 2 mcMISSING = true ∧ s.missingCheck 2 = stOK) :=
  ⟨⟨{ mbxAt 2 mcRECAST [] [(RING_SEAM.len, 20)] with cst := { flash := [(4, 2), (36, 0), (37, 0)] } }, by decide +kernel⟩,
    ⟨{ ringAt {} [(NODE_STATE.state, nsRECAST), (CST_RECAST.pending, 0x800)] 1070000 with cst := { recast := some (1, 60000) } }, 60000,
      by decide +kernel⟩,
    ⟨mbxAt 2 mcCASTING_INSTALL, by decide +kernel⟩, ⟨{ State.reset with cst := { job := some (.install 2 1) } }, rfl⟩,
    ⟨mbxAt 2 mcINGOT [1, 7, 0, 8388608, 0xC000000], by decide +kernel⟩,
    ⟨mbxAt 2 mcINGOT [3, 7] [(CST_STG.state, 1), (CST_STGID.id, 7)], by decide +kernel⟩,
    ⟨{ State.reset with cst := { job := some (.openImage 2 7 0 4096 []) } }, rfl⟩,
    ⟨{ State.reset with cst := { job := some (.ingot 2 2047 []) } }, rfl⟩,
    ⟨mbxAt 2 mcMISSING [7] [(CST_STG.state, 1), (CST_STGID.id, 7)], by decide +kernel⟩⟩

/-- An activation of firmware copy 1 for mailbox 2. -/
def anAct (hitless : Bool) : Activation := { m := 2, hitless := hitless, t0 := 0, copy := 1 }
def actAt (a : Activation) (l : List (Fld × Nat) := []) (ns : Nat := 70000) (now : Nat := 0) : State :=
  { ringAt {} l ns now with cst := { act := some a } }

theorem witness_ActivationCommands :
    (∃ s : State, s.mbxRuns 2 mcACTIVATE_PAUSE = true) ∧ (∃ s : State, s.mbxRuns 2 mcACTIVATE_HITLESS = true) ∧
    (∃ (s : State) (a : Activation), s.pauseAct = some a ∧ a.inRom = false) ∧
    (∃ (s : State) (a : Activation), s.pauseAct = some a ∧ a.inRom = true ∧ a.newCode = none) ∧
    (∃ (s : State) (a : Activation), s.pauseAct = some a ∧ a.newCode = some 1 ∧ a.oldCode = some 0) ∧
    (∃ (s : State) (a : Activation), s.hitlessAct = some a ∧ s.standbyPair = some 9 ∧ a.shadow = false ∧
      s.fwAssay (s.image (fwBase a.copy)) = 0) ∧
    (∃ (s : State) (a : Activation), s.hitlessAct = some a ∧ a.shadow = true ∧ a.inStep = none) ∧
    (∃ (s : State) (a : Activation), s.hitlessAct = some a ∧ s.standbyPair = some 9 ∧ s.inSeam s.ns = true ∧ a.moving = some s.seamOpening ∧
      s.seamInto = 10000) ∧
    (∃ (s : State) (a : Activation), s.hitlessAct = some a ∧ a.inStep = none ∧ a.t0 + 10000000000 = s.now) :=
  ⟨⟨mbxAt 2 mcACTIVATE_PAUSE, by decide +kernel⟩, ⟨mbxAt 2 mcACTIVATE_HITLESS, by decide +kernel⟩,
    ⟨actAt (anAct false), anAct false, by decide +kernel⟩,
    ⟨actAt { anAct false with inRom := true }, { anAct false with inRom := true }, by decide +kernel⟩,
    ⟨actAt { anAct false with newCode := some 1, oldCode := some 0 }, { anAct false with newCode := some 1, oldCode := some 0 },
      by decide +kernel⟩,
    ⟨{ actAt (anAct true) [(CORE_ROLE.standby, 9)] with
      cst := { act := some (anAct true), flash := bareFirmware 1 }, cru := { bench := true } }, anAct true, by decide +kernel⟩,
    ⟨actAt { anAct true with shadow := true }, { anAct true with shadow := true }, by decide +kernel⟩,
    ⟨actAt { anAct true with inStep := some 60000, moving := some 60000 } [(CORE_ROLE.standby, 9)],
      { anAct true with inStep := some 60000, moving := some 60000 },
      by decide +kernel⟩,
    ⟨actAt (anAct true) [] 70000 10000000000, anAct true, by decide +kernel⟩⟩

theorem witness_ProvisioningCommands :
    (∃ (s : State) (e i : Nat), s.provRuns 2 1 = true ∧ s.provisionCheck 2 = stOK ∧ s.get CRU_ENTROPY.ok = 1 ∧ s.slotState 0 = slLIVE ∧
      (List.range 8).find? (fun e => !slots.any (fun i => s.slotState i != slEMPTY && s.slotId i == 0xFFD0 + e)) = some e ∧
      s.freeSlot (0xFFD0 + e) = some i) ∧
    (∃ s : State, s.provRuns 2 4 = true ∧ s.provisionCheck 2 = stOK ∧ s.get CRU_ENTROPY.ok = 1) ∧
    (∃ s : State, s.provRuns 2 4 = true ∧ s.provisionCheck 2 = stOK ∧ s.get CRU_ENTROPY.ok = 0) ∧
    (∃ s : State, s.provRuns 2 5 = true ∧ s.provisionCheck 2 = stOK) ∧
    (∃ s : State, s.provRuns 2 5 = true ∧ s.provisionCheck 2 ≠ stOK) ∧
    (∃ s : State, s.mbxRuns 2 mcHALLMARK = true ∧ s.hallmarkCheck 2 = stOK ∧ s.slotState 0 = slLIVE ∧ s.arg 2 1 % 65536 = 0) ∧
    (∃ s : State, s.mbxRuns 2 mcHALLMARK = true ∧ s.hallmarkCheck 2 = stOK ∧ s.slotState 0 ≠ slLIVE) :=
  let live := fun (i id alg : Nat) => [(CRU_SLOT0.state i, slLIVE), (CRU_SLOT0.key_id i, id), (CRU_SLOT0.alg i, alg)]
  ⟨⟨mbxAt 2 mcKEY_PROVISION [1, 0, 0xC1FFFE0, 0xC000000] (live 0 idTOUCHMARK 5 ++ [(CRU_ENTROPY.ok, 1)]), 0, 2, by decide +kernel⟩,
    ⟨mbxAt 2 mcKEY_PROVISION [4, 0x0104EFFF] (live 1 idDOMAIN 2 ++ [(CRU_ENTROPY.ok, 1)]), by decide +kernel⟩,
    ⟨mbxAt 2 mcKEY_PROVISION [4, 0x01040001] (live 1 idDOMAIN 2 ++ [(CRU_ENTROPY.ok, 0)]), by decide +kernel⟩,
    ⟨mbxAt 2 mcKEY_PROVISION [5, 0xEFFF] (live 63 0xEFFF 1), by decide +kernel⟩,
    ⟨mbxAt 2 mcKEY_PROVISION [5, 0xEFFE] (live 63 0xEFFF 1), by decide +kernel⟩,
    ⟨mbxAt 2 mcHALLMARK [0, 0, 0xC000000, 0xC000020] (live 0 idTOUCHMARK 5), by decide +kernel⟩,
    ⟨mbxAt 2 mcHALLMARK [0, 0, 0xC000000, 0xC000020], by decide +kernel⟩⟩

/-- An operation that runs at port 9, ended with a status and a result. -/
def opAt (status : Nat) (out : List Nat := []) : State :=
  { State.reset with cru := { ops := [(9, some {
    op := 1, key := 0, src := 0, len := 0, aad := 0, dst := 0xC000000, aux := 0, running := true, status := status, out := out })] } }

theorem witness_KeyOperations :
    (∃ (s : State) (c : Fin 20), c.val / 2 = 9 ∧ s.get (CRU_OPSTAT.busy 9) = 0) ∧
    (∃ (s : State) (c : Fin 20) (w : Nat), c.val / 2 = 9 ∧ s.get (CRU_OPSTAT.busy 9) = 1 ∧
      (s.opCheck 9 { op := 1, key := bits w 8 16, src := s.get (CRU_OPSRC.src 9), len := s.get (CRU_OPLEN.src_len 9)
                     aad := s.get (CRU_OPLEN.aad_len 9), dst := s.get (CRU_OPDST.dst 9), aux := s.get (CRU_OPAUX.aux 9) }).1 = stOK) ∧
    (∃ c : Fin 20, c.val / 2 ≠ 9) ∧
    (∃ (s : State) (x : KeyOp), SMap.getD s.cru.ops 9 none = some x ∧ x.running = true ∧ x.newKey = none ∧ x.status = stOK) ∧
    (∃ (s : State) (x : KeyOp), SMap.getD s.cru.ops 9 none = some x ∧ x.running = true ∧ x.newKey = none ∧ x.status ≠ stOK) :=
  ⟨⟨State.reset, 19, by decide +kernel⟩, ⟨st [(CRU_OPSTAT.busy 9, 1), (CRU_OPLEN.src_len 9, 1), (CRU_OPDST.dst 9, 0xC000000)], 18, 0, by decide +kernel⟩, ⟨17, by decide +kernel⟩,
    ⟨opAt stOK [1, 2, 3], _, rfl, rfl, rfl, rfl⟩, ⟨opAt stAUTH, _, rfl, rfl, rfl, by decide +kernel⟩⟩

theorem witness_KeyOperationMemory :
    (∃ (s : State) (x : KeyOp), SMap.getD s.cru.ops 9 none = some x ∧ x.running = true ∧ x.newKey = none ∧ x.status = stOK) ∧
    (∃ (s : State) (x : KeyOp), SMap.getD s.cru.ops 9 none = some x ∧ x.running = true ∧ x.newKey = none ∧ x.status ≠ stOK) :=
  witness_KeyOperations.2.2.2

theorem witness_CrucibleCommands :
    (∃ s : State, SMap.getD s.cru.born 63 none = some 0 ∧ isEphemeral (s.slotId 63) = true ∧ 0 + 10000000000 = s.now ∧
      ∀ m : Fin 3, s.mbxRuns m mcKEY_PROVISION = false) ∧
    (∃ s : State, s.slotState 63 = slREFUSING ∧ s.slotInUse 63 = false ∧ s.sessionHeld 63 = false) ∧
    (∃ s : State, s.sessionHeld 63 = true) ∧ (∃ s : State, s.slotInUse 63 = false) ∧ (∃ s : State, s.slotInUse 0 = true) ∧
    (∃ (s : State) (w : Nat), s.foreignCore .host = false ∧ bit w 1 = false ∧ bit w 0 = false) ∧
    (∃ s : State, s.foreignCore (.core 19) = true) ∧
    (∃ s : State, s.lev.inReset = true ∧ s.lev.rstLow = false ∧ s.lev.straps.benchEn = true ∧ s.lev.straps.lidOpen = true ∧
      (s.zeroise [2, 3]).get CRU_BENCH.count = 254) ∧
    (∃ s : State, s.nodeState ≠ nsBOOT ∧ s.get CST_BOOT.no_fw = 0 ∧ s.flashBusy = false) ∧
    (∃ s : State, s.nodeState = nsBOOT ∧ s.get CST_BOOT.phase = 2 ∧ s.lev.inReset = false) :=
  ⟨⟨{ st [(CRU_SLOT0.key_id 63, 0xFFD7)] with cru := { born := [(63, some 0)] }, now := 10000000000 }, by decide +kernel⟩,
    ⟨st [(CRU_SLOT0.state 63, slREFUSING)], by decide +kernel⟩,
    ⟨st [(CRU_SLOT0.key_id 63, 0xFFE7), (RING_LSTAT.state 1, 6), (RING_LSTAT.protected 1, 1)], by decide +kernel⟩, ⟨State.reset, by decide +kernel⟩,
    ⟨{ st [(CRU_SLOT0.state 0, slLIVE), (CRU_SLOT0.key_id 0, 7)] with cru := { ops := [(9, some {
        op := 5, key := 7, src := 0, len := 0, aad := 0, dst := 0, aux := 0, running := true, slot := some 0 })] } }, by decide +kernel⟩,
    ⟨State.reset, 0, by decide +kernel⟩, ⟨State.reset, by decide +kernel⟩,
    ⟨{ st [(CRU_BENCH.count, 254)] with lev := { State.reset.lev with
      rstLow := false, straps := { State.reset.lev.straps with benchEn := true, lidOpen := true } } }, by decide +kernel⟩,
    ⟨st [(NODE_STATE.state, nsSERVICE)], by decide +kernel⟩,
    ⟨{ st [(CST_BOOT.phase, 2)] with lev := { inReset := false } }, by decide +kernel⟩⟩

/-- The boot in a phase. -/
def bootAt (phase : Nat) (x : CastSt := {}) : State := { st [(CST_BOOT.phase, phase)] with lev := { inReset := false }, cst := x }

theorem witness_BootCommands :
    (∃ s : State, s.nodeState = nsBOOT ∧ s.lev.inReset = true ∧ s.lev.rstLow = false ∧ s.pow.dieOff = false ∧
      s.lev.straps.benchEn = false ∧ s.lev.strapsDue = false) ∧
    (∃ s : State, s.inPhase bpCAST = true) ∧ (∃ s : State, s.inPhase bpFIRMWARE = true) ∧
    (∃ s : State, s.inPhase bpLOAD = true ∧ (s.commitCast.put CST_BOOT.phase bpSETTINGS).hasSettings = true) ∧
    (∃ s : State, s.inPhase bpSETTINGS = true ∧ s.cst.applied = true) ∧
    (∃ s : State, s.foreignCore .host = false ∧ s.nodeState = nsSERVICE ∧ s.flashBusy = true) ∧
    (∃ s : State, s.foreignCore .host = false ∧ s.nodeState = nsJOINING) ∧
    (∃ s : State, s.cst.job = some (.save 1 7 [1, 2, 3])) ∧
    (∃ s : State, s.get CST_BOOT.no_fw = 1 ∧ s.get CST_STG.state = 2 ∧ s.get CST_STG.kind = 1 ∧ s.flashBusy = false) :=
  ⟨⟨{ State.reset with lev := { State.reset.lev with rstLow := false, strapsDue := false }, pow := { dieOff := false } }, by decide +kernel⟩,
    ⟨bootAt bpCAST, by decide +kernel⟩, ⟨bootAt bpFIRMWARE, by decide +kernel⟩,
    ⟨bootAt bpLOAD { sections := [(0x0F, 0, 0)] }, by decide +kernel⟩, ⟨bootAt bpSETTINGS { applied := true }, by decide +kernel⟩,
    ⟨{ st [(NODE_STATE.state, nsSERVICE)] with cst := { job := some (.install 2 1) } }, by decide +kernel⟩,
    ⟨st [(NODE_STATE.state, nsJOINING)], by decide +kernel⟩, ⟨bootAt 0 { job := some (.save 1 7 [1, 2, 3]) }, rfl⟩,
    ⟨st [(CST_BOOT.no_fw, 1), (CST_STG.state, 2), (CST_STG.kind, 1)], by decide +kernel⟩⟩

theorem witness_CoreCommands :
    (∃ s : State, s.get (CORE_STAT.mode 9) = 0 ∧ s.get (CORE_STAT.run 9) = 1 ∧ s.get (CORE_STAT.role 9) = 1) ∧
    (∃ s : State, s.get (CORE_STAT.mode 9) = 0 ∧ s.get (CORE_STAT.run 9) = 1 ∧ s.get (CORE_STAT.role 9) = 0) ∧
    (∃ s : State, s.cst.restart = true ∧ s.cst.fwCopy = some 1 ∧ s.fwAssay (s.image (fwBase 1)) = 0) ∧
    (∃ (s : State) (f : Frame), f.ftype = 6 ∧ bit f.a 15 = true ∧ f.a % 256 = 9 ∧ 64 = s.unread (f.a % 256)) ∧
    (∃ (s : State) (f : Frame), f.ftype = 6 ∧ bit f.a 15 = true ∧ f.a % 256 = 9 ∧ s.unread (f.a % 256) = 63) ∧
    (∃ w : Nat, w % 2 ^ 32 ≠ 0) ∧
    (∃ (s : State) (c : Fin 20) (w : Nat), c.val / 2 = s.managerPair ∧ (s.writeReg (.core c) CORE_WDOG.addr w).core.wdog.isSome = true) ∧
    (∃ (s : State) (c : Fin 20), c.val / 2 ≠ s.managerPair) ∧
    (∃ s : State, s.core.wdog = some 0 ∧ 0 + 1000000 * max 1 (s.get CORE_WDOG.timeout) = s.now) ∧
    (∃ (status ofs : Nat), ofs + 1 = 0x10000000 ∧ status % 256 ≠ stOK) ∧
    (∃ (s : State) (status ofs : Nat), ofs + 1 = 0x10000000 ∧ status % 256 ≠ stOK ∧ s.get (CORE_STAT.mode 9) = 0) ∧ (∃ a : Nat, 0x40000000 = a) ∧
    (∃ s : State, s.get (CORE_WINSEL.pair 3) = 9 ∧ s.pairHalted (s.get (CORE_WINSEL.pair 3)) = true) ∧
    (∃ s : State, s.get (CORE_WINSEL.pair 3) = 9 ∧ s.pairHalted (s.get (CORE_WINSEL.pair 3)) = false) :=
  let lock := [(CORE_STAT.mode 9, 0), (CORE_STAT.run 9, 1)]
  ⟨⟨st (lock ++ [(CORE_STAT.role 9, 1)]), by decide +kernel⟩, ⟨st (lock ++ [(CORE_STAT.role 9, 0)]), by decide +kernel⟩,
    ⟨{ State.reset with cst := { restart := true, fwCopy := some 1, flash := bareFirmware 1 }, cru := { bench := true } }, by decide +kernel⟩,
    ⟨{ State.reset with core := { unread := [(9, 64)] } }, aFrame 6 0 0x8009, by decide +kernel⟩,
    ⟨{ State.reset with core := { unread := [(9, 63)] } }, aFrame 6 0 0x8009, by decide +kernel⟩, ⟨2 ^ 31, by decide +kernel⟩,
    ⟨{ State.reset with core := { wdog := some 0 } }, 0, 0, by decide +kernel⟩, ⟨State.reset, 19, by decide +kernel⟩,
    ⟨{ st [(CORE_WDOG.timeout, 1)] with core := { wdog := some 0 }, now := 1000000 }, by decide +kernel⟩,
    ⟨stNO_NODE, 0xFFFFFFF, by decide +kernel⟩, ⟨State.reset, stNO_NODE, 0xFFFFFFF, by decide +kernel⟩, ⟨_, rfl⟩,
    ⟨st [(CORE_WINSEL.pair 3, 9), (CORE_STAT.run 9, 3)], by decide +kernel⟩,
    ⟨st [(CORE_WINSEL.pair 3, 9), (CORE_STAT.run 9, 2)], by decide +kernel⟩⟩

theorem witness_CoreMemoryFrame :
    (∃ (s : State) (ofs : Fin 0x100000) (bs : List Nat), s.foreignCore .host = false ∧ s.get (CORE_WINSEL.pair 3) = 9 ∧
      ofs.val + bs.length = 0x40001 ∧ s.pairHalted 9 = true ∧ s.get (CORE_STAT.mode 9) = 0) ∧
    (∃ (s : State) (ofs : Fin 0x100000) (bs : List Nat), s.foreignCore .host = false ∧ s.get (CORE_WINSEL.pair 3) = 9 ∧
      ofs.val + bs.length = 0x100000 ∧ s.pairHalted 9 = true ∧ s.get (CORE_STAT.mode 9) ≠ 0) ∧
    (∃ (s : State) (ofs : Fin 0x100000) (bs : List Nat), s.foreignCore .host = false ∧ s.get (CORE_WINSEL.pair 3) = 9 ∧
      ofs.val + bs.length = 0x100000 ∧ s.pairHalted 9 = false) :=
  ⟨⟨st [(CORE_WINSEL.pair 3, 9), (CORE_STAT.run 9, 3)], 0x3FFFF, [7, 8], by decide +kernel⟩,
    ⟨st [(CORE_WINSEL.pair 3, 9), (CORE_STAT.run 9, 3), (CORE_STAT.mode 9, 1)], 0xFFFFF, [7], by decide +kernel⟩,
    ⟨st [(CORE_WINSEL.pair 3, 9), (CORE_STAT.run 9, 2)], 0xFFFFF, [7], by decide +kernel⟩⟩

theorem witness_SleepCommands :
    (∃ s : State, s.clusterDepth 11 = 0 ∧ s.chosenDepth 11 ≠ 0 ∧ s.get NODE_SLEEPCTL.hold_run = 0 ∧ s.get (CL_STATUS.in_reset 11) = 0 ∧
      s.slp.stowed = false) ∧
    (∃ s : State, s.slp.stowed = false ∧ s.allowed false ≠ (s.put NODE_SLEEPSTAT.allowed (s.allowed false)).sleepState) ∧
    (∃ (s : State) (cause : Fin 16), s.slp.stowed = false ∧ cause.val ∈ [wkPAD, wkACCESS, wkQUENCH, wkSEAM]) ∧
    (∃ s : State, s.slp.stowed = false ∧ s.dieTarget = some 101000 ∧ spNAP = s.sleepState ∧
      101000 = s.ns + s.lead + wakeLatency s.sleepState ∧
      ((s.put NODE_SLEEPSTAT.last_wake wkSCHEDULE).wakeNode spDOZE).ns + 800 ≤ 101000) ∧
    (∃ w : Nat, State.reset.foreignCore .host = false ∧ bit w 0 = false ∧ bit w 1 = true) ∧
    (∃ w : Nat, State.reset.foreignCore .host = false ∧ bit w 0 = false ∧ bit w 1 = false) ∧
    (∃ s : State, (s.writeReg .host NODE_SLEEPCTL.addr (withBit 0 0)).mayStow = true) ∧
    (∃ s : State, (s.writeReg .host NODE_SLEEPCTL.addr (withBit 0 0)).mayStow = false) ∧
    (∃ s : State, s.slp.stowed = true ∧ s.slp.waking = false ∧ s.linkState 1 = lsSTOWED) ∧
    (∃ s : State, s.linkState 1 = lsSTOWED ∧ s.slp.stowed = false) ∧
    (∃ s : State, s.slp.waking = true ∧ (List.range 8).any (fun i =>
      (({ s with time := s.aonNow 5, slp := { s.slp with stowed := false, waking := false } } : State).setSleep spRUN).tlogPending i) = false) ∧
    (∃ s : State, s.wanted 5 = [15] ∧ s.mayStart 5 15 = true) ∧ (∃ s : State, s.wanted 3 = [107] ∧ s.mayStart 3 107 = true) ∧
    (∃ (s : State) (f : Frame), spNAP = s.sleepState ∧ s.slp.stowed = false ∧
      ((SMap.getD s.slp.ingress 1 []).map frameLen).sum + frameLen f ≤ 16384) :=
  let mayStow := (NODE_STATE.state, nsSERVICE) :: (NODE_SLEEPCFG.max_state, spSTOW) :: (HOST_CFG.head_cast, 2) ::
    (List.range 12).map (fun k => (NODE_CLSLEEP.class_ k, 4))
  ⟨⟨st [(NODE_CLSLEEP.class_ 11, 4), (CL_STATUS.in_reset 11, 0)], by decide +kernel⟩,
    ⟨st [(NODE_SLEEPSTAT.state, spNAP)], by decide +kernel⟩, ⟨State.reset, 10, by decide +kernel⟩,
    ⟨ringAt {} [(NODE_SLEEPSTAT.state, spNAP), (NODE_SLEEPCFG.lead, 2), (RING_SLOT.offset State.reset.nodeId 0, 1000),
      (RING_SLOTLEN.len State.reset.nodeId 0, 3000)] 100000, by decide +kernel⟩,
    ⟨2, by decide +kernel⟩, ⟨0, by decide +kernel⟩, ⟨st mayStow, by decide +kernel⟩, ⟨State.reset, by decide +kernel⟩,
    ⟨{ st [(RING_LSTAT.state 1, lsSTOWED)] with slp := { stowed := true } }, by decide +kernel⟩,
    ⟨st [(RING_LSTAT.state 1, lsSTOWED)], by decide +kernel⟩, ⟨{ State.reset with slp := { stowed := true, waking := true } }, by decide +kernel⟩,
    ⟨{ State.reset with slp := { wanted := [(5, [15])] } }, by decide +kernel⟩,
    ⟨{ st [(CL_STATUS.in_reset 11, 0)] with slp := { wanted := [(3, [107])] } }, by decide +kernel⟩,
    ⟨st [(NODE_SLEEPSTAT.state, spNAP)], aFrame 0 0 0, by decide +kernel⟩⟩

/-- Field FET 15 with more register fields. -/
def fetAt (x : Fet) (l : List (Fld × Nat) := []) (now : Nat := 0) (u : Nat := 15) : State :=
  { st l with pow := { State.reset.pow with fets := [(u, x)] }, now := now }

theorem witness_FetCommands :
    (∃ s : State, s.get PWR_STATUS.card_state = psSEAT) ∧ (∃ s : State, s.get PWR_STATUS.card_state ≠ psSEAT) ∧
    (∃ (s : State) (lo hi : Nat), s.get (fetState 15) = psWAIT_TEMP ∧ s.get (fetShort 15) = 0 ∧ s.inWindow lo = true ∧
      s.inWindow hi = true ∧ s.coolEnough 15 = true) ∧
    (∃ s : State, s.get PWR_STATUS.card_state = psWAIT_TEMP ∧ (s.fet 16).cold = true ∧ (s.fet 16).measAt = none) ∧
    (∃ (s : State) (t : Nat), s.get PWR_STATUS.card_state = psWAIT_TEMP ∧ (s.fet 16).cold = true ∧ (s.fet 16).measAt = none ∧
      (s.puts [(PWR_STATUS.sensor_fault, 0), (PWR_CARDMEAS1.t_meas, min t 255)]).fetRestart 16 = t) ∧
    (∃ (s : State) (supply vout : Nat), (s.feedMeasure 15 supply vout).get (fetState 15) = psRAMP ∧
      (s.feedMeasure 15 supply vout).outputGood supply vout = true) ∧
    (∃ s : State, s.gateOn 15 = true ∧ (s.fet 15).pgAt = none) ∧ (∃ s : State, (s.fet 15).limitAt = some 0 ∧ 0 + 1000000 = s.now) ∧
    (∃ s : State, s.gateOn 15 = true ∧ s.get (fetLimit 15) = 1 ∧ 100 * s.fetTime 15 = s.faultTicks 15) ∧
    (∃ (s : State) (v : Nat), s.gateOn 16 = true ∧ s.inWindow v = false) ∧ (∃ (s : State) (v : Nat), s.gateOn 15 = true ∧ s.inWindow v = false) ∧
    (∃ s : State, s.get (fetState 15) = psRETRY_WAIT ∧ (s.fet 15).offAt = some 0 ∧ 0 + 12800000 * s.fetTime 15 = s.now ∧ s.fetRetries 15 = 0) ∧
    (∃ s : State, s.get (fetState 15) = psRETRY_WAIT ∧ (s.fet 15).offAt = some 0 ∧ 0 + 12800000 * s.fetTime 15 = s.now ∧
      s.fetRetries 15 ≠ 0 ∧ s.fetRetries 15 = (s.fet 15).retries) ∧
    (∃ (s : State) (supply vout : Nat), s.gateOn 15 = false ∧ s.get (fetShort 15) = 0 ∧ supply < 5 * vout ∧ (s.fet 15).offAt = some 0 ∧
      0 + 10000000 + 1 = s.now) :=
  let win := [(PWR_VINWIN.uv, 40), (PWR_VINWIN.ov, 60)]
  ⟨⟨st [(PWR_STATUS.card_state, psSEAT)], by decide +kernel⟩, ⟨st [(PWR_STATUS.card_state, psON)], by decide +kernel⟩,
    ⟨fetAt {} ([(FEED_STAT.state 15, psWAIT_TEMP), (PWR_FIELD.t_diew, 40), (FEED_CFG1.t_restart 15, 60)] ++ win), 1000, 1500, by decide +kernel⟩,
    ⟨fetAt { cold := true } [(PWR_STATUS.card_state, psWAIT_TEMP)] 0 16, by decide +kernel⟩,
    ⟨fetAt { cold := true } [(PWR_STATUS.card_state, psWAIT_TEMP), (PWR_CARDCFG1.t_restart, 60)] 0 16, 60, by decide +kernel⟩,
    ⟨st [(FEED_STAT.state 15, psRAMP), (PWR_VINWIN.pg_drop, 2)], 1010, 1000, by decide +kernel⟩,
    ⟨fetAt {} [(FEED_STAT.state 15, psON)], by decide +kernel⟩, ⟨fetAt { limitAt := some 0 } [] 1000000, by decide +kernel⟩,
    ⟨fetAt { timer := 300, limitAt := some 0 } [(FEED_STAT.state 15, psON), (FEED_STAT.limit 15, 1), (FEED_CFG0.ftimer 15, 5)] 200000,
      by decide +kernel⟩,
    ⟨fetAt {} ((PWR_STATUS.card_state, psON) :: win) 0 16, 999, by decide +kernel⟩,
    ⟨fetAt {} ((FEED_STAT.state 15, psON) :: win), 1501, by decide +kernel⟩,
    ⟨fetAt { offAt := some 0 } [(FEED_STAT.state 15, psRETRY_WAIT), (FEED_CFG0.ftimer 15, 5), (FEED_CFG0.retry_max 15, 0)] 64000000, by decide +kernel⟩,
    ⟨fetAt { offAt := some 0, retries := 3 } [(FEED_STAT.state 15, psRETRY_WAIT), (FEED_CFG0.ftimer 15, 5), (FEED_CFG0.retry_max 15, 3)] 64000000,
      by decide +kernel⟩,
    ⟨fetAt { offAt := some 0 } [(FEED_STAT.state 15, psOFF)] 10000001, 4999, 1000, by decide +kernel⟩⟩

theorem witness_SupplyCommands :
    (∃ (s : State) (supply vout idle : Nat), let v := s.feedMeasure 15 supply vout
      v.get (fetPg 15) = 0 ∧ v.get (fetState 15) = psON ∧ v.outputGood supply vout = true ∧ (s.fet 15).limitAt = none ∧
      (s.fet 15).clearAt = none ∧ (s.fet 15).onAt = some 0 ∧ 0 + 100000 * v.fetDelay 15 = v.now ∧ 100 * v.fetDelay 15 = idle ∧
      idle = (v.now - 0) / 1000) ∧
    (∃ (s : State) (supply vout : Nat), let v := s.feedMeasure 15 supply vout
      v.get (fetLimit 15) = 0 ∧ v.outputGood supply vout = false) ∧
    (∃ (s : State) (pg : Fin 16), let t := s.put PWR_STATUS.reg_pg pg
      t.regulators.find? (fun i => !bit (t.get PWR_STATUS.reg_en) i) = some 3 ∧ t.get PWR_STATUS.card_pg = 1 ∧
      t.get PWR_STATUS.reg_en ≠ 0 ∧ (t.regulators.filter (bit (t.get PWR_STATUS.reg_en))).all (bit pg) = true ∧
      100 * t.get PWR_SEQ.step = 500) ∧
    (∃ s : State, SMap.getD s.pow.enAt 3 none = some 0 ∧ 0 + 1000000 * max 1 (s.get PWR_SEQ.timeout) = s.now ∧
      bit (s.get PWR_STATUS.reg_en) 3 = true ∧ bit (s.get PWR_STATUS.reg_pg) 3 = false) ∧
    (∃ (s : State) (pg : Fin 16), let t := s.put PWR_STATUS.reg_pg pg
      s.pow.dieOff = true ∧ t.regulators.all (fun i => bit (t.get PWR_STATUS.reg_en) i && bit pg i) = true) ∧
    (∃ s : State, s.lev.wLost = false ∧ s.get (FEED_STAT.state 15) = psOFF ∧ s.get (FEED_STAT.short 15) = 0) ∧
    (∃ s : State, s.lev.wLost = false ∧ s.get (FEED_STAT.state 15) = psSHORT) ∧
    (∃ s : State, s.lev.wLost = false ∧ s.get (FEED_STAT.state 15) = psSTOPPED) ∧
    (∃ s : State, s.lev.wLost = false ∧ s.get (FEED_STAT.state 15) = psON) :=
  ⟨⟨fetAt { onAt := some 0 } [(FEED_STAT.state 15, psON), (PWR_VINWIN.pg_drop, 2), (FEED_CFG1.pg_delay 15, 5)] 500000, 1010, 1000, 500,
      by decide +kernel⟩,
    ⟨fetAt {} [(PWR_VINWIN.pg_drop, 2)], 1011, 1000, by decide +kernel⟩,
    ⟨st [(PWR_SEQ.mask, 15), (PWR_STATUS.reg_en, 7), (PWR_STATUS.card_pg, 1), (PWR_SEQ.step, 5)], 7, by decide +kernel⟩,
    ⟨{ st [(PWR_SEQ.timeout, 1), (PWR_STATUS.reg_en, 15), (PWR_STATUS.reg_pg, 7)] with
      pow := { enAt := [(3, some 0)] }, now := 1000000 }, by decide +kernel⟩,
    ⟨{ st [(PWR_SEQ.mask, 15), (PWR_STATUS.reg_en, 15)] with pow := { dieOff := true } }, 15, by decide +kernel⟩,
    ⟨st [(FEED_STAT.state 15, psOFF)], by decide +kernel⟩, ⟨st [(FEED_STAT.state 15, psSHORT)], by decide +kernel⟩,
    ⟨st [(FEED_STAT.state 15, psSTOPPED)], by decide +kernel⟩, ⟨st [(FEED_STAT.state 15, psON)], by decide +kernel⟩⟩

theorem witness_FaultCommands :
    (∃ f : FaultInfo, f.src ∈ sources ∧ f.src ≠ 0x84) ∧ State.reset.mayInject (.core 19) = false ∧ State.reset.mayInject .host = true ∧
    (∃ s : State, s.flt.pulseEnd = some 9 ∧ 9 = s.now ∧ s.flt.resetPending = false) ∧
    (∃ s : State, s.flt.pulseEnd = some 9 ∧ 9 = s.now ∧ s.flt.resetPending = true) ∧
    (State.reset.foreignCore .host = false ∧ State.reset.flt.pulseEnd = none) ∧ State.reset.foreignCore (.core 19) = true ∧
    (∃ (s : State) (src : Nat), src ∈ sources ∧ s.mayInject .host = true ∧ s.get FLT_CFG.inj_en = 0) ∧
    (∃ (s : State) (src : Nat), src ∈ sources ∧ s.mayInject .host = true ∧ s.get FLT_CFG.inj_en = 1) ∧
    (∃ (s : State) (f : Frame), s.isHead = true ∧ f.ftype = 0xA ∧ f.a = 0x30) ∧ (∃ s : State, s.activeHead = true) :=
  ⟨⟨{ src := 0xA2, master := 0, addr := 0 }, by decide +kernel⟩, by decide +kernel, by decide +kernel,
    ⟨{ State.reset with flt := { pulseEnd := some 9 }, now := 9 }, by decide +kernel⟩,
    ⟨{ State.reset with flt := { pulseEnd := some 9, resetPending := true }, now := 9 }, by decide +kernel⟩, by decide +kernel,
    by decide +kernel, ⟨st [(FLT_CFG.inj_en, 0)], 0x84, by decide +kernel⟩, ⟨st [(FLT_CFG.inj_en, 1)], 0x84, by decide +kernel⟩,
    ⟨st [(HOST_CFG.head_cast, 1)], aFrame 0xA 0 0x30, by decide +kernel⟩, ⟨st [(RING_STATUS.role, 1)], by decide +kernel⟩⟩

theorem witness_QuenchCommands :
    (∃ (s : State) (level : Bool), s.flt.pin ≠ level ∧ s.lev.inReset = false ∧ s.get QCH_CFG.pin_en = 1 ∧ s.get QCH_CFG.pin_pol = b2n level) ∧
    (∃ (s : State) (level : Bool), s.flt.pin = level) ∧
    (∃ s : State, s.get QCH_TMATCH_HI.armed = 1 ∧ reached 48 s.window s.flt.tmatch = true ∧ s.flt.byRing = true) ∧
    (∃ w : Nat, bit w 1 = false ∧ bit w 0 = false ∧ bit w 31 = false) ∧ (∃ w : Nat, bit w 31 = true) ∧
    (∃ (s : State) (f : Frame), f.ftype = 0xA ∧ f.a = 0x31 ∧ s.get QCH_CFG.bcast_in = 1 ∧ ofBytes (f.b.take 6) = 0) ∧
    (∃ (s : State) (f : Frame), f.ftype = 0xA ∧ f.a = 0x31 ∧ s.get QCH_CFG.bcast_in = 1 ∧ ofBytes (f.b.take 6) ≠ 0) :=
  ⟨⟨{ st [(QCH_CFG.pin_en, 1), (QCH_CFG.pin_pol, 1)] with lev := { inReset := false } }, true, by decide +kernel⟩,
    ⟨State.reset, false, by decide +kernel⟩,
    ⟨{ st [(QCH_TMATCH_HI.armed, 1)] with time := 7 * 65536, flt := { tmatch := 7, byRing := true } }, by decide +kernel⟩,
    ⟨0, by decide +kernel⟩, ⟨2 ^ 31, by decide +kernel⟩, ⟨st [(QCH_CFG.bcast_in, 1)], aFrame 0xA 127 0x31, by decide +kernel⟩,
    ⟨st [(QCH_CFG.bcast_in, 1)], aFrame 0xA 127 0x31 [0, 0, 0, 0, 0, 1], by decide +kernel⟩⟩

theorem witness_TriggersAndRearms :
    (∃ (s : State) (w : Nat) (sn : Snapshot), s.foreignCore .host = false ∧
      s.race.wrote.contains QCH_IGNORED.count.key = false ∧ bit w 1 = false ∧ s.get QCH_STATUS.held ≠ 0 ∧
      s.flt.snap = some sn ∧ sn.time ≠ s.nextEdge) ∧
    (∃ w : Nat, bit w 0 = true) ∧ (∃ w : Nat, bit w 0 = false) :=
  ⟨⟨{ st [(QCH_STATUS.held, 1)] with flt := { snap := some ⟨0, [], [], [], [], [], {}, [], []⟩ } }, 1, ⟨0, [], [], [], [], [], {}, [], []⟩,
      by decide +kernel⟩, ⟨3, by decide +kernel⟩, ⟨2, by decide +kernel⟩⟩

/-- An Ethernet frame that carries a PTPv2 message of a type. -/
def ptpBytes (type : Nat) : List Nat := List.replicate 12 0 ++ [0x88, 0xF7, type, 2] ++ List.replicate 60 0

theorem witness_TimeCommands :
    (∃ s : State, s.linkState 1 = lsUP ∧ s.get (RING_LSTAT.fidle_tx 1) = 0 ∧ (s.delay 1).sentAt = none) ∧
    (∃ s : State, s.linkUp 1 = true ∧ s.laneChange 1 = false) ∧ (∃ s : State, s.laneChange 1 = true) ∧
    (∃ s : State, (s.delay 1).request = some (65535, 7) ∧ s.laneChange 1 = true) ∧
    (∃ s : State, (s.delay 1).request = some (65535, 7) ∧ s.laneChange 1 = false) ∧
    (∃ s : State, s.activeHead = true ∧ s.tim.syncAt.getD 1 none = none) ∧
    (∃ (s : State) (f : Frame), f.ftype = 0xB ∧ f.a % 256 = 0 ∧ f.src ≠ s.nodeId ∧ s.lev.inReset = false ∧ s.activeHead = false) ∧
    (∃ s : State, s.get TIM_STATUS.state = tsLOCKED ∧ s.tim.measured + s.lossTime = s.now ∧ s.isHead = false ∧
      s.activeHead = false) ∧
    (∃ s : State, s.loseSources.get TIM_STATUS.state = tsLOCKED ∧ s.loseSources.tim.measured + s.loseSources.lossTime = s.loseSources.now ∧
      s.loseSources.activeHead = true ∧ s.loseSources.get TIM_STATUS.sec_in_use = 0 ∧ s.loseSources.get TIM_STATUS.sec_valid = 1) ∧
    (∃ (s : State) (w : Nat), bit w 1 = false ∧ bit w 2 = false ∧ s.activeHead = true ∧ s.get TIM_STATUS.sec_valid = 1) ∧
    (∃ (s : State) (w : Nat), bit w 1 = false ∧ bit w 2 = false ∧ s.activeHead = false) ∧
    (∃ (s : State) (w : Nat), bit w 0 = false ∧ bit w 2 = false ∧ s.activeHead = true ∧ s.get TIM_STATUS.pri_ok = 1) ∧
    (∃ s : State, s.activeHead = true ∧ s.thisCycle = some 0 ∧ s.tim.blendAt = none) ∧
    (∃ s : State, s.tim.pri.since = some 0 ∧ s.activeHead = true ∧ s.get TIM_SCALECFG.auto_revert = 1 ∧
      s.get TIM_STATUS.sec_in_use = 1 ∧ 0 + 1000000000 * max 1 (s.get TIM_SCALECFG.revert) = s.now) ∧
    (∃ (s : State) (w : Nat), ((s.put TIM_HOSTADJ_HI.ofs w).done .host stOK).isHead = false) ∧
    (∃ (s : State) (w : Nat), let t := (s.put TIM_HOSTADJ_HI.ofs w).done .host stOK
      t.isHead = true ∧ t.get TIM_SRC.pri_src = 1) ∧
    (∃ s : State, s.tim.latched = some 65536) :=
  ⟨⟨linkAt 6, by decide +kernel⟩, ⟨linkAt 7, by decide +kernel⟩, ⟨linkAt 7 { mirror := some lane4 }, by decide +kernel⟩,
    ⟨{ linkAt 7 { mirror := some lane4 } with tim := { delays := [(1, { request := some (65535, 7) })] } }, by decide +kernel⟩,
    ⟨{ State.reset with tim := { delays := [(1, { request := some (65535, 7) })] } }, by decide +kernel⟩,
    ⟨st [(RING_STATUS.role, 1)], by decide +kernel⟩, ⟨{ State.reset with lev := { inReset := false } }, aFrame 0xB 127 0, by decide +kernel⟩,
    ⟨{ st [(TIM_STATUS.state, tsLOCKED), (TIM_SYNCINT.us, 5), (TIM_LOSSTO.node, 4)] with now := 20000 }, by decide +kernel⟩,
    ⟨{ hostAt {} [(TIM_STATUS.state, tsLOCKED), (TIM_STATUS.sec_valid, 1), (TIM_LOSSTO.src, 1)] 100000000 with
      tim := { measured := 0 } }, by decide +kernel⟩,
    ⟨st [(RING_STATUS.role, 1), (TIM_STATUS.sec_valid, 1)], 0, by decide +kernel⟩, ⟨State.reset, 0, by decide +kernel⟩,
    ⟨st [(RING_STATUS.role, 1), (TIM_STATUS.pri_ok, 1)], 0, by decide +kernel⟩, ⟨ringAt {} [(RING_STATUS.role, 1)], by decide +kernel⟩,
    ⟨{ st [(RING_STATUS.role, 1), (TIM_SCALECFG.auto_revert, 1), (TIM_STATUS.sec_in_use, 1), (TIM_SCALECFG.revert, 1)] with
      tim := { pri := { since := some 0 } }, now := 1000000000 }, by decide +kernel⟩,
    ⟨st [(HOST_CFG.head_cast, 2)], 0, by decide +kernel⟩, ⟨st [(HOST_CFG.head_cast, 1), (TIM_SRC.pri_src, 1)], 0, by decide +kernel⟩,
    ⟨{ State.reset with tim := { latched := some 65536 } }, by decide +kernel⟩⟩

theorem witness_PtpCommands :
    (∃ f : Frame, isPtp f.payload = false) ∧
    (∃ f : Frame, isPtp f.payload = true ∧ ptpType f.payload = 0) ∧ (∃ f : Frame, isPtp f.payload = true ∧ ptpType f.payload = 8) ∧
    (∃ f : Frame, isPtp f.payload = true ∧ ptpType f.payload = 10) ∧
    (∃ (s : State) (f : Frame), isPtp f.payload = true ∧ ptpType f.payload = 9 ∧ s.get (TIM_ETHCFG.tc_mode 1) = 1) ∧
    (∃ (s : State) (f : Frame), isPtp f.payload = true ∧ ptpType f.payload = 1 ∧ s.get (TIM_ETHCFG.tc_mode 1) = 0) ∧
    (∃ s : State, s.get (TIM_ETHCFG.tc_mode 1) = 1 ∧ s.tim.pdelayAt.getD 1 none = none) ∧
    (∃ s : State, s.isHead = false) ∧
    (∃ (s : State) (d : Fin 256), s.isHead = true ∧ s.get TIM_SRC.sec_src = 0 ∧ s.get TIM_SRC.ptp_dom0 ≠ d.val) ∧
    (∃ (s : State) (d : Fin 256), s.isHead = true ∧ s.get TIM_SRC.pri_src = 0 ∧ s.get TIM_SRC.ptp_dom0 = d.val ∧
      s.get TIM_SRC.sec_src = 0 ∧ s.get TIM_SRC.ptp_dom1 ≠ d.val) ∧
    (∃ (s : State) (d : Fin 256), s.isHead = true ∧ s.get TIM_SRC.pri_src = 1 ∧ s.get TIM_SRC.sec_src = 2 ∧
      s.get TIM_SRC.ptp_dom1 = d.val ∧ (s.ptpClock 1).master = some 7 ∧ s.get TIM_SRC.profile = 0) :=
  ⟨⟨aFrame 8 0 0, by decide +kernel⟩, ⟨aFrame 8 0 0 [] (ptpBytes 0), by decide +kernel⟩, ⟨aFrame 8 0 0 [] (ptpBytes 8), by decide +kernel⟩,
    ⟨aFrame 8 0 0 [] (ptpBytes 10), by decide +kernel⟩,
    ⟨st [(TIM_ETHCFG.tc_mode 1, 1)], aFrame 8 0 0 [] (ptpBytes 9), by decide +kernel⟩,
    ⟨st [(TIM_ETHCFG.tc_mode 1, 0)], aFrame 8 0 0 [] (ptpBytes 1), by decide +kernel⟩, ⟨st [(TIM_ETHCFG.tc_mode 1, 1)], by decide +kernel⟩,
    ⟨State.reset, by decide +kernel⟩, ⟨st [(HOST_CFG.head_cast, 1), (TIM_SRC.sec_src, 0)], 255, by decide +kernel⟩,
    ⟨st [(HOST_CFG.head_cast, 1), (TIM_SRC.ptp_dom0, 255)], 255, by decide +kernel⟩,
    ⟨{ st [(HOST_CFG.head_cast, 1), (TIM_SRC.pri_src, 1), (TIM_SRC.sec_src, 2), (TIM_SRC.ptp_dom1, 255)] with
      tim := { clocks := [{}, { master := some 7 }] } }, 255, by decide +kernel⟩⟩

theorem witness_GateCommands :
    (∃ s : State, s.listOn 1 = false) ∧ (∃ s : State, s.listOn 3 = true) ∧
    (∃ (s : State) (w : Nat), bit w 1 = false ∧ s.get (ETH_GSTAT.pending 3) = 0 ∧ s.stagedOk 3 = true) ∧
    (∃ (s : State) (w : Nat), bit w 1 = false ∧ bit w 0 = false ∧ s.get (ETH_GSTAT.pending 3) = 1) ∧
    (∃ (s : State) (w : Nat), bit w 1 = false ∧ s.get (ETH_GSTAT.pending 3) = 0 ∧ s.stagedOk 3 = false) ∧
    (∃ s : State, s.changeAt 3 = some 70000 ∧ 70000 = s.ns) ∧
    (∃ (s : State) (x : SwCopy), s.swQueue (queueKey 9 8 7) = [x] ∧ x.eligible = some 1 ∧ s.t16 < 1 ∧ x.onWheel = false ∧
      (s.setSwQueue (queueKey 9 8 7) [{ x with onWheel := true }]).inHorizon 1 = true) ∧
    (∃ (s : State) (x : SwCopy), s.swQueue (queueKey 9 8 7) = [x] ∧ x.eligible = some (4095 * 1024 + 1) ∧ s.t16 < 4095 * 1024 + 1 ∧
      x.onWheel = false ∧ (s.setSwQueue (queueKey 9 8 7) [{ x with onWheel := true }]).inHorizon (4095 * 1024 + 1) = false) ∧
    (∃ s : State, s.ns / 64 % 4096 ≠ s.gates.ptr ∧ s.gates.ptr = 4094) :=
  ⟨⟨st [(ETH_GCFG.en 1, 0)], by decide +kernel⟩, ⟨st [(ETH_GCFG.en 3, 1)], by decide +kernel⟩,
    ⟨st [(ETH_GCYCLE.cycle 3, 1000), (ETH_GCLSTG.word 3 0 0, 2 ^ 31 + 0xFF), (ETH_GCLSTG.word 3 0 1, 1000)], 0, by decide +kernel⟩,
    ⟨st [(ETH_GSTAT.pending 3, 1)], 0, by decide +kernel⟩, ⟨st [(ETH_GCYCLE.cycle 3, 16)], 0, by decide +kernel⟩,
    ⟨{ ringAt {} [(ETH_GSTAT.pending 3, 1)] with gates := { changeAt := [(3, some 70000)] } }, by decide +kernel⟩,
    ⟨{ State.reset with time := 0, sw := { queues := [(queueKey 9 8 7, [{ aCopy with eligible := some 1 }])] } },
      { aCopy with eligible := some 1 }, by decide +kernel⟩,
    ⟨{ State.reset with time := 0, sw := { queues := [(queueKey 9 8 7, [{ aCopy with eligible := some (4095 * 1024 + 1) }])] } },
      { aCopy with eligible := some (4095 * 1024 + 1) }, by decide +kernel⟩,
    ⟨{ State.reset with time := 0, gates := { ptr := 4094 } }, by decide +kernel⟩⟩

/-- In the seam, out of boot, with an element due by command. -/
def dueAt (key : Nat) (l : List (Fld × Nat) := []) : State :=
  { ringAt {} ((NODE_STATE.state, nsSERVICE) :: l) 61000 with wear := { forced := [key] } }

theorem witness_WearCommands :
    (∃ (s : State) (ms : List (Nat × Nat)), (wearKind (s.elementKey (.unit 0x0200))).bind (fun t => monitors t (.oscillator 400)) = some ms ∧
      wearPool (s.elementKey (.unit 0x0200)) = none) ∧
    (∃ s : State, s.annealTurn (unitPE 11 0) = true ∧ s.recastHere 11 = false ∧ s.get (CL_STATUS.spare_pe 11) = 8 ∧
      s.clusterDepth 11 < 2 ∧ s.seamLate = false ∧ s.mayMove 11 0 = true) ∧
    (∃ s : State, s.laneTurn (0x0500 + 5 * 1 + 3) = true ∧ s.linkUp 1 = true ∧ s.get (RING_LSTAT.spare_ready 1) = 1 ∧ (s.link 1).mirror = none) ∧
    (∃ s : State, s.annealTurn (s.elementKey (.wire 2 1 63)) = true ∧ s.seamLate = false ∧ (s.noteAnneal (20 + 2 * 2 + 1)).get (WEAR_D2D.used0 2 1) = 0) ∧
    (∃ s : State, s.annealTurn (s.elementKey (.leg 11 31)) = true ∧ s.recastHere 11 = false) ∧
    (∃ s : State, s.wear.copying = none ∧ s.nodeState ≠ nsBOOT ∧ s.dueList.find? (fun k => wearPool k == some 15) = some (0x0600 + 3)) ∧
    (∃ s : State, s.wear.copying = some 3 ∧ s.inSeam s.ns = true ∧ s.nodeState ≠ nsBOOT) ∧
    (∃ s : State, s.annealTurn (s.elementKey (.row 3 255 65535)) = true) ∧
    (∃ (s : State) (rest : List Nat), s.sparePairs = 8 :: rest ∧ s.nodeState ≠ nsBOOT ∧ s.get (CORE_STAT.role 7) = 2 ∧
      s.dueList.find? (fun k => wearPool k == some 14) = some (0x0400 + 2 * s.get (WEAR_PAIRMAP.phys 7))) ∧
    (∃ s : State, s.annealStatus (s.unitKey (s.get WEAR_SEL.unit)) = stOK) ∧
    (∃ s : State, s.annealStatus (s.unitKey (s.get WEAR_SEL.unit)) = stSTATE) :=
  ⟨⟨State.reset, _, rfl, by decide +kernel⟩,
    ⟨dueAt (unitPE 11 0) [(CL_STATUS.spare_pe 11, 8)], by decide +kernel⟩,
    ⟨{ dueAt 0x0508 [(RING_LSTAT.state 1, 6), (RING_LSTAT.spare_ready 1, 1)] with time := 0 }, by decide +kernel⟩,
    ⟨dueAt (0x10000 + 256 * 5 + 63), by decide +kernel⟩, ⟨dueAt (0x30000 + 64 * 11 + 62), by decide +kernel⟩,
    ⟨dueAt 0x0603, by decide +kernel⟩, ⟨{ dueAt 0x0603 with wear := { copying := some 3 } }, by decide +kernel⟩,
    ⟨dueAt (0x1000000 * 4 + 0x10000 * 255 + 65535), by decide +kernel⟩,
    ⟨dueAt (0x0400 + 2 * State.reset.get (WEAR_PAIRMAP.phys 7)) [(CORE_STAT.role 7, 2), (CORE_STAT.role 8, 3)], _, rfl, by decide +kernel⟩,
    ⟨st [(WEAR_SEL.unit, unitPE 11 0), (CL_STATUS.spare_pe 11, 8)], by decide +kernel⟩,
    ⟨st [(WEAR_SEL.unit, unitPE 11 0), (CL_STATUS.spare_pe 11, 15), (WEAR_POOL.left 11, 0)], by decide +kernel⟩⟩

theorem witness_IdleStepIsATick :
    (State.reset.pending = [] ∧ State.reset.readyAccess = none) ∧
    (∃ (s : State) (c : Instr) (t : State), s.pending = [] ∧ s.readyAccess = some (c, t)) :=
  ⟨⟨rfl, by decide +kernel⟩,
    ⟨{ State.reset with slp := { accesses := [(11, .qpop 11 31 .host)] } }, .qpop 11 31 .host, { State.reset with slp := {} }, rfl,
      by decide +kernel⟩⟩

theorem witness_CommandsLeaveTheQueue : ∃ (c : Instr) (s t : State), exec c s = .next t :=
  ⟨.entropyRecover, State.reset, _, rfl⟩

theorem witness_StepKeepsSound : ∃ s t : State, s.sound ∧ step s = .next t :=
  ⟨State.reset, _, ⟨by decide +kernel, by decide +kernel⟩, rfl⟩

theorem witness_RegisterCommandsFrame : ∃ (s : State) (w : Nat), s.peRunning 11 8 = true ∧ bit w 31 = false :=
  ⟨st [(PE_STATUS.run 11 8, 1)], 0, by decide +kernel⟩

theorem witness_LdtTakesTwoWords : ∃ (w : Nat) (s : State) (x y : QWord) (xs : List QWord),
    s.stands 11 8 w ∧ opcodeOf w = 0x0E ∧ (s.pe 11 8).rx = x :: y :: xs :=
  ⟨insn 0x0E 0 0 0, peAt (insn 0x0E 0 0 0) [] { rx := [⟨2 ^ 32 - 1, 0⟩, ⟨0x7FFFF, 15⟩] }, ⟨2 ^ 32 - 1, 0⟩, ⟨0x7FFFF, 15⟩, [],
    stands_of (by decide +kernel), by decide +kernel⟩

theorem witness_EventWordAndInterrupt :
    (∃ (w : Nat) (s : State), s.stands 11 8 w ∧ opcodeOf w = 0x0F ∧ s.get (PE_QBIND.tx_en 11 8) = 1 ∧ (s.pe 11 8).tx.length = 7) ∧
    (∃ (s : State) (w : QWord), (s.pe 11 8).tx = [(w, true)] ∧ s.get (PE_QBIND.tx_en 11 8) = 1 ∧
      (s.queue 11 (s.get (PE_QBIND.tx_queue 11 8))).late = [] ∧ s.qTakes 11 (s.get (PE_QBIND.tx_queue 11 8)) = true ∧
      s.qFull 11 (s.get (PE_QBIND.tx_queue 11 8)) = false ∧ s.get (CL_IRQEN.event 11) ≠ 0) :=
  ⟨⟨insn 0x0F 1 10 0xFFFF, peAt (insn 0x0F 1 10 0xFFFF) [(PE_QBIND.tx_en 11 8, 1)] { tx := List.replicate 7 (⟨0, 0⟩, false) },
      stands_of (by decide +kernel), by decide +kernel⟩,
    ⟨peAt 0 [(PE_QBIND.tx_en 11 8, 1), (PE_QBIND.tx_queue 11 8, 31), (CL_QCFG.en 11 31, 1), (CL_QCFG.depth 11 31, 4), (CL_IRQEN.event 11, 1)]
      { tx := [(⟨5, 2⟩, true)] }, ⟨5, 2⟩, by decide +kernel⟩⟩

theorem witness_ShadowBankClosedWhileASwapPends :
    (∃ (s : State) (i : Fin 128), s.get (PE_STATUS.swap_pending 11 8) ≠ 0 ∧ i.val = 127 ∧ i.val / 64 ≠ s.get (PE_STATUS.active_bank 11 8)) ∧
    (∃ (s : State) (i : Fin 128), s.get (PE_STATUS.swap_pending 11 8) ≠ 0 ∧ i.val = 63 ∧ i.val / 64 ≠ s.get (PE_STATUS.active_bank 11 8)) :=
  ⟨⟨st [(PE_STATUS.swap_pending 11 8, 1), (PE_STATUS.active_bank 11 8, 0)], 127, by decide +kernel⟩,
    ⟨st [(PE_STATUS.swap_pending 11 8, 1), (PE_STATUS.active_bank 11 8, 1)], 63, by decide +kernel⟩⟩

theorem witness_EngineInstructionFrame : ∃ (w : Nat) (s : State), s.stands 11 8 w ∧ (s.pe 11 8).stepping = false :=
  ⟨insn 0x00 0 0 0, peAt (insn 0x00 0 0 0), stands_of (by decide +kernel), by decide +kernel⟩

theorem witness_StreamQueueNeverHoldsBack :
    (∃ s : State, s.race.wrote.contains (CL_QDROP.drops 11 31).key = false ∧ s.qOn 11 31 = true ∧ s.qStream 11 31 = true ∧ (s.queue 11 31).held = [] ∧ (s.queue 11 31).late = [] ∧
      (s.queue 11 31).words.length + 1 = s.qCast 11 31 - 1) ∧
    (∃ (s : State) (g : QWord), s.qOn 11 31 = true ∧ s.qStream 11 31 = true ∧ (s.queue 11 31).held = [] ∧ (s.queue 11 31).late = [] ∧
      s.qCast 11 31 - 1 < (s.queue 11 31).words.length + 1 ∧ (s.queue 11 31).gapOpen = true ∧
      (s.queue 11 31).words = List.replicate 3 ⟨7, 0⟩ ++ [g]) ∧
    (∃ s : State, s.qOn 11 31 = true ∧ s.qStream 11 31 = true ∧ (s.queue 11 31).held = [] ∧ (s.queue 11 31).late = [] ∧
      s.qCast 11 31 = (s.queue 11 31).words.length + 1 ∧ (s.queue 11 31).gapOpen = false) ∧
    (∃ (s : State) (m : QWord), s.qOn 11 31 = true ∧ s.qStream 11 31 = true ∧ (s.queue 11 31).held = [] ∧ (s.queue 11 31).late = [] ∧
      s.busQueue 11 31 = true ∧ s.qWords 11 31 = [m]) :=
  let stream := [(CL_QCFG.class_ 11 31, 1)]
  ⟨⟨queueAt { words := List.replicate 2 ⟨7, 0⟩ } stream, by decide +kernel⟩,
    ⟨queueAt { words := List.replicate 3 ⟨7, 0⟩ ++ [⟨0xFFFFFF, 4⟩], gapOpen := true } stream, ⟨0xFFFFFF, 4⟩, by decide +kernel⟩,
    ⟨queueAt { words := List.replicate 3 ⟨7, 0⟩ } stream, by decide +kernel⟩,
    ⟨queueAt { words := [⟨1, 4⟩], gapOpen := true } stream, ⟨1, 4⟩, by decide +kernel⟩⟩

theorem witness_QueuePushFrame : State.reset.get (NODE_CLSLEEP.depth 11) = 0 := by decide +kernel

theorem witness_FieldWritesByAccessCode :
    State.reset.get FLT_PIN.hold < 2 ^ FLT_PIN.hold.width ∧ State.reset.cst.committed = false ∧
    (∃ (s : State) (fs : List (Fld × Access)), s.cst.committed = true ∧ fs ≠ [] ∧ ∀ e ∈ fs, e.1.key = FLT_PIN.hold.key → e.2 = .rwl) :=
  ⟨by decide +kernel, by decide +kernel, ⟨{ State.reset with cst := { committed := true } }, [(FLT_PIN.hold, .rwl), (FLT_PIN.pulsing, .rw)],
    by decide +kernel⟩⟩

theorem witness_BulkRamWriteFrame :
    (∃ (a : Nat) (bs : List Nat), 0xC000000 = a ∧ 0 < bs.length ∧ bs.length ≤ 4096 ∧ a + bs.length ≤ 0xC200000) ∧
    (∃ (a : Nat) (bs : List Nat), 0xC000000 ≤ a ∧ 0 < bs.length ∧ bs.length = 4096 ∧ a + bs.length = 0xC200000) :=
  ⟨⟨0xC000000, [7], by decide⟩, ⟨0xC1FF000, List.replicate 4096 7, by decide +kernel⟩⟩

end Sys2Proof.Tests
end

section
/-! PROOFS. What issuing an instruction, the T register, the ports of an engine and a refused write do: the rules that the statements
about the port engines rest on. -/

namespace Sys2Proof.Machine

/-! ### An engine that stands at an instruction goes on -/

/-- A command that issues the instruction an engine stands at ends with the engine gone on at the next address. -/
theorem ends_goOn_of_stands {c : Instr} {s t : State} {k n w op : Nat} {eff : State → Nat → Eff} (h : s.stands k n w)
    (ho : opcodeOf w = op) (hc : exec c s = fin (s.peIssue k n op eff)) (hgo : eff (s.noteIssue k n) w = .go t) :
    Ends c s (t.peGoOn k n ((s.get (PE_STATUS.pc k n) + 1) % 64)) := by
  rw [Ends, hc, State.peIssue_of_stands h ho, hgo, fin, State.peApply, State.pcNext_noteIssue]

theorem SameRegs.noteIssue (s : State) (k n : Nat) (fs : List Fld) : SameRegs s (s.noteIssue k n) fs :=
  fun g _ => State.get_noteIssue s k n g

/-! ### T (R50) -/

theorem State.get_putT_lo (s : State) (k n t fine : Nat) : (s.putT k n t fine).get (PE_T_LO.t_lo k n) = t % 2 ^ 32 := by
  simp only [State.putT, State.puts_cons, State.puts_nil]
  rw [State.get_put_ne _ _ _ _ (by simp [Fld.key, PE_T_LO.t_lo, PE_T_HI.t_fine, PE_T_LO.addr, PE_T_HI.addr]; omega),
    State.get_put_ne _ _ _ _ (by simp [Fld.key, PE_T_LO.t_lo, PE_T_HI.t_hi, PE_T_LO.addr, PE_T_HI.addr]),
    State.get_put_self]
  rfl

theorem State.get_putT_hi (s : State) (k n t fine : Nat) :
    (s.putT k n t fine).get (PE_T_HI.t_hi k n) = t / 2 ^ 32 % 2 ^ 16 := by
  simp only [State.putT, State.puts_cons, State.puts_nil]
  rw [State.get_put_ne _ _ _ _ (by simp [Fld.key, PE_T_HI.t_hi, PE_T_HI.t_fine]), State.get_put_self]
  rfl

theorem State.get_putT_fine (s : State) (k n t fine : Nat) : (s.putT k n t fine).get (PE_T_HI.t_fine k n) = fine % 2 ^ 3 :=
  State.get_put_self _ _ _

theorem SameRegs.putT {s t : State} {fs : List Fld} {k n : Nat} (v fine : Nat)
    (hfs : [PE_T_LO.t_lo k n, PE_T_HI.t_hi k n, PE_T_HI.t_fine k n] ⊆ fs) (h : SameRegs s t fs) :
    SameRegs s (t.putT k n v fine) fs :=
  ((h.put _ _ (hfs (by simp))).put _ _ (hfs (by simp))).put _ _ (hfs (by simp))

/-! ### LDT (R65) -/

/-- The engine's state once LDT has taken the words x and y and left xs in the RX port. -/
def State.ldtTake (s : State) (k n : Nat) (x y : QWord) (xs : List QWord) : State :=
  ((s.setPe k n { s.pe k n with rx := xs }).putT k n (x.data % 2 ^ 32 + 2 ^ 32 * bits y.data 0 16) (bits y.data 16 3)).put
    (PE_TAG.tag k n) y.tag

theorem effLdt_of_two_words {s : State} {k n : Nat} {x y : QWord} {xs : List QWord} (w : Nat)
    (h : (s.pe k n).rx = x :: y :: xs) : effLdt k n s w = .go (s.ldtTake k n x y xs) := by
  simp [effLdt, h, State.ldtTake]

section
variable (s : State) (k n : Nat) (x y : QWord) (xs : List QWord)

theorem State.rx_ldtTake : ((s.ldtTake k n x y xs).pe k n).rx = xs :=
  congrArg PE.rx (State.pe_setPe_self s k n { s.pe k n with rx := xs })

theorem State.get_ldtTake_of_ne_tag (f : Fld) (h : f.key ≠ (PE_TAG.tag k n).key) :
    (s.ldtTake k n x y xs).get f = ((s.setPe k n { s.pe k n with rx := xs }).putT k n
      (x.data % 2 ^ 32 + 2 ^ 32 * bits y.data 0 16) (bits y.data 16 3)).get f :=
  State.get_put_ne _ _ _ _ h

theorem State.get_ldtTake_lo : (s.ldtTake k n x y xs).get (PE_T_LO.t_lo k n) = x.data % 2 ^ 32 := by
  rw [State.get_ldtTake_of_ne_tag _ _ _ _ _ _ _
    (by simp [Fld.key, PE_T_LO.t_lo, PE_TAG.tag, PE_T_LO.addr, PE_TAG.addr]), State.get_putT_lo]
  omega

theorem State.get_ldtTake_hi : (s.ldtTake k n x y xs).get (PE_T_HI.t_hi k n) = y.data % 2 ^ 16 := by
  rw [State.get_ldtTake_of_ne_tag _ _ _ _ _ _ _
    (by simp [Fld.key, PE_T_HI.t_hi, PE_TAG.tag, PE_T_HI.addr, PE_TAG.addr]), State.get_putT_hi, bits]
  omega

theorem State.get_ldtTake_fine : (s.ldtTake k n x y xs).get (PE_T_HI.t_fine k n) = y.data / 2 ^ 16 % 8 := by
  rw [State.get_ldtTake_of_ne_tag _ _ _ _ _ _ _
    (by simp [Fld.key, PE_T_HI.t_fine, PE_TAG.tag, PE_T_HI.addr, PE_TAG.addr]; omega), State.get_putT_fine, bits]
  omega

theorem State.get_ldtTake_tag : (s.ldtTake k n x y xs).get (PE_TAG.tag k n) = y.tag % 16 := State.get_put_self _ _ _

/-- LDT writes T, its fine bits and TAG, and no other register. -/
theorem State.sameRegs_ldtTake : SameRegs s (s.ldtTake k n x y xs)
    [PE_T_LO.t_lo k n, PE_T_HI.t_hi k n, PE_T_HI.t_fine k n, PE_TAG.tag k n] := by
  have hpe : SameRegs s (s.setPe k n { s.pe k n with rx := xs })
      [PE_T_LO.t_lo k n, PE_T_HI.t_hi k n, PE_T_HI.t_fine k n, PE_TAG.tag k n] := fun _ _ => rfl
  exact (hpe.putT _ _ (by simp)).put _ _ (by simp)

end

/-! ### EVENT and the TX port (R63, R67) -/

/-- A bound port with fewer than 8 words has room for one more. -/
theorem State.txRoom_one {s : State} {k n : Nat} (h : (s.pe k n).tx.length < 8) : s.txRoom k n 1 = true := by
  simp [State.txRoom]; omega

theorem effEvent_of_room {s : State} {k n : Nat} (w : Nat) (h : s.txRoom k n 1 = true) :
    effEvent k n s w = .go (s.txPut k n ⟨s.eventWord k n w, tagEVENT⟩ (bit (fieldA w) 0)) := by
  simp [effEvent, h]

/-- A word put into a bound port stands behind the others. -/
theorem State.tx_txPut {s : State} {k n : Nat} (h : s.get (PE_QBIND.tx_en k n) = 1) (x : QWord) (raise : Bool) :
    ((s.txPut k n x raise).pe k n).tx = (s.pe k n).tx ++ [(x, raise)] := by
  simp [State.txPut, h]

/-- The word of EVENT, field by field. -/
theorem State.eventWord_fields (s : State) (k : Fin 12) (n w : Nat) :
    s.eventWord k n w % 2 ^ 16 = fieldImm w ∧
    s.eventWord k n w / 2 ^ 16 % 8 = s.get (PE_STATUS.logical k n) % 8 ∧
    s.eventWord k n w / 2 ^ 19 % 2 = 0 ∧
    s.eventWord k n w / 2 ^ 20 % 16 = k ∧
    s.eventWord k n w / 2 ^ 24 = s.readOp k n (fieldB w) % 256 := by
  have himm : fieldImm w < 2 ^ 16 := Nat.mod_lt _ (by positivity)
  unfold State.eventWord
  omega

/-- A cluster interrupt that rises sets its bit. -/
theorem State.get_clusterIrq (s : State) (k : Nat) (f en : Fld) :
    (s.clusterIrq k f en).get f = (s.get f ||| 1) % 2 ^ f.width := by
  have h : (s.setEvent f).get f = (s.get f ||| 1) % 2 ^ f.width := State.get_put_self _ _ _
  unfold State.clusterIrq; dsimp only; split <;> exact h

/-- A cluster interrupt that rises leaves the block where it is enabled. -/
theorem State.irq_mem_out_clusterIrq {s : State} {k : Nat} {f en : Fld} (h : (s.clusterIrq k f en).get en ≠ 0) :
    Emit.irq (0x0700 + k) f.lsb ∈ (s.clusterIrq k f en).out := by
  unfold State.clusterIrq at h ⊢
  dsimp only at h ⊢
  split
  case isTrue => simp [State.emit]
  case isFalse hen =>
    rw [if_neg hen] at h
    exact absurd (by simpa using h) hen

/-- A word with an event interrupt that a queue takes at once raises the interrupt (R67). -/
theorem State.qOffer_event {s : State} {k q : Nat} (x : QWord) (hlate : (s.queue k q).late = [])
    (htakes : s.qTakes k q = true) (hfull : s.qFull k q = false) :
    s.qOffer k q { word := x, bus := false, raise_ := true } =
      (s.qPush k q x).clusterIrq k (CL_IRQ.event k) (CL_IRQEN.event k) := by
  simp [State.qOffer, State.qPushNow, hlate, htakes, hfull]

/-- The oldest word of a bound TX port goes to its queue, where that does not hold it back. -/
theorem ends_txPortDeliver {k : Fin 12} {n : Fin 9} {s : State} {x : QWord} {raise : Bool} {rest : List (QWord × Bool)}
    (htx : (s.pe k n).tx = (x, raise) :: rest) (hen : s.get (PE_QBIND.tx_en k n) = 1)
    (hhold : s.qHolds k (s.get (PE_QBIND.tx_queue k n)) = false) :
    Ends (.txPortDeliver k n) s (s.portPush k n (s.get (PE_QBIND.tx_queue k n)) x raise rest) := by
  have hexec : exec (.txPortDeliver k n) s = execTxPortDeliver k n s := rfl
  rw [Ends, hexec]
  simp [execTxPortDeliver, htx, hen, hhold, fin]

/-! ### A refused write and the host's error log (R12, R72, R287) -/

/-- From s to t only registers of fs, the host interface and what has left the block have changed, and what had left it stays. -/
structure LogStep (fs : List Fld) (s t : State) : Prop where
  only : t = { s with regs := t.regs, out := t.out, host := t.host }
  regs : SameRegs s t fs
  out  : s.out ⊆ t.out

namespace LogStep

variable {fs : List Fld} {s t : State}

theorem refl (fs : List Fld) (s : State) : LogStep fs s s := ⟨rfl, SameRegs.refl s fs, List.Subset.refl _⟩

theorem put (h : LogStep fs s t) (f : Fld) (v : Nat) (hf : f ∈ fs) : LogStep fs s (t.put f v) where
  only := congrArg (fun u => State.put u f v) h.only
  regs := h.regs.put f v hf
  out  := h.out

theorem ite {u : State} (c : Prop) [Decidable c] (h : LogStep fs s t) (h' : LogStep fs s u) :
    LogStep fs s (if c then t else u) := by split <;> assumption

theorem hw (h : LogStep fs s t) (f : Fld) (v : Nat) (hf : f ∈ fs) : LogStep fs s (t.hw f v) :=
  ite _ h (h.put f v hf)

theorem bump (h : LogStep fs s t) (f : Fld) (hf : f ∈ fs) : LogStep fs s (t.bump f) := h.hw f _ hf

theorem emit (h : LogStep fs s t) (e : Emit) : LogStep fs s (t.emit e) where
  only := congrArg (fun u => State.emit u e) h.only
  regs := h.regs.emit e
  out  := fun _ hx => List.mem_append_left _ (h.out hx)

theorem setHost (h : LogStep fs s t) (x : HostSt) : LogStep fs s { t with host := x } where
  only := congrArg (fun u => { u with host := x }) h.only
  regs := h.regs
  out  := h.out

theorem foldl_put {ι : Type} (h : LogStep fs s t) (l : List ι) (f : ι → Fld) (v : ι → Nat) (hf : ∀ i ∈ l, f i ∈ fs) :
    LogStep fs s (l.foldl (fun u i => u.put (f i) (v i)) t) :=
  List.foldlRecOn l _ h (fun _ hu i hi => hu.put (f i) (v i) (hf i hi))

/-- A vector is sent, or it sets its pending bit (R279). -/
theorem vector (h : LogStep fs s t) (v : Nat) (hf : MSIX_PBA.word (v / 32) ∈ fs) : LogStep fs s (t.vector v) :=
  ite _ (h.put _ _ hf) (h.emit _)

/-- A new entry of the error log writes the entry, the write index and its counter, and sends vector 0 (R287). -/
theorem errLog (h : LogStep fs s t) (hnext : HOST_ERRLOG_WR.next ∈ fs) (hover : HOST_ERRLOG_WR.overwritten ∈ fs)
    (hpba : MSIX_PBA.word 0 ∈ fs) (hword : ∀ j < 8, HOST_ERRLOG.word (t.get HOST_ERRLOG_WR.next) j ∈ fs)
    (status detail idx : Nat) (write : Bool) (slot : Option Nat) (addr : Nat) :
    LogStep fs s (t.errLog status detail idx write slot addr) := by
  have hentry : ∀ ws : List Nat, LogStep fs s ((List.range 8).foldl
      (fun u j => u.put (HOST_ERRLOG.word (t.get HOST_ERRLOG_WR.next) j) (nth ws j)) t) :=
    fun ws => h.foldl_put _ _ _ (fun j hj => hword j (List.mem_range.mp hj))
  exact (((ite _ ((hentry _).bump _ hover) (hentry _)).setHost _).put _ _ hnext).vector 0 hpba

/-- A refused write counts in the refused counter, and is logged where the host made it (R12, R72). -/
theorem refuseWrite {o : Origin} {c : Fld} (h : LogStep fs s (t.refuse o c)) (hnext : HOST_ERRLOG_WR.next ∈ fs)
    (hover : HOST_ERRLOG_WR.overwritten ∈ fs) (hpba : MSIX_PBA.word 0 ∈ fs)
    (hword : ∀ j < 8, HOST_ERRLOG.word ((t.refuse o c).get HOST_ERRLOG_WR.next) j ∈ fs) (a : Nat) :
    LogStep fs s (t.refuseWrite o c a) :=
  ite _ (h.errLog hnext hover hpba hword _ _ _ _ _ _) h

end LogStep

/-- A refused access completes with STATE. -/
theorem State.done_mem_out_refuse (s : State) (o : Origin) (c : Fld) : Emit.done o stSTATE 0 0 [] ∈ (s.refuse o c).out := by
  simp [State.emit]

/-- The refused counter of a cluster is no register of the head's error log. -/
theorem State.get_errLogNext_refuse (s : State) (o : Origin) (k : Nat) :
    (s.refuse o (CL_REFUSED.count k)).get HOST_ERRLOG_WR.next = s.get HOST_ERRLOG_WR.next := by
  have hframe : SameRegs s (s.refuse o (CL_REFUSED.count k)) [CL_REFUSED.count k] :=
    ((SameRegs.refl s _).bump _ (by simp)).emit _
  refine hframe _ (fun f hf => ?_)
  rw [List.mem_singleton.mp hf]
  simp [Fld.key, HOST_ERRLOG_WR.next, HOST_ERRLOG_WR.addr, CL_REFUSED.count, CL_REFUSED.addr]
  omega

/-- While a swap is pending, a write of a program word of the shadow bank of an awake cluster is refused (R77). -/
theorem ends_peProgWrite_of_swapPending {k : Fin 12} {n : Fin 9} {i : Fin 128} {s : State} (o : Origin) (w : Nat)
    (hawake : s.get (NODE_CLSLEEP.depth k) = 0) (hpend : s.get (PE_STATUS.swap_pending k n) ≠ 0)
    (hshadow : i.val / 64 ≠ s.get (PE_STATUS.active_bank k n)) :
    Ends (.peProgWrite k n i o w) s (s.refuseWrite o (CL_REFUSED.count k) (PE_PROG.word k n i).addr) := by
  have hclosed : s.progOpen k n i = false := by simp [State.progOpen, hshadow, hpend]
  have hexec : exec (.peProgWrite k n i o w) s = s.access k (.peProgWrite k n i o w) (accPeProgWrite k n i o w) := rfl
  rw [Ends, hexec, State.access_of_awake hawake, accPeProgWrite, hclosed]
  rfl

end Sys2Proof.Machine
end

section
/-! PROOFS. The statements of chapter 02 about LDT, EVENT and the shadow bank. -/

namespace Sys2Proof.Machine

/-- Settles O50: LDT's effect on two words is `State.ldtTake`, and each register reads back from it. -/
theorem ldtTakesTwoWords : Obligations.LdtTakesTwoWords := by
  intro k n w s x y xs hstands hop hrx
  have hgo := effLdt_of_two_words w ((State.noteIssue_rx s k n).trans hrx)
  exact ⟨(s.noteIssue k n).ldtTake k n x y xs, ends_goOn_of_stands hstands hop rfl hgo,
    State.rx_ldtTake _ _ _ _ _ _, State.get_ldtTake_lo _ _ _ _ _ _, State.get_ldtTake_hi _ _ _ _ _ _,
    State.get_ldtTake_fine _ _ _ _ _ _, State.get_ldtTake_tag _ _ _ _ _ _,
    (SameRegs.noteIssue s k n _).trans (State.sameRegs_ldtTake _ _ _ _ _ _)⟩

/-- Settles O51: the word of EVENT read field by field, and the interrupt of a word that its queue takes at once. -/
theorem eventWordAndInterrupt : Obligations.EventWordAndInterrupt := by
  intro k n s
  refine ⟨fun w hstands hop hen hlen => ?_, fun x rest htx hen hlate htakes hfull => ?_⟩
  · have hroom : (s.noteIssue k n).txRoom k n 1 = true := (State.txRoom_noteIssue s k n 1).trans (State.txRoom_one hlen)
    have hput := State.tx_txPut ((State.get_noteIssue s k n _).trans hen)
      ⟨(s.noteIssue k n).eventWord k n w, tagEVENT⟩ (bit (fieldA w) 0)
    rw [State.noteIssue_tx] at hput
    have hfields := (s.noteIssue k n).eventWord_fields k n w
    rw [State.get_noteIssue] at hfields
    exact ⟨_, _, ends_goOn_of_stands hstands hop rfl (effEvent_of_room w hroom), hput, hfields⟩
  · have hhold : s.qHolds k (s.get (PE_QBIND.tx_queue k n)) = false := by simp [State.qHolds, hfull]
    have hpush : s.portPush k n (s.get (PE_QBIND.tx_queue k n)) x true rest = _ := State.qOffer_event x hlate htakes hfull
    refine ⟨_, ends_txPortDeliver htx hen hhold, ?_, fun hirq => ?_⟩
    · rw [hpush, State.get_clusterIrq]
      exact Nat.or_mod_two_eq_one.mpr (.inr rfl)
    · rw [hpush] at hirq ⊢
      exact State.irq_mem_out_clusterIrq hirq

/-- Settles O52: the write is refused, and a refused write is a `LogStep` over the counter and the error log. -/
theorem shadowBankClosedWhileASwapPends : Obligations.ShadowBankClosedWhileASwapPends := by
  intro k n i o w s hawake hpend hshadow
  set fs := [CL_REFUSED.count k, HOST_ERRLOG_WR.next, HOST_ERRLOG_WR.overwritten, MSIX_PBA.word 0] ++
    (List.range 8).map (fun j => HOST_ERRLOG.word (s.get HOST_ERRLOG_WR.next) j)
  have hlogged (u : State) (h : LogStep fs u (s.refuse o (CL_REFUSED.count k))) :
      LogStep fs u (s.refuseWrite o (CL_REFUSED.count k) (PE_PROG.word k n i).addr) := by
    refine h.refuseWrite (by simp [fs]) (by simp [fs]) (by simp [fs]) (fun j hj => ?_) _
    rw [State.get_errLogNext_refuse]
    exact List.mem_append_right _ (List.mem_map_of_mem (List.mem_range.mpr hj))
  have hcount : LogStep fs s (s.refuse o (CL_REFUSED.count k)) := ((LogStep.refl fs s).bump _ (by simp [fs])).emit _
  have hstep := hlogged s hcount
  exact ⟨_, ends_peProgWrite_of_swapPending o w hawake hpend hshadow, hstep.only,
    (hlogged _ (LogStep.refl fs _)).out (State.done_mem_out_refuse s o _), hstep.regs⟩

end Sys2Proof.Machine
end

section
/-! PROOFS. What every operation of the model keeps: the queue of waiting commands, and the canonical form of registers and memory.
One lemma for each operation, in the order of the model's files; each proof is the shape of the operation's definition. -/

namespace Sys2Proof.Machine

/-- From s to t the commands that wait stay as they are, and registers and memory stay in their canonical form. -/
def Kept (s t : State) : Prop := t.pending = s.pending ∧ (s.sound → t.sound)

/-- The command completes, in a state that is `Kept`. -/
def KeptOut (s : State) : Out → Prop
  | .next t => Kept s t
  | _ => False

/-- The effect of an instruction, where it makes a state, is `Kept`. -/
def KeptEff (s : State) : Eff → Prop
  | .go t => Kept s t
  | .jump t _ => Kept s t
  | .halt t => Kept s t
  | .wait => True
  | .stop _ => True

/-- A state that may not be there is `Kept`. -/
def KeptSome (s : State) : Option State → Prop
  | some t => Kept s t
  | none => True

/-- What a load that succeeds makes is `Kept`. -/
def KeptOk (s : State) : Except LoadErr State → Prop
  | .ok t => Kept s t
  | .error _ => True

/-- A write that is a command of its own row completes, and what it makes is `Kept`. -/
def KeptOwn (s : State) : Option Out → Prop
  | some r => KeptOut s r
  | none => True

variable {s t u : State}

theorem Kept.refl (s : State) : Kept s s := ⟨rfl, id⟩

theorem Kept.trans (h : Kept s t) (h' : Kept t u) : Kept s u := ⟨h'.1.trans h.1, h'.2 ∘ h.2⟩

theorem Kept.ite {c : Prop} {_ : Decidable c} (h : Kept s t) (h' : Kept s u) : Kept s (if c then t else u) := by
  split <;> assumption

theorem Kept.dite {c : Prop} {_ : Decidable c} {f : c → State} {g : ¬c → State} (h : ∀ x, Kept s (f x)) (h' : ∀ x, Kept s (g x)) :
    Kept s (if x : c then f x else g x) := by
  split
  exacts [h _, h' _]

theorem KeptOut.ite {c : Prop} {_ : Decidable c} {x y : Out} (h : KeptOut s x) (h' : KeptOut s y) :
    KeptOut s (if c then x else y) := by split <;> assumption

theorem KeptEff.ite {c : Prop} {_ : Decidable c} {x y : Eff} (h : KeptEff s x) (h' : KeptEff s y) :
    KeptEff s (if c then x else y) := by split <;> assumption

theorem KeptSome.ite {c : Prop} {_ : Decidable c} {x y : Option State} (h : KeptSome s x) (h' : KeptSome s y) :
    KeptSome s (if c then x else y) := by split <;> assumption

theorem KeptOk.ite {c : Prop} {_ : Decidable c} {x y : Except LoadErr State} (h : KeptOk s x) (h' : KeptOk s y) :
    KeptOk s (if c then x else y) := by split <;> assumption

theorem Kept.foldl {α : Type} {f : State → α → State} {l : List α} (hf : ∀ u x, Kept s u → Kept s (f u x)) (h : Kept s t) :
    Kept s (l.foldl f t) := by
  induction l generalizing t with
  | nil => exact h
  | cons x l ih => exact ih (hf _ _ h)

theorem Kept.getD {x : Option State} (h : KeptSome s x) (h' : Kept s t) : Kept s (x.getD t) := by
  cases x
  exacts [h', h]

/-- An update of fields other than the queue, the registers and memory. -/
theorem Kept.update {out time now draws lev pes cans queues clusters chans sw transit gates links ring tim cst core cru slp pow flt
    wear host mbx race} (h : Kept s t) :
    Kept s {
      pending := t.pending, out := out, time := time, now := now, draws := draws, regs := t.regs, mem := t.mem, lev := lev
      pes := pes, cans := cans, queues := queues, clusters := clusters, chans := chans, sw := sw, transit := transit
      gates := gates, links := links, ring := ring, tim := tim, cst := cst, core := core, cru := cru, slp := slp, pow := pow
      flt := flt, wear := wear, host := host, mbx := mbx, race := race } := h

theorem Kept.ite_fst {α : Type} {c : Prop} {_ : Decidable c} {x y : State × α} (h : Kept s x.1) (h' : Kept s y.1) :
    Kept s (if c then x else y).1 := by split <;> assumption

theorem Kept.foldl_fst {α β : Type} {f : State × β → α → State × β} {l : List α} {r : State × β}
    (hf : ∀ r x, Kept s r.1 → Kept s (f r x).1) (h : Kept s r.1) : Kept s (l.foldl f r).1 := by
  induction l generalizing r with
  | nil => exact h
  | cons x l ih => exact ih (hf _ _ h)

theorem SMap.sorted_foldl_insert {α β : Type} [DecidableEq α] {f : β → Nat} {g : β → α} {l : List β} {m : SMap α}
    (h : SMap.sorted m = true) : SMap.sorted (l.foldl (fun m e => SMap.insert m (f e) (g e)) m) = true := by
  induction l generalizing m with
  | nil => exact h
  | cons x l ih => exact ih ((SMap.sorted_iff _).2 (SMap.pairwise_insert _ _ _ ((SMap.sorted_iff _).1 h)))

theorem Kept.ite_snd {α : Type} {c : Prop} {_ : Decidable c} {x y : α × State} (h : Kept s x.2) (h' : Kept s y.2) :
    Kept s (if c then x else y).2 := by split <;> assumption

theorem KeptOwn.ite {c : Prop} {_ : Decidable c} {x y : Option Out} (h : KeptOwn s x) (h' : KeptOwn s y) :
    KeptOwn s (if c then x else y) := by split <;> assumption

theorem KeptOut.own {r : Out} (h : KeptOut s r) : KeptOwn s (some r) := h
theorem Kept.next (h : Kept s t) : KeptOut s (.next t) := h
theorem Kept.go (h : Kept s t) : KeptEff s (.go t) := h
theorem Kept.jump {pc} (h : Kept s t) : KeptEff s (.jump t pc) := h
theorem Kept.halt (h : Kept s t) : KeptEff s (.halt t) := h
theorem Kept.toSome (h : Kept s t) : KeptSome s (some t) := h
theorem Kept.toOk (h : Kept s t) : KeptOk s (.ok t) := h

/-! ### Machine/Ops.lean -/

theorem Kept.put {f v} (h : Kept s t) : Kept s (t.put f v) := ⟨h.1, fun hs => State.put_sound f v (h.2 hs)⟩

theorem Kept.puts {l} (h : Kept s t) : Kept s (t.puts l) := by
  induction l generalizing t with
  | nil => exact h
  | cons e l ih => exact ih h.put

theorem Kept.raise {f} (h : Kept s t) : Kept s (t.raise f) := h.put
theorem Kept.hw {f v} (h : Kept s t) : Kept s (t.hw f v) := .ite h h.put
theorem Kept.setEvent {f v} (h : Kept s t) : Kept s (t.setEvent f v) := h.put.update
theorem Kept.zero {f} (h : Kept s t) : Kept s (t.zero f) := h.put
theorem Kept.bumpBy {f n} (h : Kept s t) : Kept s (t.bumpBy f n) := h.hw
theorem Kept.bump {f} (h : Kept s t) : Kept s (t.bump f) := h.bumpBy
theorem Kept.bumpWrap {f} (h : Kept s t) : Kept s (t.bumpWrap f) := h.hw
theorem Kept.keepRegs {p} (h : Kept s t) : Kept s (t.keepRegs p) := ⟨h.1, fun hs => State.keepRegs_sound p (h.2 hs)⟩
theorem Kept.emit {e} (h : Kept s t) : Kept s (t.emit e) := h.update
theorem Kept.done {who status detail data idx} (h : Kept s t) : Kept s (t.done who status detail data idx) := h.emit
theorem Kept.report {f} (h : Kept s t) : Kept s (t.report f) := h.update
theorem Kept.refuse {who counter} (h : Kept s t) : Kept s (t.refuse who counter) := h.bump.done
theorem Kept.setByte {a v} (h : Kept s t) : Kept s (t.setByte a v) := ⟨h.1, fun hs => State.setByte_sound a v (h.2 hs)⟩

theorem Kept.setBytes {a bs} (h : Kept s t) : Kept s (t.setBytes a bs) := by
  induction bs generalizing t a with
  | nil => exact h
  | cons b bs ih => exact ih h.setByte

theorem Kept.setPe {k n p} (h : Kept s t) : Kept s (t.setPe k n p) := h.update
theorem Kept.setQueue {k q x} (h : Kept s t) : Kept s (t.setQueue k q x) := h.update
theorem Kept.setCan {k j x} (h : Kept s t) : Kept s (t.setCan k j x) := h.update
theorem Kept.setCluster {k c} (h : Kept s t) : Kept s (t.setCluster k c) := h.update
theorem Kept.setChan {c x} (h : Kept s t) : Kept s (t.setChan c x) := h.update
theorem Kept.draw (h : Kept s t) : Kept s t.draw := h.update
theorem Kept.toSwitch {p x} (h : Kept s t) : Kept s (t.toSwitch p x) := h.update
theorem Kept.toRingPort {p f} (h : Kept s t) : Kept s (t.toRingPort p f) := h.toSwitch
theorem Kept.toRing {f} (h : Kept s t) : Kept s (t.toRing f) := .ite h.toRingPort h.toRingPort
theorem Kept.broadcast {f} (h : Kept s t) : Kept s (t.broadcast f) := h.toRingPort.toRingPort

/-! ### Machine/Queues.lean -/

theorem Kept.clusterIrq {k f en} (h : Kept s t) : Kept s (t.clusterIrq k f en) := .ite h.setEvent.emit h.setEvent
theorem Kept.qLevel {k q before} (h : Kept s t) : Kept s (t.qLevel k q before) := .ite (.ite h.setEvent.emit h.setEvent) h
theorem Kept.qTake {k q} (h : Kept s t) : Kept s (t.qTake k q) := h.setQueue

theorem Kept.popUnits {k q n} (h : Kept s t) : Kept s (t.popUnits k q n).1 := by
  induction n generalizing t with
  | zero => exact h
  | succ n ih =>
    unfold State.popUnits
    split
    exacts [ih h, ih h.qTake]

theorem Kept.busPop {k q x} (h : Kept s t) : Kept s (t.busPop k q x) := by
  unfold State.busPop
  split
  · split
    exacts [h.zero.done, h.qTake.put.done]
  · exact h.popUnits.done

theorem Kept.endRead {k q x} (h : Kept s t) : Kept s (t.endRead k q x) := by
  unfold State.endRead
  split
  exacts [h.zero.done, h.done]

theorem Kept.qServe {k q n} (h : Kept s t) : Kept s (t.qServe k q n) := by
  induction n generalizing t with
  | zero => exact h
  | succ n ih =>
    unfold State.qServe
    dsimp only
    split
    exacts [ih (.ite h.setQueue.endRead h.setQueue.busPop), h]

theorem Kept.qPush {k q w} (h : Kept s t) : Kept s (t.qPush k q w) :=
  .ite h.bump (.ite (.ite h.setQueue (.ite h.bump.setQueue (.ite h.bump h.bump.setQueue))) h.setQueue)

theorem Kept.qPushNow {k q l} (h : Kept s t) : Kept s (t.qPushNow k q l) :=
  .ite h.setEvent.clusterIrq.bump (.ite h.qPush.clusterIrq h.qPush)

theorem Kept.qOffer {k q l} (h : Kept s t) : Kept s (t.qOffer k q l) := .ite h.setQueue h.qPushNow

theorem Kept.qCycleEnd {k q} (h : Kept s t) : Kept s (t.qCycleEnd k q) := by
  unfold State.qCycleEnd
  dsimp only
  split
  exacts [.foldl (fun _ _ h1 => h1.qPushNow) h.setQueue, Kept.qLevel (Kept.setQueue (.foldl (fun _ _ h1 => h1.qPushNow)
    h.setQueue))]

theorem Kept.queuesCycle (h : Kept s t) : Kept s t.queuesCycle :=
  .foldl (fun _ _ h1 => h1.qServe) (.foldl (fun _ _ h1 => h1.qCycleEnd) h)

theorem Kept.qBusPush {k q w} (h : Kept s t) : Kept s (t.qBusPush k q w) := h.qOffer

theorem Kept.qPushAll {k q ws} (h : Kept s t) : Kept s (t.qPushAll k q ws) := by
  induction ws generalizing t with
  | nil => exact h
  | cons w ws ih => exact ih h.qPush

theorem Kept.qClear {k q} (h : Kept s t) : Kept s (t.qClear k q) := h.setQueue

/-! ### Machine/Channels.lean -/

theorem Kept.chError {c status detail idx extra node ofs} (h : Kept s t) : Kept s (t.chError c status detail idx extra node
    ofs) :=
  h.setEvent.puts

theorem Kept.farFault {c status detail idx ofs acc} (h : Kept s t) : Kept s (t.farFault c status detail idx ofs acc) :=
  h.report

theorem Kept.chDrop {c} (h : Kept s t) : Kept s (t.chDrop c) := h.bump
theorem Kept.discardHeld {c x} (h : Kept s t) : Kept s (t.discardHeld c x) := h.bump.report
theorem Kept.holdResult {c x} (h : Kept s t) : Kept s (t.holdResult c x) := .ite h.discardHeld h.setChan
theorem Kept.lastStatus {c status} (h : Kept s t) : Kept s (t.lastStatus c status) := h.put

theorem Kept.coreFault {k node ofs status detail} (h : Kept s t) : Kept s (t.coreFault k node ofs status detail) :=
  h.puts.emit

theorem Kept.chAnswer {c r status detail data idx} (h : Kept s t) : Kept s (t.chAnswer c r status detail data idx) := by
  refine Kept.done ?_
  split
  exacts [.ite h.coreFault h, h]

theorem Kept.chReturn {c r status detail data idx exc} (h : Kept s t) : Kept s (t.chReturn c r status detail data idx exc) :=
  .ite (.ite h.lastStatus.discardHeld h.lastStatus.holdResult) h.lastStatus.chAnswer

theorem Kept.chFinish {c r status detail extra idx data} (h : Kept s t) : Kept s (t.chFinish c r status detail extra idx
    data) := by
  refine .ite (.ite (Kept.ite h h.chError).lastStatus (Kept.ite h h.chError).lastStatus.farFault) ?_
  exact
    have h2 := Kept.ite (Kept.ite h h.chError).farFault (Kept.ite h h.chError)
    h2.chReturn

theorem Kept.dropAhead {c} (h : Kept s t) : Kept s (t.dropAhead c) := by
  unfold State.dropAhead
  dsimp only
  split
  exacts [h.setChan, h.setChan.bump.report]

theorem Kept.dropPosted {c detail report x} (h : Kept s t) : Kept s (t.dropPosted c detail report x) := by
  unfold State.dropPosted
  split
  exacts [.ite h.chDrop.chError.farFault h.chDrop, h.chDrop]

theorem Kept.targetNote {c y e} (h : Kept s t) : Kept s (t.targetNote c y e) := .ite h.lastStatus h.lastStatus.chError

theorem Kept.crossingDone {c y e} (h : Kept s t) : Kept s (t.crossingDone c y e) :=
  have h1 := Kept.ite h.targetNote h.targetNote.farFault
  .ite h1 (.ite h1.discardHeld h1.holdResult)

theorem Kept.abortTargets {c detail} (h : Kept s t) : Kept s (t.abortTargets c detail) :=
  .foldl (fun _ _ h1 => h1.crossingDone) (.foldl (fun _ _ h1 => h1.targetNote) h.setChan)

theorem Kept.chAbort {c detail report} (h : Kept s t) : Kept s (t.chAbort c detail report) :=
  Kept.abortTargets (.foldl (fun _ _ h1 => h1.dropPosted) (.foldl (fun _ _ h1 => h1.chFinish) h.setChan))

theorem Kept.serverStops {k n} (h : Kept s t) : Kept s (t.serverStops k n) := .foldl (fun _ _ h1 => h1.chAbort.setChan) h
theorem Kept.serverStarts {k n} (h : Kept s t) : Kept s (t.serverStarts k n) := .foldl (fun _ _ h1 => h1.setChan) h

theorem Kept.clusterTransactions {k} (h : Kept s t) : Kept s (t.clusterTransactions k) :=
  .foldl (fun _ _ h1 => .ite h1.chAbort h1) h

theorem Kept.chanStop {c} (h : Kept s t) : Kept s (t.chanStop c) := h.chAbort.setChan
theorem Kept.chanReset {c} (h : Kept s t) : Kept s (t.chanReset c) := h.setChan.chAbort.setChan

/-! ### Machine/Records.lean -/

theorem Kept.qTakeN {k q n} (h : Kept s t) : Kept s (t.qTakeN k q n) := by
  induction n generalizing t with
  | zero => exact h
  | succ n ih => exact ih h.qTake

/-! ### Machine/CanFrame.lean -/

theorem Kept.canErrorFlag {k j bus} (h : Kept s t) : Kept s (t.canErrorFlag k j bus) := .ite h.setCan h
theorem Kept.canAck {k j w0 w1 sof data} (h : Kept s t) : Kept s (t.canAck k j w0 w1 sof data) := .ite h.setCan h

/-! ### Machine/Pads.lean -/

theorem Kept.countEdge {k p rise} (h : Kept s t) : Kept s (t.countEdge k p rise) := h.setCluster

theorem Kept.putStamp {k p rise t_} (h : Kept s t) : Kept s (t.putStamp k p rise t_) :=
  .ite h.countEdge.puts h.countEdge.puts

theorem Kept.hitStamp {k p rise t_ n} (h : Kept s t) : Kept s (t.hitStamp k p rise t_ n) := .ite h.setPe h

theorem Kept.captureEdge {k p rise t_} (h : Kept s t) : Kept s (t.captureEdge k p rise t_) :=
  .ite h (.ite h.setCluster.bump.bump (.foldl (fun _ _ h1 => h1.hitStamp) h.setCluster.putStamp))

theorem Kept.keepTickLevels {k} (h : Kept s t) : Kept s (t.keepTickLevels k) := by
  unfold State.keepTickLevels
  dsimp only
  split
  exacts [h, h.setCluster]

theorem Kept.withEdges {k t_ f} (h : Kept s t) (hf : ∀ u, Kept s u → Kept s (f u)) : Kept s (t.withEdges k t_ f) :=
  have h1 := Kept.ite h.keepTickLevels h
  have h2 := hf _ h1
  .foldl (fun _ _ h3 => .ite h3 h3.captureEdge) h2

theorem Kept.sampleLevels {k} (h : Kept s t) : Kept s (t.sampleLevels k) := h.setCluster

/-! ### Machine/Engines.lean -/

theorem Kept.swapBanks {k n} (h : Kept s t) : Kept s (t.swapBanks k n) := h.puts

theorem Kept.peStop {k n cause} (h : Kept s t) : Kept s (t.peStop k n cause) := by
  refine .ite ?_ h
  exact
    have h1 := Kept.ite h.setPe.puts.swapBanks h.setPe.puts
    h1.serverStops

theorem Kept.reportPe {k n cause} (h : Kept s t) : Kept s (t.reportPe k n cause) := h.report

theorem Kept.breakBarriers {k fuel l} (h : Kept s t) : Kept s (t.breakBarriers k fuel l) := by
  induction fuel generalizing t l with
  | zero => exact h
  | succ fuel ih =>
    refine .foldl (fun u n hu => ?_) h
    dsimp only
    split
    exacts [.ite (ih hu.peStop.reportPe) hu, hu]

theorem Kept.peLeave {k n cause} (h : Kept s t) : Kept s (t.peLeave k n cause) :=
  .ite (.ite h.peStop.breakBarriers h.peStop) h

theorem Kept.pePark {k n} (h : Kept s t) : Kept s (t.pePark k n) := .ite h (h.withEdges (fun _ h1 => h1.setCluster.setPe))
theorem Kept.peUnpark {k ps} (h : Kept s t) : Kept s (t.peUnpark k ps) := .ite h.setCluster h
theorem Kept.peClearRegs {k n} (h : Kept s t) : Kept s (t.peClearRegs k n) := h.puts

theorem Kept.peUnitReset {k n} (h : Kept s t) : Kept s (t.peUnitReset k n) :=
  have h1 := Kept.ite h.pePark.setPe.peClearRegs.puts.serverStops h.pePark.setPe.peClearRegs.puts
  .ite h1.breakBarriers h1

theorem Kept.pePortStop {k n} (h : Kept s t) : Kept s (t.pePortStop k n) := h.peLeave.pePark.setPe
theorem Kept.haltCluster {k cause} (h : Kept s t) : Kept s (t.haltCluster k cause) := .foldl (fun _ _ h1 => h1.peStop) h
theorem Kept.canStop {k j} (h : Kept s t) : Kept s (t.canStop k j) := h.withEdges (fun _ h1 => h1.setCan)

theorem Kept.parkCluster {k} (h : Kept s t) : Kept s (t.parkCluster k) :=
  .foldl (fun _ _ h1 => h1.canStop) (Kept.haltCluster (h.withEdges (fun _ h1 => h1.setCluster)))

theorem Kept.holdOutputs (h : Kept s t) : Kept s t.holdOutputs := by
  refine .foldl ?_ h
  intro _ _ h1
  dsimp only
  split
  exacts [h1, h1.withEdges (fun _ h2 => h2.setCluster)]

theorem Kept.holdEngines (h : Kept s t) : Kept s t.holdEngines :=
  .foldl (fun _ _ h1 => .foldl (fun _ _ h2 => .ite h2.breakBarriers h2) (.foldl (fun _ _ h2 => h2.peStop) h1)) h

theorem Kept.releaseOutputs (h : Kept s t) : Kept s t.releaseOutputs := by
  refine .foldl ?_ h
  intro _ _ h1
  split
  exacts [h1, h1.withEdges (fun _ h2 => h2.setCluster)]

theorem Kept.haltEngines {cause} (h : Kept s t) : Kept s (t.haltEngines cause) :=
  .foldl (fun _ _ h1 => .foldl (fun _ _ h2 => h2.peStop.pePark) h1) h

theorem Kept.setNodeState {ns} (h : Kept s t) : Kept s (t.setNodeState ns) :=
  .foldl (fun _ _ h1 => .foldl (fun _ _ h2 => .ite h2 h2.captureEdge) h1) h.put

theorem Kept.parkNode {ns} (h : Kept s t) : Kept s (t.parkNode ns) := h.haltEngines.releaseOutputs.setNodeState

/-! ### Machine/Operands.lean -/

theorem Kept.shinIn {k n b} (h : Kept s t) : Kept s (t.shinIn k n b) := h.put.put
theorem Kept.shinReserve {k n} (h : Kept s t) : Kept s (t.shinReserve k n) := h.put.setPe

theorem Kept.shinFill {k n b} (h : Kept s t) : Kept s (t.shinFill k n b) := by
  unfold State.shinFill
  split
  exacts [h, h.put.put.setPe]

theorem Kept.shoutTake {k n} (h : Kept s t) : Kept s (t.shoutTake k n).1 := .ite_fst h.put.put h.put.put

theorem Kept.shoutTakeN {k n m} (h : Kept s t) : Kept s (t.shoutTakeN k n m).1 := by
  induction m generalizing t with
  | zero => exact h
  | succ m ih => exact ih h.shoutTake

theorem Kept.putT {k n t_ fine} (h : Kept s t) : Kept s (t.putT k n t_ fine) := h.puts

theorem Kept.writeOp {k n c v} (h : Kept s t) : Kept s (t.writeOp k n c v) := by
  unfold State.writeOp
  split
  exacts [h.put, h.put, h.put, h.put, h.put.put, h.put.put, h]

/-! ### Machine/Flags.lean -/

theorem Kept.flagCollide {k n} (h : Kept s t) : Kept s (t.flagCollide k n) := h.setEvent.bump
theorem Kept.flagOwn {k n} (h : Kept s t) : Kept s (t.flagOwn k n) := h.setEvent.bump
theorem Kept.flagLate {k n} (h : Kept s t) : Kept s (t.flagLate k n) := h.setEvent.bump

theorem Kept.jmpEffect {k n cond} (h : Kept s t) : Kept s (t.jmpEffect k n cond) := by
  unfold State.jmpEffect
  split
  exacts [h.put, h.put, h]

/-! ### Machine/HostOps.lean -/

theorem Kept.aerError {b} (h : Kept s t) : Kept s (t.aerError b) := h.update
theorem Kept.vector {v} (h : Kept s t) : Kept s (t.vector v) := .ite h.put h.emit

theorem Kept.errLog {status detail idx write slot addr} (h : Kept s t) : Kept s (t.errLog status detail idx write slot addr)
    :=
  Kept.vector (Kept.put (Kept.update (.ite (Kept.bump (.foldl (fun _ _ h1 => h1.put) h)) (.foldl (fun _ _ h1 => h1.put) h))))

theorem Kept.setRq {j r} (h : Kept s t) : Kept s (t.setRq j r) := h.update
theorem Kept.rqAnnounce {j} (h : Kept s t) : Kept s (t.rqAnnounce j) := .ite h h.setRq.vector
theorem Kept.rqEnter {j f idx} (h : Kept s t) : Kept s (t.rqEnter j f idx) := .ite h.bump h.emit.setRq.put.rqAnnounce
theorem Kept.evqEnter {vec msg} (h : Kept s t) : Kept s (t.evqEnter vec msg) := .ite h.bump h.emit.update.put.vector
theorem Kept.roleVector (h : Kept s t) : Kept s t.roleVector := h.vector

/-! ### Machine/Quench.lean -/

theorem Kept.quenchBroadcast {instant} (h : Kept s t) : Kept s (t.quenchBroadcast instant) := h.broadcast

theorem Kept.latch {srcs fault edge} (h : Kept s t) : Kept s (t.latch srcs fault edge) := by
  refine .ite ?_ (.ite h.update.puts.puts.setEvent h.update.puts.puts)
  split
  exacts [.ite h.puts h.bump, h.bump]

theorem Kept.trigger {src fault edge} (h : Kept s t) : Kept s (t.trigger src fault edge) :=
  .ite h.latch.quenchBroadcast h.latch

/-! ### Machine/Slots.lean -/

theorem Kept.putSlot {i st r persistent} (h : Kept s t) : Kept s (t.putSlot i st r persistent) := h.update.puts
theorem Kept.storeSlot {i r} (h : Kept s t) : Kept s (t.storeSlot i r) := h.update
theorem Kept.unstoreSlot {i} (h : Kept s t) : Kept s (t.unstoreSlot i) := h.update
theorem Kept.clearSlot {i} (h : Kept s t) : Kept s (t.clearSlot i) := h.putSlot.unstoreSlot.update

theorem Kept.installKey {r persistent kat assay} (h : Kept s t) : Kept s (t.installKey r persistent kat assay).1 := by
  unfold State.installKey
  split
  · exact h
  · refine .ite_fst h (.ite_fst h ?_)
    dsimp only
    split
    · exact Kept.clearSlot (.ite h.putSlot.storeSlot h.putSlot)
    · exact .ite h.putSlot.storeSlot h.putSlot

theorem Kept.dropSession {p dir phase} (h : Kept s t) : Kept s (t.dropSession p dir phase) :=
  .foldl (fun _ _ h1 => h1.clearSlot) h

theorem Kept.dropSessions {p} (h : Kept s t) : Kept s (t.dropSessions p) := .foldl (fun _ _ h1 => h1.clearSlot) h
theorem Kept.addSession {p dir phase mat} (h : Kept s t) : Kept s (t.addSession p dir phase mat).1 := h.installKey
theorem Kept.keepSessions {s_} (h : Kept s t) : Kept s (State.keepSessions s_ t) := .foldl (fun _ _ h1 => h1.putSlot.put) h

/-! ### Machine/Resets.lean -/

theorem Kept.applyRepairs (h : Kept s t) : Kept s t.applyRepairs := .foldl (fun _ _ h1 => .ite h1.puts (.ite h1.put h1)) h

theorem Kept.abandonCopy {copying} (h : Kept s t) : Kept s (t.abandonCopy copying) := by
  unfold State.abandonCopy
  split
  exacts [h.bump.update, h]

/-- A node reset starts from fresh registers but those that it keeps (R23). -/
theorem Kept.nodeReset (h : Kept s t) : Kept s t.nodeReset := by
  unfold State.nodeReset
  extract_lets u low ports r l a b c d
  have hu : Kept s u := .foldl (fun _ _ hu => hu.clusterTransactions) h
  clear_value u
  have ha : Kept s a := ⟨hu.1, fun hs => ⟨SMap.sorted_filter _ _ (hu.2 hs).1, rfl⟩⟩
  clear_value a
  have hc : Kept s c := .foldl (fun _ _ hu => .foldl (fun _ _ hu => hu.zero) hu.puts) ha.puts
  have hd : Kept s (ports.foldl (fun t p => t.emit (.stomped p)) d) :=
    .foldl (fun _ _ hu => hu.emit) hc.keepSessions.applyRepairs.abandonCopy
  exact .ite hd.emit hd

theorem Kept.readStraps {a b c powerOn} (h : Kept s t) : Kept s (t.readStraps a b c powerOn) := h.update.puts

theorem Kept.outsideReleased {s_} (h : Kept s t) : Kept s (State.outsideReleased s_ t) :=
  .ite (Kept.emit (.ite (Kept.emit (.foldl (fun _ _ h1 => h1.emit) (.ite (Kept.emit (.foldl (fun _ _ h1 => .ite h1.emit h1)
    h)) (.foldl (fun _ _ h1 => .ite h1.emit h1) h)))) (.foldl (fun _ _ h1 => h1.emit) (.ite (Kept.emit (.foldl (fun _ _ h1
    => .ite h1.emit h1) h)) (.foldl (fun _ _ h1 => .ite h1.emit h1) h))))) (.ite (Kept.emit (.foldl (fun _ _ h1 => h1.emit)
    (.ite (Kept.emit (.foldl (fun _ _ h1 => .ite h1.emit h1) h)) (.foldl (fun _ _ h1 => .ite h1.emit h1) h)))) (.foldl (fun
    _ _ h1 => h1.emit) (.ite (Kept.emit (.foldl (fun _ _ h1 => .ite h1.emit h1) h)) (.foldl (fun _ _ h1 => .ite h1.emit h1)
    h))))

/-- A power-on reset starts from fresh registers but those that it keeps (R23). -/
theorem Kept.powerReset {vaux} (h : Kept s t) : Kept s (t.powerReset vaux) := by
  unfold State.powerReset
  dsimp only
  refine .ite (Kept.emit (Kept.abandonCopy (Kept.applyRepairs ?_))) (Kept.abandonCopy (Kept.applyRepairs ?_))
  all_goals
    refine .ite (Kept.outsideReleased (Kept.puts (Kept.puts ?_))) (Kept.puts ?_)
    all_goals exact ⟨h.1, fun hs => ⟨SMap.sorted_filter _ _ (h.2 hs).1, rfl⟩⟩

/-! ### Machine/Faults.lean -/

theorem Kept.portStop {master} (h : Kept s t) : Kept s (t.portStop master) := by
  unfold State.portStop
  dsimp only
  split
  exacts [h.pePortStop, h.canStop, h.chanStop, h]

theorem Kept.nodeHold (h : Kept s t) : Kept s t.nodeHold := h.raise.holdOutputs.holdEngines

theorem Kept.react {f cls pulsed} (h : Kept s t) : Kept s (t.react f cls pulsed) := by
  unfold State.react
  split
  exacts [h.portStop, .foldl (fun _ _ h1 => h1.parkCluster) h, h.nodeHold, .ite h.nodeHold.update h.nodeHold.nodeReset, h]

theorem Kept.enterRecord {f} (h : Kept s t) : Kept s (t.enterRecord f) := .ite h.rqEnter h.bump

theorem Kept.forward {seq bs} (h : Kept s t) : Kept s (t.forward seq bs) := by
  refine .ite h.enterRecord ?_
  split
  exacts [h.toRing, h.update]

theorem Kept.driveFaultN (h : Kept s t) : Kept s t.driveFaultN := h.emit

theorem Kept.capture {src ws} (h : Kept s t) : Kept s (t.capture src ws) :=
  .ite h.bump.put (Kept.puts (.foldl (fun _ _ h1 => h1.put) h))

theorem Kept.logRecord {ws} (h : Kept s t) : Kept s (t.logRecord ws) :=
  Kept.update (Kept.put (.foldl (fun _ _ h1 => h1.put) h))

theorem Kept.pulse (h : Kept s t) : Kept s t.pulse := .ite h.bump h.update.raise.bump.driveFaultN

theorem Kept.record {f cls inj only met} (h : Kept s t) : Kept s (t.record f cls inj only met) :=
  have h1 := Kept.ite h.logRecord.capture.bump h.logRecord.capture
  have h2 := Kept.ite h1 h1.bump
  have h3 := Kept.ite h2.update.emit h2
  have h4 := Kept.ite h3.pulse h3
  have h5 := Kept.ite h4.forward h4
  .ite h5.trigger h5

theorem Kept.collect {f cls inj only met} (h : Kept s t) : Kept s (t.collect f cls inj only met) := h.record.react
theorem Kept.fault {f} (h : Kept s t) : Kept s (t.fault f) := h.collect

theorem Kept.settle {n} (h : Kept s t) : Kept s (t.settle n) := by
  induction n generalizing t with
  | zero => exact h
  | succ n ih =>
    refine .ite h (ih (Kept.foldl_fst (fun r e hr => .ite_fst hr hr.react) ?_))
    exact .foldl (fun _ _ hu => hu.record) h.update

/-- The end of a command: its faults go through the collector. -/
theorem Kept.fin (h : Kept s t) : KeptOut s (fin t) := show Kept s (t.settle 64) from h.settle

theorem Kept.poolReport {i empty} (h : Kept s t) : Kept s (t.poolReport i empty) := h.report
theorem Kept.takePool {i} (h : Kept s t) : Kept s (t.takePool i) := .ite h.put.poolReport h.put
theorem Kept.peError {k n cause} (h : Kept s t) : Kept s (t.peError k n cause) := h.reportPe.peLeave

/-! ### Machine/RegAccess.lean -/

theorem Kept.addrFault {o a acc} (h : Kept s t) : Kept s (t.addrFault o a acc) := by
  unfold State.addrFault
  dsimp only
  split <;> exact h.fault.done

theorem Kept.writeField {w e} (h : Kept s t) : Kept s (t.writeField w e) := by
  unfold State.writeField
  dsimp only
  split
  exacts [h.put.update, .ite h h.put, h.put, h.put, h, h]

theorem Kept.writeReg {o a w} (h : Kept s t) : Kept s (t.writeReg o a w) := by
  unfold State.writeReg
  split
  exacts [h, .ite (Kept.fault (.foldl (fun _ _ h1 => h1.writeField) h)) (.foldl (fun _ _ h1 => h1.writeField) h)]

/-! ### Machine/PeIssue.lean -/

theorem Kept.peAdvance {k n pc} (h : Kept s t) : Kept s (t.peAdvance k n pc) := h.setPe.puts
theorem Kept.peStepEnd {k n} (h : Kept s t) : Kept s (t.peStepEnd k n) := .ite h.peLeave h
theorem Kept.peGoOn {k n pc} (h : Kept s t) : Kept s (t.peGoOn k n pc) := h.peAdvance.peStepEnd

theorem Kept.peApply {k n op e} (h : Kept s t) (he : KeptEff s e) : Kept s (t.peApply k n op e) := by
  cases e with
  | go u => exact Kept.peGoOn he
  | jump u pc => exact Kept.peGoOn he
  | wait => exact h.puts
  | stop cause => exact h.peError
  | halt u => exact (Kept.put he).peLeave

theorem Kept.noteIssue {k n} (h : Kept s t) : Kept s (t.noteIssue k n) := by
  unfold State.noteIssue
  split
  exacts [h, h.setPe]

theorem Kept.peIssue {k n op eff} (h : Kept s t) (hf : ∀ u w, Kept s u → KeptEff s (eff u w)) : Kept s (t.peIssue k n op eff) :=
  .ite (.ite (h.noteIssue.peApply (hf _ _ h.noteIssue)) h.peError) h

theorem Kept.padActs {k n slots} (h : Kept s t) : Kept s (t.padActs k n slots).1 :=
  .foldl (fun _ _ h1 => h1.flagCollide) (.foldl (fun _ _ h1 => h1.flagOwn) h)

theorem Kept.nextSeq {k n} (h : Kept s t) : Kept s (t.nextSeq k n) := h.setPe
theorem Kept.untimed {k n slots} (h : Kept s t) : Kept s (t.untimed k n slots) := h.nextSeq.padActs.setPe

theorem Kept.applyPad {k n seq t_ x} (h : Kept s t) : Kept s (t.applyPad k n seq t_ x) := by
  refine .ite h ?_
  refine .ite h.flagCollide ?_
  refine .ite h.flagCollide ?_
  exact
    have h1 := Kept.ite h.flagCollide h
    h1.peUnpark.setPe

theorem Kept.applyActs {k n seq t_ acts} (h : Kept s t) : Kept s (t.applyActs k n seq t_ acts) :=
  h.withEdges (fun _ h1 => .foldl (fun _ _ h2 => h2.applyPad) h1)

theorem Kept.applyDue {k n} (h : Kept s t) : Kept s (t.applyDue k n) := .ite h (.foldl (fun _ _ h1 => h1.applyActs) h.setPe)

theorem Kept.applyAction {k n t_ a} (h : Kept s t) : Kept s (t.applyAction k n t_ a) :=
  have h1 := Kept.ite h.shinFill h
  h1.padActs.applyActs

/-! ### Machine/Pe.lean -/

theorem Kept.effHalt {w} (h : Kept s t) : KeptEff s (effHalt t w) := h.halt
theorem Kept.execHalt {k n} (h : Kept s t) : KeptOut s (execHalt k n t) := Kept.fin (h.peIssue (fun _ _ h => h.effHalt))
theorem Kept.effNop {w} (h : Kept s t) : KeptEff s (effNop t w) := h.go
theorem Kept.execNop {k n} (h : Kept s t) : KeptOut s (execNop k n t) := Kept.fin (h.peIssue (fun _ _ h => h.effNop))
theorem Kept.effSet {k n w} (h : Kept s t) : KeptEff s (effSet k n t w) := h.untimed.go
theorem Kept.execSet {k n} (h : Kept s t) : KeptOut s (execSet k n t) := Kept.fin (h.peIssue (fun _ _ h => h.effSet))

theorem Kept.effOut {k n w} (h : Kept s t) : KeptEff s (effOut k n t w) :=
  .ite trivial (.ite trivial h.shoutTakeN.untimed.go)

theorem Kept.execOut {k n} (h : Kept s t) : KeptOut s (execOut k n t) := Kept.fin (h.peIssue (fun _ _ h => h.effOut))

theorem Kept.effIn {k n w} (h : Kept s t) : KeptEff s (effIn k n t w) :=
  .ite trivial (.ite trivial (Kept.go (.foldl (fun _ _ h1 => h1.shinIn) h)))

theorem Kept.execIn {k n} (h : Kept s t) : KeptOut s (execIn k n t) := Kept.fin (h.peIssue (fun _ _ h => h.effIn))
theorem Kept.effWaitp {k n w} (h : Kept s t) : KeptEff s (effWaitp k n t w) := .ite h.go trivial
theorem Kept.execWaitp {k n} (h : Kept s t) : KeptOut s (execWaitp k n t) := Kept.fin (h.peIssue (fun _ _ h => h.effWaitp))
theorem Kept.effWaitt {k n w} (h : Kept s t) : KeptEff s (effWaitt k n t w) := .ite h.go trivial
theorem Kept.execWaitt {k n} (h : Kept s t) : KeptOut s (execWaitt k n t) := Kept.fin (h.peIssue (fun _ _ h => h.effWaitt))
theorem Kept.enqueue {k n a} (h : Kept s t) : Kept s (t.enqueue k n a) := h.setPe

theorem Kept.effAt {k n w} (h : Kept s t) : KeptEff s (effAt k n t w) := by
  refine .ite trivial ?_
  dsimp only
  split
  exacts [.ite trivial h.nextSeq.shoutTake.enqueue.go, .ite trivial h.nextSeq.shinReserve.enqueue.go, h.nextSeq.enqueue.go]

theorem Kept.execAt {k n} (h : Kept s t) : KeptOut s (execAt k n t) := Kept.fin (h.peIssue (fun _ _ h => h.effAt))
theorem Kept.effJmp {k n w} (h : Kept s t) : KeptEff s (effJmp k n t w) := .ite trivial (.ite h.jmpEffect.jump h.go)
theorem Kept.execJmp {k n} (h : Kept s t) : KeptOut s (execJmp k n t) := Kept.fin (h.peIssue (fun _ _ h => h.effJmp))

theorem Kept.effPull {k n w} (h : Kept s t) : KeptEff s (effPull k n t w) := by
  unfold Machine.effPull
  split
  exacts [trivial, h.setPe.writeOp.put.go]

theorem Kept.execPull {k n} (h : Kept s t) : KeptOut s (execPull k n t) := Kept.fin (h.peIssue (fun _ _ h => h.effPull))
theorem Kept.txPut {k n w raise} (h : Kept s t) : Kept s (t.txPut k n w raise) := .ite h.setPe h

theorem Kept.effPush {k n w} (h : Kept s t) : KeptEff s (effPush k n t w) :=
  .ite trivial (.ite trivial (Kept.ite h.txPut.put h.txPut).go)

theorem Kept.execPush {k n} (h : Kept s t) : KeptOut s (execPush k n t) := Kept.fin (h.peIssue (fun _ _ h => h.effPush))
theorem Kept.effMov {k n w} (h : Kept s t) : KeptEff s (effMov k n t w) := .ite trivial (.ite h.putT.go h.writeOp.go)
theorem Kept.execMov {k n} (h : Kept s t) : KeptOut s (execMov k n t) := Kept.fin (h.peIssue (fun _ _ h => h.effMov))
theorem Kept.effAdd {k n w} (h : Kept s t) : KeptEff s (effAdd k n t w) := .ite trivial (.ite h.putT.go h.writeOp.go)
theorem Kept.execAdd {k n} (h : Kept s t) : KeptOut s (execAdd k n t) := Kept.fin (h.peIssue (fun _ _ h => h.effAdd))

theorem Kept.putStampWords {k n sl t_ rise stale seen} (h : Kept s t) : Kept s (t.putStampWords k n sl t_ rise stale seen) :=
  h.txPut.txPut.setPe

theorem Kept.effStamp {k n w} (h : Kept s t) : KeptEff s (effStamp k n t w) := by
  refine .ite trivial ?_
  refine .ite ?_ ?_
  · dsimp only
    split
    · exact h.setEvent.putStampWords.go
    · exact
        have h1 := Kept.ite h.setEvent h
        h1.putStampWords.go
  · split
    exacts [trivial, h.putStampWords.go]

theorem Kept.execStamp {k n} (h : Kept s t) : KeptOut s (execStamp k n t) := Kept.fin (h.peIssue (fun _ _ h => h.effStamp))

theorem Kept.effLdt {k n w} (h : Kept s t) : KeptEff s (effLdt k n t w) := by
  unfold Machine.effLdt
  split
  exacts [h.setPe.putT.put.go, trivial]

theorem Kept.execLdt {k n} (h : Kept s t) : KeptOut s (execLdt k n t) := Kept.fin (h.peIssue (fun _ _ h => h.effLdt))
theorem Kept.effEvent {k n w} (h : Kept s t) : KeptEff s (effEvent k n t w) := .ite trivial h.txPut.go
theorem Kept.execEvent {k n} (h : Kept s t) : KeptOut s (execEvent k n t) := Kept.fin (h.peIssue (fun _ _ h => h.effEvent))

theorem Kept.syncMismatch {k ms} (h : Kept s t) : Kept s (t.syncMismatch k ms) :=
  .foldl (fun _ _ h1 => .ite h1.breakBarriers h1) (.foldl (fun _ _ h1 => h1.peStop.reportPe) h)

theorem Kept.effSync {k n w} (h : Kept s t) : KeptEff s (effSync k n t w) :=
  .ite trivial (.ite (Kept.go (.foldl (fun _ _ h1 => h1.peStepEnd) (.foldl (fun _ _ h1 => h1.peAdvance) h))) trivial)

theorem Kept.execSync {k n} (h : Kept s t) : KeptOut s (execSync k n t) :=
  Kept.fin (.ite h.syncMismatch (h.peIssue (fun _ _ h => h.effSync)))

theorem Kept.effYield {k n w} (h : Kept s t) : KeptEff s (effYield k n t w) := .ite h.swapBanks.jump h.go
theorem Kept.execYield {k n} (h : Kept s t) : KeptOut s (execYield k n t) := Kept.fin (h.peIssue (fun _ _ h => h.effYield))
theorem Kept.execReservedOpcode {k n} (h : Kept s t) : KeptOut s (execReservedOpcode k n t) := (Kept.ite h.peError h).fin

theorem Kept.execTimedActionApply {k n} (h : Kept s t) : KeptOut s (execTimedActionApply k n t) := by
  unfold Machine.execTimedActionApply
  dsimp only
  split
  · exact h.fin
  · refine .ite ?_ h.fin
    exact
      have h1 := Kept.ite h.setPe.flagLate h.setPe
      .ite (Kept.ite h1.shinFill h1).fin h1.applyAction.fin

theorem Kept.portPush {k n q w raise rest} (h : Kept s t) : Kept s (t.portPush k n q w raise rest) := h.setPe.qOffer

theorem Kept.execTxPortDeliver {k n} (h : Kept s t) : KeptOut s (execTxPortDeliver k n t) := by
  unfold Machine.execTxPortDeliver
  dsimp only
  split
  exacts [h.fin, .ite h.setPe.fin (.ite h.fin h.portPush.fin)]

theorem Kept.execRxPortFetch {k n} (h : Kept s t) : KeptOut s (execRxPortFetch k n t) := by
  unfold Machine.execRxPortFetch
  dsimp only
  split
  exacts [h.fin, .ite h.setPe.qTake.fin h.fin]

/-! ### Machine/PeCtl.lean -/

theorem Kept.refuseWrite {o counter a} (h : Kept s t) : Kept s (t.refuseWrite o counter a) := .ite h.refuse.errLog h.refuse
theorem Kept.idleSwap {k n} (h : Kept s t) : Kept s (t.idleSwap k n) := h.swapBanks.peGoOn

theorem Kept.forceSwap {k n} (h : Kept s t) : Kept s (t.forceSwap k n) :=
  .ite h.setEvent.puts.pePark.setPe.swapBanks.puts.breakBarriers h.setEvent.puts.pePark.setPe.swapBanks.puts

theorem Kept.forceDue {k n} (h : Kept s t) : Kept s (t.forceDue k n) := by
  unfold State.forceDue
  split
  exacts [h, .ite h (.ite h.setPe.forceSwap h.setPe)]

theorem Kept.peSwapBits {k n w} (h : Kept s t) : Kept s (t.peSwapBits k n w) :=
  have h1 := Kept.ite h.puts h
  have h2 := Kept.ite h1.puts.setPe h1
  have h3 := Kept.ite h2.puts h2
  .ite h3 (.ite h3.swapBanks (.ite (.ite h3.idleSwap h3.setPe) h3))

theorem Kept.peRun {k n step} (h : Kept s t) : Kept s (t.peRun k n step) :=
  Kept.serverStarts (Kept.puts (.ite h.setPe (h.setPe.withEdges (fun _ h1 => h1.peUnpark))))

theorem Kept.peCtlWrite {k n o w} (h : Kept s t) : Kept s (t.peCtlWrite k n o w) := by
  refine .ite h.peUnitReset.done ?_
  refine .ite h.done ?_
  refine .ite h.refuse ?_
  exact
    have h1 := Kept.ite h.put.peSwapBits.peRun (.ite h.put.peSwapBits.peRun h.put.peSwapBits)
    have h2 := Kept.ite h1.peLeave h1
    h2.done

theorem Kept.accPeStart {k n o w} (h : Kept s t) : KeptOut s (accPeStart k n o w t) := h.peCtlWrite.fin
theorem Kept.accPeHalt {k n o w} (h : Kept s t) : KeptOut s (accPeHalt k n o w t) := h.peCtlWrite.fin
theorem Kept.accPeStep {k n o w} (h : Kept s t) : KeptOut s (accPeStep k n o w t) := h.peCtlWrite.fin
theorem Kept.accSwapReq {k n o w} (h : Kept s t) : KeptOut s (accSwapReq k n o w t) := h.peCtlWrite.fin
theorem Kept.accSwapCancel {k n o w} (h : Kept s t) : KeptOut s (accSwapCancel k n o w t) := h.peCtlWrite.fin
theorem Kept.accForce {k n o w} (h : Kept s t) : KeptOut s (accForce k n o w t) := h.peCtlWrite.fin
theorem Kept.accPeUnitReset {k n o w} (h : Kept s t) : KeptOut s (accPeUnitReset k n o w t) := h.peCtlWrite.fin
theorem Kept.execIdleSwap {k n} (h : Kept s t) : KeptOut s (execIdleSwap k n t) := (Kept.ite h.idleSwap h).fin

theorem Kept.accPeProgWrite {k n i o w} (h : Kept s t) : KeptOut s (accPeProgWrite k n i o w t) :=
  (Kept.ite h.put.done h.refuseWrite).fin

theorem Kept.accPeStateWrite {k n r o w} (h : Kept s t) : KeptOut s (accPeStateWrite k n r o w t) :=
  (Kept.ite h.refuseWrite h.writeReg.done).fin

/-! ### Machine/Cluster.lean -/

theorem Kept.bankFault {k b} (h : Kept s t) : Kept s (t.bankFault k b) := h.put.clusterIrq.report
theorem Kept.bankCheck {k b} (h : Kept s t) : Kept s (t.bankCheck k b) := .ite h.put (.ite h.puts.put h.puts.bankFault)
theorem Kept.bankChecks {k} (h : Kept s t) : Kept s (t.bankChecks k) := h.withEdges (fun _ h1 => h1.bankCheck.bankCheck)
theorem Kept.canReset {k j} (h : Kept s t) : Kept s (t.canReset k j) := h.setCan.puts
theorem Kept.clearStamps {k p} (h : Kept s t) : Kept s (t.clearStamps k p) := h.puts

theorem Kept.clusterReset {k} (h : Kept s t) : Kept s (t.clusterReset k) :=
  Kept.bankChecks (Kept.setCluster (.foldl (fun _ _ h1 => h1.clearStamps) (.foldl (fun _ _ h1 => h1.qClear)
    (h.clusterTransactions.withEdges (fun _ h1 => Kept.canReset (Kept.canReset (.foldl (fun _ _ h2 => h2.peUnitReset)
    h1.puts)))))))

theorem Kept.accClReset {k o} (h : Kept s t) : KeptOut s (accClReset k o t) := (Kept.ite h.done h.clusterReset.done).fin

theorem Kept.execVddioFall {k b mv} (h : Kept s t) : KeptOut s (execVddioFall k b mv t) :=
  Kept.fin (.ite (h.setCluster.puts.withEdges (fun _ h1 => h1.bankFault)) h.setCluster)

theorem Kept.execPadEdge {k p level fine} (h : Kept s t) : KeptOut s (execPadEdge k p level fine t) :=
  Kept.fin (h.withEdges (fun _ h1 => h1.setCluster))

theorem Kept.accPadstampRead {k p r o} (h : Kept s t) : KeptOut s (accPadstampRead k p r o t) :=
  .ite h.setCluster.done.fin h.setCluster.done.fin

theorem Kept.offer {k q e} (h : Kept s t) : Kept s (t.offer k q e) := by
  unfold State.offer
  dsimp only
  split
  · exact h.qBusPush.done.setQueue
  · exact h.qBusPush.setQueue
  · split
    exacts [h, .ite h h.portPush.setQueue]
  · exact .ite h h.qOffer.setQueue

theorem Kept.execQueuePush {k q offers} (h : Kept s t) : KeptOut s (execQueuePush k q offers t) := by
  refine .ite ?_ ?_
  · split
    exacts [h.fin, h.offer.fin]
  · refine Kept.fin ?_
    refine .foldl ?_ h
    intro _ _ h1
    split
    exacts [h1.setPe.qPush, h1.qPush.done, h1.qPush]

theorem Kept.accQpush {k q o w} (h : Kept s t) : KeptOut s (accQpush k q o w t) := h.qBusPush.done.fin
theorem Kept.accQpushend {k q o w} (h : Kept s t) : KeptOut s (accQpushend k q o w t) := h.qBusPush.done.fin
theorem Kept.accQpusherr {k q o w} (h : Kept s t) : KeptOut s (accQpusherr k q o w t) := h.qBusPush.done.fin
theorem Kept.busRead {k q o burst} (h : Kept s t) : Kept s (t.busRead k q o burst) := .ite h.setQueue h.busPop
theorem Kept.accQpop {k q o} (h : Kept s t) : KeptOut s (accQpop k q o t) := (Kept.ite h.busRead h.zero.bump.done).fin

theorem Kept.execQueueReadWaitExpire {k q} (h : Kept s t) : KeptOut s (execQueueReadWaitExpire k q t) := by
  unfold Machine.execQueueReadWaitExpire
  dsimp only
  split
  exacts [h.fin, h.setQueue.endRead.fin]

theorem Kept.execQueuePointerMismatch {k q refused} (h : Kept s t) : KeptOut s (execQueuePointerMismatch k q refused t) := by
  refine .ite h.fin ?_
  exact
    have h1 := Kept.ite h.qClear.setQueue h.qClear
    h1.setEvent.clusterIrq.report.fin

theorem Kept.accQReset {k q o w} (h : Kept s t) : KeptOut s (accQReset k q o w t) :=
  (Kept.ite h.done h.writeReg.qClear.done).fin

theorem Kept.accBurstRead {k q o ofs len} (h : Kept s t) : KeptOut s (accBurstRead k q o ofs len t) :=
  (Kept.ite h.done (.ite h.busRead h.bumpBy.done)).fin

/-! ### Machine/Can.lean -/

theorem Kept.canWords {k q ws} (h : Kept s t) : Kept s (t.canWords k q ws).1 :=
  .ite_fst h.setQueue (.ite_fst h.bumpBy (.ite_fst (.ite_fst h.bumpBy.setQueue (.ite_fst h.bumpBy.setQueue h.bumpBy))
    h.bumpBy.setEvent.clusterIrq))

theorem Kept.canEvent {k j code err} (h : Kept s t) : Kept s (t.canEvent k j code err) :=
  .ite h (.ite (.ite h.canWords.clusterIrq h.canWords.clusterIrq) h.canWords)

theorem Kept.canDiscard {k j} (h : Kept s t) : Kept s (t.canDiscard k j) := by
  unfold State.canDiscard
  dsimp only
  split
  exacts [h.qTakeN.setCan.canEvent, h.qTakeN.setCan]

theorem Kept.execCanTransmitRecord {k j} (h : Kept s t) : KeptOut s (execCanTransmitRecord k j t) := by
  refine .ite h.fin ?_
  refine .ite h.canDiscard.fin ?_
  split
  exacts [.ite h.qTakeN.setCan.fin h.canDiscard.fin, (Kept.ite h.canDiscard h).fin]

theorem Kept.execCanLaunch {k j} (h : Kept s t) : KeptOut s (execCanLaunch k j t) := by
  unfold Machine.execCanLaunch
  dsimp only
  split
  exacts [h.fin, Kept.fin (.ite (h.withEdges (fun _ h1 => h1.setCan)) h)]

theorem Kept.canTake {k j w0 w1 sof data} (h : Kept s t) : Kept s (t.canTake k j w0 w1 sof data) :=
  .ite h (.ite h.canWords h.canWords.canEvent)

theorem Kept.canRecovers {k j} (h : Kept s t) : Kept s (t.canRecovers k j) := .ite h h.setCan

theorem Kept.canCounts {k j tec rec_} (h : Kept s t) : Kept s (t.canCounts k j tec rec_) :=
  .ite h.setCan.puts (.ite (Kept.canEvent (.ite (Kept.canRecovers (h.setCan.puts.withEdges (fun _ h1 => h1.setCan)))
    (h.setCan.puts.withEdges (fun _ h1 => h1.setCan)))) h.setCan.puts.canEvent)

theorem Kept.loopBack {k j c} (h : Kept s t) : Kept s (t.loopBack k j c) := by
  unfold State.loopBack
  split
  exacts [.ite h.canTake h, h]

theorem Kept.measureDelay {k j c} (h : Kept s t) : Kept s (t.measureDelay k j c) := by
  unfold State.measureDelay
  split
  exacts [.ite h.put h, h]

theorem Kept.execCanFrameSent {k j r} (h : Kept s t) : KeptOut s (execCanFrameSent k j r t) := by
  refine .ite h.fin ?_
  refine Kept.fin ?_
  split
  exacts [Kept.canCounts (Kept.loopBack (Kept.measureDelay (Kept.setCan (h.withEdges (fun _ h1 => h1.setCan))))),
    h.withEdges (fun _ h1 => h1.setCan), Kept.withEdges (h.withEdges (fun _ h1 => h1.setCan)) (fun _ h1 =>
    h1.canErrorFlag.canCounts)]

theorem Kept.execCanReceive {k j w0 w1 sof data} (h : Kept s t) : KeptOut s (execCanReceive k j w0 w1 sof data t) :=
  .ite h.fin (Kept.fin (Kept.canTake (h.withEdges (fun _ h1 => h1.canAck))))

theorem Kept.execCanBusEvent {k j tec rec_} (h : Kept s t) : KeptOut s (execCanBusEvent k j tec rec_ t) :=
  .ite h.fin (Kept.fin (Kept.canCounts (.ite (h.withEdges (fun _ h1 => h1.canErrorFlag)) h)))

theorem Kept.canCfgWrite {k j o w} (h : Kept s t) : Kept s (t.canCfgWrite k j o w) :=
  Kept.done (.ite (Kept.canRecovers (.ite (Kept.put (Kept.setCan (h.withEdges (fun _ h1 => h1.writeReg.setCan)))) (.ite
    (Kept.puts (Kept.setCan (h.withEdges (fun _ h1 => h1.writeReg.setCan)))) (h.withEdges (fun _ h1 =>
    h1.writeReg.setCan))))) (.ite (Kept.put (Kept.setCan (h.withEdges (fun _ h1 => h1.writeReg.setCan)))) (.ite (Kept.puts
    (Kept.setCan (h.withEdges (fun _ h1 => h1.writeReg.setCan)))) (h.withEdges (fun _ h1 => h1.writeReg.setCan)))))

theorem Kept.accCanRecover {k j o w} (h : Kept s t) : KeptOut s (accCanRecover k j o w t) := h.canCfgWrite.fin

theorem Kept.execCanRecoveryDone {k j} (h : Kept s t) : KeptOut s (execCanRecoveryDone k j t) :=
  .ite h.fin h.setCan.puts.canEvent.fin

theorem Kept.accCanModeWrite {k j o w} (h : Kept s t) : KeptOut s (accCanModeWrite k j o w t) := h.canCfgWrite.fin

/-! ### Machine/Bridge.lean -/

theorem Kept.dropOverlaps {c ofs size} (h : Kept s t) : Kept s (t.dropOverlaps c ofs size) :=
  .foldl (fun _ _ h1 => h1.discardHeld) h.setChan

theorem Kept.chIssue {c r} (h : Kept s t) : Kept s (t.chIssue c r) :=
  have h1 := Kept.ite h.dropAhead.dropOverlaps h
  h1.qPushAll.setChan

theorem Kept.stopFill {c} (h : Kept s t) : Kept s (t.stopFill c) := .ite h.setChan.dropAhead h

theorem Kept.retryLimit {c y told} (h : Kept s t) : Kept s (t.retryLimit c y told) :=
  .ite h.targetNote.report (.ite h.targetNote.report.discardHeld h.targetNote.report.holdResult)

theorem Kept.crossingRetry {t_} (h : Kept s t) : Kept s (t.crossingRetry t_) :=
  .foldl (fun _ _ h1 => h1.retryLimit) (.foldl (fun _ _ h1 => h1.retryLimit) h.setChan)

theorem Kept.enterLine {c r} (h : Kept s t) : Kept s (t.enterLine c r) := .ite h.setChan h.setChan

theorem Kept.accessFails {c r status detail} (h : Kept s t) : Kept s (t.accessFails c r status detail) :=
  .ite h.chError.lastStatus.farFault h.chError.chReturn

theorem Kept.takeHeld {c r x} (h : Kept s t) : Kept s (t.takeHeld c r x) := h.setChan.chReturn

theorem Kept.windowRead {c r} (h : Kept s t) : Kept s (t.windowRead c r) := by
  unfold State.windowRead
  dsimp only
  split
  · exact h.takeHeld
  · refine .ite h.chReturn ?_
    refine .ite h.enterLine ?_
    split
    exacts [h.setChan.chReturn, h.enterLine]

theorem Kept.accept {c r} (h : Kept s t) : Kept s (t.accept c r) :=
  .ite (.ite h.chReturn h.stopFill.dropOverlaps.enterLine) h.windowRead

theorem Kept.windowOpen {c r bus} (h : Kept s t) : Kept s (t.windowOpen c r bus) := by
  refine .ite h.accessFails ?_
  refine .ite (Kept.ite h.chDrop h).accessFails ?_
  split
  exacts [h.accept, .ite h.accept (.ite h.crossingRetry.accept h.accessFails)]

theorem Kept.takeKept {c fuel} (h : Kept s t) : Kept s (t.takeKept c fuel) := by
  induction fuel generalizing t with
  | zero => exact h
  | succ fuel ih =>
    unfold State.takeKept
    split
    exacts [h, .ite h (ih h.setChan.windowOpen)]

theorem Kept.windowArrive {c r bus} (h : Kept s t) : Kept s (t.windowArrive c r bus) := .ite h.windowOpen h.setChan.takeKept

theorem Kept.execWindowAccess {c o nd write acked ofs size data left bus} (h : Kept s t) : KeptOut s (execWindowAccess c o
    nd write acked ofs size data left bus t) :=
  (Kept.ite (.ite (.ite h.accessFails h) (Kept.ite h.accessFails h).done) (.ite (.ite h.bump h.bump.done)
    h.windowArrive)).fin

theorem Kept.execFarPartIssue {c} (h : Kept s t) : KeptOut s (execFarPartIssue c t) := by
  unfold Machine.execFarPartIssue
  dsimp only
  split
  exacts [h.fin, .ite h.setChan.chIssue.fin h.fin]

theorem Kept.enterPosted {c} (h : Kept s t) : Kept s (t.enterPosted c) := by
  unfold State.enterPosted
  dsimp only
  split
  exacts [h, .ite h.setChan.qPushAll h, .ite h h.setChan.chIssue]

theorem Kept.enterNonPosted {c} (h : Kept s t) : Kept s (t.enterNonPosted c) := by
  unfold State.enterNonPosted
  dsimp only
  split
  · exact h
  · split
    · exact h.setChan.takeHeld
    · split
      exacts [h.setChan.chFinish, .ite (Kept.ite h.setChan h.setChan.dropAhead).chIssue h]

theorem Kept.execOutQueueEnter {c} (h : Kept s t) : KeptOut s (execOutQueueEnter c t) :=
  have h1 := Kept.ite h.enterNonPosted h.enterPosted
  h1.takeKept.fin

theorem Kept.fillEnds {c} (h : Kept s t) : Kept s (t.fillEnds c) := .ite h.setChan h
theorem Kept.fillPart {c r bs} (h : Kept s t) : Kept s (t.fillPart c r bs) := .ite h.setChan h
theorem Kept.partNext {c r} (h : Kept s t) : Kept s (t.partNext c r) := .ite h.setChan (.ite h.fillEnds h)

theorem Kept.partOk {c r value} (h : Kept s t) : Kept s (t.partOk c r value) :=
  .ite h.fillPart.partNext (.ite h.partNext h.chFinish.partNext)

theorem Kept.partFail {c r status detail extra} (h : Kept s t) : Kept s (t.partFail c r status detail extra) :=
  have h1 := Kept.ite h.fillEnds h
  .ite h1 h1.chFinish

theorem Kept.partDone {c f status detail extra value} (h : Kept s t) : Kept s (t.partDone c f status detail extra value) :=
  .ite h.setChan.partOk h.setChan.partFail

theorem Kept.strayRecord {c} (h : Kept s t) : Kept s (t.strayRecord c) := h.chDrop.chError.farFault

theorem Kept.takeResponse {c ws} (h : Kept s t) : Kept s (t.takeResponse c ws) := by
  refine .ite h.setChan.bump ?_
  split
  exacts [h.strayRecord, .ite h.partDone h.partDone]

theorem Kept.execResponseRecord {c} (h : Kept s t) : KeptOut s (execResponseRecord c t) := by
  refine .ite h.fin ?_
  split
  exacts [h.fin, h.qTakeN.takeResponse.fin]

theorem Kept.execFarTimeout {c} (h : Kept s t) : KeptOut s (execFarTimeout c t) := by
  unfold Machine.execFarTimeout
  split
  exacts [h.fin, h.setChan.partDone.fin]

theorem Kept.execReadDeadline {c} (h : Kept s t) : KeptOut s (execReadDeadline c t) := by
  unfold Machine.execReadDeadline
  split
  exacts [h.fin, h.setChan.lastStatus.chError.chAnswer.fin]

theorem Kept.execDiscardTimer {c} (h : Kept s t) : KeptOut s (execDiscardTimer c t) := by
  unfold Machine.execDiscardTimer
  dsimp only
  split
  exacts [h.fin, h.setChan.discardHeld.fin]

theorem Kept.execReadAheadLifeExpire {c} (h : Kept s t) : KeptOut s (execReadAheadLifeExpire c t) :=
  (Kept.ite h.dropAhead h).fin

theorem Kept.targetAnswers {c n} (h : Kept s t) : Kept s (t.targetAnswers c n) := by
  induction n generalizing t with
  | zero => exact h
  | succ n ih =>
    unfold State.targetAnswers
    split
    · exact h
    · split
      exacts [h, .ite (ih h.setChan.qPushAll) h]

theorem Kept.targetAddrFault {c y e} (h : Kept s t) : Kept s (t.targetAddrFault c y e) := .ite h.fault h
theorem Kept.targetIssue {c y} (h : Kept s t) : Kept s (t.targetIssue c y) := (Kept.ite h.dropOverlaps h).emit

theorem Kept.addTarget {c y e} (h : Kept s t) : Kept s (t.addTarget c y e) := by
  unfold State.addTarget
  dsimp only
  split
  exacts [h.setChan, h.setChan.targetNote]

theorem Kept.targetLost {c y e} (h : Kept s t) : Kept s (t.targetLost c y e) := h.targetNote.farFault

theorem Kept.takeRequest {c ws} (h : Kept s t) : Kept s (t.takeRequest c ws) := by
  refine .ite (.ite h.chDrop.targetLost h.addTarget) ?_
  split
  · exact h.setChan.addTarget
  · refine .ite h.addTarget ?_
    split
    exacts [.ite h.targetAddrFault.targetLost h.targetAddrFault.addTarget, (Kept.ite h h.addTarget).targetIssue]

theorem Kept.execTargetRequest {c} (h : Kept s t) : KeptOut s (execTargetRequest c t) := by
  refine .ite h.fin ?_
  split
  exacts [h.fin, (Kept.ite h.qTakeN.takeRequest h.qTakeN.strayRecord).fin]

theorem Kept.targetResult {c r} (h : Kept s t) : Kept s (t.targetResult c r) := by
  refine .ite ?_ ?_
  · split
    exacts [h, .ite h (.ite h.setChan (.ite h.setChan.retryLimit h.setChan.crossingDone))]
  · split
    exacts [h, .ite h (.ite (.ite h.setChan.retryLimit h.setChan) h.setChan.targetNote)]

theorem Kept.targetsGone {c} (h : Kept s t) : Kept s (t.targetsGone c) :=
  .foldl (fun _ _ h1 => h1.crossingDone) (.foldl (fun _ _ h1 => h1.targetNote) h.setChan)

theorem Kept.execTargetResponse {c r} (h : Kept s t) : KeptOut s (execTargetResponse c r t) := by
  refine Kept.fin ?_
  refine Kept.targetAnswers ?_
  split
  exacts [h, h.targetResult]

/-- The retry's status is generalised as a constant: a kernel that unfolds it counts down its bound of 2 ^ 34. -/
theorem Kept.targetAgain {c i y} (h : Kept s t) : Kept s (t.targetAgain c i y) := by
  have h1 : Kept s (t.bump (BRG_CHCNT1.retries (c / 8) (c % 8))) := h.bump
  generalize hF : State.targetAgain = F
  delta State.targetAgain at hF
  subst hF
  beta_reduce
  dsimp only
  generalize State.targetStatus _ c y = st
  cases st with
  | none => exact h1.setChan.targetIssue
  | some e => exact h1.setChan.targetAddrFault.crossingDone

theorem Kept.execRetryBackoffExpire {c} (h : Kept s t) : KeptOut s (execRetryBackoffExpire c t) := by
  unfold Machine.execRetryBackoffExpire
  dsimp only
  split
  · exact h.fin
  · split
    exacts [h.fin, (Kept.ite h.setChan.retryLimit h.targetAgain).fin]

theorem Kept.dropAllHeld {c} (h : Kept s t) : Kept s (t.dropAllHeld c) := .foldl (fun _ _ h1 => h1.discardHeld) h.setChan

theorem Kept.chCtlWrite {c o w} (h : Kept s t) : Kept s (t.chCtlWrite c o w) := by
  refine .ite h.done ?_
  exact
    have h1 := Kept.ite h.chanReset h
    have h2 := Kept.ite h1.dropAllHeld h1
    h2.done

theorem Kept.execChReset {c o w} (h : Kept s t) : KeptOut s (execChReset c o w t) := h.chCtlWrite.fin
theorem Kept.execDropHeld {c o w} (h : Kept s t) : KeptOut s (execDropHeld c o w t) := h.chCtlWrite.fin

theorem Kept.sendEvent {c word} (h : Kept s t) : Kept s (t.sendEvent c word) := by
  unfold State.sendEvent
  dsimp only
  split
  · split
    exacts [h.setChan.toSwitch, h.bump]
  · exact h.setChan.toSwitch
  · exact h.setChan.toSwitch
  · exact h.bump

theorem Kept.execEventMessage {c} (h : Kept s t) : KeptOut s (execEventMessage c t) := by
  unfold Machine.execEventMessage
  dsimp only
  split
  exacts [h.fin, (Kept.ite h.qTake.sendEvent h).fin]

theorem Kept.routedFrame {c cls ws out} (h : Kept s t) : Kept s (t.routedFrame c cls ws out) := h.toSwitch

theorem Kept.routeRecord {c ws} (h : Kept s t) : Kept s (t.routeRecord c ws) := by
  unfold State.routeRecord
  dsimp only
  split
  exacts [(Kept.ite (Kept.ite h.chError.farFault h).bump (Kept.ite h.chError.farFault h)).routedFrame, .ite (Kept.ite
    (Kept.ite h.chError.farFault h).bump (Kept.ite h.chError.farFault h)).routedFrame (Kept.ite (Kept.ite h.chError.farFault
    h).bump (Kept.ite h.chError.farFault h)).bump]

theorem Kept.execRouteLookup {c} (h : Kept s t) : KeptOut s (execRouteLookup c t) := by
  refine .ite h.fin ?_
  split
  exacts [h.fin, (Kept.ite h.qTakeN.routeRecord h.qTakeN.strayRecord).fin]

theorem Kept.mark {map i} (h : Kept s t) : Kept s (t.mark map i) := h.put

theorem Kept.unstage {live stg map n} (h : Kept s t) : Kept s (t.unstage live stg map n) :=
  .foldl (fun _ _ h1 => h1.zero) (.foldl (fun _ _ h1 => .foldl (fun _ _ h2 => h2.put) h1) h)

theorem Kept.execStageClear {r o} (h : Kept s t) : KeptOut s (execStageClear r o t) := (Kept.ite h.done h.unstage.done).fin

theorem Kept.execRouteStageWrite {r i w o v} (h : Kept s t) : KeptOut s (execRouteStageWrite r i w o v t) :=
  (Kept.ite h.refuseWrite h.put.mark.done).fin

/-! ### Machine/Gates.lean -/

theorem Kept.showGates {g} (h : Kept s t) : Kept s (t.showGates g) := h.puts
theorem Kept.execGateEntry {g} (h : Kept s t) : KeptOut s (execGateEntry g t) := h.showGates.next

theorem Kept.gateCtl {g o w} (h : Kept s t) : Kept s (t.gateCtl g o w) :=
  .ite h.done (.ite h.put.refuse (.ite h.put.done (.ite h.put.put.done h.put.update.put.done)))

theorem Kept.execGateCommit {g o w} (h : Kept s t) : KeptOut s (execGateCommit g o w t) := h.gateCtl.fin
theorem Kept.execGateCancel {g o w} (h : Kept s t) : KeptOut s (execGateCancel g o w t) := h.gateCtl.fin

theorem Kept.swapLists {g} (h : Kept s t) : Kept s (t.swapLists g) :=
  .foldl (fun _ _ h1 => .foldl (fun _ _ h2 => .ite h2 h2.puts) h1) h

theorem Kept.execGateChange {g} (h : Kept s t) : KeptOut s (execGateChange g t) := (Kept.ite h.swapLists.zero h).next

theorem Kept.execGateStageWrite {g i w o v} (h : Kept s t) : KeptOut s (execGateStageWrite g i w o v t) :=
  (Kept.ite h.refuseWrite h.put.done).fin

theorem Kept.setSwQueue {key l} (h : Kept s t) : Kept s (t.setSwQueue key l) := h.update
theorem Kept.shape {f len} (h : Kept s t) : Kept s (t.shape f len).1 := h.update
theorem Kept.leaveWheel {key} (h : Kept s t) : Kept s (t.leaveWheel key) := h.update

theorem Kept.execWheelEnter {o u c} (h : Kept s t) : KeptOut s (execWheelEnter o u c t) := by
  unfold Machine.execWheelEnter
  dsimp only
  split
  · exact h.next
  · split
    exacts [h.next, .ite h.next (.ite h.setSwQueue.update.next h.setSwQueue.update.hw.next)]

theorem Kept.offWheel {ks} (h : Kept s t) : Kept s (t.offWheel ks) := by
  induction ks generalizing t with
  | nil => exact h
  | cons key ks ih =>
    unfold State.offWheel
    split
    exacts [ih h, ih h.setSwQueue]

theorem Kept.execWheelTick (h : Kept s t) : KeptOut s (execWheelTick t) := .ite h.next h.update.offWheel.next

/-! ### Machine/LinkTx.lean -/

theorem Kept.setLink {p x} (h : Kept s t) : Kept s (t.setLink p x) := h.update
theorem Kept.setDelay {p x} (h : Kept s t) : Kept s (t.setDelay p x) := h.update
theorem Kept.restartDelay {p} (h : Kept s t) : Kept s (t.restartDelay p) := h.setDelay
theorem Kept.noteRequest {p f} (h : Kept s t) : Kept s (t.noteRequest p f) := .ite h.setDelay h
theorem Kept.sendBlock {p type payload} (h : Kept s t) : Kept s (t.sendBlock p type payload) := h.setLink.emit
theorem Kept.launchSheet {p y} (h : Kept s t) : Kept s (t.launchSheet p y) := h.setLink.bumpWrap.emit

theorem Kept.sendSheet {p starts cont stomp mgmt payload} (h : Kept s t) : Kept s (t.sendSheet p starts cont stomp mgmt
    payload) :=
  have h1 := Kept.ite h.bump h
  h1.setLink.launchSheet

theorem Kept.giveLink {p f} (h : Kept s t) : Kept s (t.giveLink p f) := h.setLink
theorem Kept.setTransit {d x} (h : Kept s t) : Kept s (t.setTransit d x) := h.update.put.hw
theorem Kept.crossHeld {o f} (h : Kept s t) : Kept s (t.crossHeld o f) := .ite h.giveLink h

theorem Kept.drainMirrors {p fuel} (h : Kept s t) : Kept s (t.drainMirrors p fuel) := by
  induction fuel generalizing t with
  | zero => exact h
  | succ fuel ih =>
    unfold State.drainMirrors
    dsimp only
    split
    exacts [h, .ite (ih h.setLink.sendSheet) h]

theorem Kept.sendTransit {p d e} (h : Kept s t) : Kept s (t.sendTransit p d e) := h.setLink.drainMirrors.setLink
theorem Kept.closeMirror {p d} (h : Kept s t) : Kept s (t.closeMirror p d) := .ite h.setLink.drainMirrors.setLink h
theorem Kept.endStomped {p} (h : Kept s t) : Kept s (t.endStomped p) := h.closeMirror.closeMirror.setLink.emit

theorem Kept.drainMgmt {p fuel} (h : Kept s t) : Kept s (t.drainMgmt p fuel) := by
  induction fuel generalizing t with
  | zero => exact h
  | succ fuel ih =>
    unfold State.drainMgmt
    dsimp only
    split
    exacts [h, .ite (ih h.setLink.sendSheet) h]

theorem Kept.giveMgmt {p bs} (h : Kept s t) : Kept s (t.giveMgmt p bs) := h.setLink.drainMgmt
theorem Kept.startExchange {p} (h : Kept s t) : Kept s (t.startExchange p) := h.setLink.draw.giveMgmt

theorem Kept.startRekey {p forced} (h : Kept s t) : Kept s (t.startRekey p forced) := by
  unfold State.startRekey
  dsimp only
  split
  exacts [h.setLink, h.setLink.startExchange]

/-! ### Machine/Ptp.lean -/

theorem Kept.residence {e f} (h : Kept s t) : Kept s (t.residence e f).1 := .ite_fst h.draw h
theorem Kept.setTwoSteps {e l} (h : Kept s t) : Kept s (t.setTwoSteps e l) := h.update
theorem Kept.ethOut {e f bs} (h : Kept s t) : Kept s (t.ethOut e f bs) := h.emit

theorem Kept.followUp {e f} (h : Kept s t) : Kept s (t.followUp e f) := by
  unfold State.followUp
  split
  exacts [h.setTwoSteps.ethOut, h.bump.ethOut]

theorem Kept.syncOut {e f peer} (h : Kept s t) : Kept s (t.syncOut e f peer) :=
  .ite h.residence.setTwoSteps.ethOut h.residence.ethOut

theorem Kept.ptpEgress {e f peer} (h : Kept s t) : Kept s (t.ptpEgress e f peer) := by
  refine .ite h.ethOut ?_
  split
  exacts [h.syncOut, h.followUp, .ite h.bump h.residence.ethOut, .ite h.bump h.ethOut, h.bump, h.bump, h.bump, h.ethOut]

theorem Kept.ptpEnds {e bs} (h : Kept s t) : KeptSome s (t.ptpEnds e bs) :=
  .ite trivial (.ite (Kept.ite h h.bump).toSome (.ite h.bump.toSome trivial))

/-! ### Machine/Switch.lean -/

theorem Kept.answerLost {f reason o} (h : Kept s t) : Kept s (t.answerLost f reason o) := .ite h.toSwitch h

theorem Kept.countDrop {o c reason} (h : Kept s t) : Kept s (t.countDrop o c reason) := by
  unfold State.countDrop
  dsimp only
  split
  exacts [Kept.ite h.bump h.bump, .ite (Kept.ite h.bump h.bump).bump (.ite (Kept.ite h.bump h.bump).bump (Kept.ite h.bump
    h.bump))]

theorem Kept.captureWrite {bs} (h : Kept s t) : Kept s (t.captureWrite bs) := .ite h.update.bump h.update.setBytes.update.put

theorem Kept.captureCopy {f i o c epoch reason index grouped want} (h : Kept s t) : Kept s (t.captureCopy f i o c epoch
    reason index grouped want) :=
  .ite h.captureWrite h

theorem Kept.noteEntry {i p} (h : Kept s t) : Kept s (t.noteEntry i p) := .ite h (.foldl (fun _ _ h1 => .ite h1.update h1) h)

theorem Kept.launchHead {o x} (h : Kept s t) : Kept s (t.launchHead o x).1 := by
  unfold State.launchHead
  dsimp only
  refine .ite_fst h ?_
  split
  exacts [.ite_fst h.bump (.ite_fst h (.ite_fst h.bump h)), h.bump]

theorem Kept.release {id} (h : Kept s t) : Kept s (t.release id) := by
  unfold State.release
  split
  exacts [h, h.update]

theorem Kept.headLaunch {key} (h : Kept s t) : Kept s (t.headLaunch key) := by
  unfold State.headLaunch
  split
  exacts [h, h.launchHead.setSwQueue]

theorem Kept.enqueueCopy {o u x} (h : Kept s t) : Kept s (t.enqueueCopy o u x) :=
  have h1 := Kept.ite h.bump h
  .ite h1.captureCopy.setSwQueue.headLaunch h1.captureCopy.setSwQueue

theorem Kept.storeFrame {cells copies epoch chan} (h : Kept s t) : Kept s (t.storeFrame cells copies epoch chan) :=
  h.update.hw

theorem Kept.notice {i f index cls epoch grouped missed} (h : Kept s t) : Kept s (t.notice i f index cls epoch grouped
    missed) :=
  .ite h.bump.storeFrame.enqueueCopy h.bump

theorem Kept.offerCopies {i p epoch id since l} (h : Kept s t) : Kept s (t.offerCopies i p epoch id since l).1 := by
  induction l generalizing t with
  | nil => exact h
  | cons x l ih =>
    unfold State.offerCopies
    split
    · exact (ih h.countDrop.answerLost.captureCopy).release
    · refine ih (Kept.enqueueCopy ?_)
      split
      exacts [h.shape, h]

theorem Kept.noticeOf {i x p epoch lost missed} (h : Kept s t) : Kept s (t.noticeOf i x p epoch lost missed) :=
  .ite h.notice h

theorem Kept.dropAll {i x p epoch why missed} (h : Kept s t) : Kept s (t.dropAll i x p epoch why missed) :=
  Kept.noticeOf (Kept.captureCopy (Kept.answerLost (.foldl (fun _ _ h1 => h1.countDrop) h)))

theorem Kept.countFlow {i p} (h : Kept s t) : Kept s (t.countFlow i p) := .ite h h.update

theorem Kept.enterPools {i x p epoch missed} (h : Kept s t) : Kept s (t.enterPools i x p epoch missed) :=
  (Kept.ite h.countFlow.noteEntry.storeFrame.offerCopies.release h.countFlow.noteEntry.storeFrame.offerCopies).noticeOf

theorem Kept.ingressDrop {i x plan why} (h : Kept s t) : Kept s (t.ingressDrop i x plan why) :=
  have h1 := Kept.ite h.bump h.bump
  h1.answerLost.captureCopy

theorem Kept.ingressPlan {i x plan missed} (h : Kept s t) : KeptSome s (t.ingressPlan i x plan missed) := by
  refine .ite ?_ ?_
  · refine Kept.toSome ?_
    split
    exacts [h.ingressDrop.noticeOf, .ite h.ingressDrop.notice h.ingressDrop]
  · split
    exacts [(Kept.ite h.ingressDrop.notice h.ingressDrop).toSome, .ite h.dropAll.toSome (.ite h.enterPools.toSome (.ite
      h.dropAll.toSome trivial))]

theorem Kept.ingress {i x} (h : Kept s t) : KeptSome s (t.ingress i x) := h.ingressPlan
theorem Kept.learn {bs node port} (h : Kept s t) : Kept s (t.learn bs node port) := .ite h.bump h.update.put
theorem Kept.learnRing {i f} (h : Kept s t) : Kept s (t.learnRing i f) := .ite h.learn h
theorem Kept.ingressNow {i x} (h : Kept s t) : Kept s (t.ingressNow i x) := .getD h.learnRing.ingress h.learnRing

theorem Kept.execFrameIngress {i x} (h : Kept s t) : KeptOut s (Machine.execFrameIngress i x t) := by
  refine .ite h.fin (.ite (Kept.fin ?_) ?_)
  · split
    exacts [h.ingressNow, h]
  · extract_lets u
    have hu : Kept s u := by
      dsimp only [u]
      split
      exacts [h.toSwitch, h]
    clear_value u
    split
    · exact hu.fin
    · next y rest e =>
      have hy : KeptSome s (u.ingress i y) := hu.ingress
      split
      · exact hu.update.fin
      · next v ev =>
        rw [ev] at hy
        exact (show Kept s v from hy).update.fin

theorem Kept.lateDrop {o x why} (h : Kept s t) : Kept s (t.lateDrop o x why) :=
  .ite h.countDrop.answerLost.captureCopy.release.notice h.countDrop.answerLost.captureCopy.release

theorem Kept.newHead {o u c fuel} (h : Kept s t) : Kept s (t.newHead o u c fuel) := by
  induction fuel generalizing t with
  | zero => exact h
  | succ fuel ih =>
    unfold State.newHead
    split
    exacts [h, .ite (ih h.setSwQueue.lateDrop) h.headLaunch]

theorem Kept.dropQueued {o u c why p} (h : Kept s t) : Kept s (t.dropQueued o u c why p) := by
  refine .ite ?_ h
  exact
    have h1 := Kept.ite h.setSwQueue.leaveWheel h.setSwQueue
    .ite (Kept.newHead (.foldl (fun _ _ h2 => h2.lateDrop) h1)) (.foldl (fun _ _ h2 => h2.lateDrop) h1)

theorem Kept.dropWhere {why out p} (h : Kept s t) : Kept s (t.dropWhere why out p) :=
  .foldl (fun _ _ h1 => .ite h1.dropQueued h1) h

theorem Kept.outputDown {o} (h : Kept s t) : Kept s (t.outputDown o) := h.zero.dropWhere
theorem Kept.execOutputDown {o} (h : Kept s t) : KeptOut s (execOutputDown o t) := (Kept.ite h.outputDown h).fin

theorem Kept.countWaits {o} (h : Kept s t) : Kept s (t.countWaits o) := by
  unfold State.countWaits
  split
  · exact h
  · refine .foldl ?_ h
    intro _ _ h1
    split
    exacts [.ite h1 h1.setSwQueue.bump, h1]

theorem Kept.choose {o} (h : Kept s t) : Kept s (t.choose o).2 := by
  unfold State.choose
  split
  · exact h
  · split
    · exact h
    · dsimp only
      split
      exacts [h, h.update]

theorem Kept.patchMap {n g} (h : Kept s t) : Kept s (t.patchMap n g) := by
  refine Kept.puts ?_
  split
  exacts [h.update, h]

theorem Kept.lateMark {n b} (h : Kept s t) : Kept s (t.lateMark n b) := .ite h.patchMap.put h.patchMap
theorem Kept.answerSlot {p} (h : Kept s t) : Kept s (t.answerSlot p) := .ite h.update.lateMark h.update

theorem Kept.sendRing {o x} (h : Kept s t) : Kept s (t.sendRing o x) := by
  refine .ite h.lateDrop ?_
  refine .ite (.ite h.release.noteRequest.giveLink h.release) ?_
  exact
    have h1 := Kept.ite h.noteRequest.crossHeld.giveLink.answerSlot h.noteRequest.crossHeld.giveLink
    h1.update

theorem Kept.ingressPeer {f} (h : Kept s t) : Kept s (t.ingressPeer f).1 := .ite_fst h h.draw

theorem Kept.sendCopy {o x} (h : Kept s t) : Kept s (t.sendCopy o x) :=
  .ite h.sendRing (.ite h.release.setChan (.ite h.release.emit (.ite h.release.ingressPeer.ptpEgress h.release.emit)))

theorem Kept.noteLeaves {f} (h : Kept s t) : Kept s (t.noteLeaves f) := .ite h.update h

theorem Kept.sendHead {o u c} (h : Kept s t) : Kept s (t.sendHead o u c) := by
  unfold State.sendHead
  split
  · exact h
  · exact
      have h1 := Kept.ite h.bump h
      h1.setSwQueue.update.noteLeaves.sendCopy.newHead

theorem Kept.transitLost {d f} (h : Kept s t) : Kept s (t.transitLost d f) := .ite h.setTransit h
theorem Kept.turnLost {d f} (h : Kept s t) : Kept s (t.turnLost d f) := .ite h.countDrop.captureCopy h.transitLost

theorem Kept.forwardEntry {d e} (h : Kept s t) : Kept s (t.forwardEntry d e) :=
  have h1 := Kept.ite h h.crossHeld
  .ite h1.sendTransit h1.sendTransit.bumpWrap

theorem Kept.sendTransitHead {d} (h : Kept s t) : Kept s (t.sendTransitHead d) := by
  unfold State.sendTransitHead
  split
  · exact h
  · dsimp only
    split
    · exact h.setTransit.forwardEntry
    · exact
        have h1 := Kept.ite h.setTransit h.setTransit.turnLost
        .ite h1.notice h1

theorem Kept.selectRing {o} (h : Kept s t) : Kept s (t.selectRing o) := by
  unfold State.selectRing
  dsimp only
  split
  · exact h.sendTransitHead
  · refine .ite h ?_
    have hc : Kept s (t.choose o).2 := h.choose
    split
    · next e => exact Kept.sendHead (by rwa [e] at hc)
    · next e => rwa [e] at hc

theorem Kept.execLaunch {o u c} (h : Kept s t) : KeptOut s (execLaunch o u c t) := by
  unfold Machine.execLaunch
  split
  exacts [h.next, .ite h.setSwQueue.next h.next]

theorem Kept.putEpochs {live drain draining committing} (h : Kept s t) : Kept s (t.putEpochs live drain draining committing)
    :=
  .foldl (fun _ _ h1 => h1.puts) h.puts

theorem Kept.commitTable {live stg map n} (h : Kept s t) : Kept s (t.commitTable live stg map n) :=
  .foldl (fun _ _ h1 => h1.zero) (.foldl (fun _ _ h1 => .foldl (fun _ _ h2 => h2.update.put) h1) h)

theorem Kept.commitAll (h : Kept s t) : Kept s t.commitAll := by
  unfold State.commitAll
  dsimp only
  refine Kept.putEpochs (Kept.commitTable (Kept.commitTable (.foldl (fun u r hu => ?_) h)))
  exact hu.commitTable

theorem Kept.flushAll (h : Kept s t) : Kept s t.flushAll :=
  Kept.dropWhere (.foldl (fun _ _ h1 => .foldl (fun _ _ h2 => h2.ingressNow) h1) h.update)

theorem Kept.swCtl {o w} (h : Kept s t) : Kept s (t.swCtl o w) := by
  refine .ite h.done ?_
  refine .ite h.put.refuse ?_
  refine .ite h.put.done ?_
  exact
    have h1 := Kept.ite h.put.commitAll h.put
    (Kept.ite h1.flushAll h1).done

theorem Kept.execCommit {o w} (h : Kept s t) : KeptOut s (execCommit o w t) := h.swCtl.fin
theorem Kept.execFlush {o w} (h : Kept s t) : KeptOut s (execFlush o w t) := h.swCtl.fin
theorem Kept.execCommitEnd (h : Kept s t) : KeptOut s (execCommitEnd t) := (Kept.ite h.putEpochs h).next
theorem Kept.execDrainEnd (h : Kept s t) : KeptOut s (execDrainEnd t) := .ite h.update.putEpochs.next h.next

theorem Kept.execFlowStageWrite {grp i w o v} (h : Kept s t) : KeptOut s (execFlowStageWrite grp i w o v t) :=
  (Kept.ite h.refuseWrite h.put.mark.done).fin

theorem Kept.execCaprdWrite {o v} (h : Kept s t) : KeptOut s (execCaprdWrite o v t) := h.put.done.next
theorem Kept.execCaptureResume {o w} (h : Kept s t) : KeptOut s (execCaptureResume o w t) := h.writeReg.done.fin

theorem Kept.forwardOn {d e} (h : Kept s t) : Kept s (t.forwardOn d e) := by
  unfold State.forwardOn
  dsimp only
  split
  exacts [.ite (Kept.ite h.closeMirror h) (Kept.ite h.closeMirror h).turnLost, .ite (Kept.ite h.closeMirror
    h).update.forwardEntry (.ite (Kept.ite h.closeMirror h) (.ite (Kept.ite h.closeMirror h).bump.endStomped.report
    (Kept.ite h.closeMirror h).setTransit))]

theorem Kept.transitHop {d e} (h : Kept s t) : Kept s (t.transitHop d e) :=
  .ite (.ite h.closeMirror h.closeMirror.transitLost) h.forwardOn

theorem Kept.takeLocal {d f ok} (h : Kept s t) : Kept s (t.takeLocal d f ok) :=
  .ite h (.ite (.getD h.ingressPlan h) (.ite h.emit.ingressNow (.ite h.emit h)))

theorem Kept.resetTransit {d f} (h : Kept s t) : Kept s (t.resetTransit d f) := h.transitLost.bump

theorem Kept.execTransitForward {d f w0 x} (h : Kept s t) : KeptOut s (execTransitForward d f w0 x t) :=
  .ite h.fin (.ite h.takeLocal.transitHop.fin (.ite (Kept.ite h (.ite h.resetTransit h.ingressNow)).fin h.transitHop.fin))

/-! ### Machine/Link.lean -/

theorem Kept.cutTransit {p part} (h : Kept s t) : Kept s (t.cutTransit p part) := by
  refine .ite (Kept.ite h.setTransit h).endStomped ?_
  split
  · exact Kept.ite h.setTransit h
  · split
    exacts [Kept.ite h.setTransit h, .ite (Kept.ite h.setTransit h) (Kept.ite h.setTransit
      h).setLink.drainMirrors.endStomped]

theorem Kept.linkDrop {p} (h : Kept s t) : Kept s (t.linkDrop p) := by
  refine Kept.dropSessions ?_
  refine Kept.setLink ?_
  refine Kept.update ?_
  split
  exacts [Kept.release (.foldl (fun _ _ h1 => .ite h1.setTransit h1) h.cutTransit), .foldl (fun _ _ h1 => .ite
    h1.setTransit h1) h.cutTransit]

theorem Kept.linkIdle {p} (h : Kept s t) : Kept s (t.linkIdle p) := .foldl (fun _ _ h1 => h1.puts) h.puts

theorem Kept.linkLeaves {p} (h : Kept s t) : Kept s (t.linkLeaves p) :=
  .ite h.linkDrop.linkIdle.put h.linkDrop.linkIdle.put.outputDown.outputDown

theorem Kept.linkDown {p reason} (h : Kept s t) : Kept s (t.linkDown p reason) := h.puts.linkLeaves.report
theorem Kept.trainTo {p st} (h : Kept s t) : Kept s (t.trainTo p st) := .ite h.setLink.put.emit h.setLink.put
theorem Kept.enterUp {p} (h : Kept s t) : Kept s (t.enterUp p) := h.restartDelay.setLink.puts

theorem Kept.resendSheet {p q} (h : Kept s t) : Kept s (t.resendSheet p q) := by
  unfold State.resendSheet
  dsimp only
  split
  exacts [h.setLink, h.setLink.launchSheet]

theorem Kept.sentRing {p} (h : Kept s t) : Kept s (t.sentRing p) := by
  unfold State.sentRing
  split
  exacts [h, h.release.update]

theorem Kept.newSheet {p} (h : Kept s t) : Kept s (t.newSheet p) :=
  .ite h (.ite h.setLink.sendSheet.sentRing h.setLink.sendSheet)

theorem Kept.nextSheet {p} (h : Kept s t) : Kept s (t.nextSheet p) :=
  .ite h.drainMirrors (.ite h.newSheet (.ite h.drainMgmt (.ite h (.ite h.sendSheet h.newSheet))))

theorem Kept.execSheetSend {p} (h : Kept s t) : KeptOut s (execSheetSend p t) := by
  refine .ite h.fin ?_
  split
  exacts [h.resendSheet.fin, (Kept.ite h.nextSheet h).fin]

theorem Kept.startReplay {p q} (h : Kept s t) : Kept s (t.startReplay p q) := .ite h.bump.linkDown h.setLink.bump
theorem Kept.takeAck {p a} (h : Kept s t) : Kept s (t.takeAck p a) := .ite h.setLink h

theorem Kept.execAckReceive {p ack nakSeq nak} (h : Kept s t) : KeptOut s (execAckReceive p ack nakSeq nak t) :=
  .ite h.fin (.ite h.takeAck.fin (.ite h.takeAck.takeAck.startReplay.fin h.takeAck.setLink.fin))

theorem Kept.execReplayTimeout {p} (h : Kept s t) : KeptOut s (execReplayTimeout p t) := by
  unfold Machine.execReplayTimeout
  dsimp only
  split
  exacts [h.fin, (Kept.ite h.startReplay h).fin]

theorem Kept.execAckSend {p} (h : Kept s t) : KeptOut s (execAckSend p t) := by
  unfold Machine.execAckSend
  dsimp only
  split
  exacts [h.next, .ite h.setLink.sendBlock.next h.next]

theorem Kept.sendNak {p} (h : Kept s t) : Kept s (t.sendNak p) := .ite h h.setLink.bump.sendBlock

theorem Kept.tagFailure {p} (h : Kept s t) : Kept s (t.tagFailure p) :=
  .ite h.setLink.bump.sendNak.linkDown.report h.setLink.bump.sendNak

theorem Kept.sheetWords {p y payload} (h : Kept s t) : Kept s (t.sheetWords p y payload) := by
  refine .ite (.ite h.startRekey h) ?_
  exact
    have h1 := Kept.ite h.bump.cutTransit h
    .foldl (fun _ _ h2 => h2.emit) h1.setLink

theorem Kept.fidleState' {p} (h : Kept s t) : Kept s (t.fidleState' p) := h.zero.put

theorem Kept.acceptSheet {p y payload} (h : Kept s t) : Kept s (t.acceptSheet p y payload) :=
  have h1 := Kept.ite h.setLink.dropSession h.setLink
  have h2 := Kept.ite h1.fidleState' h1
  h2.bumpWrap.takeAck.sheetWords

theorem Kept.idleErrors {p y} (h : Kept s t) : Kept s (t.idleErrors p y) := h.bumpBy
theorem Kept.headerErrors {p y} (h : Kept s t) : Kept s (t.headerErrors p y) := .foldl (fun _ _ h1 => h1.bump) h

theorem Kept.execSheetReceive {p y} (h : Kept s t) : KeptOut s (execSheetReceive p y t) := by
  refine .ite h.headerErrors.idleErrors.fin ?_
  refine .ite h.headerErrors.idleErrors.bump.sendNak.fin ?_
  refine .ite h.headerErrors.idleErrors.bump.fin ?_
  refine .ite h.headerErrors.idleErrors.bump.sendNak.fin ?_
  refine .ite h.headerErrors.idleErrors.bump.takeAck.fin ?_
  split
  exacts [h.headerErrors.idleErrors.tagFailure.fin, h.headerErrors.idleErrors.acceptSheet.fin]

theorem Kept.takeSpare {p j} (h : Kept s t) : Kept s (t.takeSpare p j) := by
  refine Kept.bump ?_
  refine Kept.puts ?_
  refine Kept.takePool ?_
  split
  exacts [h.restartDelay.put, h.restartDelay]

theorem Kept.amRound {p unscheduled} (h : Kept s t) : Kept s (t.amRound p unscheduled) :=
  Kept.setLink (.foldl (fun _ _ h1 => h1.emit) h)

theorem Kept.execAmSend {p} (h : Kept s t) : KeptOut s (execAmSend p t) := .ite h.next h.setLink.amRound.next

theorem Kept.execAmReceive {p l found} (h : Kept s t) : KeptOut s (execAmReceive p l found t) :=
  .ite h.setLink.put.next (.ite h.setLink.next (Kept.ite h.setLink.zero.zero h.setLink.zero).next)

theorem Kept.sendLane {p cmd j now} (h : Kept s t) : Kept s (t.sendLane p cmd j now) := h.sendBlock

theorem Kept.execMirrorConfirm {p j} (h : Kept s t) : KeptOut s (execMirrorConfirm p j t) := by
  unfold Machine.execMirrorConfirm
  dsimp only
  split
  exacts [h.next, (Kept.ite h.setLink h).next]

theorem Kept.execLaneSwitched {e} (h : Kept s t) : KeptOut s (execLaneSwitched e t) := by
  unfold Machine.execLaneSwitched
  dsimp only
  split
  · exact h.fin
  · refine .ite h.fin ?_
    split
    exacts [.ite h.fin (Kept.ite h.setLink.takeSpare h.setLink.takeSpare.sendLane).fin, .ite h.fin h.setLink.puts.fin]

theorem Kept.execMirrorTimeout {p} (h : Kept s t) : KeptOut s (execMirrorTimeout p t) := by
  unfold Machine.execMirrorTimeout
  dsimp only
  split
  exacts [h.next, (Kept.ite h.setLink h).next]

theorem Kept.dropLane {p j} (h : Kept s t) : Kept s (t.dropLane p j) :=
  Kept.amRound (Kept.setLink (Kept.puts (Kept.restartDelay (.foldl (fun _ _ h1 => h1.put) h))))

theorem Kept.laneLost {p j} (h : Kept s t) : Kept s (t.laneLost p j) :=
  .ite h.puts.linkDown (.ite h.puts.setLink.sendLane h.puts.sendLane.dropLane)

theorem Kept.execLaneLoss {p r} (h : Kept s t) : KeptOut s (execLaneLoss p r t) := by
  refine .ite h.fin ?_
  split
  exacts [h.laneLost.fin, (Kept.ite h.setLink.amRound h).fin, (Kept.ite h h.dropLane).fin]

theorem Kept.execSpareLaneLockLoss {p} (h : Kept s t) : KeptOut s (execSpareLaneLockLoss p t) := (Kept.ite h.puts h).next
theorem Kept.execSpareLaneRelock {p} (h : Kept s t) : KeptOut s (execSpareLaneRelock p t) := (Kept.ite h.puts h).next
theorem Kept.linkRefuse {p o} (h : Kept s t) : Kept s (t.linkRefuse p o) := h.put.refuse
theorem Kept.linkOk {p o} (h : Kept s t) : Kept s (t.linkOk p o) := h.put.done
theorem Kept.retrain {p} (h : Kept s t) : Kept s (t.retrain p) := h.put.linkLeaves.setLink.trainTo
theorem Kept.startMirror {p j asked} (h : Kept s t) : Kept s (t.startMirror p j asked) := h.setLink
theorem Kept.laneSwitch {p j} (h : Kept s t) : Kept s (t.laneSwitch p j) := h.startMirror.sendLane
theorem Kept.startTone {p} (h : Kept s t) : Kept s (t.startTone p) := h.setLink.emit

theorem Kept.linkCtl {p o w} (h : Kept s t) : Kept s (t.linkCtl p o w) := by
  refine .ite h.done ?_
  refine .ite h.linkRefuse ?_
  exact
    have h1 := Kept.ite h.writeReg.retrain h.writeReg
    have h2 := Kept.ite h1.linkDown.setLink h1
    have h3 := Kept.ite h2.laneSwitch h2
    have h4 := Kept.ite h3.startRekey h3
    have h5 := Kept.ite h4.startTone h4
    .ite h5.done h5.linkOk

theorem Kept.execRetrain {p o w} (h : Kept s t) : KeptOut s (execRetrain p o w t) := h.linkCtl.fin
theorem Kept.execDown {p o w} (h : Kept s t) : KeptOut s (execDown p o w t) := h.linkCtl.fin

theorem Kept.execLaneSw {p o w} (h : Kept s t) : KeptOut s (execLaneSw p o w t) := by
  unfold Machine.execLaneSw
  split
  exacts [h.linkCtl.fin, (Kept.ite h.startMirror h).fin]

theorem Kept.execRekey {p o w} (h : Kept s t) : KeptOut s (execRekey p o w t) := by
  unfold Machine.execRekey
  split
  exacts [h.linkCtl.fin, (Kept.ite h.startRekey h).fin]

theorem Kept.execRekeyTimeout {p} (h : Kept s t) : KeptOut s (execRekeyTimeout p t) := by
  unfold Machine.execRekeyTimeout
  split
  exacts [(Kept.ite h.linkDown h).fin, h.fin]

theorem Kept.execWake {p o w} (h : Kept s t) : KeptOut s (execWake p o w t) := by
  unfold Machine.execWake
  split
  exacts [h.linkCtl.fin, (Kept.ite h.startTone h).fin]

theorem Kept.execWakeToneEnd {p trained} (h : Kept s t) : KeptOut s (execWakeToneEnd p trained t) := by
  unfold Machine.execWakeToneEnd
  dsimp only
  split
  exacts [h.next, .ite h.next (.ite (Kept.ite h.setLink.trainTo h.setLink).next (Kept.ite h.setLink h).next)]

theorem Kept.execDownRetry {p} (h : Kept s t) : KeptOut s (execDownRetry p t) := (Kept.ite h.trainTo h).next

theorem Kept.execSignalDetect {p lanes} (h : Kept s t) : KeptOut s (execSignalDetect p lanes t) :=
  (Kept.ite h.setLink.trainTo h).next

theorem Kept.execBlockLock {p lanes} (h : Kept s t) : KeptOut s (execBlockLock p lanes t) :=
  Kept.next (.ite (Kept.trainTo (.foldl (fun _ _ h1 => h1.put) h)) h)

theorem Kept.repeatCap {p} (h : Kept s t) : Kept s (t.repeatCap p) := Kept.setLink (.foldl (fun _ _ h1 => h1.emit) h)
theorem Kept.sendCap {p rxOk} (h : Kept s t) : Kept s (t.sendCap p rxOk) := h.puts.repeatCap
theorem Kept.linkTick {p} (h : Kept s t) : Kept s (t.linkTick p) := .ite (.ite h.repeatCap h) (.ite h.nextSheet h)

theorem Kept.execAlignFound {p skew} (h : Kept s t) : KeptOut s (execAlignFound p skew t) :=
  Kept.next (.ite (Kept.sendCap (Kept.trainTo (.foldl (fun _ _ h1 => .ite h1.put h1) h))) h)

theorem Kept.execCapReceive {p w} (h : Kept s t) : KeptOut s (execCapReceive p w t) :=
  .ite h.next (Kept.ite h.setLink.puts.sendCap h.setLink.puts).next

theorem Kept.applyOutcome {p version lanes spare prot coal} (h : Kept s t) : Kept s (t.applyOutcome p version lanes spare
    prot coal) :=
  .ite (Kept.startExchange (Kept.trainTo (Kept.setLink (Kept.puts (.foldl (fun _ _ h1 => h1.put.put) h))))) (Kept.enterUp
    (Kept.setLink (Kept.puts (.foldl (fun _ _ h1 => h1.put.put) h))))

theorem Kept.execNegotiation {p} (h : Kept s t) : KeptOut s (execNegotiation p t) := by
  refine .ite h.fin ?_
  split
  exacts [h.linkDown.report.fin, h.applyOutcome.fin]

theorem Kept.execTrainingTimeout {p} (h : Kept s t) : KeptOut s (execTrainingTimeout p t) := by
  unfold Machine.execTrainingTimeout
  split
  exacts [(Kept.ite h.linkDown h).fin, h.fin]

theorem Kept.execSyncHeaderLoss {p} (h : Kept s t) : KeptOut s (execSyncHeaderLoss p t) := (Kept.ite h.linkDown h).fin
theorem Kept.fidleState {p} (h : Kept s t) : Kept s (t.fidleState p) := h.put
theorem Kept.execFidleRequest {p} (h : Kept s t) : KeptOut s (execFidleRequest p t) := (Kept.ite h.setLink.sendBlock h).next

theorem Kept.execFidleGrant {p tx} (h : Kept s t) : KeptOut s (execFidleGrant p tx t) :=
  .ite h.next (.ite (Kept.ite h.setLink.put.fidleState h).next h.put.sendBlock.fidleState.next)

theorem Kept.execFidleBurst {p} (h : Kept s t) : KeptOut s (execFidleBurst p t) := (Kept.ite h.emit h).next

theorem Kept.execFidleExit {p tx} (h : Kept s t) : KeptOut s (execFidleExit p tx t) :=
  .ite (Kept.ite h.setLink.put.sendBlock.fidleState h).next (Kept.ite h.put.fidleState h).next

/-! ### Machine/Clock.lean -/

theorem Kept.frameEdges {s_ k} (h : Kept s t) : Kept s (State.frameEdges s_ t k) :=
  .ite (.foldl (fun _ _ h1 => .ite h1 h1.captureEdge) h) h

theorem Kept.clockTick (h : Kept s t) : Kept s t.clockTick :=
  Kept.linkTick (Kept.linkTick (.foldl (fun _ _ h1 => .foldl (fun _ _ h2 => h2.applyDue.forceDue) h1) (.ite
    (Kept.queuesCycle (.foldl (fun _ _ h1 => h1.frameEdges) (Kept.update (.foldl (fun _ _ h1 => h1.sampleLevels) h))))
    (.foldl (fun _ _ h1 => h1.frameEdges) (Kept.update (.foldl (fun _ _ h1 => h1.sampleLevels) h))))))

/-! ### Machine/Mirror.lean -/

theorem Kept.mirrorOut {handover held} (h : Kept s t) : Kept s (t.mirrorOut handover held) := by
  unfold State.mirrorOut
  split
  exacts [h, h.update.toRing]

theorem Kept.mirrorSend (h : Kept s t) : Kept s t.mirrorSend := h.mirrorOut
theorem Kept.hostRequest {f} (h : Kept s t) : Kept s (t.hostRequest f) := .ite h.update.mirrorOut h.toSwitch
theorem Kept.sendHeldReqs {n} (h : Kept s t) : Kept s (t.sendHeldReqs n) := .foldl (fun _ _ h1 => h1.toSwitch) h.update
theorem Kept.putLag (h : Kept s t) : Kept s t.putLag := h.put

theorem Kept.updateAcked (h : Kept s t) : Kept s t.updateAcked := by
  unfold State.updateAcked
  split
  exacts [h, h.update.putLag.sendHeldReqs]

/-! ### Machine/Host.lean -/

theorem Kept.setRole {r} (h : Kept s t) : Kept s (t.setRole r) := .ite h (.ite h.put.puts.roleVector h.put)

theorem Kept.sendRequest {ftype addr size tag unit data} (h : Kept s t) : Kept s (t.sendRequest ftype addr size tag unit
    data) :=
  h.hostRequest

theorem Kept.sendRead {r} (h : Kept s t) : Kept s (t.sendRead r) := .ite h.toRing h.sendRequest

theorem Kept.readAborts {tag addr status detail idx} (h : Kept s t) : Kept s (t.readAborts tag addr status detail idx) :=
  h.aerError.emit.errLog

theorem Kept.execHostRead {tag addr size} (h : Kept s t) : KeptOut s (execHostRead tag addr size t) :=
  .ite h.next (.ite h.readAborts.next (.ite h.readAborts.next h.update.sendRead.next))

theorem Kept.execHostWrite {addr data} (h : Kept s t) : KeptOut s (execHostWrite addr data t) :=
  .ite h.next (.ite h.aerError.next (.ite h.errLog.bump.next (.ite h.toRing.next (.ite h.errLog.bump.next (Kept.next (.foldl
    (fun _ _ h1 => h1.sendRequest) h))))))

theorem Kept.readsDone (h : Kept s t) : Kept s t.readsDone := .ite h.update.setRole h
theorem Kept.closeRead {r} (h : Kept s t) : Kept s (t.closeRead r) := h.update.readsDone

theorem Kept.complRead {r f} (h : Kept s t) : Kept s (t.complRead r f) :=
  .ite h.closeRead.readAborts (.ite h.closeRead.emit h.update.sendRead)

theorem Kept.execComplReceive {f} (h : Kept s t) : KeptOut s (execComplReceive f t) := by
  refine .ite h.next ?_
  split
  exacts [h.complRead.next, h.bump.next]

theorem Kept.execHostReadTimeout (h : Kept s t) : KeptOut s (execHostReadTimeout t) := by
  unfold Machine.execHostReadTimeout
  split
  exacts [h.next, h.closeRead.readAborts.next]

theorem Kept.setSlot {n x} (h : Kept s t) : Kept s (t.setSlot n x) := h.update

theorem Kept.slotResult {n status detail idx data} (h : Kept s t) : Kept s (t.slotResult n status detail idx data) :=
  have h1 := Kept.ite h.setSlot.puts.vector h.setSlot.puts
  .ite h1 h1.errLog

theorem Kept.slotIssue {n} (h : Kept s t) : Kept s (t.slotIssue n) :=
  .ite h.bumpWrap.puts.setSlot.slotResult (.ite h.bumpWrap.puts.setSlot.sendRequest h.bumpWrap.puts.setSlot.sendRequest)

theorem Kept.execTsIssue {n o w} (h : Kept s t) : KeptOut s (execTsIssue n o w t) :=
  .ite h.addrFault.fin (.ite h.put.done.fin (.ite h.put.bump.done.fin (.ite h.put.done.fin h.writeReg.slotIssue.done.fin)))

theorem Kept.execTsResult {f} (h : Kept s t) : KeptOut s (execTsResult f t) :=
  .ite h.next (.ite h.bump.next h.slotResult.next)

theorem Kept.execTsTimeout {n} (h : Kept s t) : KeptOut s (execTsTimeout n t) := by
  unfold Machine.execTsTimeout
  split
  exacts [h.next, (Kept.ite h.slotResult h).next]

theorem Kept.failAbsent (h : Kept s t) : Kept s t.failAbsent :=
  .foldl (fun _ _ h1 => h1.targetsGone) (.foldl (fun _ _ h1 => .ite h1.slotResult h1) (.foldl (fun _ _ h1 =>
    h1.closeRead.readAborts) h))

theorem Kept.execRqWrite {j f idx} (h : Kept s t) : KeptOut s (execRqWrite j f idx t) :=
  .ite h.rqEnter.fin (Kept.ite h.rqEnter.countDrop.notice h.rqEnter.countDrop).fin

theorem Kept.execEvqWrite {vec msg} (h : Kept s t) : KeptOut s (execEvqWrite vec msg t) := h.evqEnter.next
theorem Kept.execRqModeration {j} (h : Kept s t) : KeptOut s (execRqModeration j t) := h.rqAnnounce.next

theorem Kept.execIfVersionWrite {o w} (h : Kept s t) : KeptOut s (execIfVersionWrite o w t) :=
  .ite h.addrFault.next (.ite h.put.bump.done.next h.puts.done.next)

theorem Kept.flrClear (h : Kept s t) : Kept s t.flrClear :=
  .foldl (fun _ _ h1 => .foldl (fun _ _ h2 => h2.zero) h1) (Kept.put (.foldl (fun _ _ h1 => h1.put) (.foldl (fun _ _ h1 =>
    h1.puts) h.put.update.readsDone)))

theorem Kept.execFlr {linkLost} (h : Kept s t) : KeptOut s (execFlr linkLost t) :=
  .ite h.fin (.ite h.flrClear.update.puts.outputDown.fin h.flrClear.fin)

theorem Kept.execPcieLinkUp {gen width mps} (h : Kept s t) : KeptOut s (execPcieLinkUp gen width mps t) :=
  .ite h.next h.update.puts.next

/-! ### Machine/Ring.lean -/

theorem Kept.useMap {epoch m} (h : Kept s t) : Kept s (t.useMap epoch m) :=
  Kept.failAbsent (.ite (Kept.roleVector (.ite (Kept.sendHeldReqs (Kept.update (Kept.update (Kept.puts (.foldl (fun _ _ h1
    => h1.puts) h))))) (Kept.update (Kept.puts (.foldl (fun _ _ h1 => h1.puts) h))))) (.ite (Kept.sendHeldReqs (Kept.update
    (Kept.update (Kept.puts (.foldl (fun _ _ h1 => h1.puts) h))))) (Kept.update (Kept.puts (.foldl (fun _ _ h1 => h1.puts)
    h)))))

theorem Kept.mapChange {f} (h : Kept s t) : Kept s (t.mapChange f) := h.update.broadcast

theorem Kept.topology {es} (h : Kept s t) : Kept s (t.topology es) :=
  .ite h (.ite h.mapChange (.foldl (fun _ _ h1 => h1.patchMap) h))

theorem Kept.execMapFrame {epoch m} (h : Kept s t) : KeptOut s (execMapFrame epoch m t) := (Kept.ite h h.update).next
theorem Kept.sendOn {p f} (h : Kept s t) : Kept s (t.sendOn p f) := .ite h h.toRingPort

theorem Kept.sendCycleStart {start} (h : Kept s t) : Kept s (t.sendCycleStart start) := by
  refine Kept.sendOn ?_
  refine Kept.sendOn ?_
  refine Kept.update ?_
  split
  exacts [h.useMap, h]

theorem Kept.execCycleStart (h : Kept s t) : KeptOut s (execCycleStart t) := by
  unfold Machine.execCycleStart
  split
  exacts [h.next, (Kept.ite h.sendCycleStart h).next]

theorem Kept.execCycleStartReceive {num epoch flags} (h : Kept s t) : KeptOut s (execCycleStartReceive num epoch flags t) :=
    by
  refine .ite h.next ?_
  dsimp only
  split
  exacts [(Kept.ite h.update.puts.useMap h.update.puts).next, h.update.puts.next]

theorem Kept.lagTick (h : Kept s t) : Kept s t.lagTick := .ite h.update.putLag h.put.draw

theorem Kept.execCycleTick (h : Kept s t) : KeptOut s (execCycleTick t) := by
  unfold Machine.execCycleTick
  split
  · exact h.next
  · refine .ite h.next ?_
    exact
      have h1 := Kept.ite h.bump h
      have h2 := Kept.ite h1.bumpWrap.lagTick h1.bumpWrap
      h2.update.next

theorem Kept.slotMarker {p} (h : Kept s t) : KeptOut s (t.slotMarker p) := by
  unfold State.slotMarker
  split
  · exact h.fin
  · refine .ite h.fin ?_
    split
    · exact h.sendHead.fin
    · refine Kept.fin ?_
      split
      exacts [h.ingressNow.sendHead, h.ingressNow]

theorem Kept.execSlotMarker {e} (h : Kept s t) : KeptOut s (execSlotMarker e t) := by
  unfold Machine.execSlotMarker
  split
  exacts [h.slotMarker, (Kept.ite h.lateMark h).fin]

theorem Kept.slotMissed {p} (h : Kept s t) : KeptOut s (t.slotMissed p) := by
  refine .ite h.fin ?_
  exact
    have h1 := Kept.ite h.update.bump.lateMark h.update.bump
    h1.report.fin

theorem Kept.execSlotMissed {e} (h : Kept s t) : KeptOut s (execSlotMissed e t) := by
  unfold Machine.execSlotMissed
  split
  exacts [h.slotMissed, (Kept.ite h.lateMark h).fin]

theorem Kept.addJoin {n p} (h : Kept s t) : Kept s (t.addJoin n p) := .ite h.update h
theorem Kept.dropJoin {n p} (h : Kept s t) : Kept s (t.dropJoin n p) := h.update

theorem Kept.execWrap {e es} (h : Kept s t) : KeptOut s (execWrap e es t) := by
  unfold Machine.execWrap
  dsimp only
  split
  exacts [(Kept.ite h.dropJoin.topology h).next, .ite h.next h.dropJoin.put.topology.next]

theorem Kept.execLinkHeld {e} (h : Kept s t) : KeptOut s (execLinkHeld e t) := by
  unfold Machine.execLinkHeld
  dsimp only
  split
  exacts [h.addJoin.next, (Kept.ite h.put.addJoin h).next]

theorem Kept.spliceOrder {p out} (h : Kept s t) : Kept s (t.spliceOrder p out) := .ite (.ite h.put h) (.ite h.put h)

theorem Kept.execSpliceOrder {p out} (h : Kept s t) : KeptOut s (execSpliceOrder p out t) := by
  refine .ite h.next ?_
  split
  exacts [h.spliceOrder.next, h.update.next]

theorem Kept.joinPort {p} (h : Kept s t) : Kept s (t.joinPort p) := h.dropJoin.puts.update

theorem Kept.execSpliceDrained {e es} (h : Kept s t) : KeptOut s (execSpliceDrained e es t) := by
  refine .ite (Kept.ite (Kept.topology ?_) h) (.ite h (.ite h.joinPort.topology (.ite h.puts.topology h)))
  cases e.node
  exacts [h, h.dropJoin]

theorem Kept.execSpliceAbandon {p} (h : Kept s t) : KeptOut s (execSpliceAbandon p t) :=
  .ite h.next (.ite h.put.bump.next (.ite h.put.bump.next h.next))

theorem Kept.ringRefuse {o} (h : Kept s t) : Kept s (t.ringRefuse o) := h.put.refuse
theorem Kept.ringOk {o} (h : Kept s t) : Kept s (t.ringOk o) := h.put.done
theorem Kept.addLeave {x} (h : Kept s t) : Kept s (t.addLeave x) := h.update

theorem Kept.askLeave (h : Kept s t) : Kept s t.askLeave := by
  refine .ite h.addLeave ?_
  dsimp only
  split
  exacts [h.update.toRing, h.update]

theorem Kept.ringCtl {o w} (h : Kept s t) : Kept s (t.ringCtl o w) := by
  refine .ite h.done ?_
  refine .ite h.ringRefuse ?_
  exact
    have h1 := Kept.ite h.put.askLeave h.put
    have h2 := Kept.ite h1.update h1
    have h3 := Kept.ite h2.update h2
    h3.ringOk

theorem Kept.execLeave {o w} (h : Kept s t) : KeptOut s (execLeave o w t) := by
  unfold Machine.execLeave
  split
  exacts [h.ringCtl.fin, (Kept.ite h.addLeave h).fin]

theorem Kept.execRevertNow {o w} (h : Kept s t) : KeptOut s (execRevertNow o w t) := h.ringCtl.fin
theorem Kept.execRelease {o w} (h : Kept s t) : KeptOut s (execRelease o w t) := h.ringCtl.fin
theorem Kept.standDown (h : Kept s t) : Kept s t.standDown := h.zero.setRole.put
theorem Kept.handOver (h : Kept s t) : Kept s t.handOver := .ite h.mirrorOut.standDown h.mirrorOut.zero.setRole.put.update

theorem Kept.becomeActive {handed} (h : Kept s t) : Kept s (t.becomeActive handed) := by
  unfold State.becomeActive
  dsimp only
  exact Kept.mapChange (Kept.update h.put.setRole)

theorem Kept.orderOut {x} (h : Kept s t) : Kept s (t.orderOut x) :=
  .ite (Kept.spliceOrder (.ite (Kept.spliceOrder (.ite (Kept.update (.foldl (fun _ _ h1 => h1.toRing) h)) (.foldl (fun _ _
    h1 => h1.toRing) h))) (.ite (Kept.update (.foldl (fun _ _ h1 => h1.toRing) h)) (.foldl (fun _ _ h1 => h1.toRing) h))))
    (.ite (Kept.spliceOrder (.ite (Kept.update (.foldl (fun _ _ h1 => h1.toRing) h)) (.foldl (fun _ _ h1 => h1.toRing) h)))
    (.ite (Kept.update (.foldl (fun _ _ h1 => h1.toRing) h)) (.foldl (fun _ _ h1 => h1.toRing) h)))

theorem Kept.orderIn {j} (h : Kept s t) : Kept s (t.orderIn j) := .ite h.spliceOrder h.toRing

theorem Kept.sendOrders (h : Kept s t) : Kept s t.sendOrders :=
  Kept.update (.foldl (fun _ _ h1 => h1.orderIn) (.foldl (fun _ _ h1 => h1.orderOut) h))

theorem Kept.noteMove (h : Kept s t) : Kept s t.noteMove := by
  unfold State.noteMove
  split
  exacts [.ite h.update h, h]

theorem Kept.execSeamOpen (h : Kept s t) : KeptOut s (execSeamOpen t) := by
  refine .ite h.next ?_
  exact
    have h1 := Kept.ite h.update.noteMove.update h.update.noteMove
    have h2 := Kept.ite h1.sendOrders h1
    .ite h2.update.handOver.next (.ite h2.update.mirrorSend.standDown.next h2.update.next)

theorem Kept.execWitGrantSample {high} (h : Kept s t) : KeptOut s (execWitGrantSample high t) := by
  unfold Machine.execWitGrantSample
  split
  exacts [h.next, .ite h.next (.ite (Kept.ite h.update.standDown h.update.zero).next (.ite h.update.put.next (.ite
    h.update.put.next h.update.becomeActive.next)))]

theorem Kept.execWitGrantFall (h : Kept s t) : KeptOut s (execWitGrantFall t) :=
  .ite h.next (Kept.ite h.standDown h.zero).next

theorem Kept.execWitHealthToggle (h : Kept s t) : KeptOut s (execWitHealthToggle t) := by
  unfold Machine.execWitHealthToggle
  split
  exacts [h.next, .ite h.next h.update.emit.next]

theorem Kept.grantLease {x} (h : Kept s t) : Kept s (t.grantLease x) := h.update.toRing

theorem Kept.execLeaseRenew {m} (h : Kept s t) : KeptOut s (execLeaseRenew m t) := by
  unfold Machine.execLeaseRenew
  split
  · exact .ite h.toRing.next h.next
  · refine .ite h.next ?_
    split
    exacts [(Kept.ite h.grantLease h).next, h.grantLease.next]
  · exact .ite h.update.put.next h.next

theorem Kept.execLeaseExpire {standby} (h : Kept s t) : KeptOut s (execLeaseExpire standby t) := by
  refine .ite h.next ?_
  refine .ite ?_ (.ite h.next (Kept.ite h.update.standDown h.update.zero).next)
  split
  exacts [(Kept.ite h.update h.grantLease).next, h.update.next]

theorem Kept.execTakeover (h : Kept s t) : KeptOut s (execTakeover t) := by
  unfold Machine.execTakeover
  split
  exacts [h.next, (Kept.ite h.becomeActive.sendCycleStart h).next]

theorem Kept.execDualGrant {other preferred} (h : Kept s t) : KeptOut s (execDualGrant other preferred t) :=
  .ite h.fin h.standDown.setEvent.report.fin

theorem Kept.execRevert (h : Kept s t) : KeptOut s (execRevert t) :=
  .ite h.next (.ite (Kept.ite h.handOver h).next (Kept.ite h.becomeActive h).next)

theorem Kept.execMirrorHello {peer} (h : Kept s t) : KeptOut s (execMirrorHello peer t) := by
  refine .ite h.fin ?_
  split
  exacts [h.toRing.fin, (Kept.ite h.update.put.report h.update.put).fin]

theorem Kept.takeMirror {r} (h : Kept s t) : Kept s (t.takeMirror r) := .ite h.update.puts.toRing h.update.puts

theorem Kept.execMirrorUpdate {m} (h : Kept s t) : KeptOut s (execMirrorUpdate m t) := by
  unfold Machine.execMirrorUpdate
  split
  exacts [(Kept.ite h.mirrorSend h).next, h.updateAcked.next, (Kept.ite h.takeMirror h).next]

theorem Kept.execHealthReport {m} (h : Kept s t) : KeptOut s (execHealthReport m t) := by
  unfold Machine.execHealthReport
  split
  exacts [(Kept.ite h.update.put (.ite h.update h)).next, .ite h.next (Kept.next (.foldl (fun _ _ h1 => h1.toRing)
    h.update.put))]

theorem Kept.execLoopFrame {p back} (h : Kept s t) : KeptOut s (execLoopFrame p back t) :=
  .ite h.next (Kept.ite h.update h.update.sendOn).next

theorem Kept.execTakeoverCompletion {f} (h : Kept s t) : KeptOut s (execTakeoverCompletion f t) :=
  .ite h.next (.ite h.update.slotResult.next h.bump.next)

/-! ### Machine/FaultCmd.lean -/

theorem Kept.execInject {src o w} (h : Kept s t) : KeptOut s (execInject src o w t) :=
  .ite h.fin (.ite h.done.fin (.ite h.refuse.fin h.put.collect.done.fin))

theorem Kept.execFaultDetect {f inj} (h : Kept s t) : KeptOut s (execFaultDetect f inj t) := by
  refine .ite h.fin ?_
  split
  exacts [h.fault.fin, .ite h.fault.done.fin (.ite h.fault.refuse.fin h.put.collect.done.fin)]

theorem Kept.execFaultPulseEnd (h : Kept s t) : KeptOut s (execFaultPulseEnd t) := by
  unfold Machine.execFaultPulseEnd
  split
  exacts [h.fin, .ite h.fin (Kept.ite h.update.zero.driveFaultN.nodeReset h.update.zero.driveFaultN).fin]

theorem Kept.fltCtl {o w} (h : Kept s t) : Kept s (t.fltCtl o w) := by
  refine .ite h.done ?_
  exact
    have h1 := Kept.ite h.zero h
    have h2 := Kept.ite h1.zero.zero h1
    have h3 := Kept.ite h2.raise h2
    h3.done

theorem Kept.execReleaseCapture {o w} (h : Kept s t) : KeptOut s (execReleaseCapture o w t) := h.fltCtl.fin
theorem Kept.execClear {o w} (h : Kept s t) : KeptOut s (execClear o w t) := h.fltCtl.fin
theorem Kept.execHold {o w} (h : Kept s t) : KeptOut s (execHold o w t) := h.fltCtl.fin

theorem Kept.execPinHoldWrite {o w} (h : Kept s t) : KeptOut s (execPinHoldWrite o w t) :=
  .ite h.done.fin (Kept.ite h.put h.put.driveFaultN).done.fin

theorem Kept.execFaultForward {f} (h : Kept s t) : KeptOut s (execFaultForward f t) := .ite h.next h.enterRecord.next

theorem Kept.execForwardBacklog (h : Kept s t) : KeptOut s (execForwardBacklog t) :=
  .ite h.next (Kept.next (.foldl (fun _ _ h1 => .ite h1.bump h1.forward) h.update))

theorem Kept.execQuenchPin {level} (h : Kept s t) : KeptOut s (execQuenchPin level t) :=
  (Kept.ite h.update.trigger h.update).fin

theorem Kept.execQuenchTimeMatch (h : Kept s t) : KeptOut s (execQuenchTimeMatch t) :=
  .ite h.fin (Kept.ite h.zero.latch.quenchBroadcast h.zero.latch).fin

theorem Kept.qchCtl {o w} (h : Kept s t) : Kept s (t.qchCtl o w) := by
  refine .ite h.done ?_
  exact
    have h1 := Kept.ite h.zero h
    have h2 := Kept.ite h1.trigger h1
    h2.done

theorem Kept.execTrigger {o w} (h : Kept s t) : KeptOut s (execTrigger o w t) := h.qchCtl.fin
theorem Kept.execRearm {o w} (h : Kept s t) : KeptOut s (execRearm o w t) := h.qchCtl.fin

theorem Kept.armMatch {instant byRing byCommand} (h : Kept s t) : Kept s (t.armMatch instant byRing byCommand) :=
  .ite h.puts.setEvent.zero h.puts.update.raise

theorem Kept.execTmatchArm {o w} (h : Kept s t) : KeptOut s (execTmatchArm o w t) :=
  have h1 := Kept.ite h.put.armMatch h.put.zero
  h1.done.fin

theorem Kept.execQuenchBroadcastReceive {f} (h : Kept s t) : KeptOut s (execQuenchBroadcastReceive f t) :=
  .ite h.fin (Kept.ite h.latch h.armMatch).fin

/-! ### Machine/Mbx.lean -/

theorem Kept.results {m ws} (h : Kept s t) : Kept s (t.results m ws) := .foldl (fun _ _ h1 => h1.put) h

theorem Kept.mbxShow {m status code tag res} (h : Kept s t) : Kept s (t.mbxShow m status code tag res) :=
  have h1 := Kept.ite h.bump h.results
  h1.puts

theorem Kept.mbxEnd {m status res} (h : Kept s t) : Kept s (t.mbxEnd m status res) := h.mbxShow
theorem Kept.flashErase {a n} (h : Kept s t) : Kept s (t.flashErase a n) := h.update

theorem Kept.flashWrite {a bs} (h : Kept s t) : Kept s (t.flashWrite a bs) := by
  induction bs generalizing t a with
  | nil => exact h
  | cons b bs ih => exact ih h.update

/-! ### Machine/Crucible.lean -/

theorem Kept.zeroise {classes} (h : Kept s t) : Kept s (t.zeroise classes) :=
  Kept.update (.foldl (fun _ _ h1 => .ite h1.clearSlot h1) h)

theorem Kept.deriveSalt (h : Kept s t) : Kept s t.deriveSalt := by
  unfold State.deriveSalt
  split
  exacts [h, h.installKey]

theorem Kept.rekeyLinks {forced} (h : Kept s t) : Kept s (t.rekeyLinks forced) :=
  .foldl (fun _ _ h1 => .ite h1.startRekey h1) h

theorem Kept.refuseTree {fuel id} (h : Kept s t) : Kept s (t.refuseTree fuel id) := by
  induction fuel generalizing t id with
  | zero => exact h
  | succ fuel ih => exact .foldl (fun _ _ hu => .ite (ih hu.put.unstoreSlot) hu) h

theorem Kept.invalidate {id} (h : Kept s t) : Kept s (t.invalidate id) :=
  .ite (Kept.rekeyLinks (Kept.refuseTree (.foldl (fun _ _ h1 => .ite h1.put.unstoreSlot h1) h))) (Kept.refuseTree (.foldl
    (fun _ _ h1 => .ite h1.put.unstoreSlot h1) h))

theorem Kept.execRefusingZeroise {i} (h : Kept s t) : KeptOut s (execRefusingZeroise i t) := (Kept.ite h.clearSlot h).next
theorem Kept.renewSlot {i} (h : Kept s t) : Kept s (t.renewSlot i) := h.update
theorem Kept.execSlotRenew {i} (h : Kept s t) : KeptOut s (execSlotRenew i t) := (Kept.ite h.update h.renewSlot).next
theorem Kept.renewEnded (h : Kept s t) : Kept s t.renewEnded := .foldl (fun _ _ h1 => h1.renewSlot) h

theorem Kept.slotBad {i} (h : Kept s t) : Kept s (t.slotBad i) := by
  refine Kept.report ?_
  split
  exacts [.ite h.put.unstoreSlot.update h.put.unstoreSlot.update.put.storeSlot, h.put.unstoreSlot.update]

theorem Kept.assaySlots {bad} (h : Kept s t) : Kept s (t.assaySlots bad) := .foldl (fun _ _ h1 => .ite h1.slotBad h1) h

theorem Kept.consumePending (h : Kept s t) : Kept s t.consumePending :=
  .ite (Kept.zeroise (Kept.update (.foldl (fun _ _ h1 => h1.put) h))) (.foldl (fun _ _ h1 => h1.put) h)

theorem Kept.loadTouchmark (h : Kept s t) : Kept s t.loadTouchmark := by
  unfold State.loadTouchmark
  dsimp only
  exact h.putSlot.putSlot

theorem Kept.loadStore (h : Kept s t) : Kept s t.loadStore :=
  .foldl (fun _ _ h1 => h1.put) (.foldl (fun _ _ h1 => .ite h1.put h1.putSlot) h)

theorem Kept.execUnlock {pufFail bad} (h : Kept s t) : KeptOut s (execUnlock pufFail bad t) :=
  .ite h.fin (Kept.fin (Kept.puts (.ite (Kept.raise (.foldl (fun _ _ h1 => h1.put) h.consumePending)) (Kept.deriveSalt
    (Kept.assaySlots (Kept.loadStore (Kept.loadTouchmark (Kept.update (.foldl (fun _ _ h1 => h1.put)
    h.consumePending)))))))))

theorem Kept.cruCtl {o w bad} (h : Kept s t) : Kept s (t.cruCtl o w bad) := by
  refine .ite h.done ?_
  exact
    have h1 := Kept.ite h.assaySlots h
    Kept.done (.ite (.foldl (fun _ _ h2 => .ite h2 (.foldl (fun _ _ h3 => h3.zero) h2)) h1) h1)

theorem Kept.execTest {o w bad} (h : Kept s t) : KeptOut s (execTest o w bad t) := h.cruCtl.fin
theorem Kept.execTlogClear {o w} (h : Kept s t) : KeptOut s (execTlogClear o w t) := h.cruCtl.fin
theorem Kept.opEnd {p status n} (h : Kept s t) : Kept s (t.opEnd p status n) := h.update.renewEnded.puts
theorem Kept.opRefused {status} (h : Kept s t) : Kept s (t.opRefused status) := .ite h.bump h

theorem Kept.opBegin {p x} (h : Kept s t) : Kept s (t.opBegin p x) := by
  refine .ite h.opRefused.opEnd ?_
  refine .ite h.opEnd ?_
  refine .ite ?_ ?_
  · refine Kept.draw ?_
    split
    exacts [h.update.bumpWrap, h.update]
  · split
    exacts [h.update.bumpWrap, h.update]

theorem Kept.serveOps {fuel} (h : Kept s t) : Kept s (t.serveOps fuel) := by
  induction fuel generalizing t with
  | zero => exact h
  | succ fuel ih =>
    refine .ite h ?_
    dsimp only
    split
    exacts [h, ih h.update.opBegin]

theorem Kept.opStart {p o op w} (h : Kept s t) : Kept s (t.opStart p o op w) :=
  .ite h.done (.ite h.opRefused.put.done h.puts.update.serveOps.done)

theorem Kept.execRandom {p o w} (h : Kept s t) : KeptOut s (execRandom p o w t) := h.opStart.fin
theorem Kept.execGcmEnc {p o w} (h : Kept s t) : KeptOut s (execGcmEnc p o w t) := h.opStart.fin
theorem Kept.execGcmDec {p o w} (h : Kept s t) : KeptOut s (execGcmDec p o w t) := h.opStart.fin
theorem Kept.execGmac {p o w} (h : Kept s t) : KeptOut s (execGmac p o w t) := h.opStart.fin
theorem Kept.execSign {p o w} (h : Kept s t) : KeptOut s (execSign p o w t) := h.opStart.fin
theorem Kept.execVerify {p o w} (h : Kept s t) : KeptOut s (execVerify p o w t) := h.opStart.fin
theorem Kept.execEcdhDerive {p o w} (h : Kept s t) : KeptOut s (execEcdhDerive p o w t) := h.opStart.fin
theorem Kept.execHkdfDerive {p o w} (h : Kept s t) : KeptOut s (execHkdfDerive p o w t) := h.opStart.fin
theorem Kept.execSha384 {p o w} (h : Kept s t) : KeptOut s (execSha384 p o w t) := h.opStart.fin
theorem Kept.execPublic {p o w} (h : Kept s t) : KeptOut s (execPublic p o w t) := h.opStart.fin

theorem Kept.execKeyOpComplete {p} (h : Kept s t) : KeptOut s (execKeyOpComplete p t) := by
  unfold Machine.execKeyOpComplete
  split
  · exact h.fin
  · refine .ite h.fin ?_
    refine Kept.fin ?_
    refine Kept.serveOps ?_
    split
    exacts [h.installKey.opEnd, .ite h.setBytes.opEnd h.opEnd]

theorem Kept.execEntropySourceFailure (h : Kept s t) : KeptOut s (execEntropySourceFailure t) :=
  h.update.zero.bump.report.fin

theorem Kept.execEntropyRecover (h : Kept s t) : KeptOut s (execEntropyRecover t) := h.update.raise.next

theorem Kept.execEphemeralExpire {i} (h : Kept s t) : KeptOut s (execEphemeralExpire i t) := by
  unfold Machine.execEphemeralExpire
  dsimp only
  split
  exacts [h.next, (Kept.ite h.clearSlot h).next]

theorem Kept.execBenchEntry (h : Kept s t) : KeptOut s (execBenchEntry t) := by
  refine .ite h.next ?_
  exact
    have h1 := Kept.ite h.zeroise.puts h.zeroise.bump
    h1.update.raise.next

theorem Kept.tlogEntry {src phase resp periods} (h : Kept s t) : Kept s (t.tlogEntry src phase resp periods) := by
  unfold State.tlogEntry
  dsimp only
  split
  · exact h.bump
  · exact
      have h1 := Kept.ite h.bump h
      Kept.put (Kept.update (.foldl (fun _ _ h2 => h2.put) h1))

theorem Kept.abortKeyOps {wipe} (h : Kept s t) : Kept s (t.abortKeyOps wipe) := by
  refine .foldl ?_ ?_
  · intro _ _ h1
    refine .ite ?_ h1
    refine Kept.mbxEnd ?_
    split
    exacts [.ite h1.clearSlot h1, h1]
  · refine .foldl ?_ h
    intro _ _ h1
    split
    · refine Kept.opEnd ?_
      split
      exacts [.ite h1.clearSlot h1, h1]
    · exact h1

theorem Kept.tamperRunning {src resp} (h : Kept s t) : Kept s (t.tamperRunning src resp) := h.zeroise.collect

theorem Kept.tamper {srcs periods} (h : Kept s t) : Kept s (t.tamper srcs periods) := by
  unfold State.tamper
  dsimp only
  split
  exacts [.foldl (fun _ _ h1 => h1.tlogEntry) h, Kept.collect (.foldl (fun _ _ h1 => h1.tlogEntry) h), Kept.abortKeyOps
    (.foldl (fun _ _ h1 => h1.tlogEntry) h), Kept.update (.foldl (fun _ _ h1 => h1.tlogEntry) h), .foldl (fun _ _ h1 =>
    h1.tlogEntry) h, Kept.zeroise (Kept.update (.foldl (fun _ _ h1 => h1.tlogEntry) h)), Kept.tamperRunning
    (Kept.abortKeyOps (.foldl (fun _ _ h1 => h1.tlogEntry) h)), Kept.tamperRunning (.foldl (fun _ _ h1 => h1.tlogEntry) h)]

theorem Kept.execTamper {srcs periods} (h : Kept s t) : KeptOut s (execTamper srcs periods t) := h.tamper.fin
theorem Kept.execAonTimeRecord (h : Kept s t) : KeptOut s (execAonTimeRecord t) := h.update.next

theorem Kept.benchRecord {bs} (h : Kept s t) : Kept s (t.benchRecord bs) :=
  .ite h.flashWrite.update h.flashErase.update.flashWrite.update.flashWrite.update

theorem Kept.execBenchLogAppend (h : Kept s t) : KeptOut s (execBenchLogAppend t) :=
  .ite h.next (Kept.next (.foldl (fun _ _ h1 => h1.benchRecord.update) h))

/-! ### Machine/CastLoad.lean -/

theorem Kept.clearCast {p} (h : Kept s t) : Kept s (t.clearCast p) :=
  ⟨h.1, fun hs => ⟨SMap.sorted_filter _ _ (h.2 hs).1, (h.2 hs).2⟩⟩

theorem Kept.loadEach {α : Type} {f : State → α → Except LoadErr State} {l : List α} (h : Kept s t)
    (hf : ∀ u x, Kept s u → KeptOk s (f u x)) : KeptOk s (loadEach f l t) := by
  induction l generalizing t with
  | nil => exact h
  | cons x l ih =>
    have hx := hf t x h
    unfold Machine.loadEach
    split
    · trivial
    · next e => exact ih (by rwa [e] at hx)

theorem Kept.putWord {a w} (h : Kept s t) : Kept s (t.putWord a w) := by
  unfold State.putWord
  split
  exacts [h, .foldl (fun _ _ h1 => h1.put) h]

theorem Kept.loadWord {x keep a w} (h : Kept s t) : KeptOk s (t.loadWord x keep a w) := by
  unfold State.loadWord
  split
  · exact trivial
  · refine .ite trivial ?_
    refine .ite trivial ?_
    refine .ite trivial ?_
    refine .ite h.update.toOk ?_
    split
    · exact h.update.toOk
    · refine Kept.toOk ?_
      split
      exacts [.foldl (fun _ _ h1 => h1.put) h.update, .ite (Kept.update (Kept.putWord (.foldl (fun _ _ h1 =>
        h1.put) h.update))) (Kept.putWord (.foldl (fun _ _ h1 => h1.put) h.update))]

theorem Kept.loadRecords {x keep fuel ws} (h : Kept s t) : KeptOk s (t.loadRecords x keep fuel ws) := by
  induction fuel generalizing t ws with
  | zero => exact h
  | succ fuel ih =>
    rcases ws with _ | ⟨w0, _ | ⟨w1, rest⟩⟩
    · exact h
    · trivial
    · refine .ite trivial (.ite trivial ?_)
      have hl : KeptOk s (Machine.loadEach (fun s (e : Nat × Nat) => s.loadWord x keep (w0 + 4 * e.2) e.1) (rest.take w1).zipIdx t) :=
        h.loadEach (fun _ _ hu => hu.loadWord)
      split
      · trivial
      · next u e =>
        rw [e] at hl
        exact ih (show Kept s u from hl)

theorem Kept.loadSection {img keep x} (h : Kept s t) : KeptOk s (State.loadSection img keep t x) := by
  refine .ite trivial ?_
  split
  · exact .ite trivial (.ite trivial (Kept.loadRecords (.foldl (fun _ _ h1 => .ite h1.update h1) h)))
  · exact .ite trivial (.ite trivial h.put.update.loadRecords)
  · refine .ite trivial ?_
    split
    exacts [trivial, h.update.toOk]
  · refine .ite trivial ?_
    split
    exacts [trivial, h.update.toOk]
  · exact h.loadRecords

theorem Kept.castDefaults (h : Kept s t) : Kept s t.castDefaults := h.clearCast.keepRegs.update.update

theorem Kept.loadCasting {img} (h : Kept s t) : KeptOk s (t.loadCasting img) := by
  unfold State.loadCasting
  split
  · trivial
  · dsimp only
    split
    · trivial
    · next u e =>
      have hu : Kept s u := (e ▸ h.castDefaults.loadEach (fun _ _ hu => hu.loadSection) : KeptOk s (.ok u))
      split
      exacts [trivial, (Kept.ite hu hu.put).update]

theorem Kept.loadCluster {img k} (h : Kept s t) : Kept s (t.loadCluster img k) := by
  unfold State.loadCluster
  dsimp only
  split
  · exact h
  · next e => exact (e ▸ h.clearCast.update.loadEach (fun _ _ hu => hu.loadSection) : KeptOk s (.ok _))

theorem Kept.loadBlank (h : Kept s t) : Kept s t.loadBlank := .foldl (fun _ _ h1 => h1.puts) h.castDefaults.put

/-! ### Machine/Power.lean -/

theorem Kept.setFet {u x} (h : Kept s t) : Kept s (t.setFet u x) := h.update
theorem Kept.feedMeasure {u supply vout} (h : Kept s t) : Kept s (t.feedMeasure u supply vout) := .ite h.puts h.puts
theorem Kept.wReport {f} (h : Kept s t) : Kept s (t.wReport f) := .ite h.update h.report

theorem Kept.fetReport {u card feed extra} (h : Kept s t) : Kept s (t.fetReport u card feed extra) :=
  .ite h.wReport h.wReport

theorem Kept.dropEnables (h : Kept s t) : Kept s t.dropEnables := Kept.update (Kept.zero (.foldl (fun _ _ h1 => h1.emit) h))
theorem Kept.pgDrop {u} (h : Kept s t) : Kept s (t.pgDrop u) := .ite h (.ite h.zero.emit.dropEnables h.zero)

theorem Kept.gateOff {u st} (h : Kept s t) : Kept s (t.gateOff u st) :=
  .ite h.pgDrop.puts.setFet (.ite h.pgDrop.puts.setFet.emit.dropEnables.powerReset.update h.pgDrop.puts.setFet.emit)

theorem Kept.trip {u} (h : Kept s t) : Kept s (t.trip u) := h.gateOff.bump.fetReport
theorem Kept.waitTemp {u cold} (h : Kept s t) : Kept s (t.waitTemp u cold) := h.put.setFet
theorem Kept.execSeatDebounce (h : Kept s t) : KeptOut s (execSeatDebounce t) := .ite h.next h.waitTemp.next

theorem Kept.execSeatRelease (h : Kept s t) : KeptOut s (execSeatRelease t) :=
  .ite h.fin (Kept.fin (Kept.setFet (Kept.zero (Kept.gateOff (.foldl (fun _ _ h1 => h1.gateOff.zero.setFet) h)))))

theorem Kept.execTempRestartOk {u lo hi} (h : Kept s t) : KeptOut s (execTempRestartOk u lo hi t) :=
  .ite h.next h.put.emit.next

theorem Kept.execTsenseMeasure {reading} (h : Kept s t) : KeptOut s (execTsenseMeasure reading t) := by
  refine .ite h.next ?_
  dsimp only
  split
  exacts [h.raise.setFet.next, h.puts.setFet.next]

theorem Kept.execRampDone {u supply vout} (h : Kept s t) : KeptOut s (execRampDone u supply vout t) :=
  .ite h.feedMeasure.next h.feedMeasure.put.setFet.next

theorem Kept.execCurrentLimitEngage {u idle} (h : Kept s t) : KeptOut s (execCurrentLimitEngage u idle t) := by
  refine .ite h.next ?_
  refine Kept.next ?_
  refine Kept.setFet ?_
  refine Kept.raise ?_
  split
  exacts [.ite h.pgDrop h, h]

theorem Kept.execFaultTimerClear {u} (h : Kept s t) : KeptOut s (execFaultTimerClear u t) := by
  unfold Machine.execFaultTimerClear
  dsimp only
  split
  exacts [h.next, .ite h.next h.zero.setFet.next]

theorem Kept.execFaultTimerExpire {u} (h : Kept s t) : KeptOut s (execFaultTimerExpire u t) := .ite h.trip.fin h.fin

theorem Kept.execFetModelTick {u shunt tDieW} (h : Kept s t) : KeptOut s (execFetModelTick u shunt tDieW t) :=
  have h1 := Kept.ite h.put.setFet.put.put h.put.setFet.put.put
  (Kept.ite h1.trip h1).fin

theorem Kept.execVinWindowLeave {u v} (h : Kept s t) : KeptOut s (execVinWindowLeave u v t) := by
  refine .ite h.fin ?_
  exact
    have h1 := Kept.ite h.put.bump h.put
    h1.gateOff.waitTemp.fin

theorem Kept.execRetryOffExpire {u} (h : Kept s t) : KeptOut s (execRetryOffExpire u t) :=
  .ite h.fin (.ite h.setFet.waitTemp.fin h.put.fetReport.fin)

theorem Kept.execFetDamage {u supply vout} (h : Kept s t) : KeptOut s (execFetDamage u supply vout t) := by
  refine .ite h.fin ?_
  exact
    have h1 := Kept.ite h.feedMeasure.puts.raise.emit h.feedMeasure.puts
    h1.fetReport.fin

theorem Kept.enable {i} (h : Kept s t) : Kept s (t.enable i) := h.put.update.emit

theorem Kept.execPgAssert {u supply vout idle} (h : Kept s t) : KeptOut s (execPgAssert u supply vout idle t) := by
  refine .ite h.feedMeasure.next ?_
  refine .ite ?_ h.feedMeasure.raise.setFet.next
  dsimp only
  split
  exacts [h.feedMeasure.raise.setFet.emit.enable.next, h.feedMeasure.raise.setFet.emit.next]

theorem Kept.execPgDrop {u supply vout} (h : Kept s t) : KeptOut s (execPgDrop u supply vout t) :=
  .ite h.feedMeasure.next h.feedMeasure.pgDrop.next

theorem Kept.execRegSequenceStep {pg since} (h : Kept s t) : KeptOut s (execRegSequenceStep pg since t) := by
  unfold Machine.execRegSequenceStep
  dsimp only
  split
  exacts [h.put.next, .ite h.put.enable.next h.put.next]

theorem Kept.execRegPgTimeout {i} (h : Kept s t) : KeptOut s (execRegPgTimeout i t) := .ite h.fin h.dropEnables.trip.fin

theorem Kept.execRegPgAll {pg r1 r2 r3} (h : Kept s t) : KeptOut s (execRegPgAll pg r1 r2 r3 t) :=
  .ite h.put.update.readStraps.next h.put.next

theorem Kept.feedStart {n} (h : Kept s t) : Kept s (t.feedStart n) := .ite h (.ite h.setFet.waitTemp h)
theorem Kept.feedStop {n} (h : Kept s t) : Kept s (t.feedStop n) := .ite h h.gateOff.setFet

theorem Kept.feedCtl {n o w} (h : Kept s t) : Kept s (t.feedCtl n o w) := by
  refine .ite h.done ?_
  refine .ite h ?_
  refine .ite ?_ ?_
  · refine Kept.refuse ?_
    refine Kept.put ?_
    refine Kept.ite h ?_
    exact
      have h1 := Kept.ite h.feedStop h
      have h2 := Kept.ite h1.feedStart h1
      .ite h2.setFet.waitTemp h2
  · refine Kept.done ?_
    refine Kept.put ?_
    refine Kept.ite h ?_
    exact
      have h1 := Kept.ite h.feedStop h
      have h2 := Kept.ite h1.feedStart h1
      .ite h2.setFet.waitTemp h2

theorem Kept.execFeedOn {n o w} (h : Kept s t) : KeptOut s (execFeedOn n o w t) := h.feedCtl.fin
theorem Kept.execFeedOff {n o w} (h : Kept s t) : KeptOut s (execFeedOff n o w t) := h.feedCtl.fin
theorem Kept.execFeedClear {n o w} (h : Kept s t) : KeptOut s (execFeedClear n o w t) := h.feedCtl.fin

theorem Kept.bridgeReset {r} (h : Kept s t) : Kept s (t.bridgeReset r) := by
  unfold State.bridgeReset
  extract_lets u v
  have hu : Kept s u := .foldl (fun _ _ hu => hu.chanReset) h
  clear_value u
  have hv : Kept s v := ⟨hu.1, fun hs => ⟨SMap.sorted_filter _ _ (hu.2 hs).1, (hu.2 hs).2⟩⟩
  refine .foldl (fun w e hw => .ite ?_ hw) hv
  exact ⟨hw.1, fun hs => ⟨SMap.sorted_set _ _ _ _ (hw.2 hs).1, (hw.2 hs).2⟩⟩

theorem Kept.regionsDown {d} (h : Kept s t) : Kept s (t.regionsDown d) := h.outputDown.outputDown

theorem Kept.dieReset {d} (h : Kept s t) : Kept s (t.dieReset d) :=
  .foldl (fun _ _ h1 => h1.withEdges (fun _ h2 => h2.setCluster)) (Kept.bridgeReset (Kept.bridgeReset (.foldl (fun _ _ h1 =>
    h1.clusterReset) h.regionsDown)))

theorem Kept.execVddPBrownOut {d} (h : Kept s t) : KeptOut s (execVddPBrownOut d t) :=
  Kept.fin (Kept.update (.foldl (fun _ _ h1 => h1.withEdges (fun _ h2 => h2.setCluster)) h.dieReset))

/-! ### Machine/Bellows.lean -/

theorem Kept.setWanted {kind us} (h : Kept s t) : Kept s (t.setWanted kind us) := h.update.put
theorem Kept.want {kind us} (h : Kept s t) : Kept s (t.want kind us) := h.setWanted
theorem Kept.startFeeds {us} (h : Kept s t) : Kept s (t.startFeeds us) := h.update.want
theorem Kept.startDie {d} (h : Kept s t) : Kept s (t.startDie d) := .ite h h.update.puts
theorem Kept.startLane {u} (h : Kept s t) : Kept s (t.startLane u) := .ite h.trainTo h
theorem Kept.clusterRuns {k} (h : Kept s t) : Kept s (t.clusterRuns k) := h.puts.update

theorem Kept.startCluster {k} (h : Kept s t) : Kept s (t.startCluster k) :=
  .ite h.clusterRuns.bankChecks.update.want h.clusterRuns.bankChecks.update

theorem Kept.startEngine {k n} (h : Kept s t) : Kept s (t.startEngine k n) := .ite h.puts.peRun h

theorem Kept.startUnit {kind u} (h : Kept s t) : Kept s (t.startUnit kind u) := by
  unfold State.startUnit
  split
  exacts [h.startDie, h.startLane, h.startCluster, h.startEngine, h.clusterRuns, h.feedStart]

theorem Kept.execVddPReturn {d} (h : Kept s t) : KeptOut s (execVddPReturn d t) := .ite h.update.dieReset.want.fin h.fin

/-! ### Machine/Boot.lean -/

theorem Kept.showStaged (h : Kept s t) : Kept s t.showStaged := by
  unfold State.showStaged
  split <;> exact h.puts

theorem Kept.closeStaged (h : Kept s t) : Kept s t.closeStaged := h.flashErase.update.showStaged
theorem Kept.strapTamper {periods} (h : Kept s t) : Kept s (t.strapTamper periods) := .ite h.tamper (.ite h.tamper h)

theorem Kept.execBootRomStart {periods} (h : Kept s t) : KeptOut s (execBootRomStart periods t) :=
  .ite h.fin (Kept.fin (.foldl (fun _ _ h1 => h1.report) h.strapTamper.showStaged.update.puts))

theorem Kept.resolveKeys (h : Kept s t) : Kept s t.resolveKeys := by
  refine .foldl ?_ h
  intro _ _ h1
  split
  exacts [.foldl (fun _ _ h2 => .ite h2.put h2) h1, h1.bump.report]

theorem Kept.countPairs (h : Kept s t) : Kept s t.countPairs := h.put
theorem Kept.commitCast (h : Kept s t) : Kept s t.commitCast := h.update.resolveKeys

theorem Kept.castPairs (h : Kept s t) : Kept s t.castPairs := by
  unfold State.castPairs
  dsimp only
  split
  exacts [Kept.puts (Kept.countPairs (.foldl (fun _ _ h1 => h1.puts) h)), Kept.countPairs (.foldl (fun _ _ h1 => h1.puts) h)]

theorem Kept.showCasting {c img} (h : Kept s t) : Kept s (t.showCasting c img) := h.puts
theorem Kept.examineCopy {c} (h : Kept s t) : Kept s (t.examineCopy c) := h.puts

theorem Kept.selectCasting {cs} (h : Kept s t) : Kept s (t.selectCasting cs) := by
  induction cs generalizing t with
  | nil => exact h.loadBlank.raise
  | cons c cs ih =>
    have hc : KeptOk s (t.loadCasting (t.image (castBase c))) := h.loadCasting
    unfold State.selectCasting
    split
    · next e => exact Kept.showCasting (e ▸ hc : KeptOk s (.ok _))
    · exact ih h.puts

theorem Kept.execCastSelect (h : Kept s t) : KeptOut s (execCastSelect t) :=
  .ite h.fin h.examineCopy.examineCopy.selectCasting.castPairs.put.fin

theorem Kept.coreWrite {p ofs bs} (h : Kept s t) : Kept s (t.coreWrite p ofs bs) := by
  induction bs generalizing t ofs with
  | nil => exact h
  | cons b bs ih => exact ih h.update

theorem Kept.loadPair {p prog} (h : Kept s t) : Kept s (t.loadPair p prog) := h.coreWrite.coreWrite.coreWrite

theorem Kept.loadFirmware {img m pairs} (h : Kept s t) : Kept s (t.loadFirmware img m pairs) := by
  refine .foldl ?_ ?_
  · intro _ _ h1
    split
    exacts [h1.loadPair, h1]
  · split
    exacts [h.loadPair, h]

theorem Kept.examineFirmware {c} (h : Kept s t) : Kept s (t.examineFirmware c) := h.puts
theorem Kept.bootFirmware {c} (h : Kept s t) : Kept s (t.bootFirmware c) := h.update.puts

theorem Kept.execFirmwareSelect (h : Kept s t) : KeptOut s (execFirmwareSelect t) := by
  refine .ite h.fin ?_
  refine Kept.fin ?_
  refine Kept.put ?_
  split
  exacts [Kept.loadFirmware (Kept.bootFirmware (.foldl (fun _ _ h1 => h1.emit) h.examineFirmware.examineFirmware)),
    h.examineFirmware.examineFirmware.puts]

theorem Kept.putMasked {a mask v} (h : Kept s t) : Kept s (t.putMasked a mask v) := by
  unfold State.putMasked
  split
  exacts [h, .foldl (fun _ _ h1 => .ite h1.put h1) h]

theorem Kept.settingsDefaults {reason} (h : Kept s t) : Kept s (t.settingsDefaults reason) :=
  Kept.report (Kept.puts (.foldl (fun _ _ h1 => h1.putMasked) h))

theorem Kept.settingsApply (h : Kept s t) : Kept s t.settingsApply := by
  unfold State.settingsApply
  split
  · exact h.settingsDefaults
  · split
    · exact h.settingsDefaults
    · refine .ite h.settingsDefaults ?_
      refine .ite h.settingsDefaults ?_
      refine .ite h.settingsDefaults ?_
      refine Kept.puts ?_
      refine .foldl ?_ h
      intro _ _ h1
      split
      exacts [h1.putMasked, h1]

theorem Kept.execSettingsApply (h : Kept s t) : KeptOut s (execSettingsApply t) := by
  refine .ite h.fin ?_
  exact
    have h1 := Kept.ite h.commitCast.put.settingsApply h.commitCast.put
    h1.update.fin

theorem Kept.saveStatus {st} (h : Kept s t) : Kept s (t.saveStatus st) := h.put
theorem Kept.startJob {j base n} (h : Kept s t) : Kept s (t.startJob j base n) := h.flashErase.update.raise
theorem Kept.endJob (h : Kept s t) : Kept s t.endJob := h.update.zero

theorem Kept.execSave {o} (h : Kept s t) : KeptOut s (execSave o t) := by
  refine .ite h.done.fin ?_
  refine .ite h.saveStatus.refuse.fin ?_
  refine .ite h.saveStatus.done.fin ?_
  split
  exacts [h.saveStatus.done.fin, h.startJob.raise.done.fin]

theorem Kept.startInstall {m} (h : Kept s t) : Kept s (t.startInstall m) := h.startJob.puts

theorem Kept.execCastingInstall {m} (h : Kept s t) : KeptOut s (execCastingInstall m t) := by
  refine .ite h.fin ?_
  split
  exacts [h.fin, h.update.fin, (Kept.ite h.mbxEnd (.ite h.mbxEnd h.startInstall)).fin]

theorem Kept.copyStaged {base} (h : Kept s t) : Kept s (t.copyStaged base) := h.flashWrite.flashWrite

theorem Kept.execCastingWriteDone (h : Kept s t) : KeptOut s (execCastingWriteDone t) := by
  unfold Machine.execCastingWriteDone
  split
  exacts [h.copyStaged.endJob.examineCopy.mbxEnd.closeStaged.fin, h.fin]

theorem Kept.execSettingsSaveDone (h : Kept s t) : KeptOut s (execSettingsSaveDone t) := by
  unfold Machine.execSettingsSaveDone
  split
  · dsimp only
    split
    exacts [(Kept.ite h.flashWrite.endJob.zero.saveStatus.puts.update (.ite
      h.flashWrite.endJob.zero.saveStatus.puts.update.startInstall
      h.flashWrite.endJob.zero.saveStatus.puts.update.mbxEnd)).fin, h.flashWrite.endJob.zero.saveStatus.puts.fin]
  · exact h.fin

theorem Kept.execFirmwareCompleteWrite (h : Kept s t) : KeptOut s (execFirmwareCompleteWrite t) :=
  .ite h.fin h.flashErase.copyStaged.examineFirmware.fin

theorem Kept.recastDone {c} (h : Kept s t) : Kept s (t.recastDone c) :=
  have h1 := Kept.ite h h.put
  h1.update.showCasting.zero

theorem Kept.execRecast {m} (h : Kept s t) : KeptOut s (execRecast m t) := by
  refine .ite h.fin ?_
  dsimp only
  split
  exacts [h.mbxEnd.fin, .ite h.mbxEnd.draw.fin (.ite h.mbxEnd.zero.recastDone.fin h.mbxEnd.update.puts.setNodeState.fin)]

theorem Kept.execRecastCluster {k} (h : Kept s t) : KeptOut s (execRecastCluster k t) := by
  unfold Machine.execRecastCluster
  split
  exacts [h.fin, .ite h.fin (Kept.fin (Kept.put (Kept.update (Kept.want (Kept.bankChecks (h.withEdges (fun _ h1 =>
    h1.clusterReset.loadCluster)))))))]

theorem Kept.recastStep {k} (h : Kept s t) : Kept s (t.recastStep k) := by
  refine .ite h ?_
  dsimp only
  split
  exacts [.ite h.update.put.recastDone.setNodeState h.update.put, h.update.put]

theorem Kept.startUnits (h : Kept s t) : Kept s t.startUnits :=
  Kept.startFeeds (Kept.want (Kept.want (.foldl (fun _ _ h1 => .ite h1 h1.feedStop) h)))

theorem Kept.startCores (h : Kept s t) : Kept s t.startCores := by
  unfold State.startCores
  split
  exacts [h, Kept.update (.foldl (fun _ _ h1 => h1.put) h.put)]

theorem Kept.showClocks (h : Kept s t) : Kept s t.showClocks := h.put

theorem Kept.execTimeLock {k} (h : Kept s t) : KeptOut s (execTimeLock k t) :=
  Kept.fin (.ite h (Kept.recastStep (h.withEdges (fun _ h1 => h1.puts))))

theorem Kept.execBellowsStep {kind} (h : Kept s t) : KeptOut s (execBellowsStep kind t) := by
  unfold Machine.execBellowsStep
  split
  · exact h.fin
  · refine .ite h.fin ?_
    exact
      have h1 := Kept.ite h.setWanted h.setWanted.update
      (Kept.ite h1.puts.startUnit.recastStep h1.puts.startUnit).fin

theorem Kept.execBootEnd (h : Kept s t) : KeptOut s (execBootEnd t) := by
  refine .ite h.fin ?_
  exact
    have h1 := Kept.ite h.puts.put.put h.puts.put
    h1.setRole.update.startCores.startUnits.setNodeState.showClocks.fin

/-! ### Machine/Provision.lean -/

theorem Kept.execHallmark {m} (h : Kept s t) : KeptOut s (execHallmark m t) :=
  .ite h.fin (.ite h.mbxEnd.fin (.ite h.mbxEnd.fin h.setBytes.draw.mbxEnd.fin))

theorem Kept.execWrapReq {m} (h : Kept s t) : KeptOut s (execWrapReq m t) := by
  refine .ite h.fin ?_
  refine .ite h.mbxEnd.fin ?_
  refine .ite h.mbxEnd.fin ?_
  split
  · exact h.mbxEnd.fin
  · dsimp only
    split
    exacts [h.mbxEnd.fin, h.putSlot.update.draw.setBytes.draw.mbxEnd.fin]

theorem Kept.domainInstalled (h : Kept s t) : Kept s t.domainInstalled := by
  unfold State.domainInstalled
  dsimp only
  exact .ite h.deriveSalt.refuseTree.rekeyLinks.setNodeState h.deriveSalt.refuseTree.rekeyLinks

theorem Kept.execInstall {m kat assay} (h : Kept s t) : KeptOut s (execInstall m kat assay t) := by
  refine .ite h.fin ?_
  dsimp only
  split
  · exact h.mbxEnd.fin
  · split
    · exact h.mbxEnd.fin
    · refine .ite h.mbxEnd.fin ?_
      exact
        have h1 := Kept.ite h.clearSlot h
        have h2 := Kept.ite h1.installKey.domainInstalled h1.installKey
        h2.mbxEnd.fin

theorem Kept.execAuthority {m kat assay} (h : Kept s t) : KeptOut s (execAuthority m kat assay t) :=
  .ite h.fin (.ite h.mbxEnd.fin (.ite h.mbxEnd.fin (Kept.ite h.installKey.installKey.mbxEnd h.mbxEnd).fin))

theorem Kept.execGenerate {m kat assay} (h : Kept s t) : KeptOut s (execGenerate m kat assay t) :=
  .ite h.fin (.ite h.mbxEnd.fin (.ite h.mbxEnd.fin h.installKey.draw.mbxEnd.fin))

theorem Kept.execInvalidate {m} (h : Kept s t) : KeptOut s (execInvalidate m t) :=
  .ite h.fin (.ite h.mbxEnd.fin h.invalidate.mbxEnd.fin)

/-! ### Machine/Update.lean -/

theorem Kept.execIngotOpen {m} (h : Kept s t) : KeptOut s (execIngotOpen m t) :=
  .ite h.fin (.ite h.fin (.ite h.mbxEnd.fin h.startJob.fin))

theorem Kept.execIngotData {m} (h : Kept s t) : KeptOut s (execIngotData m t) :=
  .ite h.fin (.ite h.fin (.ite h.mbxEnd.fin h.update.raise.fin))

theorem Kept.execIngotAbandon {m} (h : Kept s t) : KeptOut s (execIngotAbandon m t) :=
  .ite h.fin (Kept.ite h.closeStaged h).mbxEnd.fin

theorem Kept.writeRecord {id kind size} (h : Kept s t) : Kept s (t.writeRecord id kind size) := h.flashWrite.update

theorem Kept.execIngotFlashWriteDone (h : Kept s t) : KeptOut s (execIngotFlashWriteDone t) := by
  unfold Machine.execIngotFlashWriteDone
  split
  exacts [h.flashWrite.writeRecord.endJob.showStaged.mbxEnd.fin, h.flashWrite.flashWrite.endJob.showStaged.mbxEnd.fin, h.fin]

theorem Kept.execMissing {m} (h : Kept s t) : KeptOut s (execMissing m t) := .ite h.fin (.ite h.mbxEnd.fin h.mbxEnd.fin)
theorem Kept.activate {m hitless} (h : Kept s t) : Kept s (t.activate m hitless) := .ite h (.ite h.mbxEnd h.startJob.puts)
theorem Kept.execActivatePause {m} (h : Kept s t) : KeptOut s (execActivatePause m t) := (Kept.ite h.activate h).fin
theorem Kept.execActivateHitless {m} (h : Kept s t) : KeptOut s (execActivateHitless m t) := (Kept.ite h.activate h).fin

theorem Kept.activationResult {m status res} (h : Kept s t) : Kept s (t.activationResult m status res) :=
  have h1 := Kept.ite h.mbxEnd.puts.bump h.mbxEnd.puts.bump
  h1.update

theorem Kept.resetStandby (h : Kept s t) : Kept s t.resetStandby := by
  unfold State.resetStandby
  split
  exacts [h.puts, h]

theorem Kept.abandonActivation {m} (h : Kept s t) : Kept s (t.abandonActivation m) := h.activationResult.draw.draw
theorem Kept.restartPairs {ps img} (h : Kept s t) : Kept s (t.restartPairs ps img) := .foldl (fun _ _ h1 => h1.put) h
theorem Kept.endHold (h : Kept s t) : Kept s t.endHold := .ite h h.releaseOutputs
theorem Kept.stopWatchdog (h : Kept s t) : Kept s t.stopWatchdog := h.update
theorem Kept.startWatchdog (h : Kept s t) : Kept s t.startWatchdog := h.update

theorem Kept.execPreparationEnd (h : Kept s t) : KeptOut s (execPreparationEnd t) := by
  unfold Machine.execPreparationEnd
  split
  · refine .ite h.copyStaged.endJob.puts.abandonActivation.fin ?_
    refine .ite ?_ (Kept.fin (Kept.stopWatchdog (.foldl (fun _ _ h1 => h1.put)
      h.copyStaged.endJob.puts.update.holdOutputs.setNodeState.puts)))
    refine Kept.fin ?_
    split
    exacts [h.copyStaged.endJob.puts.update.setNodeState.put.puts, h.copyStaged.endJob.puts.update.setNodeState.put]
  · exact h.fin

theorem Kept.setAct {a} (h : Kept s t) : Kept s (t.setAct a) := h.update

theorem Kept.execPauseStateSaved (h : Kept s t) : KeptOut s (execPauseStateSaved t) := by
  unfold Machine.execPauseStateSaved
  split
  exacts [(Kept.ite h h.setAct.put).fin, h.fin]

theorem Kept.execPauseAssayDone (h : Kept s t) : KeptOut s (execPauseAssayDone t) := by
  unfold Machine.execPauseAssayDone
  split
  · refine .ite h.fin ?_
    split
    exacts [h.setAct.put.fin, (Kept.ite h h.setAct).fin, h.fin]
  · exact h.fin

theorem Kept.runManager {c} (h : Kept s t) : Kept s (t.runManager c) := h.loadFirmware.put.startWatchdog

theorem Kept.execPauseRestart (h : Kept s t) : KeptOut s (execPauseRestart t) := by
  unfold Machine.execPauseRestart
  split
  · dsimp only
    split
    exacts
      [h.loadFirmware.runManager.restartPairs.bootFirmware.put.activationResult.zero.endHold.setNodeState.closeStaged.fin,
      h.runManager.restartPairs.report.activationResult.zero.endHold.setNodeState.fin, h.fin]
  · exact h.fin

theorem Kept.endHitless {m status res} (h : Kept s t) : Kept s (t.endHitless m status res) :=
  h.activationResult.resetStandby.setNodeState

theorem Kept.execHitlessAssayDone (h : Kept s t) : KeptOut s (execHitlessAssayDone t) := by
  unfold Machine.execHitlessAssayDone
  split
  exacts [.ite h.fin (.ite h.put.endHitless.fin h.put.setAct.loadFirmware.put.fin), h.fin]

theorem Kept.execInStep {readable} (h : Kept s t) : KeptOut s (execInStep readable t) := by
  unfold Machine.execInStep
  split
  exacts [.ite h.fin (.ite h.setAct.fin h.endHitless.fin), h.fin]

theorem Kept.execRoleMove (h : Kept s t) : KeptOut s (execRoleMove t) := by
  unfold Machine.execRoleMove
  split
  · refine .ite h.fin ?_
    refine Kept.fin ?_
    refine Kept.setNodeState ?_
    refine Kept.closeStaged ?_
    refine Kept.activationResult ?_
    refine Kept.put ?_
    refine Kept.bootFirmware ?_
    refine Kept.restartPairs ?_
    refine .foldl ?_ h.puts
    intro _ _ h1
    split
    exacts [h1.loadPair, h1]
  · exact h.fin

theorem Kept.execHitlessTimeout (h : Kept s t) : KeptOut s (execHitlessTimeout t) := by
  unfold Machine.execHitlessTimeout
  split
  exacts [(Kept.ite h.endHitless h).fin, h.fin]

/-! ### Machine/Cores.lean -/

theorem Kept.coreCommand {p w} (h : Kept s t) : Kept s (t.coreCommand p w).1 :=
  have h1 := Kept.ite h.put h
  .ite_fst h (.ite_fst h (Kept.ite h1.put h1))

theorem Kept.coreCtl {p o w} (h : Kept s t) : Kept s (t.coreCtl p o w) :=
  .ite h.done (.ite h.coreCommand.put.refuse h.coreCommand.put.done)

theorem Kept.execCoreStart {p o w} (h : Kept s t) : KeptOut s (execCoreStart p o w t) := h.coreCtl.fin
theorem Kept.execCoreHalt {p o w} (h : Kept s t) : KeptOut s (execCoreHalt p o w t) := h.coreCtl.fin
theorem Kept.execCoreReset {p o w} (h : Kept s t) : KeptOut s (execCoreReset p o w t) := h.coreCtl.fin

theorem Kept.managerMismatch (h : Kept s t) : Kept s t.managerMismatch := by
  refine Kept.put ?_
  refine Kept.stopWatchdog ?_
  refine Kept.holdOutputs ?_
  refine Kept.update ?_
  split
  · exact
      have h1 := Kept.ite h h.update
      have h2 := Kept.ite h1.activationResult.resetStandby h1.activationResult
      h2.zero.setNodeState
  · split
    exacts [h.endJob.activationResult, h]

theorem Kept.standbyMismatch {p} (h : Kept s t) : Kept s (t.standbyMismatch p) := by
  refine Kept.puts ?_
  split
  · exact h.activationResult.draw.setNodeState
  · split
    exacts [h.endJob.activationResult.draw, h]

theorem Kept.execLockstepMismatch {p} (h : Kept s t) : KeptOut s (execLockstepMismatch p t) := by
  refine .ite h.fin ?_
  exact
    have h1 := Kept.ite h.put.bump.managerMismatch (.ite h.put.bump.standbyMismatch h.put.bump)
    h1.report.fin

theorem Kept.execManagerRestart (h : Kept s t) : KeptOut s (execManagerRestart t) := by
  unfold Machine.execManagerRestart
  split
  exacts [.ite h.fin (Kept.ite h.runManager.restartPairs.update h.runManager.restartPairs.update.endHold).fin, h.fin]

theorem Kept.execCoreEvent {f} (h : Kept s t) : KeptOut s (execCoreEvent f t) :=
  .ite h.fin (.ite h.bump.fin h.coreWrite.put.update.emit.fin)

theorem Kept.execDoorbell {p o w} (h : Kept s t) : KeptOut s (execDoorbell p o w t) := (Kept.ite h.put h.put.emit).done.fin
theorem Kept.execDbclr {p o w} (h : Kept s t) : KeptOut s (execDbclr p o w t) := h.put.done.fin

theorem Kept.execKick {o w} (h : Kept s t) : KeptOut s (execKick o w t) :=
  (Kept.ite h.writeReg.startWatchdog h.writeReg).done.fin

theorem Kept.execWatchdogExpire (h : Kept s t) : KeptOut s (execWatchdogExpire t) := by
  unfold Machine.execWatchdogExpire
  split
  exacts [h.fin, .ite h.fin h.stopWatchdog.report.fin]

theorem Kept.execCoreAccessFault {c a store status detail} (h : Kept s t) : KeptOut s (execCoreAccessFault c a store status
    detail t) := by
  refine Kept.fin ?_
  split
  exacts [h.emit, .ite h h.coreFault, h]

theorem Kept.execTcmWindowWrite {v o ofs bs} (h : Kept s t) : KeptOut s (execTcmWindowWrite v o ofs bs t) :=
  .ite h.done.fin (.ite h.done.fin (.ite h.refuse.fin h.coreWrite.done.fin))

/-! ### Machine/Mailbox.lean -/

theorem Kept.turnAway {m st code tag} (h : Kept s t) : Kept s (t.turnAway m st code tag) := by
  refine .ite h.mbxShow ?_
  refine .ite ?_ h.mbxShow
  split
  exacts [h.mbxShow, h.mbxShow.draw]

theorem Kept.execNodeCmd {m o w} (h : Kept s t) : KeptOut s (execNodeCmd m o w t) :=
  .ite h.done.fin (.ite h.bump.done.fin (.ite h.turnAway.done.fin h.update.raise.done.fin))

theorem Kept.execStatus {m} (h : Kept s t) : KeptOut s (execStatus m t) := (Kept.ite h.mbxEnd h).fin
theorem Kept.laneReset {p l} (h : Kept s t) : Kept s (t.laneReset p l) := .ite h.puts.zero h.puts

theorem Kept.unitReset {u} (h : Kept s t) : Kept s (t.unitReset u) := by
  unfold State.unitReset
  dsimp only
  split
  exacts [h.peUnitReset, h.withEdges (fun _ h1 => h1.canReset), h.chanReset, h.laneReset]

theorem Kept.execUnitReset {m} (h : Kept s t) : KeptOut s (execUnitReset m t) :=
  .ite h.fin (.ite h.mbxEnd.fin h.unitReset.mbxEnd.fin)

theorem Kept.execClusterReset {m} (h : Kept s t) : KeptOut s (execClusterReset m t) :=
  .ite h.fin (.ite h.mbxEnd.fin h.clusterReset.mbxEnd.fin)

theorem Kept.resetW (h : Kept s t) : Kept s t.resetW := .ite h (.foldl (fun _ _ h1 => h1.puts) h.puts)

theorem Kept.execDieReset {m} (h : Kept s t) : KeptOut s (execDieReset m t) :=
  .ite h.fin (.ite h.mbxEnd.fin (Kept.ite h.resetW h.dieReset.want).mbxEnd.fin)

theorem Kept.execNodeReset {m} (h : Kept s t) : KeptOut s (execNodeReset m t) := (Kept.ite h.nodeReset h).fin
theorem Kept.execNodeHalt {m} (h : Kept s t) : KeptOut s (execNodeHalt m t) := (Kept.ite h.parkNode.mbxEnd h).fin

theorem Kept.execHoldClear {m} (h : Kept s t) : KeptOut s (execHoldClear m t) :=
  (Kept.ite h.zero.releaseOutputs.mbxEnd h).fin

theorem Kept.execQuench {m} (h : Kept s t) : KeptOut s (execQuench m t) := by
  refine .ite h.fin ?_
  exact
    have h1 := Kept.ite h.armMatch h.latch
    have h2 := Kept.ite h1.quenchBroadcast h1
    h2.mbxEnd.fin

/-! ### Machine/Ether.lean -/

theorem Kept.flood {e f} (h : Kept s t) : Kept s (t.flood e f) := .getD h.ingressPlan h

theorem Kept.execEthReceive {e bs} (h : Kept s t) : KeptOut s (Machine.execEthReceive e bs t) := by
  unfold Machine.execEthReceive
  extract_lets d u
  have hu : Kept s u := .ite h.learn h
  have hp : KeptSome s (if t.ethOff e then none else u.ptpEnds e bs) := .ite trivial hu.ptpEnds
  clear_value u
  split
  · next v hv =>
    rw [hv] at hp
    exact (show Kept s v from hp).fin
  · refine .ite hu.fin ?_
    split
    exacts [hu.flood.fin, .ite hu.ingressNow.fin (.ite hu.fin hu.ingressNow.fin)]

theorem Kept.execEthRingReceive {p f} (h : Kept s t) : KeptOut s (execEthRingReceive p f t) := .ite h.fin h.ingressNow.fin
theorem Kept.execMacAgeing (h : Kept s t) : KeptOut s (execMacAgeing t) := h.update.put.next
theorem Kept.execEthLinkUp {e mode} (h : Kept s t) : KeptOut s (execEthLinkUp e mode t) := h.update.put.next

/-! ### Machine/Time.lean -/

theorem Kept.execPdelayReqSend {p} (h : Kept s t) : KeptOut s (execPdelayReqSend p t) :=
  .ite h.next h.setDelay.toRingPort.next

theorem Kept.execPdelayResp {p seq deskew} (h : Kept s t) : KeptOut s (execPdelayResp p seq deskew t) :=
  (Kept.ite h.setDelay.toRingPort h).next

theorem Kept.putDelay {p x} (h : Kept s t) : Kept s (t.putDelay p x) := h.setDelay.update.put

theorem Kept.delaySample {p d} (h : Kept s t) : Kept s (t.delaySample p d) :=
  .ite h.putDelay.bump (.ite h.putDelay.bump (.ite h.bump.restartDelay h.bump.setDelay))

theorem Kept.execPdelaySample {p seq t2 t3 deskew} (h : Kept s t) : KeptOut s (execPdelaySample p seq t2 t3 deskew t) := by
  unfold Machine.execPdelaySample
  split
  exacts [h.next, .ite h.setDelay.next h.delaySample.next]

theorem Kept.steerBy {ofs} (h : Kept s t) : Kept s (t.steerBy ofs) := h.draw.update
theorem Kept.servoTo {st} (h : Kept s t) : Kept s (t.servoTo st) := h.put.update
theorem Kept.stepTime {ofs} (h : Kept s t) : Kept s (t.stepTime ofs) := h.update

theorem Kept.measure {ofs} (h : Kept s t) : Kept s (t.measure ofs) := by
  unfold State.measure
  dsimp only
  split
  exacts [h.update.put.steerBy.servoTo, h.update.put.steerBy.servoTo, .ite h.update.put.stepTime (.ite
    h.update.put.steerBy.update.servoTo h.update.put.steerBy.update), .ite h.update.put.steerBy.report h.update.put.steerBy]

theorem Kept.follow {ofs} (h : Kept s t) : Kept s (t.follow ofs) := h.measure.put

theorem Kept.primary {ofs} (h : Kept s t) : Kept s (t.primary ofs) :=
  have h1 := Kept.ite h.follow.update h.update
  h1.put

theorem Kept.secondGm {ofs} (h : Kept s t) : Kept s (t.secondGm ofs) := .ite h.update.follow h.update
theorem Kept.putSecOffset {i} (h : Kept s t) : Kept s (t.putSecOffset i) := h.puts

theorem Kept.secondary (h : Kept s t) : Kept s t.secondary := by
  unfold State.secondary
  split
  exacts [.ite h.put.putSecOffset h.put, h.put.putSecOffset]

theorem Kept.execSyncSend {p} (h : Kept s t) : KeptOut s (execSyncSend p t) := .ite h.next h.secondary.update.sendOn.next
theorem Kept.compareDirs {e w} (h : Kept s t) : Kept s (t.compareDirs e w) := .ite h.put.update.report h.put.update

theorem Kept.noteDir {p ofs origin} (h : Kept s t) : Kept s (t.noteDir p ofs origin) := by
  unfold State.noteDir
  split
  exacts [.ite h.compareDirs h.compareDirs, h.update]

theorem Kept.takeSync {p f deskew} (h : Kept s t) : Kept s (t.takeSync p f deskew) :=
  .ite h.putSecOffset.puts (.ite h.putSecOffset.puts.noteDir.put.measure h.putSecOffset.puts.noteDir)

theorem Kept.execSyncReceive {p f deskew residence} (h : Kept s t) : KeptOut s (execSyncReceive p f deskew residence t) :=
  .ite h.fin (Kept.ite h.transitHop h.transitHop.takeSync).fin

theorem Kept.loseSources (h : Kept s t) : Kept s t.loseSources := .ite h (.ite h.update.put.put h.update.put)
theorem Kept.turnTo {sec} (h : Kept s t) : Kept s (t.turnTo sec) := h.update
theorem Kept.holdOver (h : Kept s t) : Kept s t.holdOver := h.update.put.servoTo

theorem Kept.sourceLost (h : Kept s t) : Kept s t.sourceLost :=
  .ite (.ite h (.ite h.turnTo h.holdOver)) (.ite h.turnTo h.holdOver)

theorem Kept.execTimeLossTimeout (h : Kept s t) : KeptOut s (execTimeLossTimeout t) :=
  .ite h.loseSources.next (Kept.ite h.loseSources.sourceLost h.loseSources.holdOver).next

theorem Kept.timRefuse {o} (h : Kept s t) : Kept s (t.timRefuse o) := h.put.refuse
theorem Kept.timOk {o} (h : Kept s t) : Kept s (t.timOk o) := h.put.done

theorem Kept.timCtl {o w} (h : Kept s t) : Kept s (t.timCtl o w) := by
  refine .ite h.done ?_
  refine .ite h.timRefuse ?_
  exact
    have h1 := Kept.ite h.update h
    have h2 := Kept.ite h1.update h1
    have h3 := Kept.ite h2.restartDelay.restartDelay h2
    h3.timOk

theorem Kept.execUseSec {o w} (h : Kept s t) : KeptOut s (execUseSec o w t) := h.timCtl.fin
theorem Kept.execUsePri {o w} (h : Kept s t) : KeptOut s (execUsePri o w t) := h.timCtl.fin
theorem Kept.execLdRestart {o w} (h : Kept s t) : KeptOut s (execLdRestart o w t) := h.timCtl.fin

theorem Kept.startBlend (h : Kept s t) : Kept s t.startBlend := by
  unfold State.startBlend
  split
  exacts [h, h.update.puts]

theorem Kept.blendPart (h : Kept s t) : Kept s t.blendPart := h.update.putSecOffset.put

theorem Kept.execBlendStep (h : Kept s t) : KeptOut s (execBlendStep t) :=
  .ite h.next (Kept.ite h.update.startBlend h.update.startBlend.blendPart).next

theorem Kept.execAutoRevert (h : Kept s t) : KeptOut s (execAutoRevert t) := by
  unfold Machine.execAutoRevert
  split
  exacts [h.next, .ite h.update.next h.next]

theorem Kept.execHostcap {o} (h : Kept s t) : KeptOut s (execHostcap o t) := h.puts.done.next

theorem Kept.execHostadjSubmit {o w} (h : Kept s t) : KeptOut s (execHostadjSubmit o w t) :=
  (Kept.ite h.put.done.primary h.put.done).fin

theorem Kept.execTimNowRead {w o} (h : Kept s t) : KeptOut s (execTimNowRead w o t) := h.update.done.next
theorem Kept.execPtpEgress {e f peer} (h : Kept s t) : KeptOut s (execPtpEgress e f peer t) := h.ptpEgress.next
theorem Kept.execTwoStepExpire {e} (h : Kept s t) : KeptOut s (execTwoStepExpire e t) := h.setTwoSteps.next
theorem Kept.ptpSend {e kind contents} (h : Kept s t) : Kept s (t.ptpSend e kind contents) := h.emit

theorem Kept.execEthPdelay {e m} (h : Kept s t) : KeptOut s (execEthPdelay e m t) := by
  refine .ite h.next ?_
  split
  exacts [.ite h.update.ptpSend.next h.next, h.ptpSend.ptpSend.next, h.put.next]

theorem Kept.setClock {i x} (h : Kept s t) : Kept s (t.setClock i x) := h.update

theorem Kept.announced {i source dataSet utc flags interval} (h : Kept s t) : Kept s (t.announced i source dataSet utc flags
    interval) :=
  .ite h (.ite h.setClock.puts h.setClock)

theorem Kept.askDelay {i e} (h : Kept s t) : Kept s (t.askDelay i e) := h.setClock.ptpSend

theorem Kept.synced {i e forth} (h : Kept s t) : Kept s (t.synced i e forth) := by
  refine Kept.askDelay ?_
  split
  exacts [h.setClock, .ite h.setClock.primary h.setClock.secondGm]

theorem Kept.pathKnown {i d} (h : Kept s t) : Kept s (t.pathKnown i d) := h.setClock

theorem Kept.fromMaster {i e m} (h : Kept s t) : Kept s (t.fromMaster i e m) := by
  unfold State.fromMaster
  dsimp only
  split
  · exact h
  · exact .ite h.setClock (.ite h h.synced)
  · split
    exacts [.ite h.synced h, h]
  · split
    exacts [.ite h.pathKnown h, h]
  · split
    exacts [.ite h.setClock h, h]
  · split
    exacts [.ite h.pathKnown h, h]

theorem Kept.clockTakes {i e source m} (h : Kept s t) : Kept s (t.clockTakes i e source m) := by
  unfold State.clockTakes
  split
  exacts [h.announced, .ite h.fromMaster h]

theorem Kept.execPtpOrdinaryClock {e domain source m} (h : Kept s t) : KeptOut s (execPtpOrdinaryClock e domain source m t)
    := by
  refine .ite h.fin ?_
  exact
    have h1 := Kept.ite h.clockTakes h
    (Kept.ite h1.clockTakes h1).fin

/-! ### Machine/Membership.lean -/

theorem Kept.admitted (h : Kept s t) : Kept s t.admitted :=
  have h1 := Kept.ite h.zero.holdOutputs h.zero.releaseOutputs
  h1.update.setNodeState.want

theorem Kept.refused {reason} (h : Kept s t) : Kept s (t.refused reason) := h.put.parkNode
theorem Kept.joinSelf (h : Kept s t) : Kept s t.joinSelf := .ite h.mapChange.admitted h.refused

theorem Kept.execJoinRequest {m} (h : Kept s t) : KeptOut s (execJoinRequest m t) := by
  unfold Machine.execJoinRequest
  split
  · refine .ite h.fin ?_
    refine .ite h.joinSelf.fin ?_
    split
    exacts [(Kept.ite h h.toRing).fin, h.fin]
  · refine .ite h.fin ?_
    exact
      have h1 := Kept.ite h.mapChange h
      h1.toRing.fin
  · exact (Kept.ite h (.ite h.admitted h.refused)).fin

theorem Kept.abandonWork (h : Kept s t) : Kept s t.abandonWork := by
  unfold State.abandonWork
  dsimp only
  split
  · refine .ite ?_ ?_
    · refine Kept.resetStandby ?_
      refine Kept.abandonActivation ?_
      split
      exacts [h.update.puts, h]
    · refine Kept.zero ?_
      refine Kept.restartPairs ?_
      refine Kept.ite ?_ ?_
      · refine Kept.runManager ?_
        refine Kept.abandonActivation ?_
        split
        exacts [h.update.puts, h]
      · refine Kept.startWatchdog ?_
        refine Kept.abandonActivation ?_
        split
        exacts [h.update.puts, h]
  · split
    · refine Kept.abandonActivation ?_
      refine Kept.endJob ?_
      split
      exacts [h.update.puts, h]
    · split
      exacts [h.update.puts, h]

theorem Kept.enterOrphan (h : Kept s t) : Kept s t.enterOrphan :=
  h.abandonWork.abandonCopy.put.holdOutputs.setNodeState.report

theorem Kept.execPartitionTest (h : Kept s t) : KeptOut s (execPartitionTest t) := by
  unfold Machine.execPartitionTest
  split
  exacts [h.fin, .ite h.fin (Kept.ite h.update.enterOrphan h.update).fin]

theorem Kept.discardInputs (h : Kept s t) : Kept s t.discardInputs :=
  .foldl (fun _ _ h1 => .foldl (fun _ _ h2 => h2.qClear) h1) h

theorem Kept.execRejoin {epoch} (h : Kept s t) : KeptOut s (execRejoin epoch t) :=
  .ite h.fin (.ite (Kept.ite h h.endHold).setNodeState.fin h.discardInputs.haltEngines.setNodeState.fin)

/-! ### Machine/Sleep.lean -/

theorem Kept.clusterSleep {k d} (h : Kept s t) : Kept s (t.clusterSleep k d) :=
  have h1 := Kept.ite h.puts.zero h.puts
  h1.update

theorem Kept.execClusterSleep {k} (h : Kept s t) : KeptOut s (execClusterSleep k t) := (Kept.ite h h.clusterSleep).fin
theorem Kept.countResidency (h : Kept s t) : Kept s t.countResidency := h.update.hw

theorem Kept.takeIngress (h : Kept s t) : Kept s t.takeIngress :=
  .foldl (fun _ _ h1 => .foldl (fun _ _ h2 => h2.ingressNow) h1) h.update

theorem Kept.setSleep {st} (h : Kept s t) : Kept s (t.setSleep st) :=
  have h1 := Kept.ite h.countResidency.put.showClocks.update h.countResidency.put.showClocks
  .ite h1.takeIngress h1

theorem Kept.clustersFollow {st} (h : Kept s t) : Kept s (t.clustersFollow st) :=
  .ite h (.foldl (fun _ _ h1 => .ite h1.clusterSleep h1) h)

theorem Kept.execNodeSleepChange {wfi} (h : Kept s t) : KeptOut s (execNodeSleepChange wfi t) :=
  .ite h.fin (Kept.ite h.put h.put.setSleep.clustersFollow).fin

theorem Kept.wakeNode {st} (h : Kept s t) : Kept s (t.wakeNode st) := .ite h.setSleep h

theorem Kept.wakeCluster {k cause} (h : Kept s t) : Kept s (t.wakeCluster k cause) :=
  .ite h (.ite h.put.wakeNode.update.clusterRuns h.put.wakeNode.update.want)

theorem Kept.execClusterWakeEvent {k cause} (h : Kept s t) : KeptOut s (execClusterWakeEvent k cause t) :=
  (Kept.ite h h.wakeCluster).fin

theorem Kept.lateWake {master a} (h : Kept s t) : Kept s (t.lateWake master a) := h.bump.report

theorem Kept.execScheduledWake {u took} (h : Kept s t) : KeptOut s (execScheduledWake u took t) := by
  refine .ite h.fin ?_
  refine .ite ?_ ?_
  · split
    exacts [.ite h.fin (Kept.ite h.put.wakeNode.lateWake h.put.wakeNode).fin, h.fin]
  · dsimp only
    split
    exacts [.ite h.fin (Kept.ite h.wakeCluster.lateWake h.wakeCluster).fin, h.fin]

theorem Kept.execFrameWake {p f} (h : Kept s t) : KeptOut s (execFrameWake p f t) := by
  refine .ite h.fin ?_
  refine .ite h.put.update.fin ?_
  refine Kept.fin ?_
  split
  exacts [h.put.dropAll, h.put.ingressDrop]

theorem Kept.wearStore (h : Kept s t) : Kept s t.wearStore := h.put.update
theorem Kept.stowLink {p} (h : Kept s t) : Kept s (t.stowLink p) := .ite h.setLink.put.linkLeaves h

theorem Kept.stow (h : Kept s t) : Kept s t.stow :=
  Kept.setSleep (Kept.update (Kept.update (Kept.wearStore (Kept.stowLink (Kept.stowLink (.foldl (fun _ _ h1 => .ite h1
    h1.clusterSleep) h))))))

theorem Kept.sleepCtl {o w} (h : Kept s t) : Kept s (t.sleepCtl o w) :=
  .ite h.done (.ite (Kept.done (.ite (Kept.wakeNode (.foldl (fun _ _ h1 => h1.wakeCluster) h.writeReg)) h.writeReg)) (.ite
    (Kept.done (Kept.put (Kept.stow (.ite (Kept.wakeNode (.foldl (fun _ _ h1 => h1.wakeCluster) h.writeReg)) h.writeReg))))
    h.put.refuse))

theorem Kept.execHoldRun {o w} (h : Kept s t) : KeptOut s (execHoldRun o w t) := h.sleepCtl.fin
theorem Kept.execStow {o w} (h : Kept s t) : KeptOut s (execStow o w t) := h.sleepCtl.fin
theorem Kept.stowWake {cause} (h : Kept s t) : Kept s (t.stowWake cause) := .ite h.update.put h
theorem Kept.execWakeN (h : Kept s t) : KeptOut s (execWakeN t) := h.stowWake.fin

theorem Kept.execWakeToneDetect {p} (h : Kept s t) : KeptOut s (execWakeToneDetect p t) :=
  (Kept.ite h (.ite h.stowWake h.trainTo)).fin

theorem Kept.reloadKeys (h : Kept s t) : Kept s t.reloadKeys :=
  .ite h (.foldl (fun _ _ h1 => .ite h1.clearSlot h1) h.loadTouchmark.loadStore)

theorem Kept.execStowWakeDone {periods} (h : Kept s t) : KeptOut s (execStowWakeDone periods t) :=
  .ite h.fin (.ite h.update.setSleep.nodeReset.fin h.update.setSleep.reloadKeys.servoTo.want.want.want.update.fin)

/-! ### Machine/Wear.lean -/

theorem Kept.execScoreUpdate {e r} (h : Kept s t) : KeptOut s (execScoreUpdate e r t) := by
  unfold Machine.execScoreUpdate
  dsimp only
  split
  · exact h.fin
  · refine Kept.fin ?_
    split
    exacts [.ite h.update.poolReport h.update, h.update]

theorem Kept.execWearStoreWrite (h : Kept s t) : KeptOut s (execWearStoreWrite t) := h.wearStore.fin
theorem Kept.noteAnneal {pool} (h : Kept s t) : Kept s (t.noteAnneal pool) := h.update

theorem Kept.retire {key} (h : Kept s t) : Kept s (t.retire key) := by
  unfold State.retire
  dsimp only
  split
  exacts [h.update.takePool, h.update]

theorem Kept.defer {key} (h : Kept s t) : Kept s (t.defer key) := h.noteAnneal.bump

theorem Kept.copyEngine {k a b} (h : Kept s t) : Kept s (t.copyEngine k a b) :=
  ⟨h.1, fun hs => ⟨SMap.sorted_foldl_insert (SMap.sorted_filter _ _ (h.2 hs).1), (h.2 hs).2⟩⟩

theorem Kept.moveEngine {k n} (h : Kept s t) : Kept s (t.moveEngine k n) := h.copyEngine.setPe.setPe.puts

theorem Kept.execPeAnneal {k n} (h : Kept s t) : KeptOut s (execPeAnneal k n t) :=
  .ite h.fin (.ite h.defer.fin (.ite h.fin h.noteAnneal.moveEngine.retire.fin))

theorem Kept.execLaneAnneal {p j} (h : Kept s t) : KeptOut s (execLaneAnneal p j t) := .ite h.fin h.laneSwitch.fin

theorem Kept.execWireAnneal {l d w} (h : Kept s t) : KeptOut s (execWireAnneal l d w t) := by
  refine .ite h.fin ?_
  refine .ite h.defer.fin ?_
  exact
    have h1 := Kept.ite h.noteAnneal.puts h.noteAnneal.puts
    h1.retire.fin

theorem Kept.execLegAnneal {k p} (h : Kept s t) : KeptOut s (execLegAnneal k p t) := .ite h.fin h.noteAnneal.retire.puts.fin
theorem Kept.execBankCopyStart {b} (h : Kept s t) : KeptOut s (execBankCopyStart b t) := .ite h.fin h.update.takePool.fin

theorem Kept.execBankSwitch (h : Kept s t) : KeptOut s (execBankSwitch t) := by
  unfold Machine.execBankSwitch
  split
  exacts [h.fin, .ite h.fin h.noteAnneal.put.update.fin]

theorem Kept.execRowAnneal {die macro_ row spare uncorrectable} (h : Kept s t) : KeptOut s (execRowAnneal die macro_ row
    spare uncorrectable t) :=
  .ite h.fin h.noteAnneal.retire.fin

theorem Kept.movePair {p q} (h : Kept s t) : Kept s (t.movePair p q) := h.puts.retire.zero

theorem Kept.execPairAnneal {p} (h : Kept s t) : KeptOut s (execPairAnneal p t) := by
  unfold Machine.execPairAnneal
  dsimp only
  split
  exacts [h.fin, .ite h.fin (.ite h.movePair.fin (.ite h.raise.fin (.ite h.fin (Kept.ite h.noteAnneal.movePair.startWatchdog
    h.noteAnneal.movePair).fin)))]

theorem Kept.wearCtl {o w} (h : Kept s t) : Kept s (t.wearCtl o w) := by
  refine .ite h.done ?_
  refine .ite ?_ (.ite h.put.refuse h.put.done)
  exact
    have h2 := Kept.ite (Kept.ite h.update h).update (Kept.ite h.update h)
    h2.put.done

theorem Kept.execAnneal {o w} (h : Kept s t) : KeptOut s (execAnneal o w t) := h.wearCtl.fin
theorem Kept.execCancel {o w} (h : Kept s t) : KeptOut s (execCancel o w t) := h.wearCtl.fin

/-! ### Machine/RegWrite.lean -/

theorem Kept.afterWrite {old a} (h : Kept s t) : Kept s (t.afterWrite old a) :=
  .ite h.update (.ite h.setRq (.ite (.ite h.put.vector h) (.ite h.update (.ite h.update h))))

theorem Kept.plainWrite {o a w} (h : Kept s t) : Kept s (t.plainWrite o a w) := .ite h.writeReg.afterWrite.done h.done

theorem Kept.clusterWrite {k o x w} (h : Kept s t) : KeptOwn s (t.clusterWrite k o x w) :=
  .ite (.ite h.accClReset.own trivial) (.ite (.ite h.peCtlWrite.fin.own (.ite h.accPeStateWrite.own (.ite
    h.accPeProgWrite.own trivial))) (.ite h.canCfgWrite.fin.own (.ite (.ite h.accQReset.own (.ite h.accQpush.own (.ite
    h.accQpushend.own (.ite h.accQpusherr.own trivial)))) trivial)))

theorem Kept.bridgeWrite {r o x w} (h : Kept s t) : KeptOwn s (t.bridgeWrite r o x w) :=
  .ite (.ite h.execStageClear.own trivial) (.ite h.chCtlWrite.fin.own (.ite h.execRouteStageWrite.own trivial))

theorem Kept.opWrite {p o w} (h : Kept s t) : KeptOut s (t.opWrite p o w) := .ite h.opStart.fin (Kept.ite h.put h).done.fin

theorem Kept.hubWrite {o a w} (h : Kept s t) : KeptOwn s (t.hubWrite o a w) :=
  .ite h.execNodeCmd.own (.ite h.sleepCtl.fin.own (.ite h.fltCtl.fin.own (.ite h.execPinHoldWrite.own (.ite (.ite
    h.execInject.own trivial) (.ite (.ite trivial h.timCtl.fin.own) (.ite (.ite h.execHostcap.own trivial) (.ite
    h.execHostadjSubmit.own (.ite h.cruCtl.fin.own (.ite (.ite h.opWrite.own trivial) (.ite (.ite h.execSave.own trivial)
    (.ite h.feedCtl.fin.own (.ite (.ite trivial h.wearCtl.fin.own) (.ite h.qchCtl.fin.own (.ite h.execTmatchArm.own (.ite
    (.ite trivial h.swCtl.fin.own) (.ite h.execCaprdWrite.own (.ite h.execCaptureResume.own (.ite h.execFlowStageWrite.own
    (.ite h.execFlowStageWrite.own (.ite (.ite trivial h.ringCtl.fin.own) (.ite (.ite trivial h.linkCtl.fin.own) (.ite
    h.execIfVersionWrite.own (.ite (.ite h.execTsIssue.own trivial) (.ite (.ite trivial h.gateCtl.fin.own) (.ite
    h.execGateStageWrite.own (.ite (.ite (.ite (Kept.ite h.done h.done).fin.own h.coreCtl.fin.own) (.ite h.execDoorbell.own
    (.ite h.execDbclr.own trivial))) (.ite h.execKick.own trivial)))))))))))))))))))))))))))

theorem Kept.ownWrite {o a w} (h : Kept s t) : KeptOwn s (t.ownWrite o a w) :=
  .ite h.clusterWrite (.ite h.bridgeWrite (.ite h.hubWrite trivial))

theorem Kept.accRegisterWrite {o a bs} (h : Kept s t) : KeptOut s (accRegisterWrite o a bs t) := by
  refine .ite h.addrFault.fin (.ite h.addrFault.fin (.ite (.ite h.done.fin (.ite h.addrFault.fin h.setBytes.done.fin))
    (.ite h.execWindowAccess (.ite h.execTcmWindowWrite (.ite h.done.fin ?_)))))
  have ho : KeptOwn s (t.ownWrite o a (leWord bs)) := h.ownWrite
  split
  · next r e =>
    rw [e] at ho
    exact ho
  · exact h.plainWrite.fin

/-! ### Machine/Access.lean -/

/-- An access keeps what its effect keeps; one that waits for its cluster is only noted (R436). -/
theorem Kept.access {k c f} (h : Kept s t) (hf : ∀ u, Kept s u → KeptOut s (f u)) : KeptOut s (t.access k c f) :=
  .ite (hf _ h.wakeCluster) (Kept.ite h h.wakeCluster).update.fin

theorem Kept.execPeStart {k n o w} (h : Kept s t) : KeptOut s (execPeStart k n o w t) := h.access (fun _ h => h.accPeStart)
theorem Kept.execPeHalt {k n o w} (h : Kept s t) : KeptOut s (execPeHalt k n o w t) := h.access (fun _ h => h.accPeHalt)
theorem Kept.execPeStep {k n o w} (h : Kept s t) : KeptOut s (execPeStep k n o w t) := h.access (fun _ h => h.accPeStep)
theorem Kept.execSwapReq {k n o w} (h : Kept s t) : KeptOut s (execSwapReq k n o w t) := h.access (fun _ h => h.accSwapReq)

theorem Kept.execSwapCancel {k n o w} (h : Kept s t) : KeptOut s (execSwapCancel k n o w t) :=
  h.access (fun _ h => h.accSwapCancel)

theorem Kept.execForce {k n o w} (h : Kept s t) : KeptOut s (execForce k n o w t) := h.access (fun _ h => h.accForce)

theorem Kept.execPeUnitReset {k n o w} (h : Kept s t) : KeptOut s (execPeUnitReset k n o w t) :=
  h.access (fun _ h => h.accPeUnitReset)

theorem Kept.execPeProgWrite {k n i o w} (h : Kept s t) : KeptOut s (execPeProgWrite k n i o w t) :=
  h.access (fun _ h => h.accPeProgWrite)

theorem Kept.execPeStateWrite {k n r o w} (h : Kept s t) : KeptOut s (execPeStateWrite k n r o w t) :=
  h.access (fun _ h => h.accPeStateWrite)

theorem Kept.execClReset {k o} (h : Kept s t) : KeptOut s (execClReset k o t) := h.access (fun _ h => h.accClReset)
theorem Kept.execQpush {k q o w} (h : Kept s t) : KeptOut s (execQpush k q o w t) := h.access (fun _ h => h.accQpush)

theorem Kept.execQpushend {k q o w} (h : Kept s t) : KeptOut s (execQpushend k q o w t) :=
  h.access (fun _ h => h.accQpushend)

theorem Kept.execQpusherr {k q o w} (h : Kept s t) : KeptOut s (execQpusherr k q o w t) :=
  h.access (fun _ h => h.accQpusherr)

theorem Kept.execQpop {k q o} (h : Kept s t) : KeptOut s (execQpop k q o t) := h.access (fun _ h => h.accQpop)
theorem Kept.execQReset {k q o w} (h : Kept s t) : KeptOut s (execQReset k q o w t) := h.access (fun _ h => h.accQReset)

theorem Kept.execBurstRead {k q o ofs len} (h : Kept s t) : KeptOut s (execBurstRead k q o ofs len t) :=
  h.access (fun _ h => h.accBurstRead)

theorem Kept.execPadstampRead {k p r o} (h : Kept s t) : KeptOut s (execPadstampRead k p r o t) :=
  h.access (fun _ h => h.accPadstampRead)

theorem Kept.execCanRecover {k j o w} (h : Kept s t) : KeptOut s (execCanRecover k j o w t) :=
  h.access (fun _ h => h.accCanRecover)

theorem Kept.execCanModeWrite {k j o w} (h : Kept s t) : KeptOut s (execCanModeWrite k j o w t) :=
  h.access (fun _ h => h.accCanModeWrite)

theorem Kept.execRegisterWrite {o a bs} (h : Kept s t) : KeptOut s (execRegisterWrite o a bs t) :=
  .ite (h.access (fun _ h => h.accRegisterWrite)) h.accRegisterWrite

/-! ### Machine/Exchange.lean -/

theorem Kept.signExchange {p m} (h : Kept s t) : Kept s (t.signExchange p m) := h.giveMgmt.draw
theorem Kept.takeKeys {p phase m} (h : Kept s t) : Kept s (t.takeKeys p phase m).1 := h.addSession.addSession.setLink
theorem Kept.switchPhase {p m} (h : Kept s t) : Kept s (t.switchPhase p m) := .ite h h.takeKeys.dropSession.setLink.put

theorem Kept.agree {p m} (h : Kept s t) : Kept s (t.agree p m) :=
  .ite (.ite h.signExchange.takeKeys.enterUp h.signExchange.linkDown) (.ite h.signExchange.switchPhase h.signExchange)

theorem Kept.execKeysAgreed {p m} (h : Kept s t) : KeptOut s (execKeysAgreed p m t) := by
  unfold Machine.execKeysAgreed
  split
  exacts [(Kept.ite h.agree h).fin, (Kept.ite h.linkDown h).fin]

/-! ### Machine/Levels.lean -/

theorem Kept.execKeepaliveSend {d} (h : Kept s t) : KeptOut s (execKeepaliveSend d t) := .ite h.next h.update.emit.next

theorem Kept.dieLost {d} (h : Kept s t) : Kept s (t.dieLost d) :=
  .foldl (fun _ _ h1 => .foldl (fun _ _ h2 => h2.canStop) (Kept.haltCluster (h1.withEdges (fun _ h2 => h2.setCluster))))
    h.regionsDown

theorem Kept.execPortDieKeepaliveLost {d} (h : Kept s t) : KeptOut s (execPortDieKeepaliveLost d t) :=
  .ite h.fin h.dieLost.report.fin

theorem Kept.execWKeepaliveLost (h : Kept s t) : KeptOut s (execWKeepaliveLost t) := (Kept.ite h h.update).next

theorem Kept.execWLinkReturn (h : Kept s t) : KeptOut s (execWLinkReturn t) :=
  .ite h.fin (Kept.fin (.foldl (fun _ _ h1 => h1.report) h.update))

theorem Kept.execRstNAssert (h : Kept s t) : KeptOut s (execRstNAssert t) :=
  .ite h.fin (Kept.ite h.update h.update.nodeReset).fin

theorem Kept.execRstNRelease {r1 r2 r3} (h : Kept s t) : KeptOut s (execRstNRelease r1 r2 r3 t) :=
  .ite h.fin (Kept.ite h.update h.update.readStraps).fin

theorem Kept.execNodeResetBegin {r1 r2 r3} (h : Kept s t) : KeptOut s (execNodeResetBegin r1 r2 r3 t) := by
  refine .ite h.fin ?_
  exact
    have h1 := Kept.ite h h.nodeReset
    (Kept.ite h1 h1.readStraps).fin

theorem Kept.execPowerOnReset {vaux r1 r2 r3} (h : Kept s t) : KeptOut s (execPowerOnReset vaux r1 r2 r3 t) :=
  (Kept.ite h.powerReset h.powerReset.readStraps).fin

/-! ### Machine/Serve.lean -/

theorem Kept.answerRead {f status detail data} (h : Kept s t) : Kept s (t.answerRead f status detail data) := h.toSwitch
theorem Kept.unmappedRead {f} (h : Kept s t) : Kept s (t.unmappedRead f) := .ite h.fault.answerRead h.fault.answerRead

theorem Kept.serveRead {f} (h : Kept s t) : Kept s (t.serveRead f) :=
  .ite h.unmappedRead (.ite h (.ite h.answerRead h.answerRead))

theorem Kept.serveRelay {f} (h : Kept s t) : Kept s (t.serveRelay f) := by
  refine .ite ?_ (.ite h (.ite ?_ h.toRing))
  · split
    exacts [h.complRead, h.bump]
  · have hw : KeptOut s (Machine.execRegisterWrite .host (ofBytes (f.b.take 4)) (f.payload.take 4) t) := h.execRegisterWrite
    split
    · next e => exact (e ▸ hw : KeptOut s (.next _))
    · exact h

theorem Kept.sendServed {o u c} (h : Kept s t) : Kept s (t.sendServed o u c) := by
  unfold State.sendServed
  split
  · exact h
  · split
    exacts [.ite h h.wakeCluster, .ite h.sendHead.serveRead (.ite h.sendHead.serveRelay h.sendHead)]

theorem Kept.execFrameSelect {o} (h : Kept s t) : KeptOut s (execFrameSelect o t) := by
  refine .ite (Kept.fin (.ite h.countWaits h.countWaits.selectRing)) (.ite h.countWaits.fin ?_)
  have hc : Kept s ((t.countWaits o).choose o).2 := h.countWaits.choose
  split
  · next e => exact Kept.fin (Kept.sendServed (by rwa [e] at hc))
  · next e => exact Kept.fin (by rwa [e] at hc)

/-! ### Every command (chapters 00 and 01) -/

/-- Every command of the table completes, and what it makes is `Kept`. -/
theorem Kept.exec (h : Kept s t) (c : Instr) : KeptOut s (exec c t) := by
  cases c with
  | registerWrite => exact h.execRegisterWrite
  | keepaliveSend => exact h.execKeepaliveSend
  | portDieKeepaliveLost => exact h.execPortDieKeepaliveLost
  | wKeepaliveLost => exact h.execWKeepaliveLost
  | wLinkReturn => exact h.execWLinkReturn
  | rstNAssert => exact h.execRstNAssert
  | nodeResetBegin => exact h.execNodeResetBegin
  | powerOnReset => exact h.execPowerOnReset
  | halt => exact h.execHalt
  | nop => exact h.execNop
  | set => exact h.execSet
  | out => exact h.execOut
  | in_ => exact h.execIn
  | waitp => exact h.execWaitp
  | waitt => exact h.execWaitt
  | at_ => exact h.execAt
  | jmp => exact h.execJmp
  | pull => exact h.execPull
  | push => exact h.execPush
  | mov => exact h.execMov
  | add => exact h.execAdd
  | stamp => exact h.execStamp
  | ldt => exact h.execLdt
  | event => exact h.execEvent
  | sync => exact h.execSync
  | yield => exact h.execYield
  | timedActionApply => exact h.execTimedActionApply
  | txPortDeliver => exact h.execTxPortDeliver
  | rxPortFetch => exact h.execRxPortFetch
  | peStart => exact h.execPeStart
  | peHalt => exact h.execPeHalt
  | peStep => exact h.execPeStep
  | swapReq => exact h.execSwapReq
  | swapCancel => exact h.execSwapCancel
  | force => exact h.execForce
  | peUnitReset => exact h.execPeUnitReset
  | idleSwap => exact h.execIdleSwap
  | peProgWrite => exact h.execPeProgWrite
  | peStateWrite => exact h.execPeStateWrite
  | clReset => exact h.execClReset
  | timeLock => exact h.execTimeLock
  | vddioFall => exact h.execVddioFall
  | padEdge => exact h.execPadEdge
  | padstampRead => exact h.execPadstampRead
  | canTransmitRecord => exact h.execCanTransmitRecord
  | canLaunch => exact h.execCanLaunch
  | canFrameSent => exact h.execCanFrameSent
  | canReceive => exact h.execCanReceive
  | canBusEvent => exact h.execCanBusEvent
  | canRecover => exact h.execCanRecover
  | canRecoveryDone => exact h.execCanRecoveryDone
  | canModeWrite => exact h.execCanModeWrite
  | queuePush => exact h.execQueuePush
  | qpush => exact h.execQpush
  | qpushend => exact h.execQpushend
  | qpusherr => exact h.execQpusherr
  | qpop => exact h.execQpop
  | queueReadWaitExpire => exact h.execQueueReadWaitExpire
  | queuePointerMismatch => exact h.execQueuePointerMismatch
  | qReset => exact h.execQReset
  | burstRead => exact h.execBurstRead
  | windowAccess => exact h.execWindowAccess
  | farPartIssue => exact h.execFarPartIssue
  | outQueueEnter => exact h.execOutQueueEnter
  | responseRecord => exact h.execResponseRecord
  | farTimeout => exact h.execFarTimeout
  | readDeadline => exact h.execReadDeadline
  | discardTimer => exact h.execDiscardTimer
  | readAheadLifeExpire => exact h.execReadAheadLifeExpire
  | targetRequest => exact h.execTargetRequest
  | targetResponse => exact h.execTargetResponse
  | retryBackoffExpire => exact h.execRetryBackoffExpire
  | chReset => exact h.execChReset
  | dropHeld => exact h.execDropHeld
  | eventMessage => exact h.execEventMessage
  | routeLookup => exact h.execRouteLookup
  | stageClear => exact h.execStageClear
  | routeStageWrite => exact h.execRouteStageWrite
  | flowStageWrite => exact h.execFlowStageWrite
  | frameIngress => exact h.execFrameIngress
  | frameSelect => exact h.execFrameSelect
  | outputDown => exact h.execOutputDown
  | commit => exact h.execCommit
  | commitEnd => exact h.execCommitEnd
  | drainEnd => exact h.execDrainEnd
  | flush => exact h.execFlush
  | caprdWrite => exact h.execCaprdWrite
  | captureResume => exact h.execCaptureResume
  | transitForward => exact h.execTransitForward
  | sheetSend => exact h.execSheetSend
  | sheetReceive => exact h.execSheetReceive
  | ackSend => exact h.execAckSend
  | ackReceive => exact h.execAckReceive
  | replayTimeout => exact h.execReplayTimeout
  | amSend => exact h.execAmSend
  | amReceive => exact h.execAmReceive
  | rekey => exact h.execRekey
  | rekeyTimeout => exact h.execRekeyTimeout
  | retrain => exact h.execRetrain
  | down => exact h.execDown
  | laneSw => exact h.execLaneSw
  | wake => exact h.execWake
  | downRetry => exact h.execDownRetry
  | signalDetect => exact h.execSignalDetect
  | blockLock => exact h.execBlockLock
  | alignFound => exact h.execAlignFound
  | capReceive => exact h.execCapReceive
  | negotiation => exact h.execNegotiation
  | keysAgreed => exact h.execKeysAgreed
  | trainingTimeout => exact h.execTrainingTimeout
  | mirrorConfirm => exact h.execMirrorConfirm
  | laneSwitched => exact h.execLaneSwitched
  | mirrorTimeout => exact h.execMirrorTimeout
  | laneLoss => exact h.execLaneLoss
  | fidleRequest => exact h.execFidleRequest
  | fidleGrant => exact h.execFidleGrant
  | fidleBurst => exact h.execFidleBurst
  | fidleExit => exact h.execFidleExit
  | wakeToneDetect => exact h.execWakeToneDetect
  | wakeToneEnd => exact h.execWakeToneEnd
  | syncHeaderLoss => exact h.execSyncHeaderLoss
  | wrap => exact h.execWrap
  | mapFrame => exact h.execMapFrame
  | joinRequest => exact h.execJoinRequest
  | cycleStart => exact h.execCycleStart
  | cycleStartReceive => exact h.execCycleStartReceive
  | cycleTick => exact h.execCycleTick
  | slotMarker => exact h.execSlotMarker
  | slotMissed => exact h.execSlotMissed
  | seamOpen => exact h.execSeamOpen
  | spliceOrder => exact h.execSpliceOrder
  | linkHeld => exact h.execLinkHeld
  | spliceDrained => exact h.execSpliceDrained
  | spliceAbandon => exact h.execSpliceAbandon
  | leave => exact h.execLeave
  | partitionTest => exact h.execPartitionTest
  | rejoin => exact h.execRejoin
  | witGrantSample => exact h.execWitGrantSample
  | witGrantFall => exact h.execWitGrantFall
  | witHealthToggle => exact h.execWitHealthToggle
  | leaseRenew => exact h.execLeaseRenew
  | leaseExpire => exact h.execLeaseExpire
  | takeover => exact h.execTakeover
  | dualGrant => exact h.execDualGrant
  | revert => exact h.execRevert
  | revertNow => exact h.execRevertNow
  | release => exact h.execRelease
  | mirrorHello => exact h.execMirrorHello
  | mirrorUpdate => exact h.execMirrorUpdate
  | healthReport => exact h.execHealthReport
  | loopFrame => exact h.execLoopFrame
  | takeoverCompletion => exact h.execTakeoverCompletion
  | ethReceive => exact h.execEthReceive
  | ethRingReceive => exact h.execEthRingReceive
  | macAgeing => exact h.execMacAgeing
  | hostRead => exact h.execHostRead
  | hostWrite => exact h.execHostWrite
  | complReceive => exact h.execComplReceive
  | hostReadTimeout => exact h.execHostReadTimeout
  | tsIssue => exact h.execTsIssue
  | tsResult => exact h.execTsResult
  | tsTimeout => exact h.execTsTimeout
  | rqWrite => exact h.execRqWrite
  | evqWrite => exact h.execEvqWrite
  | rqModeration => exact h.execRqModeration
  | ifVersionWrite => exact h.execIfVersionWrite
  | flr => exact h.execFlr
  | nodeCmd => exact h.execNodeCmd
  | status => exact h.execStatus
  | unitReset => exact h.execUnitReset
  | clusterReset => exact h.execClusterReset
  | dieReset => exact h.execDieReset
  | nodeReset => exact h.execNodeReset
  | nodeHalt => exact h.execNodeHalt
  | holdClear => exact h.execHoldClear
  | recast => exact h.execRecast
  | recastCluster => exact h.execRecastCluster
  | castingInstall => exact h.execCastingInstall
  | castingWriteDone => exact h.execCastingWriteDone
  | ingotOpen => exact h.execIngotOpen
  | ingotData => exact h.execIngotData
  | ingotAbandon => exact h.execIngotAbandon
  | missing => exact h.execMissing
  | activatePause => exact h.execActivatePause
  | activateHitless => exact h.execActivateHitless
  | preparationEnd => exact h.execPreparationEnd
  | pauseStateSaved => exact h.execPauseStateSaved
  | pauseAssayDone => exact h.execPauseAssayDone
  | pauseRestart => exact h.execPauseRestart
  | hitlessAssayDone => exact h.execHitlessAssayDone
  | inStep => exact h.execInStep
  | roleMove => exact h.execRoleMove
  | hitlessTimeout => exact h.execHitlessTimeout
  | wrapReq => exact h.execWrapReq
  | install m kat assay => exact @Kept.execInstall _ _ m kat assay h
  | authority => exact h.execAuthority
  | generate => exact h.execGenerate
  | invalidate => exact h.execInvalidate
  | hallmark => exact h.execHallmark
  | quench => exact h.execQuench
  | ephemeralExpire => exact h.execEphemeralExpire
  | refusingZeroise => exact h.execRefusingZeroise
  | slotRenew => exact h.execSlotRenew
  | test => exact h.execTest
  | tlogClear => exact h.execTlogClear
  | random => exact h.execRandom
  | gcmEnc => exact h.execGcmEnc
  | gcmDec => exact h.execGcmDec
  | gmac => exact h.execGmac
  | sign => exact h.execSign
  | verify => exact h.execVerify
  | ecdhDerive => exact h.execEcdhDerive
  | hkdfDerive => exact h.execHkdfDerive
  | sha384 => exact h.execSha384
  | public_ => exact h.execPublic
  | keyOpComplete => exact h.execKeyOpComplete
  | entropySourceFailure => exact h.execEntropySourceFailure
  | entropyRecover => exact h.execEntropyRecover
  | tamper => exact h.execTamper
  | benchEntry => exact h.execBenchEntry
  | aonTimeRecord => exact h.execAonTimeRecord
  | benchLogAppend => exact h.execBenchLogAppend
  | bootRomStart => exact h.execBootRomStart
  | unlock => exact h.execUnlock
  | castSelect => exact h.execCastSelect
  | firmwareSelect => exact h.execFirmwareSelect
  | settingsApply => exact h.execSettingsApply
  | bootEnd => exact h.execBootEnd
  | save => exact h.execSave
  | settingsSaveDone => exact h.execSettingsSaveDone
  | firmwareCompleteWrite => exact h.execFirmwareCompleteWrite
  | coreStart => exact h.execCoreStart
  | coreHalt => exact h.execCoreHalt
  | coreReset => exact h.execCoreReset
  | lockstepMismatch => exact h.execLockstepMismatch
  | managerRestart => exact h.execManagerRestart
  | coreEvent => exact h.execCoreEvent
  | doorbell => exact h.execDoorbell
  | dbclr => exact h.execDbclr
  | kick => exact h.execKick
  | watchdogExpire => exact h.execWatchdogExpire
  | coreAccessFault => exact h.execCoreAccessFault
  | tcmWindowWrite => exact h.execTcmWindowWrite
  | nodeSleepChange => exact h.execNodeSleepChange
  | clusterSleep => exact h.execClusterSleep
  | scheduledWake => exact h.execScheduledWake
  | clusterWakeEvent => exact h.execClusterWakeEvent
  | holdRun => exact h.execHoldRun
  | stow => exact h.execStow
  | wakeN => exact h.execWakeN
  | stowWakeDone => exact h.execStowWakeDone
  | bellowsStep => exact h.execBellowsStep
  | frameWake => exact h.execFrameWake
  | seatDebounce => exact h.execSeatDebounce
  | seatRelease => exact h.execSeatRelease
  | tempRestartOk => exact h.execTempRestartOk
  | tsenseMeasure => exact h.execTsenseMeasure
  | rampDone => exact h.execRampDone
  | faultTimerExpire => exact h.execFaultTimerExpire
  | fetModelTick => exact h.execFetModelTick
  | vinWindowLeave => exact h.execVinWindowLeave
  | retryOffExpire => exact h.execRetryOffExpire
  | fetDamage => exact h.execFetDamage
  | pgAssert => exact h.execPgAssert
  | pgDrop => exact h.execPgDrop
  | regSequenceStep => exact h.execRegSequenceStep
  | regPgTimeout => exact h.execRegPgTimeout
  | regPgAll => exact h.execRegPgAll
  | feedOn => exact h.execFeedOn
  | feedOff => exact h.execFeedOff
  | feedClear => exact h.execFeedClear
  | faultDetect => exact h.execFaultDetect
  | faultPulseEnd => exact h.execFaultPulseEnd
  | releaseCapture => exact h.execReleaseCapture
  | clear => exact h.execClear
  | hold => exact h.execHold
  | pinHoldWrite => exact h.execPinHoldWrite
  | inject => exact h.execInject
  | faultForward => exact h.execFaultForward
  | forwardBacklog => exact h.execForwardBacklog
  | quenchPin => exact h.execQuenchPin
  | quenchTimeMatch => exact h.execQuenchTimeMatch
  | trigger => exact h.execTrigger
  | rearm => exact h.execRearm
  | tmatchArm => exact h.execTmatchArm
  | quenchBroadcastReceive => exact h.execQuenchBroadcastReceive
  | pdelayReqSend => exact h.execPdelayReqSend
  | pdelayResp p seq deskew => exact @Kept.execPdelayResp _ _ p seq deskew h
  | pdelaySample p seq t2 t3 deskew => exact @Kept.execPdelaySample _ _ p seq t2 t3 deskew h
  | syncSend => exact h.execSyncSend
  | syncReceive => exact h.execSyncReceive
  | timeLossTimeout => exact h.execTimeLossTimeout
  | useSec => exact h.execUseSec
  | usePri => exact h.execUsePri
  | ldRestart => exact h.execLdRestart
  | blendStep => exact h.execBlendStep
  | autoRevert => exact h.execAutoRevert
  | hostcap => exact h.execHostcap
  | hostadjSubmit => exact h.execHostadjSubmit
  | timNowRead => exact h.execTimNowRead
  | ptpEgress => exact h.execPtpEgress
  | twoStepExpire => exact h.execTwoStepExpire
  | ethPdelay => exact h.execEthPdelay
  | ptpOrdinaryClock => exact h.execPtpOrdinaryClock
  | launch => exact h.execLaunch
  | gateEntry => exact h.execGateEntry
  | gateCommit => exact h.execGateCommit
  | gateCancel => exact h.execGateCancel
  | gateChange => exact h.execGateChange
  | gateStageWrite => exact h.execGateStageWrite
  | wheelTick => exact h.execWheelTick
  | wheelEnter => exact h.execWheelEnter
  | scoreUpdate => exact h.execScoreUpdate
  | wearStoreWrite => exact h.execWearStoreWrite
  | peAnneal => exact h.execPeAnneal
  | laneAnneal => exact h.execLaneAnneal
  | wireAnneal => exact h.execWireAnneal
  | legAnneal => exact h.execLegAnneal
  | bankCopyStart => exact h.execBankCopyStart
  | bankSwitch => exact h.execBankSwitch
  | rowAnneal => exact h.execRowAnneal
  | pairAnneal => exact h.execPairAnneal
  | anneal => exact h.execAnneal
  | cancel => exact h.execCancel
  | reservedOpcode => exact h.execReservedOpcode
  | rstNRelease => exact h.execRstNRelease
  | vddPBrownOut => exact h.execVddPBrownOut
  | vddPReturn => exact h.execVddPReturn
  | pcieLinkUp => exact h.execPcieLinkUp
  | ethLinkUp => exact h.execEthLinkUp
  | spareLaneLockLoss => exact h.execSpareLaneLockLoss
  | spareLaneRelock => exact h.execSpareLaneRelock
  | ingotFlashWriteDone => exact h.execIngotFlashWriteDone
  | currentLimitEngage => exact h.execCurrentLimitEngage
  | faultTimerClear => exact h.execFaultTimerClear

/-- What a command answers is a next state, and that state is `Kept`. -/
theorem exec_next_kept (s : State) (c : Instr) : ∃ t, exec c s = .next t ∧ Kept s t := by
  have h := (Kept.refl s).exec c
  cases hc : exec c s with
  | next t =>
    rw [hc] at h
    exact ⟨t, rfl, h⟩
  | fault f =>
    rw [hc] at h
    exact h.elim
  | refused f =>
    rw [hc] at h
    exact h.elim

theorem kept_of_exec {c : Instr} (h : exec c s = .next t) : Kept s t := by
  have hk := (Kept.refl s).exec c
  rwa [h] at hk

/-- The access that a step carries out where no command waits meets the state but for the list of accesses. -/
theorem Kept.readyAccess {x : Instr × State} (h : Kept s t) (hx : t.readyAccess = some x) : Kept s x.2 := by
  obtain ⟨e, -, rfl⟩ := Option.map_eq_some_iff.mp hx
  exact h.update

/-- A step keeps the canonical form: it is a command, an access that had waited, or a TIMECLK cycle. -/
theorem State.sound_of_step (hs : s.sound) (h : step s = .next t) : t.sound := by
  unfold step at h
  split at h
  · split at h
    · next x hx => exact (kept_of_exec h).2 (((Kept.refl s).readyAccess hx).2 hs)
    · cases h
      exact (Kept.refl s).clockTick.2 hs
  · exact (kept_of_exec h).2 hs

end Sys2Proof.Machine
end

section
/-! PROOFS. The statements over every command and every state (chapters 00 and 01). -/

namespace Sys2Proof.Machine

/-- Settles O45: every command answers a next state. -/
theorem everyCommandCompletes : Obligations.EveryCommandCompletes := by
  intro c s
  obtain ⟨t, ht, -⟩ := exec_next_kept s c
  exact ⟨t, ht⟩

/-- Settles O46: no operation of the model writes the queue of waiting commands. -/
theorem commandsLeaveTheQueue : Obligations.CommandsLeaveTheQueue := fun _ _ _ h => (kept_of_exec h).1

/-- Settles O48: every operation keeps the register store and memory in canonical form. -/
theorem stepKeepsSound : Obligations.StepKeepsSound := fun _ _ => State.sound_of_step

/-- Settles O47: both are empty. -/
theorem resetIsSound : Obligations.ResetIsSound := ⟨rfl, rfl⟩

/-- Settles O1. -/
theorem stepRunsTheFrontCommand : Obligations.StepRunsTheFrontCommand := by
  intro c rest s h
  rw [step, h]

/-- Settles O44. -/
theorem idleStepIsATick : Obligations.IdleStepIsATick := by
  intro s h
  refine ⟨fun hr => ?_, fun c t hr => ?_⟩
  · rw [step, h]
    simp only [hr]
  · rw [step, h]
    simp only [hr]

end Sys2Proof.Machine
end

section
/-! PROOFS. Writes of a field by its access code, and writes of bulk RAM (R8, R9, R270). -/

namespace Sys2Proof.Machine

/-! ### Access codes (R8, R9) -/

section
variable (s : State) (w : Nat) (f : Fld)

theorem State.get_writeField_rw : (s.writeField w (f, .rw)).get f = w / 2 ^ f.lsb % 2 ^ f.width := by
  have hput : (s.writeField w (f, .rw)).get f = (s.put f (bits w f.lsb f.width)).get f := rfl
  rw [hput, State.get_put_self, bits, Nat.mod_mod]

theorem State.get_writeField_w1c (h : s.get f < 2 ^ f.width) :
    (s.writeField w (f, .w1c)).get f = ((s.get f - (s.get f &&& w / 2 ^ f.lsb % 2 ^ f.width)) |||
      (s.get f &&& SMap.getD s.race.set_ f.key 0)) :=
  State.get_put_of_lt _ _ _
    (Nat.or_lt_two_pow (Nat.lt_of_le_of_lt (Nat.sub_le _ _) h) (Nat.lt_of_le_of_lt Nat.and_le_left h))

theorem State.get_writeField_w1s (h : s.get f < 2 ^ f.width) :
    (s.writeField w (f, .w1s)).get f = (s.get f ||| w / 2 ^ f.lsb % 2 ^ f.width) :=
  State.get_put_of_lt _ _ _ (Nat.or_lt_two_pow h (Nat.mod_lt _ (by positivity)))

theorem State.get_writeField_rwl (h : s.cst.committed = false) :
    (s.writeField w (f, .rwl)).get f = w / 2 ^ f.lsb % 2 ^ f.width := by
  have hput : s.writeField w (f, .rwl) = s.put f (bits w f.lsb f.width) := by simp [State.writeField, h]
  rw [hput, State.get_put_self, bits, Nat.mod_mod]

theorem State.writeField_rwl_of_committed (h : s.cst.committed = true) : s.writeField w (f, .rwl) = s := by
  simp [State.writeField, h]

/-- A bit that hardware sets stands in the field, and stands as set in this cycle (R9). -/
theorem State.and_set_setEvent {b : Nat} (h : b < 2 ^ f.width) :
    (s.setEvent f b).get f &&& SMap.getD (s.setEvent f b).race.set_ f.key 0 &&& b = b := by
  have hget : (s.setEvent f b).get f = (s.get f ||| b) % 2 ^ f.width := State.get_put_self _ _ _
  have hset : SMap.getD (s.setEvent f b).race.set_ f.key 0 = SMap.getD s.race.set_ f.key 0 ||| b := by
    simp [State.setEvent, SMap.getD, SMap.find?_insert_self]
  rw [hget, hset]
  refine Nat.eq_of_testBit_eq fun i => ?_
  by_cases hi : i < f.width
  · simp only [Nat.testBit_and, Nat.testBit_or, Nat.testBit_mod_two_pow, hi, decide_true, Bool.true_and]
    cases b.testBit i <;> simp
  · have hb : b.testBit i = false :=
      Nat.testBit_lt_two_pow (Nat.lt_of_lt_of_le h (Nat.pow_le_pow_right (by decide) (Nat.le_of_not_lt hi)))
    simp [hb]

/-- In one cycle a set event wins against the clear of a W1C bit (R9). -/
theorem State.get_writeField_w1c_setEvent {b : Nat} (h : b < 2 ^ f.width) :
    ((s.setEvent f b).writeField w (f, .w1c)).get f &&& b = b := by
  have hlt : (s.setEvent f b).get f < 2 ^ f.width := by
    have hget : (s.setEvent f b).get f = (s.get f ||| b) % 2 ^ f.width := State.get_put_self _ _ _
    exact hget ▸ Nat.mod_lt _ (by positivity)
  rw [State.get_writeField_w1c _ _ _ hlt, Nat.and_or_distrib_right, State.and_set_setEvent s f h]
  exact Nat.eq_of_testBit_eq fun i => by
    simp only [Nat.testBit_or, Nat.testBit_and]
    cases b.testBit i <;> simp

/-- A write of an RW field wins against the update by hardware in the same cycle (R9). -/
theorem State.hw_writeField_rw (x : Nat) : (s.writeField w (f, .rw)).hw f x = s.writeField w (f, .rw) := by
  simp [State.hw, State.writeField]

/-- A write of one field leaves every other field alone. -/
theorem State.get_writeField_ne (e : Fld × Access) (h : f.key ≠ e.1.key) : (s.writeField w e).get f = s.get f := by
  have hput (v : Nat) : (s.put e.1 v).get f = s.get f := State.get_put_ne _ _ _ _ h
  obtain ⟨g, c⟩ := e
  cases c with
  | rw => exact hput _
  | rwl => simp only [State.writeField]; split <;> simp [hput]
  | w1c => exact hput _
  | w1s => exact hput _
  | ro => rfl
  | wo => rfl

@[simp] theorem State.writeField_cst (e : Fld × Access) : (s.writeField w e).cst = s.cst := by
  obtain ⟨g, c⟩ := e
  cases c with
  | rwl => simp only [State.writeField]; split <;> simp
  | _ => rfl

end

/-- Once the casting has committed, a write of a register leaves its RWL fields alone. -/
theorem State.get_foldl_writeField (w : Nat) (f : Fld) (fs : List (Fld × Access)) (s : State)
    (hc : s.cst.committed = true) (hfs : ∀ e ∈ fs, e.1.key = f.key → e.2 = .rwl) :
    (fs.foldl (fun s e => s.writeField w e) s).get f = s.get f := by
  induction fs generalizing s with
  | nil => rfl
  | cons e fs ih =>
    have hone : (s.writeField w e).get f = s.get f := by
      by_cases hkey : e.1.key = f.key
      · obtain ⟨g, c⟩ := e
        obtain rfl : c = .rwl := hfs _ (List.mem_cons_self ..) hkey
        rw [State.writeField_rwl_of_committed _ _ _ hc]
      · exact State.get_writeField_ne _ _ _ _ (Ne.symm hkey)
    rw [List.foldl_cons, ih _ (by rw [State.writeField_cst, hc]) (fun e he => hfs e (List.mem_cons_of_mem _ he)), hone]

/-- Settles O56: one equation for each access code. -/
theorem fieldWritesByAccessCode : Obligations.FieldWritesByAccessCode := by
  intro s w f
  exact ⟨s.get_writeField_rw w f, rfl, rfl, s.get_writeField_w1c w f, fun _ => s.get_writeField_w1c_setEvent w f,
    fun x => (congrArg (State.get · f) (s.hw_writeField_rw w f x)).trans (s.get_writeField_rw w f),
    s.get_writeField_w1s w f, s.get_writeField_rwl w f, fun fs hc hfs => State.get_foldl_writeField w f fs s hc hfs⟩

/-! ### Bulk RAM (R270) -/

/-- A write of bytes changes memory alone. -/
theorem State.setBytes_eq (s : State) (a : Nat) (bs : List Nat) : s.setBytes a bs = { s with mem := (s.setBytes a bs).mem } := by
  induction bs generalizing s a with
  | nil => rfl
  | cons b bs ih => exact ih (s.setByte a b) (a + 1)

theorem sameMem_setBytes (s : State) (a : Nat) (bs : List Nat) : SameMem s (s.setBytes a bs) a bs.length :=
  fun _ hb => State.byte_setBytes_of_lt bs s hb

/-- A write of up to 4096 bytes within bulk RAM is carried out. -/
theorem ends_registerWrite_bulk {a : Nat} {bs : List Nat} (o : Origin) (s : State) (ha : 0xC000000 ≤ a) (hpos : 0 < bs.length)
    (hlen : bs.length ≤ 4096) (hend : a + bs.length ≤ 0xC200000) :
    Ends (.registerWrite o a bs) s ((s.setBytes a bs).done o stOK) := by
  have hexec : exec (.registerWrite o a bs) s = execRegisterWrite o a bs s := rfl
  have hmapped : s.mapped a = true := by
    simp only [State.mapped, Bool.or_eq_true, Bool.and_eq_true, decide_eq_true_eq]
    omega
  have hbulk : inBulk a bs.length = true := by
    simp only [inBulk, Bool.and_eq_true, decide_eq_true_eq]
    omega
  rw [Ends, hexec, execRegisterWrite, if_neg (by omega), accRegisterWrite, hmapped, hbulk]
  rw [if_neg (by decide), if_neg (by omega), if_pos ha, if_neg (by omega), if_neg (by decide), fin]

/-- Settles O57: the write ends in `State.setBytes`, whose bytes read back. -/
theorem bulkRamWriteFrame : Obligations.BulkRamWriteFrame := by
  intro o a bs s ha hpos hlen hend
  exact ⟨_, ends_registerWrite_bulk o s ha hpos hlen hend, by rw [State.setBytes_eq]; rfl,
    sameMem_setBytes s a bs, fun i h => State.byte_setBytes bs s a i h, by simp [State.emit]⟩

end Sys2Proof.Machine
end

section
/-! PROOFS. Commands that act on registers alone (R12, R80, R185, R368, R373, R411, R465, R468). -/

namespace Sys2Proof.Machine

/-- From s to t only registers of fs and what leaves the block have changed. -/
structure RegStep (fs : List Fld) (s t : State) : Prop where
  only : t = { s with regs := t.regs, out := t.out }
  regs : SameRegs s t fs

namespace RegStep

variable {fs : List Fld} {s t : State}

theorem refl (fs : List Fld) (s : State) : RegStep fs s s := ⟨rfl, SameRegs.refl s fs⟩

theorem put (h : RegStep fs s t) (f : Fld) (v : Nat) (hf : f ∈ fs) : RegStep fs s (t.put f v) where
  only := congrArg (fun u => State.put u f v) h.only
  regs := h.regs.put f v hf

theorem ite {u : State} (c : Prop) [Decidable c] (h : RegStep fs s t) (h' : RegStep fs s u) :
    RegStep fs s (if c then t else u) := by split <;> assumption

theorem bump (h : RegStep fs s t) (f : Fld) (hf : f ∈ fs) : RegStep fs s (t.bump f) := ite _ h (h.put f _ hf)

theorem emit (h : RegStep fs s t) (e : Emit) : RegStep fs s (t.emit e) where
  only := congrArg (fun u => State.emit u e) h.only
  regs := h.regs.emit e

theorem puts (h : RegStep fs s t) (l : List (Fld × Nat)) (hl : ∀ e ∈ l, e.1 ∈ fs) : RegStep fs s (t.puts l) := by
  induction l generalizing t with
  | nil => exact h
  | cons e l ih => exact ih (h.put e.1 e.2 (hl e (List.mem_cons_self ..))) (fun e' he => hl e' (List.mem_cons_of_mem _ he))

/-- FLT_CTL writes the two bits of the capture (R465). -/
theorem fltCtl (h : RegStep fs s t) (hh : FLT_STATUS.handling ∈ fs) (hv : FLT_STATUS.valid ∈ fs) (o : Origin) (w : Nat) :
    RegStep fs s (t.fltCtl o w) :=
  have h0 := ite (bit w 0 = true) (h.put _ 0 hh) h
  have h1 := ite (bit w 1 = true) ((h0.put _ 0 hh).put _ 0 hv) h0
  have h2 := ite (bit w 2 = true) (h1.put _ 1 hh) h1
  ite _ (h.emit _) (h2.emit _)

end RegStep

/-! ### Each command -/

theorem RegStep.coreFault (s : State) (c node ofs status detail : Nat) : RegStep [CORE_FAULT0.status (c / 2),
    CORE_FAULT0.detail (c / 2), CORE_FAULT0.core (c / 2), CORE_FAULT0.node (c / 2), CORE_FAULT1.offset (c / 2)] s
    (s.coreFault c node ofs status detail) :=
  ((RegStep.refl _ s).puts _ (by simp)).emit _

/-- A write with the start bit of an engine that runs is refused, or ILLEGAL where it has other bits too (R80). -/
theorem RegStep.peCtlWrite_start {s : State} {k n w : Nat} (hrun : s.peRunning k n = true) (h31 : bit w 31 = false) (o : Origin) :
    RegStep [CL_REFUSED.count k] s (s.peCtlWrite k n o (withBit w 0)) := by
  have hno : bit (withBit w 0) 31 = false := (bit_withBit_ne w (by decide)).trans h31
  have hbusy : s.peStartable k n = false := by simp [State.peStartable, hrun]
  have hill : RegStep [CL_REFUSED.count k] s (s.done o stILLEGAL) := (RegStep.refl _ s).emit _
  have hrefused : RegStep [CL_REFUSED.count k] s (s.refuse o (CL_REFUSED.count k)) :=
    ((RegStep.refl _ s).bump _ (by simp)).emit _
  unfold State.peCtlWrite
  dsimp only
  rw [hno, bit_withBit_self, hbusy, if_neg (by decide)]
  exact .ite _ hill (by simpa using hrefused)

/-- Settles O49: each command is a chain of field writes and emissions, a `RegStep` over the named fields. -/
theorem registerCommandsFrame : Obligations.RegisterCommandsFrame := by
  intro s o w k n p c a store st d only now
  have honly {i : Instr} {fs : List Fld} (t : State) (hi : exec i s = fin t) (h : RegStep fs s t) : only i fs :=
    ⟨t, hi, h.only, h.regs⟩
  have hctl (w : Nat) : RegStep [FLT_STATUS.handling, FLT_STATUS.valid] s (s.fltCtl o w) :=
    (RegStep.refl _ s).fltCtl (by simp) (by simp) o w
  refine ⟨honly _ rfl (hctl _), honly _ rfl (hctl _), honly _ rfl (hctl _), ?pinHold, ?caprd, ?entropy, ?doorbell, ?dbclr, ?fault,
    ?start⟩
  case pinHold =>
    have hput := (RegStep.refl [FLT_PIN.hold] s).put FLT_PIN.hold (bits w 0 1) (by simp)
    have hexec : exec (.pinHoldWrite o w) s = fin (if s.foreignCore o then s.done o stAUTH
        else (if s.flt.pulseEnd.isSome then s.put FLT_PIN.hold (bits w 0 1)
          else (s.put FLT_PIN.hold (bits w 0 1)).driveFaultN).done o stOK) :=
      (apply_ite fin _ _ _).symm
    exact honly _ hexec (.ite _ ((RegStep.refl _ s).emit _) ((RegStep.ite _ hput (hput.emit _)).emit _))
  case caprd =>
    have h := ((RegStep.refl [SW_CAPRD.rd] s).put SW_CAPRD.rd w (by simp)).emit (.done o stOK 0 0 [])
    exact ⟨_, rfl, h.only, h.regs⟩
  case entropy => exact ⟨_, rfl, rfl, SameRegs.put CRU_ENTROPY.ok 1 (by simp) (SameRegs.refl s _)⟩
  case doorbell =>
    have hput := (RegStep.refl [CORE_DOORBELL.bells p] s).put (CORE_DOORBELL.bells p)
      (s.get (CORE_DOORBELL.bells p) ||| w % 2 ^ 32) (by simp)
    exact honly _ rfl ((RegStep.ite _ hput (hput.emit _)).emit _)
  case dbclr => exact honly _ rfl (((RegStep.refl _ s).put _ _ (by simp)).emit _)
  case fault =>
    refine honly _ rfl ?_
    split
    · exact (RegStep.refl _ s).emit _
    · exact .ite _ (RegStep.refl _ s) (RegStep.coreFault s c _ _ _ _)
    · exact RegStep.refl _ s
  case start =>
    intro hawake hrun h31
    have hexec : exec (.peStart k n o w) s = s.access k (.peStart k n o w) (accPeStart k n o w) := rfl
    exact honly _ (hexec.trans (State.access_of_awake hawake _ _)) (RegStep.peCtlWrite_start hrun h31 o)

end Sys2Proof.Machine
end

section
/-! PROOFS. The pushes of the bus into a queue and a pop (R107 to R111, R113, R114). -/

namespace Sys2Proof.Machine

/-! ### The queues of a cluster -/

/-- Writing one queue leaves every other queue alone. -/
theorem State.queue_setQueue_ne (s : State) {k j : Fin 12} {q r : Fin 32} (x : Queue) (h : (j, r) ≠ (k, q)) :
    (s.setQueue k q x).queue j r = s.queue j r := by
  refine SMap.getD_set_ne _ _ _ _ fun he => h ?_
  have hj : j.val = k.val := by omega
  have hr : r.val = q.val := by omega
  rw [Fin.ext hj, Fin.ext hr]

@[simp] theorem Queue.words_noted (x : Queue) (c : Nat) : (x.noted c).words = x.words := by unfold Queue.noted; split <;> rfl
@[simp] theorem Queue.gapOpen_noted (x : Queue) (c : Nat) : (x.noted c).gapOpen = x.gapOpen := by
  unfold Queue.noted; split <;> rfl
@[simp] theorem State.words_qNoted (s : State) (k q : Nat) : (s.qNoted k q).words = (s.queue k q).words :=
  Queue.words_noted _ _
@[simp] theorem State.gapOpen_qNoted (s : State) (k q : Nat) : (s.qNoted k q).gapOpen = (s.queue k q).gapOpen :=
  Queue.gapOpen_noted _ _

/-- The open marker at the end counts one more word (R109). -/
theorem bumpGap_append (pre : List QWord) (g : QWord) (n : Nat) :
    bumpGap (pre ++ [g]) n = pre ++ [⟨g.data / 2 ^ 24 * 2 ^ 24 + min (g.data % 2 ^ 24 + n) 0xFFFFFF, g.tag⟩] := by
  induction pre with
  | nil => rfl
  | cons w ws ih =>
    cases ws with
    | nil => rfl
    | cons w' ws => exact congrArg (List.cons w) ih

/-- An update by hardware leaves every field at another bit address alone. -/
theorem State.get_hw_ne (s : State) (f g : Fld) (v : Nat) (h : g.key ≠ f.key) : (s.hw f v).get g = s.get g := by
  rw [State.hw_eq]
  split
  · rfl
  · exact State.get_put_ne _ _ _ _ h

/-- What a counter reads after it counted depends on what it read and on the writes of the cycle alone. -/
theorem State.get_bump_congr {s t : State} {f : Fld} (hr : t.race = s.race) (hg : t.get f = s.get f) :
    (t.bump f).get f = (s.bump f).get f := by
  rw [State.bump_eq, State.bump_eq, State.hw_eq, State.hw_eq, hr, hg]
  split
  · exact hg
  · rw [State.get_put_self, State.get_put_self]

theorem State.queue_congr {s t : State} (h : t.queues = s.queues) (k q : Nat) : t.queue k q = s.queue k q := by
  simp [State.queue, h]

/-! ### What a push of the bus can change (R107, R114) -/

/-- From s to t only queue q of cluster k, registers of fs, what leaves the block and the set events of the cycle have changed. -/
structure QueueStep (k : Fin 12) (q : Fin 32) (fs : List Fld) (s t : State) : Prop where
  only   : t = { s with regs := t.regs, queues := t.queues, out := t.out, race := t.race }
  others : ∀ (j : Fin 12) (r : Fin 32), (j, r) ≠ (k, q) → t.queue j r = s.queue j r
  regs   : SameRegs s t fs

namespace QueueStep

variable {k : Fin 12} {q : Fin 32} {fs : List Fld} {s t : State}

theorem refl (k : Fin 12) (q : Fin 32) (fs : List Fld) (s : State) : QueueStep k q fs s s :=
  ⟨rfl, fun _ _ _ => rfl, SameRegs.refl s fs⟩

theorem ite {u : State} (c : Prop) [Decidable c] (h : QueueStep k q fs s t) (h' : QueueStep k q fs s u) :
    QueueStep k q fs s (if c then t else u) := by split <;> assumption

theorem put (h : QueueStep k q fs s t) (f : Fld) (v : Nat) (hf : f ∈ fs) : QueueStep k q fs s (t.put f v) where
  only   := congrArg (fun u => State.put u f v) h.only
  others := h.others
  regs   := h.regs.put f v hf

theorem bump (h : QueueStep k q fs s t) (f : Fld) (hf : f ∈ fs) : QueueStep k q fs s (t.bump f) := ite _ h (h.put f _ hf)

theorem emit (h : QueueStep k q fs s t) (e : Emit) : QueueStep k q fs s (t.emit e) where
  only   := congrArg (fun u => State.emit u e) h.only
  others := h.others
  regs   := h.regs.emit e

theorem setEvent (h : QueueStep k q fs s t) (f : Fld) (v : Nat) (hf : f ∈ fs) : QueueStep k q fs s (t.setEvent f v) where
  only   := congrArg (fun u => State.setEvent u f v) h.only
  others := h.others
  regs   := h.regs.put f _ hf

theorem clusterIrq (h : QueueStep k q fs s t) (j : Nat) (f en : Fld) (hf : f ∈ fs) :
    QueueStep k q fs s (t.clusterIrq j f en) :=
  ite _ ((h.setEvent f 1 hf).emit _) (h.setEvent f 1 hf)

theorem setQueue (h : QueueStep k q fs s t) (x : Queue) : QueueStep k q fs s (t.setQueue k q x) where
  only   := congrArg (fun u => State.setQueue u k q x) h.only
  others := fun j r hne => (State.queue_setQueue_ne t x hne).trans (h.others j r hne)
  regs   := h.regs

theorem qPush (h : QueueStep k q fs s t) (hd : CL_QDROP.drops k q ∈ fs) (w : QWord) : QueueStep k q fs s (t.qPush k q w) :=
  have hb := h.bump _ hd
  ite _ hb (ite _ (ite _ (h.setQueue _) (ite _ (hb.setQueue _) (ite _ hb (hb.setQueue _)))) (h.setQueue _))

/-- A push of the bus is dropped, counted, written, or kept for the end of the cycle. -/
theorem qBusPush (h : QueueStep k q fs s t) (hd : CL_QDROP.drops k q ∈ fs) (ho : CL_QSTAT.overrun k q ∈ fs)
    (hi : CL_IRQ.overrun k ∈ fs) (w : QWord) : QueueStep k q fs s (t.qBusPush k q w) :=
  ite _ (h.setQueue _) (ite _ (((h.setEvent _ 1 ho).clusterIrq k _ _ hi).bump _ hd) (h.qPush hd w))

end QueueStep

/-- A push of the bus into a cluster that is awake is offered to the queue and completes with OK. -/
theorem ends_qpush {k : Fin 12} {s : State} (hawake : s.get (NODE_CLSLEEP.depth k) = 0) (q : Fin 32) (o : Origin) (w : Nat) :
    Ends (.qpush k q o w) s ((s.qBusPush k q ⟨w % 2 ^ 32, 0⟩).done o stOK) := by
  have hexec : exec (.qpush k q o w) s = s.access k (.qpush k q o w) (accQpush k q o w) := rfl
  exact hexec.trans (State.access_of_awake hawake _ _)

/-- Settles O55: each of the three pushes is a `QueueStep`. -/
theorem queuePushFrame : Obligations.QueuePushFrame := by
  intro k q o w s hawake c hc
  have hpush (x : QWord) : QueueStep k q [CL_QDROP.drops k q, CL_QSTAT.overrun k q, CL_IRQ.overrun k] s
      ((s.qBusPush k q x).done o stOK) :=
    ((QueueStep.refl k q _ s).qBusPush (by simp) (by simp) (by simp) x).emit _
  have hends (x : QWord) (hx : exec c s = fin ((s.qBusPush k q x).done o stOK)) : ∃ t, Ends c s t ∧
      t = { s with regs := t.regs, queues := t.queues, out := t.out, race := t.race } ∧
      (∀ (j : Fin 12) (r : Fin 32), (j, r) ≠ (k, q) → t.queue j r = s.queue j r) ∧
      SameRegs s t [CL_QDROP.drops k q, CL_QSTAT.overrun k q, CL_IRQ.overrun k] :=
    ⟨_, hx, (hpush x).only, (hpush x).others, (hpush x).regs⟩
  simp only [List.mem_cons, List.not_mem_nil, or_false] at hc
  rcases hc with rfl | rfl | rfl
  · exact hends _ (ends_qpush hawake q o w)
  · exact hends ⟨w % 2 ^ 32, tagEND⟩ ((rfl : exec (.qpushend k q o w) s = s.access k (.qpushend k q o w) (accQpushend k q o w)).trans
      (State.access_of_awake hawake _ _))
  · exact hends ⟨w % 2 ^ 32, tagERR⟩ ((rfl : exec (.qpusherr k q o w) s = s.access k (.qpusherr k q o w) (accQpusherr k q o w)).trans
      (State.access_of_awake hawake _ _))

/-! ### A stream queue (R108, R109, R114) -/

section
variable {s : State} {k q : Nat} (hon : s.qOn k q = true) (hstream : s.qStream k q = true)
include hon hstream

/-- A push of the bus into a stream queue that need not wait for the end of the cycle is decided now. -/
theorem State.qBusPush_stream (w : QWord) (hlate : (s.queue k q).late = [])
    (hnow : (s.queue k q).words.length + 2 ≤ s.qCast k q ∨ (s.queue k q).gapOpen = true) :
    s.qBusPush k q w = s.qPush k q w := by
  have hfull : ¬(s.qFull k q = true ∧ (s.queue k q).gapOpen = false) := by
    rintro ⟨hf, hg⟩
    rcases hnow with h | h
    · have hcast : s.qCast k q ≤ (s.queue k q).words.length + 1 := by
        rw [State.qFull, hon, hstream] at hf
        exact of_decide_eq_true hf
      omega
    · simp [hg] at h
  simp [State.qBusPush, State.qOffer, hlate, hfull, State.qPushNow, State.qHolds, hstream]

/-- One that finds the reserved slot alone left waits for the end of the cycle. -/
theorem State.qBusPush_stream_of_last (w : QWord) (hlate : (s.queue k q).late = [])
    (h : s.qCast k q = (s.queue k q).words.length + 1) (hgap : (s.queue k q).gapOpen = false) :
    s.qBusPush k q w = s.setQueue k q { s.queue k q with late := [{ word := w, bus := true }] } := by
  have hfull : s.qFull k q = true := by simp [State.qFull, hon, hstream, State.qDepth, h]
  simp [State.qBusPush, State.qOffer, hlate, hfull, hgap]

/-- Up to a depth of the cast depth less one, the word is written behind the others. -/
theorem State.qPush_stream_of_room (w : QWord) (h : (s.queue k q).words.length + 2 ≤ s.qCast k q) :
    s.qPush k q w = s.setQueue k q ((s.qNoted k q).add (s.qCast k q) w false) := by
  simp [State.qPush, hon, hstream, h]

/-- Beyond it the open marker counts the word. -/
theorem State.qPush_stream_of_gap (w : QWord) (h : s.qCast k q ≤ (s.queue k q).words.length + 1)
    (hgap : (s.queue k q).gapOpen = true) : s.qPush k q w = (s.bump (CL_QDROP.drops k q)).setQueue k q
      { s.qNoted k q with words := bumpGap (s.queue k q).words 1 } := by
  simp [State.qPush, hon, hstream, hgap, Nat.not_le.mpr (Nat.lt_succ_of_le h)]

/-- With the reserved slot alone left, a new marker counts the word. -/
theorem State.qPush_stream_of_last (w : QWord) (h : s.qCast k q = (s.queue k q).words.length + 1)
    (hgap : (s.queue k q).gapOpen = false) : s.qPush k q w = (s.bump (CL_QDROP.drops k q)).setQueue k q
      ((s.qNoted k q).add (s.qCast k q) ⟨1, tagGAP⟩ true) := by
  have hcast : (s.bump (CL_QDROP.drops k q)).qCast k q = s.qCast k q :=
    State.get_hw_ne _ _ _ _ (by simp [Fld.key, CL_QDROP.drops, CL_QDROP.addr, CL_QCFG.depth, CL_QCFG.addr]; omega)
  rw [State.bump_eq] at hcast
  simp [State.qPush, hon, hstream, hgap, h, hcast]

end

section
variable (s : State) (k q : Nat)

/-- LEVEL sets its interrupt bit and no queue. -/
theorem State.queues_qLevel (before : Nat) : (s.qLevel k q before).queues = s.queues := by
  unfold State.qLevel
  dsimp only
  split
  · split <;> rfl
  · rfl

theorem State.get_drops_qLevel (before : Nat) : (s.qLevel k q before).get (CL_QDROP.drops k q) = s.get (CL_QDROP.drops k q) := by
  have hset : (s.setEvent (CL_QIRQ.level k) (2 ^ q)).get (CL_QDROP.drops k q) = s.get (CL_QDROP.drops k q) :=
    State.get_put_ne _ _ _ _ (by simp [Fld.key, CL_QDROP.drops, CL_QDROP.addr, CL_QIRQ.level, CL_QIRQ.addr]; omega)
  unfold State.qLevel
  dsimp only
  split
  · split <;> exact hset
  · rfl

/-- The end of a PORTCLK cycle with one push that waited: the push is decided, and LEVEL is tested. -/
theorem State.qCycleEnd_of_one_late (l : LatePush) (h : (s.queue k q).late = [l]) :
    let t := (s.setQueue k q { s.queue k q with late := [] }).qPushNow k q l
    ((s.qCycleEnd k q).queue k q).words = (t.queue k q).words ∧
    ((s.qCycleEnd k q).queue k q).gapOpen = (t.queue k q).gapOpen ∧
    (s.qCycleEnd k q).get (CL_QDROP.drops k q) = t.get (CL_QDROP.drops k q) := by
  intro t
  have hdef : s.qCycleEnd k q = match (t.queue k q).cyc with
      | none => t
      | some e => (t.setQueue k q { t.queue k q with cyc := none }).qLevel k q e.2 := by
    unfold State.qCycleEnd
    rw [h]
    rfl
  rw [hdef]
  split
  · exact ⟨rfl, rfl, rfl⟩
  · rw [State.queue_congr (State.queues_qLevel _ _ _ _), State.queue_setQueue_self, State.get_drops_qLevel]
    exact ⟨rfl, rfl, rfl⟩

/-- A push that waited beside the reserved slot becomes a new marker with count 1 at the end of the cycle (R108, R114). -/
theorem State.qCycleEnd_stream_of_last {w : QWord} (hon : s.qOn k q = true) (hstream : s.qStream k q = true)
    (hlate : (s.queue k q).late = [{ word := w, bus := true }]) (h : s.qCast k q = (s.queue k q).words.length + 1)
    (hgap : (s.queue k q).gapOpen = false) :
    ((s.qCycleEnd k q).queue k q).words = (s.queue k q).words ++ [⟨1, tagGAP⟩] ∧
    ((s.qCycleEnd k q).queue k q).gapOpen = true ∧
    (s.qCycleEnd k q).get (CL_QDROP.drops k q) = (s.bump (CL_QDROP.drops k q)).get (CL_QDROP.drops k q) := by
  obtain ⟨hwords, hopen, hcount⟩ := s.qCycleEnd_of_one_late k q _ hlate
  have hu := s.queue_setQueue_self k q { s.queue k q with late := [] }
  have hqueues : (s.setQueue k q { s.queue k q with late := [] }).qStream k q = true := hstream
  generalize hu' : s.setQueue k q { s.queue k q with late := [] } = u at hwords hopen hcount hu hqueues
  have honu : u.qOn k q = true := hu' ▸ hon
  have hcastu : u.qCast k q = (u.queue k q).words.length + 1 := by rw [hu, ← h, ← hu']; rfl
  have hnow : u.qPushNow k q { word := w, bus := true } = u.qPush k q w := by simp [State.qPushNow, State.qHolds, hqueues]
  rw [hnow, State.qPush_stream_of_last honu hqueues w hcastu (by rw [hu]; exact hgap), State.queue_setQueue_self] at hwords hopen
  rw [hnow, State.qPush_stream_of_last honu hqueues w hcastu (by rw [hu]; exact hgap)] at hcount
  refine ⟨hwords.trans (by simp [Queue.add, hu]), hopen, hcount.trans ?_⟩
  exact State.get_bump_congr ((congrArg State.race hu').symm.trans rfl) ((congrArg (State.get · _) hu').symm.trans rfl)

theorem State.words_of_qWords {m : QWord} (hw : s.qWords k q = [m]) : (s.queue k q).words = [m] := by
  unfold State.qWords at hw
  split at hw
  · simp at hw
  · exact hw

/-- A single pop of the bus takes the only word, and closes the marker. -/
theorem ends_qpop_of_one {k : Fin 12} {q : Fin 32} {m : QWord} (o : Origin) (hawake : s.get (NODE_CLSLEEP.depth k) = 0)
    (hbus : s.busQueue k q = true) (hheld : (s.queue k q).held = []) (hw : s.qWords k q = [m]) :
    Ends (.qpop k q o) s (((s.qTake k q).put (CL_QDATA.data k q) m.data).done o stOK 0
      [popWord m.tag stOK (((s.qTake k q).put (CL_QDATA.data k q) m.data).qDepth k q)]) := by
  have hexec : exec (.qpop k q o) s = s.access k (.qpop k q o) (accQpop k q o) := rfl
  have hwords := State.words_of_qWords s k q hw
  rw [Ends, hexec, State.access_of_awake hawake, accQpop, if_pos hbus, State.busRead]
  simp [hw, hheld, State.busPop, hwords, fin]

end

/-- Settles O54: the four cases of a push into a stream queue, by what the queue holds and whether its marker is open. -/
theorem streamQueueNeverHoldsBack : Obligations.StreamQueueNeverHoldsBack := by
  intro k q o w s
  dsimp only
  intro hawake hon hstream hheld hlate hwrote
  have hdone (t : State) : Emit.done o stOK 0 0 [] ∈ (t.done o stOK).out := by simp [State.emit]
  have hdrops (t : State) (hr : t.race = s.race) (hg : t.get (CL_QDROP.drops k q) = s.get (CL_QDROP.drops k q)) :
      (t.bump (CL_QDROP.drops k q)).get (CL_QDROP.drops k q) = min (s.get (CL_QDROP.drops k q) + 1) (2 ^ 32 - 1) := by
    rw [State.bump_eq, State.hw_eq, hr, hwrote, if_neg (by decide), State.get_put_self, hg]
    exact Nat.mod_eq_of_lt (by simp [CL_QDROP.drops])
  have hqueue (t : State) : (t.done o stOK).queue k q = t.queue k q := rfl
  refine ⟨fun hroom => ?_, fun pre g hfull hgap hwords => ?_, fun hlast hgap => ?_, fun m hbus hm => ?_⟩
  · have hroom' : (s.queue k q).words.length + 2 ≤ s.qCast k q := by omega
    refine ⟨_, ends_qpush hawake q o w, ?_⟩
    rw [State.qBusPush_stream hon hstream _ hlate (.inl hroom'), State.qPush_stream_of_room hon hstream _ hroom', hqueue,
      State.queue_setQueue_self]
    exact ⟨by simp [Queue.add], rfl, rfl, hdone _⟩
  · have hfull' : s.qCast k q ≤ (s.queue k q).words.length + 1 := by omega
    refine ⟨_, ends_qpush hawake q o w, ?_⟩
    rw [State.qBusPush_stream hon hstream _ hlate (.inr hgap), State.qPush_stream_of_gap hon hstream _ hfull' hgap, hqueue,
      State.queue_setQueue_self, hwords, bumpGap_append]
    exact ⟨rfl, by simpa using hgap, hdrops s rfl rfl, hdone _⟩
  · refine ⟨_, ends_qpush hawake q o w, ?_⟩
    rw [State.qBusPush_stream_of_last hon hstream _ hlate hlast hgap, hqueue, State.queue_setQueue_self]
    refine ⟨rfl, hdone _, ?_⟩
    have hq := State.queue_setQueue_self s k q { s.queue k q with late := [{ word := ⟨w % 2 ^ 32, 0⟩, bus := true }] }
    obtain ⟨hwords, hopen, hcount⟩ := State.qCycleEnd_stream_of_last
      (s.setQueue k q { s.queue k q with late := [{ word := ⟨w % 2 ^ 32, 0⟩, bus := true }] } |>.done o stOK)
      k q hon hstream (congrArg Queue.late hq) (hlast.trans (congrArg (·.words.length + 1) hq).symm)
      ((congrArg Queue.gapOpen hq).trans hgap)
    exact ⟨hwords.trans (by rw [hqueue, hq]), hopen, hcount.trans (hdrops _ rfl rfl)⟩
  · refine ⟨_, ends_qpop_of_one s o hawake hbus hheld hm, ?_⟩
    have hwords := State.words_of_qWords s k q hm
    have hq (t : State) (e : Emit) (v : Nat) (f : Fld) : ((t.put f v).emit e).queue k q = t.queue k q := rfl
    simp [hq, State.qTake, hwords]

end Sys2Proof.Machine
end

section
/-! PROOFS. Triggers, snapshots and re-arms (R473, R474). -/

namespace Sys2Proof.Machine

/-- A trigger while a snapshot is held sends no broadcast (R472). -/
theorem State.trigger_of_held {s : State} (src fault edge : Nat) (h : s.get QCH_STATUS.held ≠ 0) :
    s.trigger src fault edge = s.latch (2 ^ src) fault edge := by
  simp [State.trigger, h]

/-- A trigger on another edge than the held snapshot's is only counted (R474). -/
theorem State.latch_of_held {s : State} {sn : Snapshot} (srcs fault : Nat) {edge : Nat} (h : s.get QCH_STATUS.held ≠ 0)
    (hsn : s.flt.snap = some sn) (hedge : sn.time ≠ edge) : s.latch srcs fault edge = s.bump QCH_IGNORED.count := by
  simp [State.latch, h, hsn, hedge]

/-- The state with a new snapshot on the edge, its sources and its fault (R473). -/
def State.snapTaken (s : State) (srcs fault edge : Nat) : State :=
  let t : State := { s with flt := { s.flt with snap := some (s.snapshot edge) } }
  let u := t.puts [(QCH_STATUS.held, 1), (QCH_STATUS.srcs, 0), (QCH_STATUS.fault, 0), (QCH_TIME.word 0, timeFrac edge),
    (QCH_TIME.word 1, timeNs edge), (QCH_TIME.word 2, timeSec edge), (QCH_TIME.word 3, timeSec edge / 2 ^ 32)]
  u.puts [(QCH_STATUS.srcs, u.get QCH_STATUS.srcs ||| srcs),
    (QCH_STATUS.fault, if bit srcs qsFAULT then fault else u.get QCH_STATUS.fault)]

theorem State.get_held_snapTaken (s : State) (srcs fault edge : Nat) :
    (s.snapTaken srcs fault edge).get QCH_STATUS.held = 1 := by
  simp only [State.snapTaken, State.puts_cons, State.puts_nil]
  simp (disch := decide) only [State.get_put_ne, State.get_put_self]
  rfl

theorem State.get_srcs_snapTaken (s : State) {srcs : Nat} (fault edge : Nat) (h : srcs < 2 ^ 5) :
    (s.snapTaken srcs fault edge).get QCH_STATUS.srcs = srcs := by
  simp only [State.snapTaken, State.puts_cons, State.puts_nil]
  simp (disch := decide) only [State.get_put_ne, State.get_put_self]
  rw [Nat.zero_mod, Nat.zero_or]
  exact Nat.mod_eq_of_lt h

/-- Without a snapshot held, a trigger takes one; the capture stops where it is set to. -/
theorem State.latch_of_free {s : State} (srcs fault edge : Nat) (h : s.get QCH_STATUS.held = 0) :
    s.latch srcs fault edge = if (s.snapTaken srcs fault edge).flag SW_CAPCFG.stop_on_quench
      then (s.snapTaken srcs fault edge).setEvent SW_CAPCFG.stopped else s.snapTaken srcs fault edge := by
  have hfree : ¬s.flag QCH_STATUS.held = true := by simp [h]
  rw [State.latch, if_neg hfree]
  rfl

/-- A new snapshot is held, with its own source alone, on its edge. -/
theorem State.latch_of_free_spec {s : State} {srcs : Nat} (fault edge : Nat) (h : s.get QCH_STATUS.held = 0) (hs : srcs < 2 ^ 5) :
    (s.latch srcs fault edge).get QCH_STATUS.held = 1 ∧ (s.latch srcs fault edge).get QCH_STATUS.srcs = srcs ∧
      (s.latch srcs fault edge).flt.snap = some (s.snapshot edge) := by
  rw [State.latch_of_free srcs fault edge h]
  split
  · exact ⟨(State.get_put_ne _ _ _ _ (by decide)).trans (s.get_held_snapTaken srcs fault edge),
      (State.get_put_ne _ _ _ _ (by decide)).trans (s.get_srcs_snapTaken fault edge hs), rfl⟩
  · exact ⟨s.get_held_snapTaken srcs fault edge, s.get_srcs_snapTaken fault edge hs, rfl⟩

/-- The broadcast of a quench enters the switch: no register and no snapshot changes. -/
theorem State.trigger_of_free {s : State} (src fault edge : Nat) (f : Fld) :
    (s.trigger src fault edge).get f = (s.latch (2 ^ src) fault edge).get f ∧
    (s.trigger src fault edge).flt = (s.latch (2 ^ src) fault edge).flt := by
  unfold State.trigger
  dsimp only
  split
  · exact ⟨rfl, rfl⟩
  · exact ⟨rfl, rfl⟩

/-- QCH_CTL as an originator that may write it writes it: the re-arm comes first (R474). -/
theorem State.qchCtl_of_own {s : State} {o : Origin} (w : Nat) (h : s.foreignCore o = false) :
    s.qchCtl o w =
      let t := if bit w 1 then s.put QCH_STATUS.held 0 else s
      (if bit w 0 then t.trigger qsSOFT 0 t.nextEdge else t).done o stOK := by
  simp [State.qchCtl, h]

/-- Settles O60: a trigger while held, a trigger with a re-arm, and a re-arm alone. -/
theorem triggersAndRearms : Obligations.TriggersAndRearms := by
  intro o w s hown
  refine ⟨fun sn hwrote h1 hheld hsn hedge => ?_, fun h0 => ?_, fun h0 => ?_⟩
  · have hctl : s.qchCtl o (withBit w 0) = (s.bump QCH_IGNORED.count).done o stOK := by
      rw [State.qchCtl_of_own _ hown, bit_withBit_self, bit_withBit_ne w (by decide), h1]
      exact congrArg (State.done · o stOK)
        ((State.trigger_of_held _ _ _ hheld).trans (State.latch_of_held _ _ hheld hsn hedge))
    have hstep : s.bump QCH_IGNORED.count = s.put QCH_IGNORED.count
        (min (s.get QCH_IGNORED.count + 1) (2 ^ QCH_IGNORED.count.width - 1)) := by
      rw [State.bump_eq, State.hw_eq, hwrote, if_neg (by decide)]
    refine ⟨(s.put QCH_IGNORED.count _).done o stOK, congrArg fin (hctl.trans (by rw [hstep])), rfl,
      ((SameRegs.refl s [QCH_IGNORED.count]).put QCH_IGNORED.count _ (by simp)).emit _, ?_⟩
    exact State.get_put_of_lt _ _ _ (by simp [QCH_IGNORED.count])
  · have hctl := State.qchCtl_of_own (withBit w 1) hown
    rw [bit_withBit_self, bit_withBit_ne w (by decide), h0] at hctl
    have hfree : (s.put QCH_STATUS.held 0).get QCH_STATUS.held = 0 := State.get_put_self _ _ _
    obtain ⟨hheld, hsrcs, hsnap⟩ := State.latch_of_free_spec 0 s.nextEdge hfree (show 2 ^ qsSOFT < 2 ^ 5 by decide)
    have htrig := @State.trigger_of_free (s.put QCH_STATUS.held 0) qsSOFT 0 s.nextEdge
    exact ⟨_, _, congrArg fin hctl, (htrig _).1.trans hheld, (htrig _).1.trans hsrcs,
      (congrArg (fun x => x.snap) (htrig QCH_STATUS.held).2).trans hsnap, rfl⟩
  · have hctl := State.qchCtl_of_own (withBit w 1) hown
    rw [bit_withBit_self, bit_withBit_ne w (by decide), h0] at hctl
    exact ⟨(s.put QCH_STATUS.held 0).done o stOK, congrArg fin hctl, State.get_put_self s QCH_STATUS.held 0, rfl,
      ((SameRegs.refl s [QCH_STATUS.held]).put QCH_STATUS.held 0 (by simp)).emit _⟩

end Sys2Proof.Machine
end

section
/-! PROOFS. Writes through a TCM window (R369, R390). -/

namespace Sys2Proof.Machine

/-- The keys of the core memories that a byte at offset o of pair p is written to: both TCMs of a pair in lockstep (R369). -/
def State.coreCells (s : State) (p o : Nat) : List Nat :=
  if o < 0x80000 ∧ s.get (CORE_STAT.mode p) = 0 then [coreKey p (o % 0x40000), coreKey p (o % 0x40000 + 0x40000)]
  else [coreKey p o]

/-- One byte written at offset o of pair p. -/
def State.coreByte (s : State) (p o b : Nat) : State :=
  { s with core := { s.core with mem := (s.coreCells p o).foldl (fun m x => SMap.set m x (b % 256) 0) s.core.mem } }

theorem State.coreWrite_cons (s : State) (p o b : Nat) (bs : List Nat) :
    s.coreWrite p o (b :: bs) = (s.coreByte p o b).coreWrite p (o + 1) bs := by
  refine congrArg (fun m => State.coreWrite { s with core := { s.core with mem := m } } p (o + 1) bs) ?_
  unfold State.coreCells
  by_cases hlock : o < 0x80000 ∧ s.get (CORE_STAT.mode p) = 0
  · rw [if_pos hlock, if_pos ⟨hlock.1, by simp [hlock.2]⟩]
    rfl
  · rw [if_neg hlock, if_neg fun h => hlock ⟨h.1, by simpa using h.2⟩]
    rfl

@[simp] theorem State.coreCells_coreByte (s : State) (p o b : Nat) : (s.coreByte p o b).coreCells = s.coreCells := rfl

/-- A byte is written to its cells. -/
theorem State.coreByte_self (s : State) {p o n : Nat} (b : Nat) (h : n ∈ s.coreCells p o) :
    SMap.getD (s.coreByte p o b).core.mem n 0 = b % 256 := by
  unfold State.coreByte
  revert h
  unfold State.coreCells
  split <;> intro h <;>
    simp only [List.mem_cons, List.not_mem_nil, or_false, List.foldl_cons, List.foldl_nil] at h ⊢
  · rcases h with rfl | rfl <;> simp [SMap.getD_set]
  · rw [h, SMap.getD_set_self]

/-- A byte is written to no other cell. -/
theorem State.coreByte_ne (s : State) {p o n : Nat} (b : Nat) (h : n ∉ s.coreCells p o) :
    SMap.getD (s.coreByte p o b).core.mem n 0 = SMap.getD s.core.mem n 0 := by
  unfold State.coreByte
  dsimp only
  generalize s.core.mem = m
  generalize hl : s.coreCells p o = l at h
  clear hl
  induction l generalizing m with
  | nil => rfl
  | cons x l ih =>
    simp only [List.mem_cons, not_or] at h
    rw [List.foldl_cons, ih _ h.2, SMap.getD_set_ne _ _ _ _ h.1]

/-- A write changes the core memories alone. -/
theorem State.coreWrite_eq (bs : List Nat) (s : State) (p o : Nat) :
    s.coreWrite p o bs = { s with core := { s.core with mem := (s.coreWrite p o bs).core.mem } } := by
  induction bs generalizing s o with
  | nil => rfl
  | cons b bs ih => rw [State.coreWrite_cons]; exact ih (s.coreByte p o b) (o + 1)

/-- A cell that no byte of a write falls on stays. -/
theorem State.coreWrite_ne (bs : List Nat) (s : State) {p o n : Nat} (h : ∀ i < bs.length, n ∉ s.coreCells p (o + i)) :
    SMap.getD (s.coreWrite p o bs).core.mem n 0 = SMap.getD s.core.mem n 0 := by
  induction bs generalizing s o with
  | nil => rfl
  | cons b bs ih =>
    have htail : ∀ i < bs.length, n ∉ (s.coreByte p o b).coreCells p (o + 1 + i) := by
      intro i hi
      rw [State.coreCells_coreByte, Nat.add_assoc, Nat.add_comm 1]
      exact h (i + 1) (by simpa using hi)
    rw [State.coreWrite_cons, ih _ htail]
    exact State.coreByte_ne s b (h 0 (by simp))

/-- A cell of a byte holds it after the write, unless a later byte of the write falls on it too. -/
theorem State.coreWrite_self (bs : List Nat) (s : State) {p o n i : Nat} (hi : i < bs.length) (h : n ∈ s.coreCells p (o + i))
    (hlast : ∀ j < bs.length, i < j → n ∉ s.coreCells p (o + j)) :
    SMap.getD (s.coreWrite p o bs).core.mem n 0 = bs[i] % 256 := by
  induction bs generalizing s o i with
  | nil => simp at hi
  | cons b bs ih =>
    have hshift (j : Nat) : (s.coreByte p o b).coreCells p (o + 1 + j) = s.coreCells p (o + (j + 1)) := by
      rw [State.coreCells_coreByte, Nat.add_assoc, Nat.add_comm 1]
    rw [State.coreWrite_cons]
    cases i with
    | zero =>
      rw [State.coreWrite_ne bs _ (fun j hj => by rw [hshift]; exact hlast (j + 1) (by simpa using hj) (by omega))]
      exact State.coreByte_self s b h
    | succ i =>
      exact ih _ (by simpa using hi) (by rw [hshift]; exact h)
        (fun j hj hij => by rw [hshift]; exact hlast (j + 1) (by simpa using hj) (by omega))

theorem State.mem_coreCells_lockstep {s : State} {p : Nat} (h : s.get (CORE_STAT.mode p) = 0) (o n : Nat) :
    n ∈ s.coreCells p o ↔ (o < 0x80000 ∧ (n = coreKey p (o % 0x40000) ∨ n = coreKey p (o % 0x40000 + 0x40000))) ∨
      (0x80000 ≤ o ∧ n = coreKey p o) := by
  unfold State.coreCells
  split <;> simp only [List.mem_cons, List.not_mem_nil, or_false] <;> omega

theorem State.mem_coreCells_split {s : State} {p : Nat} (h : s.get (CORE_STAT.mode p) ≠ 0) (o n : Nat) :
    n ∈ s.coreCells p o ↔ n = coreKey p o := by
  simp [State.coreCells, h]

/-- A write through a window of a halted pair, by an originator that may make it, is carried out. -/
theorem ends_tcmWindowWrite {v : Fin 4} {o : Origin} {ofs : Fin 0x100000} {bs : List Nat} {s : State}
    (hown : s.foreignCore o = false) (hp : s.get (CORE_WINSEL.pair v) < 10) (hlen : ofs.val + bs.length ≤ 0x100000)
    (hhalt : s.pairHalted (s.get (CORE_WINSEL.pair v)) = true) :
    Ends (.tcmWindowWrite v o ofs bs) s ((s.coreWrite (s.get (CORE_WINSEL.pair v)) ofs bs).done o stOK) := by
  have hexec : exec (.tcmWindowWrite v o ofs bs) s = execTcmWindowWrite v o ofs bs s := rfl
  rw [Ends, hexec, execTcmWindowWrite, hown, hhalt, List.take_of_length_le (by omega)]
  rw [if_neg (by decide), if_neg (by omega), if_neg (by decide), fin]

/-- Settles O58: the cells of each byte of the write, in lockstep and in split mode. -/
theorem coreMemoryFrame : Obligations.CoreMemoryFrame := by
  intro v o ofs bs s
  dsimp only
  intro hown hp hlen
  have honly (p : Nat) : (s.coreWrite p ofs bs).done o stOK = { s with
      core := { s.core with mem := ((s.coreWrite p ofs bs).done o stOK).core.mem }
      out := ((s.coreWrite p ofs bs).done o stOK).out } := by
    rw [State.coreWrite_eq]; rfl
  refine ⟨fun hhalt hmode => ?_, fun hhalt hmode => ?_, fun hhalt => ?_⟩
  · have hcell := State.mem_coreCells_lockstep hmode
    simp only [coreKey] at hcell
    refine ⟨_, ends_tcmWindowWrite hown hp hlen hhalt, honly _, fun r x n hx hn hor => ?_, fun i hi c hc hlow hlast => ?_,
      fun i hi hhigh => ?_⟩
    · refine State.coreWrite_ne bs s fun i hi hmem => ?_
      rw [hcell] at hmem
      have hside : r = s.get (CORE_WINSEL.pair v) → ofs.val + i ≠ x ∧
          (ofs.val + i < 0x80000 → x < 0x80000 → (ofs.val + i) % 0x40000 ≠ x % 0x40000) :=
        fun hr => (hor.resolve_left (· hr)) i hi
      omega
    · refine State.coreWrite_self bs s hi ((hcell _ _).mpr (by omega)) fun j hj hij hmem => ?_
      rw [hcell] at hmem
      have := hlast j hj hij
      omega
    · refine State.coreWrite_self bs s hi ((hcell _ _).mpr (by omega)) fun j hj hij hmem => ?_
      rw [hcell] at hmem
      omega
  · have hcell := State.mem_coreCells_split hmode
    simp only [coreKey] at hcell
    refine ⟨_, ends_tcmWindowWrite hown hp hlen hhalt, honly _, fun r x n hx hor hn => ?_, fun i hi => ?_⟩
    · refine State.coreWrite_ne bs s fun i hi hmem => ?_
      rw [hcell] at hmem
      omega
    · refine State.coreWrite_self bs s hi ((hcell _ _).mpr (by omega)) fun j hj hij hmem => ?_
      rw [hcell] at hmem
      omega
  · have hexec : exec (.tcmWindowWrite v o ofs bs) s = execTcmWindowWrite v o ofs bs s := rfl
    have hends : Ends (.tcmWindowWrite v o ofs bs) s (s.refuse o CORE_REFUSED.count) := by
      rw [Ends, hexec, execTcmWindowWrite, hown, hhalt]
      rw [if_neg (by decide), if_neg (by omega), if_pos (by decide), fin]
    have hstep : RegStep [CORE_REFUSED.count] s (s.refuse o CORE_REFUSED.count) :=
      ((RegStep.refl _ s).bump CORE_REFUSED.count (by simp)).emit _
    exact ⟨_, hends, hstep.only, hstep.regs, State.done_mem_out_refuse _ _ _⟩

end Sys2Proof.Machine
end

section
/-! PROOFS. What the data, jump and wait instructions of an engine leave unchanged (R45 to R51, R63 to R67, R81). -/

namespace Sys2Proof.Machine

/-- The fields that these instructions write: the engine's state registers, its PC and its run state. -/
def engineFields (k n : Nat) : List Fld :=
  [PE_STATUS.pc k n, PE_STATUS.run k n, PE_STATUS.wait_op k n, PE_X.x k n, PE_Y.y k n, PE_C.c0 k n, PE_C.c1 k n,
    PE_T_LO.t_lo k n, PE_T_HI.t_hi k n, PE_T_HI.t_fine k n, PE_SHIN.shin k n, PE_SHOUT.shout k n, PE_SHCNT.in_count k n,
    PE_SHCNT.out_count k n, PE_TAG.tag k n]

/-- From s to t only registers of `engineFields` and what engine n of cluster k holds have changed, its actions and drivers not. -/
structure EngineStep (k : Fin 12) (n : Fin 9) (s t : State) : Prop where
  only     : t = { s with regs := t.regs, pes := t.pes }
  others   : ∀ (j : Fin 12) (m : Fin 9), (j, m) ≠ (k, n) → t.pe j m = s.pe j m
  actions  : (t.pe k n).actions = (s.pe k n).actions
  drv      : (t.pe k n).drv = (s.pe k n).drv
  stepping : (t.pe k n).stepping = (s.pe k n).stepping
  regs     : SameRegs s t (engineFields k n)

/-- Writing one engine leaves every other engine alone. -/
theorem State.pe_setPe_ne (s : State) {k j : Fin 12} {n m : Fin 9} (x : PE) (h : (j, m) ≠ (k, n)) :
    (s.setPe k n x).pe j m = s.pe j m := by
  refine SMap.getD_set_ne _ _ _ _ fun he => h ?_
  have hj : j.val = k.val := by omega
  have hm : m.val = n.val := by omega
  rw [Fin.ext hj, Fin.ext hm]

namespace EngineStep

variable {k : Fin 12} {n : Fin 9} {s t : State}

theorem refl (k : Fin 12) (n : Fin 9) (s : State) : EngineStep k n s s :=
  ⟨rfl, fun _ _ _ => rfl, rfl, rfl, rfl, SameRegs.refl s _⟩

theorem ite {u : State} (c : Prop) [Decidable c] (h : EngineStep k n s t) (h' : EngineStep k n s u) :
    EngineStep k n s (if c then t else u) := by split <;> assumption

theorem put (h : EngineStep k n s t) (f : Fld) (v : Nat) (hf : f ∈ engineFields k n) : EngineStep k n s (t.put f v) where
  only     := congrArg (fun u => State.put u f v) h.only
  others   := h.others
  actions  := h.actions
  drv      := h.drv
  stepping := h.stepping
  regs     := h.regs.put f v hf

/-- A change of the engine that keeps its actions and drivers. -/
theorem setPe (h : EngineStep k n s t) (x : PE) (ha : x.actions = (t.pe k n).actions) (hd : x.drv = (t.pe k n).drv)
    (hs : x.stepping = (t.pe k n).stepping) : EngineStep k n s (t.setPe k n x) where
  only     := congrArg (fun u => State.setPe u k n x) h.only
  others   := fun j m hne => (State.pe_setPe_ne t x hne).trans (h.others j m hne)
  actions  := by rw [State.pe_setPe_self, ha, h.actions]
  drv      := by rw [State.pe_setPe_self, hd, h.drv]
  stepping := by rw [State.pe_setPe_self, hs, h.stepping]
  regs     := h.regs

theorem setRx (h : EngineStep k n s t) (xs : List QWord) : EngineStep k n s (t.setPe k n { t.pe k n with rx := xs }) :=
  h.setPe { t.pe k n with rx := xs } rfl rfl rfl

theorem noteIssue (h : EngineStep k n s t) : EngineStep k n s (t.noteIssue k n) := by
  unfold State.noteIssue
  split
  · exact h
  · exact h.setPe _ rfl rfl rfl

theorem putT (h : EngineStep k n s t) (v fine : Nat) : EngineStep k n s (t.putT k n v fine) :=
  ((h.put _ _ (by simp [engineFields])).put _ _ (by simp [engineFields])).put _ _ (by simp [engineFields])

theorem writeOp (h : EngineStep k n s t) (c v : Nat) : EngineStep k n s (t.writeOp k n c v) := by
  unfold State.writeOp
  split
  case h_5 | h_6 => exact (h.put _ _ (by simp [engineFields])).put _ _ (by simp [engineFields])
  case h_7 => exact h
  all_goals exact h.put _ _ (by simp [engineFields])

theorem jmpEffect (h : EngineStep k n s t) (c : Nat) : EngineStep k n s (t.jmpEffect k n c) := by
  unfold State.jmpEffect
  split
  case h_3 => exact h
  all_goals exact h.put _ _ (by simp [engineFields])

theorem txPut (h : EngineStep k n s t) (w : QWord) (raise : Bool) : EngineStep k n s (t.txPut k n w raise) :=
  ite _ (h.setPe _ rfl rfl rfl) h

/-- An engine that is not single-stepped goes on at its next address. -/
theorem goOn (h : EngineStep k n s t) (hs : (s.pe k n).stepping = false) (pc : Nat) : EngineStep k n s (t.peGoOn k n pc) := by
  have hadv : EngineStep k n s (t.peAdvance k n pc) :=
    (((h.setPe { t.pe k n with issued := none, stampHit := none } rfl rfl rfl).put (PE_STATUS.pc k n) _ (by simp [engineFields])).put
      (PE_STATUS.run k n) _ (by simp [engineFields])).put (PE_STATUS.wait_op k n) _ (by simp [engineFields])
  have hstep : ((t.peAdvance k n pc).pe k n).stepping = false := hadv.stepping.trans hs
  rw [State.peGoOn, State.peStepEnd, hstep]
  exact hadv

end EngineStep

/-! ### The effects -/

/-- An effect that goes on, jumps or waits, with an `EngineStep` where it changes the state. -/
def Eff.isEngineStep (k : Fin 12) (n : Fin 9) (s : State) : Eff → Prop
  | .go t => EngineStep k n s t
  | .jump t _ => EngineStep k n s t
  | .wait => True
  | .stop _ => False
  | .halt _ => False

section
variable {k : Fin 12} {n : Fin 9} {s t : State} (h : EngineStep k n s t) (w : Nat)
include h

theorem EngineStep.effMov : (Machine.effMov k n t w).isEngineStep k n s := by
  unfold Machine.effMov
  dsimp only
  split
  · trivial
  · split
    · exact h.putT _ _
    · exact h.writeOp _ _

theorem EngineStep.effAdd : (Machine.effAdd k n t w).isEngineStep k n s := by
  unfold Machine.effAdd
  dsimp only
  split
  · trivial
  · split
    · exact h.putT _ _
    · exact h.writeOp _ _

theorem EngineStep.effPull : (Machine.effPull k n t w).isEngineStep k n s := by
  unfold Machine.effPull
  split
  · trivial
  · exact ((h.setRx _).writeOp _ _).put (PE_TAG.tag k n) _ (by simp [engineFields])

theorem EngineStep.effLdt : (Machine.effLdt k n t w).isEngineStep k n s := by
  unfold Machine.effLdt
  split
  · exact ((h.setRx _).putT _ _).put (PE_TAG.tag k n) _ (by simp [engineFields])
  · trivial

theorem EngineStep.effPush : (Machine.effPush k n t w).isEngineStep k n s := by
  unfold Machine.effPush
  dsimp only
  split
  · trivial
  · split
    · trivial
    · exact .ite _ ((h.txPut _ _).put _ _ (by simp [engineFields])) (h.txPut _ _)

theorem EngineStep.effEvent : (Machine.effEvent k n t w).isEngineStep k n s := by
  unfold Machine.effEvent
  split
  · trivial
  · exact h.txPut _ _

theorem EngineStep.effWaitp : (Machine.effWaitp k n t w).isEngineStep k n s := by
  unfold Machine.effWaitp
  split
  · exact h
  · trivial

theorem EngineStep.effWaitt : (Machine.effWaitt k n t w).isEngineStep k n s := by
  unfold Machine.effWaitt
  split
  · exact h
  · trivial

theorem EngineStep.effJmp : (Machine.effJmp k n t w).isEngineStep k n s := by
  unfold Machine.effJmp
  split
  · trivial
  · split
    · exact h.jmpEffect _
    · exact h

end

/-- An engine that carries out such an effect, or waits, or stands at another instruction. -/
theorem EngineStep.peIssue {k : Fin 12} {n : Fin 9} {w : Nat} {s : State} (hstands : s.stands k n w)
    (hstep : (s.pe k n).stepping = false) (op : Nat) (eff : State → Nat → Eff)
    (heff : (eff (s.noteIssue k n) w).isEngineStep k n s) : EngineStep k n s (s.peIssue k n op eff) := by
  by_cases hop : opcodeOf w = op
  · rw [State.peIssue_of_stands hstands hop]
    cases he : eff (s.noteIssue k n) w <;> rw [he] at heff
    case go t => exact EngineStep.goOn heff hstep _
    case jump t pc => exact EngineStep.goOn heff hstep _
    case wait =>
      have hnote := (EngineStep.refl k n s).noteIssue
      exact (hnote.put _ _ (by simp [engineFields])).put _ _ (by simp [engineFields])
    case stop => exact heff.elim
    case halt => exact heff.elim
  · obtain ⟨-, hword, -⟩ := hstands
    have hno : s.issues k n op = false := by simp [State.issues, hword, hop]
    rw [State.peIssue, hno]
    exact EngineStep.refl k n s

/-- Settles O53: each instruction's effect is an `EngineStep`, and an engine that carries it out goes on, jumps or waits. -/
theorem engineInstructionFrame : Obligations.EngineInstructionFrame := by
  intro k n w s hstands hstep c hc
  have hframe (op : Nat) (eff : State → Nat → Eff) (heff : (eff (s.noteIssue k n) w).isEngineStep k n s)
      (hexec : exec c s = fin (s.peIssue k n op eff)) :
      ∃ t, Ends c s t ∧ t = { s with regs := t.regs, pes := t.pes } ∧
        (∀ (j : Fin 12) (m : Fin 9), (j, m) ≠ (k, n) → t.pe j m = s.pe j m) ∧
        (t.pe k n).actions = (s.pe k n).actions ∧ (t.pe k n).drv = (s.pe k n).drv ∧ SameRegs s t (engineFields k n) :=
    have h := EngineStep.peIssue hstands hstep op eff heff
    ⟨_, hexec, h.only, h.others, h.actions, h.drv, h.regs⟩
  have hnote := (EngineStep.refl k n s).noteIssue
  simp only [List.mem_cons, List.not_mem_nil, or_false] at hc
  rcases hc with rfl | rfl | rfl | rfl | rfl | rfl | rfl | rfl | rfl | rfl
  · exact hframe _ effNop hnote rfl
  · exact hframe _ _ (hnote.effMov w) rfl
  · exact hframe _ _ (hnote.effAdd w) rfl
  · exact hframe _ _ (hnote.effPull w) rfl
  · exact hframe _ _ (hnote.effLdt w) rfl
  · exact hframe _ _ (hnote.effPush w) rfl
  · exact hframe _ _ (hnote.effEvent w) rfl
  · exact hframe _ _ (hnote.effWaitp w) rfl
  · exact hframe _ _ (hnote.effWaitt w) rfl
  · exact hframe _ _ (hnote.effJmp w) rfl

end Sys2Proof.Machine
end

section
/-! PROOFS. What an operation of the crucible writes to memory (R410). -/

namespace Sys2Proof.Machine

/-! ### The crucible's bookkeeping writes no memory -/

section
variable (s : State)

theorem State.puts_mem (l : List (Fld × Nat)) : (s.puts l).mem = s.mem := by
  induction l generalizing s with
  | nil => rfl
  | cons e l ih => exact (ih (s.put e.1 e.2)).trans rfl

theorem State.renewEnded_mem : s.renewEnded.mem = s.mem :=
  List.foldlRecOn (motive := fun (t : State) => t.mem = s.mem) _ _ rfl (fun _ ht _ _ => ht)

theorem State.opEnd_mem (p status n : Nat) : (s.opEnd p status n).mem = s.mem := by
  rw [State.opEnd, State.puts_mem, State.renewEnded_mem]

theorem State.opRefused_mem (c : Nat) : (s.opRefused c).mem = s.mem := by unfold State.opRefused; split <;> simp

theorem State.opBegin_mem (p : Nat) (x : KeyOp) : (s.opBegin p x).mem = s.mem := by
  unfold State.opBegin
  dsimp only
  split
  · rw [State.opEnd_mem, State.opRefused_mem]
  · split
    · exact State.opEnd_mem _ _ _ _
    · split <;> split <;> simp

theorem State.serveOps_mem (fuel : Nat) : (s.serveOps fuel).mem = s.mem := by
  induction fuel generalizing s with
  | zero => rfl
  | succ fuel ih =>
    unfold State.serveOps
    split
    · rfl
    · dsimp only
      split
      · rfl
      · rw [ih, State.opBegin_mem]

end

theorem State.byte_congr {s t : State} (h : t.mem = s.mem) (a : Nat) : t.byte a = s.byte a := by simp [State.byte, h]

/-- An operation that ends without a new key writes its result where it succeeded, and the ports that wait are served. -/
theorem ends_keyOpComplete {p : Fin 10} {s : State} {x : KeyOp} (hop : SMap.getD s.cru.ops p none = some x)
    (hrun : x.running = true) (hkey : x.newKey = none) :
    Ends (.keyOpComplete p) s
      ((if x.status = stOK then (s.setBytes x.dst x.out).opEnd p stOK x.out.length else s.opEnd p x.status 0).serveOps 10) := by
  have hexec : exec (.keyOpComplete p) s = execKeyOpComplete p s := rfl
  rw [Ends, hexec, execKeyOpComplete, hop]
  simp [hrun, hkey, fin]

/-- Settles O59: memory after the end of an operation is what its result made of it. -/
theorem keyOperationMemory : Obligations.KeyOperationMemory := by
  intro p s x hop hrun hkey
  refine ⟨_, ends_keyOpComplete hop hrun hkey, fun hok => ?_, fun hbad => ?_⟩
  · have hmem : (((s.setBytes x.dst x.out).opEnd p stOK x.out.length).serveOps 10).mem = (s.setBytes x.dst x.out).mem := by
      rw [State.serveOps_mem, State.opEnd_mem]
    rw [if_pos hok]
    exact ⟨fun b hb => (State.byte_congr hmem b).trans (sameMem_setBytes s x.dst x.out b hb),
      fun i hi => (State.byte_congr hmem _).trans (State.byte_setBytes x.out s x.dst i hi)⟩
  · rw [if_neg hbad, State.serveOps_mem, State.opEnd_mem]

end Sys2Proof.Machine
end

section
/-! PROOFS. The instructions of an engine that stands at them, and its ports (chapter 02). -/

namespace Sys2Proof.Machine

/-! ### Going on, jumping and halting -/

/-- A command that issues the jump an engine stands at ends with the engine at its target. -/
theorem ends_jump_of_stands {c : Instr} {s t : State} {k n w op pc : Nat} {eff : State → Nat → Eff} (h : s.stands k n w)
    (ho : opcodeOf w = op) (hc : exec c s = fin (s.peIssue k n op eff)) (hgo : eff (s.noteIssue k n) w = .jump t pc) :
    Ends c s (t.peGoOn k n pc) := by
  rw [Ends, hc, State.peIssue_of_stands h ho, hgo, fin, State.peApply]

@[simp] theorem State.noteIssue_hitCounts (s : State) (k n) : ((s.noteIssue k n).pe k n).hitCounts = (s.pe k n).hitCounts := by
  unfold State.noteIssue; split <;> simp

@[simp] theorem State.shinPlaces_noteIssue (s : State) (k n) : (s.noteIssue k n).shinPlaces k n = s.shinPlaces k n := by
  simp [State.shinPlaces]

@[simp] theorem State.inLen_noteIssue (s : State) (k n) : (s.noteIssue k n).inLen k n = s.inLen k n := by
  simp [State.inLen]

/-- Settles O2: each instruction's effect where it need not wait. -/
theorem engineDataInstructions : Obligations.EngineDataInstructions := by
  intro k n w s hstands
  dsimp only
  refine ⟨fun hop => ?nop, fun hop hfree => ?mov, fun hop hfree => ?add, fun x xs hop hrx => ?pull, fun x y xs hop hrx => ?ldt,
    fun hop hroom hresv => ?push, fun hop hroom => ?event⟩
  case nop => exact ends_goOn_of_stands hstands hop rfl rfl
  case mov =>
    refine ends_goOn_of_stands hstands hop rfl ?_
    rw [effMov, State.shinBusy_noteIssue, hfree, if_neg (by decide)]
    exact (apply_ite Eff.go _ _ _).symm
  case add =>
    refine ends_goOn_of_stands hstands hop rfl ?_
    rw [effAdd, State.shinBusy_noteIssue, hfree, if_neg (by decide)]
    exact (apply_ite Eff.go _ _ _).symm
  case pull =>
    refine ends_goOn_of_stands hstands hop rfl ?_
    rw [effPull, State.noteIssue_rx, hrx]
  case ldt => exact ends_goOn_of_stands hstands hop rfl (effLdt_of_two_words w ((State.noteIssue_rx s k n).trans hrx))
  case push =>
    refine ends_goOn_of_stands hstands hop rfl ?_
    rw [effPush, State.txRoom_noteIssue, hroom, State.noteIssue_resv]
    by_cases hb : fieldB w = rSHIN
    · simp [hb, hresv hb, State.readOp]
    · simp [hb]
  case event =>
    refine ends_goOn_of_stands hstands hop rfl ?_
    rw [effEvent_of_room w ((State.txRoom_noteIssue s k n 1).trans hroom), State.eventWord, State.get_noteIssue]

/-- Settles O3: each instruction's effect where it need not wait. -/
theorem enginePinInstructions : Obligations.EnginePinInstructions := by
  intro k n w s hstands
  dsimp only
  refine ⟨fun hop => ?set, fun hop hslots hbits => ?out, fun hop hslots hroom => ?in_, fun hop hcond => ?waitp, fun hop ht => ?waitt,
    fun hop hqueue hact => ?drive, fun hop hqueue hact hbits => ?shift, fun hop hqueue hact hroom => ?sample,
    fun t rise hop hroom hnew hhit => ?stamp⟩
  case set => exact ends_goOn_of_stands hstands hop rfl rfl
  case out =>
    refine ends_goOn_of_stands hstands hop rfl ?_
    rw [effOut, State.get_noteIssue, if_neg (by omega), if_neg (by omega)]
  case in_ =>
    refine ends_goOn_of_stands hstands hop rfl ?_
    rw [effIn, State.inLen_noteIssue, State.shinPlaces_noteIssue, if_neg (by omega), if_neg (by omega)]
  case waitp =>
    refine ends_goOn_of_stands hstands hop rfl ?_
    rw [effWaitp, if_pos hcond]
  case waitt =>
    exact ends_goOn_of_stands hstands hop rfl
      (effWaitt_reached w ((State.window_noteIssue s k n).symm ▸ (State.peT_noteIssue s k n).symm ▸ ht))
  case drive =>
    refine ends_goOn_of_stands hstands hop rfl ?_
    rw [effAt, State.noteIssue_actions, if_neg (by omega)]
    split
    · omega
    · omega
    · rfl
  case shift =>
    refine ends_goOn_of_stands hstands hop rfl ?_
    rw [effAt, State.noteIssue_actions, State.get_noteIssue, if_neg (by omega), hact]
    exact if_neg (by omega)
  case sample =>
    refine ends_goOn_of_stands hstands hop rfl ?_
    rw [effAt, State.noteIssue_actions, State.inLen_noteIssue, State.shinPlaces_noteIssue, if_neg (by omega), hact]
    exact if_neg (by omega)
  case stamp =>
    refine ends_goOn_of_stands hstands hop rfl ?_
    rw [effStamp, State.txRoom_noteIssue, State.noteIssue_stampHit, State.noteIssue_hitCounts, hroom, hnew, hhit]
    rfl

/-! ### Barriers (R68) -/

theorem mem_members {n v l : Nat} : l ∈ members n v ↔ l < n ∧ bit v l = true := by simp [members]

/-- A barrier whose engines all name the same mask does not clash. -/
theorem State.syncClash_eq_false {s : State} {k n w : Nat} (h : s.stands k n w)
    (hmask : ∀ m ∈ s.atBarrier k n (fieldA w), ∀ x, s.peSync k m = some x → x.2 = fieldImm w) : s.syncClash k n = false := by
  obtain ⟨-, hword, -⟩ := h
  have hany : (s.atBarrier k n (fieldA w)).any (fun m => (s.peSync k m).any (fun x => x.2 != fieldImm w)) = false := by
    rw [List.any_eq_false]
    intro m hm
    cases hx : s.peSync k m with
    | none => simp
    | some x => simp [hmask m hm x hx]
  unfold State.syncClash
  dsimp only
  rw [hword, hany, Bool.and_false]

/-- The last engine of a barrier releases the others and goes on. -/
theorem effSync_complete {s : State} {k n : Nat} (w : Nat) (hown : s.get (PE_STATUS.logical k n) < 8)
    (hbit : bit (fieldImm w) (s.get (PE_STATUS.logical k n)) = true)
    (hall : ∀ l, l < 8 → bit (fieldImm w) l = true → l = s.get (PE_STATUS.logical k n) ∨
      ∃ m ∈ s.atBarrier k n (fieldA w), s.get (PE_STATUS.logical k m) = l) :
    effSync k n s w = .go ((s.atBarrier k n (fieldA w)).foldl (fun t m => t.peStepEnd k m)
      ((s.atBarrier k n (fieldA w)).foldl (fun t m => t.peAdvance k m (t.pcNext k m)) s)) := by
  have hpresent : (members 8 (fieldImm w)).all (fun l => l == s.get (PE_STATUS.logical k n) ||
      (s.atBarrier k n (fieldA w)).any (fun m => s.get (PE_STATUS.logical k m) == l)) = true := by
    rw [List.all_eq_true]
    intro l hl
    obtain ⟨hl8, hlbit⟩ := mem_members.mp hl
    simpa using hall l hl8 hlbit
  unfold effSync
  dsimp only
  rw [hpresent, hbit, if_neg (by simp; omega), if_pos rfl]

/-- Settles O4: where each instruction leaves its engine. -/
theorem engineFlowInstructions : Obligations.EngineFlowInstructions := by
  intro k n w s hstands
  dsimp only
  refine ⟨fun hop => ?halt, fun hop hresv hcond => ?jump, fun hop hresv hcond => ?stay, fun hop hpend => ?swap, fun hop hpend => ?yield,
    fun hop hown hbit hmask hall => ?sync, fun hop hclash => ?clash⟩
  case halt =>
    have hexec : exec (.halt k n) s = fin (s.peIssue k n 0x00 effHalt) := rfl
    rw [Ends, hexec, State.peIssue_of_stands hstands hop, effHalt, State.peApply, State.pcNext_noteIssue, fin]
  case jump =>
    refine ends_jump_of_stands hstands hop rfl ?_
    rw [effJmp, State.noteIssue_resv, if_neg (fun h => h.2 (hresv h.1)), if_pos hcond]
  case stay =>
    refine ends_goOn_of_stands hstands hop rfl ?_
    rw [effJmp, State.noteIssue_resv, if_neg (fun h => h.2 (hresv h.1)), hcond]
    rfl
  case swap =>
    refine ends_jump_of_stands hstands hop rfl ?_
    simp [effYield, hpend]
  case yield =>
    refine ends_goOn_of_stands hstands hop rfl ?_
    simp [effYield, hpend]
  case sync =>
    have hexec : exec (.sync k n) s = fin (s.peIssue k n 0x10 (effSync k n)) := by
      have hdef : exec (.sync k n) s = execSync k n s := rfl
      rw [hdef, execSync, State.syncClash_eq_false hstands hmask]
      rfl
    have hgo := @effSync_complete (s.noteIssue k n) k n w
    simp only [State.get_noteIssue, State.atBarrier_noteIssue] at hgo
    exact ends_goOn_of_stands hstands hop hexec (hgo hown hbit hall)
  case clash =>
    obtain ⟨-, hword, -⟩ := hstands
    have hdef : exec (.sync k n) s = execSync k n s := rfl
    rw [Ends, hdef, execSync, if_pos hclash, hword, fin]

/-- Settles O6: the head of the action queue, of the TX port and of the bound queue. -/
theorem enginePorts : Obligations.EnginePorts := by
  intro k n s
  dsimp only
  refine ⟨fun x rest hx hreached hdepth hlock hlate => ?_, fun w rest htx hen hholds => ends_txPortDeliver htx hen hholds,
    fun w rest hq hen hroom => ?_⟩
  · have hexec : exec (.timedActionApply k n) s = execTimedActionApply k n s := rfl
    rw [Ends, hexec]
    simp [execTimedActionApply, hx, hreached, hdepth, hlock, hlate, fin]
  · have hexec : exec (.rxPortFetch k n) s = execRxPortFetch k n s := rfl
    rw [Ends, hexec]
    simp [execRxPortFetch, hq, hen, hroom, fin]

end Sys2Proof.Machine
end

section
/-! PROOFS. The commands of PE_CTL, writes to an engine's memory, and register writes (chapters 00 and 02). -/

namespace Sys2Proof.Machine

/-! ### PE_CTL (R73 to R75, R79, R80) -/

/-- The fields that a write of PE_CTL sets before it acts on the engine. -/
def peCtlFields (k n : Nat) : List Fld :=
  [PE_CTL.start_pc k n, PE_CTL.swap_req k n, PE_CTL.force k n, PE_STATUS.swap_pending k n, PE_STATUS.force_pending k n]

section
variable {s t : State} {k n : Nat}

/-- Whether an engine runs and is idle is read from no field that a write of PE_CTL sets. -/
theorem SameRegs.peRunning_eq (h : SameRegs s t (peCtlFields k n)) : t.peRunning k n = s.peRunning k n := by
  have hrun : t.get (PE_STATUS.run k n) = s.get (PE_STATUS.run k n) := h _ (by
    simp [peCtlFields, Fld.key, PE_CTL.start_pc, PE_CTL.swap_req, PE_CTL.force, PE_STATUS.swap_pending, PE_STATUS.force_pending,
      PE_STATUS.run, PE_STATUS.addr, PE_CTL.addr]
    omega)
  rw [State.peRunning, hrun, State.peRunning]

theorem SameRegs.peIdle_eq (h : SameRegs s t (peCtlFields k n)) (hpes : t.pes = s.pes) : t.peIdle k n = s.peIdle k n := by
  have hfield (f : Fld) (haddr : f.addr = PE_STATUS.addr k n ∧ f.lsb < 9 ∨ f.addr = PE_STATUS.addr k n ∧ f.lsb = 11 ∨
      PE_STATUS.addr k n + 8 ≤ f.addr) : t.get f = s.get f := h f (by
    simp [peCtlFields, Fld.key, PE_CTL.start_pc, PE_CTL.swap_req, PE_CTL.force, PE_STATUS.swap_pending, PE_STATUS.force_pending,
      PE_STATUS.addr, PE_CTL.addr] at haddr ⊢
    omega)
  have hrun := hfield (PE_STATUS.run k n) (.inl ⟨rfl, by simp [PE_STATUS.run]⟩)
  have hwait := hfield (PE_STATUS.wait_op k n) (.inl ⟨rfl, by simp [PE_STATUS.wait_op]⟩)
  have hbank := hfield (PE_STATUS.active_bank k n) (.inl ⟨rfl, by simp [PE_STATUS.active_bank]⟩)
  have hpc := hfield (PE_STATUS.pc k n) (.inr (.inl ⟨rfl, rfl⟩))
  have hword (i : Nat) := hfield (PE_PROG.word k n i) (.inr (.inr (by simp [PE_PROG.word, PE_PROG.addr, PE_STATUS.addr]; omega)))
  have hin := hfield (PE_SHCNT.in_count k n) (.inr (.inr (by simp [PE_SHCNT.in_count, PE_SHCNT.addr, PE_STATUS.addr]; omega)))
  have hout := hfield (PE_SHCNT.out_count k n) (.inr (.inr (by simp [PE_SHCNT.out_count, PE_SHCNT.addr, PE_STATUS.addr]; omega)))
  have hpe : t.pe k n = s.pe k n := by simp [State.pe, hpes]
  simp only [State.peIdle, State.peSync, State.peWord, hrun, hwait, hbank, hpc, hword, hin, hout, hpe]

end

section
variable {s : State} {k n : Nat}

/-- SWAP_REQ makes a swap pending, with no force pending that was not. -/
theorem State.swap_pending_of_req (s : State) (k n : Nat) :
    let t := s.puts [(PE_CTL.swap_req k n, 1), (PE_STATUS.swap_pending k n, 1)]
    SameRegs s t (peCtlFields k n) ∧ t.get (PE_STATUS.swap_pending k n) = 1 ∧
      t.get (PE_STATUS.force_pending k n) = s.get (PE_STATUS.force_pending k n) := by
  refine ⟨((SameRegs.refl s _).put _ _ (by simp [peCtlFields])).put _ _ (by simp [peCtlFields]), State.get_put_self _ _ _, ?_⟩
  refine (State.get_put_ne _ _ _ _ (by simp [Fld.key, PE_STATUS.force_pending, PE_STATUS.swap_pending])).trans ?_
  exact State.get_put_ne _ _ _ _ (by simp [Fld.key, PE_CTL.swap_req, PE_STATUS.force_pending, PE_STATUS.addr, PE_CTL.addr]; omega)

/-- FORCE makes a force pending, and leaves the swap pending. -/
theorem State.force_pending_of_force (s : State) (k n : Nat) :
    let t := s.puts [(PE_CTL.force k n, 1), (PE_STATUS.force_pending k n, 1)]
    SameRegs s t (peCtlFields k n) ∧ t.get (PE_STATUS.force_pending k n) = 1 ∧
      t.get (PE_STATUS.swap_pending k n) = s.get (PE_STATUS.swap_pending k n) := by
  refine ⟨((SameRegs.refl s _).put _ _ (by simp [peCtlFields])).put _ _ (by simp [peCtlFields]), State.get_put_self _ _ _, ?_⟩
  refine (State.get_put_ne _ _ _ _ (by simp [Fld.key, PE_STATUS.force_pending, PE_STATUS.swap_pending])).trans ?_
  exact State.get_put_ne _ _ _ _ (by simp [Fld.key, PE_CTL.force, PE_STATUS.swap_pending, PE_STATUS.addr, PE_CTL.addr]; omega)

/-- SWAP_CANCEL leaves no swap pending. -/
theorem State.swap_pending_of_cancel (s : State) (k n : Nat) :
    (s.puts [(PE_CTL.swap_req k n, 0), (PE_STATUS.swap_pending k n, 0), (PE_CTL.force k n, 0),
      (PE_STATUS.force_pending k n, 0)]).get (PE_STATUS.swap_pending k n) = 0 := by
  refine (State.get_put_ne _ _ _ _ (by simp [Fld.key, PE_STATUS.force_pending, PE_STATUS.swap_pending])).trans ?_
  refine (State.get_put_ne _ _ _ _
    (by simp [Fld.key, PE_CTL.force, PE_STATUS.swap_pending, PE_STATUS.addr, PE_CTL.addr]; omega)).trans ?_
  exact State.get_put_self _ _ _

/-- Without a swap bit and without a pending swap, PE_CTL swaps nothing. -/
theorem State.peSwapBits_none {w : Nat} (h3 : bit w 3 = false) (h4 : bit w 4 = false) (h5 : bit w 5 = false)
    (hpend : s.get (PE_STATUS.swap_pending k n) = 0) : s.peSwapBits k n w = s := by
  simp [State.peSwapBits, h3, h4, h5, hpend]

/-- A request makes a swap pending in an engine that runs, where no force is pending. -/
theorem State.peSwapBits_req {w : Nat} (h3 : bit w 3 = true) (h4 : bit w 4 = false) (h5 : bit w 5 = false)
    (hrun : (s.puts [(PE_CTL.swap_req k n, 1), (PE_STATUS.swap_pending k n, 1)]).peRunning k n = true)
    (hforce : s.get (PE_STATUS.force_pending k n) = 0) :
    s.peSwapBits k n w = s.puts [(PE_CTL.swap_req k n, 1), (PE_STATUS.swap_pending k n, 1)] := by
  obtain ⟨-, hpend, hforce'⟩ := State.swap_pending_of_req s k n
  simp only [State.puts_cons, State.puts_nil] at hpend hforce' hrun
  simp [State.peSwapBits, h3, h4, h5, hpend, hforce', hforce, hrun]

/-- In an engine that does not run the banks swap at once. -/
theorem State.peSwapBits_req_stopped {w : Nat} (h3 : bit w 3 = true) (h4 : bit w 4 = false) (h5 : bit w 5 = false)
    (hrun : (s.puts [(PE_CTL.swap_req k n, 1), (PE_STATUS.swap_pending k n, 1)]).peRunning k n = false) :
    s.peSwapBits k n w = (s.puts [(PE_CTL.swap_req k n, 1), (PE_STATUS.swap_pending k n, 1)]).swapBanks k n := by
  obtain ⟨-, hpend, -⟩ := State.swap_pending_of_req s k n
  simp only [State.puts_cons, State.puts_nil] at hpend hrun
  simp [State.peSwapBits, h3, h4, h5, hpend, hrun]

/-- A cancelled request leaves nothing pending. -/
theorem State.peSwapBits_cancel {w : Nat} (h3 : bit w 3 = false) (h4 : bit w 4 = true) (h5 : bit w 5 = false) :
    s.peSwapBits k n w = (s.puts [(PE_CTL.swap_req k n, 0), (PE_STATUS.swap_pending k n, 0), (PE_CTL.force k n, 0),
      (PE_STATUS.force_pending k n, 0)]).setPe k n { s.pe k n with forceAt := none } := by
  have hpend := State.swap_pending_of_cancel s k n
  simp only [State.puts_cons, State.puts_nil] at hpend
  simp [State.peSwapBits, h3, h4, h5, hpend]

/-- A forced swap of an engine that runs and is not idle is set for the next PORTCLK cycle. -/
theorem State.peSwapBits_force {w : Nat} (h3 : bit w 3 = false) (h4 : bit w 4 = false) (h5 : bit w 5 = true)
    (hpend : s.get (PE_STATUS.swap_pending k n) = 1)
    (hrun : (s.puts [(PE_CTL.force k n, 1), (PE_STATUS.force_pending k n, 1)]).peRunning k n = true)
    (hidle : (s.puts [(PE_CTL.force k n, 1), (PE_STATUS.force_pending k n, 1)]).peIdle k n = false) :
    s.peSwapBits k n w = (s.puts [(PE_CTL.force k n, 1), (PE_STATUS.force_pending k n, 1)]).setPe k n
      { s.pe k n with forceAt := some ((s.pe k n).forceAt.getD s.now) } := by
  obtain ⟨-, hforce, hpend'⟩ := State.force_pending_of_force s k n
  simp only [State.puts_cons, State.puts_nil] at hforce hpend' hrun hidle
  simp [State.peSwapBits, h3, h4, h5, hpend, hforce, hpend', hrun, hidle, State.pe]

theorem State.get_pending_put_pc (pc : Nat) :
    (s.put (PE_CTL.start_pc k n) pc).get (PE_STATUS.swap_pending k n) = s.get (PE_STATUS.swap_pending k n) :=
  State.get_put_ne _ _ _ _ (by simp [Fld.key, PE_CTL.start_pc, PE_STATUS.swap_pending, PE_STATUS.addr, PE_CTL.addr]; omega)

theorem State.get_force_put_pc (pc : Nat) :
    (s.put (PE_CTL.start_pc k n) pc).get (PE_STATUS.force_pending k n) = s.get (PE_STATUS.force_pending k n) :=
  State.get_put_ne _ _ _ _ (by simp [Fld.key, PE_CTL.start_pc, PE_STATUS.force_pending, PE_STATUS.addr, PE_CTL.addr]; omega)

theorem SameRegs.put_pc (s : State) (pc : Nat) : SameRegs s (s.put (PE_CTL.start_pc k n) pc) (peCtlFields k n) :=
  (SameRegs.refl s _).put _ _ (by simp [peCtlFields])

/-- The word of PE_CTL that starts an engine at pc. -/
theorem withBit_start (pc : Nat) : withBit (pc * 2 ^ 16) 0 = pc * 2 ^ 16 + 1 := by
  unfold withBit setBit b2n
  simp only [if_true]
  omega

end

/-- A write of PE_CTL that is neither illegal nor refused: start_pc, the swap bits, then start, step or halt. -/
theorem State.peCtlWrite_eq {s : State} {k n w : Nat} (o : Origin) (h31 : bit w 31 = false)
    (hone : b2n (bit w 0) + b2n (bit w 1) + b2n (bit w 2) ≤ 1) (hswap : (bit w 3 && bit w 4) = false)
    (hstart : bit w 0 = true → s.peStartable k n = true ∧ s.programsRun = true) (hstep : bit w 2 = true → s.peStartable k n = true) :
    s.peCtlWrite k n o w =
      let t := (s.put (PE_CTL.start_pc k n) (bits w 16 6)).peSwapBits k n w
      let t := if bit w 0 then t.peRun k n false else if bit w 2 then t.peRun k n true else t
      (if bit w 1 then t.peLeave k n hcCOMMAND else t).done o stOK := by
  have hrefuse : ((bit w 0 && !(s.peStartable k n && s.programsRun)) || (bit w 2 && !s.peStartable k n)) = false := by
    refine Bool.or_eq_false_iff.mpr ⟨?_, ?_⟩
    · cases h0 : bit w 0 with
      | false => rfl
      | true => rw [(hstart h0).1, (hstart h0).2]; rfl
    · cases h2 : bit w 2 with
      | false => rfl
      | true => rw [hstep h2]; rfl
  have hill : ¬(1 < b2n (bit w 0) + b2n (bit w 1) + b2n (bit w 2) ∨ (bit w 3 && bit w 4) = true) := by simp [hswap]; omega
  unfold State.peCtlWrite
  dsimp only
  rw [h31, hrefuse, if_neg (by decide), if_neg hill, if_neg (by decide)]

/-- A write of PE_CTL without start, halt, step and unit reset: start_pc and the swap bits. -/
theorem State.peCtlWrite_swap {s : State} {k n w : Nat} (o : Origin)
    (hnone : bit w 31 = false ∧ bit w 0 = false ∧ bit w 1 = false ∧ bit w 2 = false) (hswap : (bit w 3 && bit w 4) = false) :
    s.peCtlWrite k n o w = ((s.put (PE_CTL.start_pc k n) (bits w 16 6)).peSwapBits k n w).done o stOK := by
  obtain ⟨h31, h0, h1, h2⟩ := hnone
  rw [State.peCtlWrite_eq o h31 (by simp [h0, h1, h2, b2n]) hswap (by simp [h0]) (by simp [h2]), h0, h1, h2]
  rfl

/-- A write of PE_CTL with the word of one command, in a cluster that is awake. -/
theorem ends_peCtl {c : Instr} {s t : State} {k : Fin 12} {n : Fin 9} {o : Origin} (w : Nat) (hawake : s.get (NODE_CLSLEEP.depth k) = 0)
    (hexec : exec c s = s.access k c (fun s => fin (s.peCtlWrite k n o w))) (hctl : s.peCtlWrite k n o w = t) : Ends c s t :=
  hctl ▸ hexec.trans (State.access_of_awake hawake _ _)

/-- Settles O7: the write of PE_CTL with one command's bit. -/
theorem engineCommands : Obligations.EngineCommands := by
  intro k n o s hawake
  dsimp only
  have hpc := @SameRegs.put_pc k n s 0
  refine ⟨fun hstart hrun hpend pc hlt => ?start, fun hpend => ?halt, fun hstart hpend => ?step, fun hrun hforce => ?request,
    fun hrun => ?swapNow, ?cancel, fun hpend hrun hidle => ?force, ends_peCtl (withBit 0 31) hawake rfl rfl, fun hpend hidle => ?idle⟩
  case start =>
    have hbits : bits (pc * 2 ^ 16 + 1) 16 6 = pc := by unfold bits; omega
    have hbit (i : Nat) (hi : i ∈ [1, 2, 3, 4, 5, 31]) : bit (pc * 2 ^ 16 + 1) i = false := by
      simp only [List.mem_cons, List.not_mem_nil, or_false] at hi
      unfold bit
      rcases hi with rfl | rfl | rfl | rfl | rfl | rfl <;> simp <;> omega
    have h0 : bit (pc * 2 ^ 16 + 1) 0 = true := by unfold bit; simp; omega
    refine ends_peCtl (withBit (pc * 2 ^ 16) 0) hawake rfl ?_
    rw [withBit_start]
    generalize pc * 2 ^ 16 + 1 = w at hbits hbit h0
    have h1 := hbit 1 (by simp)
    have h2 := hbit 2 (by simp)
    have h3 := hbit 3 (by simp)
    rw [State.peCtlWrite_eq o (hbit 31 (by simp)) (by simp [b2n, h0, h1, h2]) (by simp [h3]) (fun _ => ⟨hstart, hrun⟩)
      (fun _ => hstart), hbits, State.peSwapBits_none h3 (hbit 4 (by simp)) (hbit 5 (by simp))
      ((State.get_pending_put_pc pc).trans hpend), h0, h1]
    rfl
  case halt =>
    refine ends_peCtl (withBit 0 1) hawake rfl ?_
    rw [State.peCtlWrite_eq o (by decide) (by decide) (by decide) (fun h => absurd h (by decide)) (fun h => absurd h (by decide)),
      State.peSwapBits_none (by decide) (by decide) (by decide) ((State.get_pending_put_pc _).trans hpend)]
    rfl
  case step =>
    refine ends_peCtl (withBit 0 2) hawake rfl ?_
    rw [State.peCtlWrite_eq o (by decide) (by decide) (by decide) (fun h => absurd h (by decide)) (fun _ => hstart),
      State.peSwapBits_none (by decide) (by decide) (by decide) ((State.get_pending_put_pc _).trans hpend)]
    rfl
  case request =>
    refine ends_peCtl (withBit 0 3) hawake rfl ?_
    rw [State.peCtlWrite_swap o (by decide) (by decide), show bits (withBit 0 3) 16 6 = 0 by decide]
    obtain ⟨hreq, -, -⟩ := State.swap_pending_of_req (s.put (PE_CTL.start_pc k n) 0) k n
    rw [State.peSwapBits_req (by decide) (by decide) (by decide) ((hpc.trans hreq).peRunning_eq.trans hrun)
      ((State.get_force_put_pc 0).trans hforce)]
    rfl
  case swapNow =>
    refine ends_peCtl (withBit 0 3) hawake rfl ?_
    rw [State.peCtlWrite_swap o (by decide) (by decide), show bits (withBit 0 3) 16 6 = 0 by decide]
    obtain ⟨hreq, -, -⟩ := State.swap_pending_of_req (s.put (PE_CTL.start_pc k n) 0) k n
    rw [State.peSwapBits_req_stopped (by decide) (by decide) (by decide) ((hpc.trans hreq).peRunning_eq.trans hrun)]
    rfl
  case cancel =>
    refine ends_peCtl (withBit 0 4) hawake rfl ?_
    rw [State.peCtlWrite_swap o (by decide) (by decide), show bits (withBit 0 4) 16 6 = 0 by decide,
      State.peSwapBits_cancel (by decide) (by decide) (by decide)]
    rfl
  case force =>
    refine ends_peCtl (withBit 0 5) hawake rfl ?_
    rw [State.peCtlWrite_swap o (by decide) (by decide), show bits (withBit 0 5) 16 6 = 0 by decide]
    obtain ⟨hforce, -, -⟩ := State.force_pending_of_force (s.put (PE_CTL.start_pc k n) 0) k n
    rw [State.peSwapBits_force (by decide) (by decide) (by decide) ((State.get_pending_put_pc 0).trans hpend)
      ((hpc.trans hforce).peRunning_eq.trans hrun) (((hpc.trans hforce).peIdle_eq rfl).trans hidle)]
    rfl
  case idle => 
    have hexec : exec (.idleSwap k n) s = execIdleSwap k n s := rfl
    rw [Ends, hexec, execIdleSwap]
    simp [hpend, hidle, State.idleSwap, fin]

/-! ### Program words and state registers (R71, R72, R77, R82) -/

/-- Settles O8: a write that is taken or refused, by the state of the engine. -/
theorem engineMemoryWrites : Obligations.EngineMemoryWrites := by
  intro k n o w s hawake
  have hprog (i : Fin 128) : exec (.peProgWrite k n i o w) s = accPeProgWrite k n i o w s :=
    State.access_of_awake hawake (.peProgWrite k n i o w) _
  have hstate (r : Fin 9) : exec (.peStateWrite k n r o w) s = accPeStateWrite k n r o w s :=
    State.access_of_awake hawake (.peStateWrite k n r o w) _
  refine ⟨fun i hopen => ?_, fun i hshut => ?_, fun r hrun hfree => ?_, fun r hrun => ?_⟩
  · rw [Ends, hprog, accPeProgWrite, if_pos hopen, State.done_eq, fin]
  · rw [Ends, hprog, accPeProgWrite, hshut]
    rfl
  · have hno : ¬(s.peRunning k n = true ∨ (r = 5 ∨ r = 7) ∧ (s.pe k n).resv ≠ []) := by
      rintro (h | ⟨hr, hbusy⟩)
      · simp [hrun] at h
      · exact hbusy (hfree hr)
    rw [Ends, hstate, accPeStateWrite, if_neg hno, State.done_eq, fin]
  · rw [Ends, hstate, accPeStateWrite, if_pos (.inl hrun), fin]

/-! ### Register writes (R6 to R9, R24, R268, R270) -/

/-- A write to a register of a cluster that is awake, or of no cluster, is carried out at once. -/
theorem exec_registerWrite {a : Nat} {s : State} (o : Origin) (bs : List Nat)
    (hawake : 0x1000000 ≤ a → a < 0x1C00000 → s.get (NODE_CLSLEEP.depth ((a - 0x1000000) / 0x100000)) = 0) :
    exec (.registerWrite o a bs) s = accRegisterWrite o a bs s := by
  have hexec : exec (.registerWrite o a bs) s = execRegisterWrite o a bs s := rfl
  rw [hexec, execRegisterWrite]
  split
  next h => exact State.access_of_awake (hawake h.1 h.2) _ _
  next => rfl

/-- A write outside the windows and the bulk RAM is a register write: one word, aligned. -/
theorem accRegisterWrite_register {a : Nat} {bs : List Nat} {s : State} (o : Origin) (hmapped : s.mapped a = true)
    (hlow : a < 0x8000000) (hwin : ¬(0x3000000 ≤ a ∧ a < 0x5000000)) (htcm : ¬(0xC00000 ≤ a ∧ a < 0x1000000)) :
    accRegisterWrite o a bs s = if bs.length ≠ 4 ∨ a % 4 ≠ 0 then fin (s.done o stILLEGAL) else
      (s.ownWrite o a (leWord bs)).getD (fin (s.plainWrite o a (leWord bs))) := by
  have hno : ¬0x3000000 ≤ a := by
    intro h
    simp only [State.mapped, Bool.or_eq_true, Bool.and_eq_true, decide_eq_true_eq] at hmapped
    omega
  rw [accRegisterWrite, hmapped, if_neg (by decide), if_neg (by omega), if_neg (by omega), if_neg hno, if_neg htcm]
  split
  · rfl
  · cases s.ownWrite o a (leWord bs) <;> rfl

/-- Settles O9: a register write, one with a wrong width, one of bulk RAM, and one that no block covers. -/
theorem registerWriteCompletes : Obligations.RegisterWriteCompletes := by
  intro o a bs s hawake
  have hexec := exec_registerWrite o bs hawake
  refine ⟨fun hm hlow hwin htcm hlen hal hplain => ?_, fun hm hlow hwin htcm hbad => ?_,
    fun ha hpos hlen hend => ends_registerWrite_bulk o s ha hpos hlen hend, fun hm => ?_⟩
  · rw [Ends, hexec, accRegisterWrite_register o hm hlow hwin htcm, if_neg (by omega), hplain, State.plainWrite]
    split <;> rfl
  · rw [Ends, hexec, accRegisterWrite_register o hm hlow hwin htcm, if_pos hbad]
    rfl
  · rw [Ends, hexec, accRegisterWrite, hm]
    rfl

end Sys2Proof.Machine
end

section
/-! PROOFS. The die links, the resets and their releases (R21, R23, R25, R506 to R508, R513, R515). -/

namespace Sys2Proof.Machine

/-! ### The levels at the pins and the supplies outlive what a reset does to the rest -/

/-- From s to t the levels at the block's pins and links and the state of the supplies stay. -/
structure SamePins (s t : State) : Prop where
  lev : t.lev = s.lev
  pow : t.pow = s.pow

namespace SamePins

variable {s t : State}

theorem ite {c : Prop} {_ : Decidable c} {u v : State} (h : SamePins s u) (h' : SamePins s v) : SamePins s (if c then u else v) := by
  split <;> assumption

theorem foldl {α : Type} {f : State → α → State} {l : List α} (hf : ∀ u a, SamePins s u → SamePins s (f u a)) (h : SamePins s t) :
    SamePins s (l.foldl f t) := List.foldlRecOn l f h (fun u hu a _ => hf u a hu)

theorem put {f v} (h : SamePins s t) : SamePins s (t.put f v) := ⟨h.lev, h.pow⟩

theorem puts {l} (h : SamePins s t) : SamePins s (t.puts l) := by
  induction l generalizing t with
  | nil => exact h
  | cons e l ih => exact ih h.put

theorem setEvent {f v} (h : SamePins s t) : SamePins s (t.setEvent f v) := ⟨h.lev, h.pow⟩
theorem emit {e} (h : SamePins s t) : SamePins s (t.emit e) := ⟨h.lev, h.pow⟩
theorem report {f} (h : SamePins s t) : SamePins s (t.report f) := ⟨h.lev, h.pow⟩
theorem setChan {c x} (h : SamePins s t) : SamePins s (t.setChan c x) := ⟨h.lev, h.pow⟩
theorem bump {f} (h : SamePins s t) : SamePins s (t.bump f) := ite h h.put
theorem chError {c a b i e n o} (h : SamePins s t) : SamePins s (t.chError c a b i e n o) := h.setEvent.puts
theorem farFault {c a b i o k} (h : SamePins s t) : SamePins s (t.farFault c a b i o k) := h.report
theorem chDrop {c} (h : SamePins s t) : SamePins s (t.chDrop c) := h.bump
theorem discardHeld {c x} (h : SamePins s t) : SamePins s (t.discardHeld c x) := h.bump.report
theorem holdResult {c x} (h : SamePins s t) : SamePins s (t.holdResult c x) := ite h.discardHeld h.setChan
theorem lastStatus {c a} (h : SamePins s t) : SamePins s (t.lastStatus c a) := h.put

theorem chAnswer {c r a b l i} (h : SamePins s t) : SamePins s (t.chAnswer c r a b l i) := by
  refine emit ?_
  split
  · exact ite h.puts.emit h
  · exact h

theorem chFinish {c r a b e i l} (h : SamePins s t) : SamePins s (t.chFinish c r a b e i l) := by
  have h1 : SamePins s (if a = stOK then t else t.chError c a b i e r.node r.ofs) := ite h h.chError
  exact ite (ite h1.lastStatus h1.lastStatus.farFault)
    (have h2 := ite h1.farFault h1
    ite (ite h2.lastStatus.discardHeld h2.lastStatus.holdResult) h2.lastStatus.chAnswer)

theorem dropPosted {c d report x} (h : SamePins s t) : SamePins s (t.dropPosted c d report x) := by
  cases x with
  | write r => exact ite h.chDrop.chError.farFault h.chDrop
  | record _ => exact h.chDrop

theorem targetNote {c y e} (h : SamePins s t) : SamePins s (t.targetNote c y e) := ite h.lastStatus h.lastStatus.chError

theorem crossingDone {c y e} (h : SamePins s t) : SamePins s (t.crossingDone c y e) :=
  have h1 := ite h.targetNote h.targetNote.farFault
  ite h1 (ite h1.discardHeld h1.holdResult)

theorem chAbort {c d report} (h : SamePins s t) : SamePins s (t.chAbort c d report) :=
  foldl (fun _ _ h => h.crossingDone) (foldl (fun _ _ h => h.targetNote)
    (setChan (foldl (fun _ _ h => h.dropPosted) (foldl (fun _ _ h => h.chFinish) h.setChan))))

theorem clusterTransactions {k} (h : SamePins s t) : SamePins s (t.clusterTransactions k) :=
  foldl (fun _ _ h => ite h.chAbort h) h

theorem putSlot {i st r p} (h : SamePins s t) : SamePins s (t.putSlot i st r p) := puts ⟨h.lev, h.pow⟩
theorem keepSessions {u} (h : SamePins s t) : SamePins s (State.keepSessions u t) := foldl (fun _ _ h => h.putSlot.put) h
theorem applyRepairs (h : SamePins s t) : SamePins s t.applyRepairs := foldl (fun _ _ h => ite h.puts (ite h.put h)) h

theorem abandonCopy {x} (h : SamePins s t) : SamePins s (t.abandonCopy x) := by
  unfold State.abandonCopy
  split
  · exact ⟨h.bump.lev, h.bump.pow⟩
  · exact h

end SamePins

/-- A node reset leaves RST_N as it stands. -/
theorem State.rstLow_nodeReset (s : State) : s.nodeReset.lev.rstLow = s.lev.rstLow := by
  unfold State.nodeReset
  extract_lets u low ports r l a b c d
  have hu : SamePins s u := .foldl (fun _ _ h => h.clusterTransactions) ⟨rfl, rfl⟩
  clear_value u
  have ha : a.lev.rstLow = s.lev.rstLow := congrArg (·.rstLow) hu.lev
  clear_value a
  have hc : SamePins a c := .foldl (fun _ _ h => .foldl (fun _ _ h => h.put) h.puts) (SamePins.puts ⟨rfl, rfl⟩)
  have hd : SamePins a (ports.foldl (fun t p => t.emit (.stomped p)) d) :=
    .foldl (fun _ _ h => h.emit) hc.keepSessions.applyRepairs.abandonCopy
  split
  · exact (congrArg (·.rstLow) hd.lev).trans ha
  · exact (congrArg (·.rstLow) hd.lev).trans ha

/-- A power-on reset with VAUX kept leaves RST_N and the state of the west die as they stand. -/
theorem State.rstLow_powerReset (s : State) : (s.powerReset false).lev.rstLow = s.lev.rstLow ∧
    (s.powerReset false).pow.dieOff = s.pow.dieOff := by
  unfold State.powerReset
  extract_lets low r t u v w
  have hw : SamePins t w := (SamePins.puts ⟨rfl, rfl⟩ : SamePins t u).applyRepairs.abandonCopy
  have hlow : w.lev.rstLow = s.lev.rstLow := congrArg (·.rstLow) hw.lev
  have hoff : w.pow.dieOff = s.pow.dieOff := congrArg (·.dieOff) hw.pow
  split
  · exact ⟨hlow, hoff⟩
  · exact ⟨hlow, hoff⟩

/-- Settles O10: each link and each reset where its condition holds. -/
theorem dieLinksAndResets : Obligations.DieLinksAndResets := by
  intro s
  refine ⟨fun d h => ?keepalive, fun d h hlate hparked => ?portLost, fun hlate => ?wLost, fun hlost hoff hwaiting => ?wReturn,
    fun hlow hoff => ?assert_, fun a b c hlow hoff hreset => ?release, fun a b c hoff hreset hlow => ?begin_,
    fun a b c hoff hlow => ?powerOn, fun d => ?brownOut, fun d hoff => ?return_⟩
  case keepalive =>
    show execKeepaliveSend d s = _
    simp [execKeepaliveSend, h]
  case portLost =>
    show execPortDieKeepaliveLost d s = _
    simp [execPortDieKeepaliveLost, h, hparked, Nat.not_lt.mpr hlate, fin, State.domainAddr, unitDIE]
  case wLost =>
    show execWKeepaliveLost s = _
    rw [execWKeepaliveLost, if_neg (Nat.not_lt.mpr hlate)]
  case wReturn =>
    show execWLinkReturn s = _
    simp [execWLinkReturn, hlost, hoff, hwaiting, fin]
  case assert_ =>
    show execRstNAssert s = _
    simp [execRstNAssert, hlow, hoff, fin]
  case release =>
    show execRstNRelease a b c s = _
    simp [execRstNRelease, hlow, hoff, hreset, fin]
  case begin_ =>
    show execNodeResetBegin a b c s = _
    simp [execNodeResetBegin, hoff, hreset, s.rstLow_nodeReset, hlow, fin]
  case powerOn =>
    show execPowerOnReset false a b c s = _
    obtain ⟨hrst, hdie⟩ := s.rstLow_powerReset
    simp [execPowerOnReset, hrst, hdie, hoff, hlow, fin]
  case brownOut => rfl
  case return_ =>
    show execVddPReturn d s = _
    rw [execVddPReturn, if_pos hoff, fin]

end Sys2Proof.Machine
end

section
/-! PROOFS. Clusters, pads and queues (R87, R88, R93, R104 to R115, R430, R436). -/

namespace Sys2Proof.Machine

/-- An access to the block of a cluster in NAP or GATED wakes it and waits (R436). -/
theorem State.access_of_asleep {s : State} {k : Nat} (h : 2 ≤ s.get (NODE_CLSLEEP.depth k)) (hstow : s.slp.stowed = false) (c : Instr)
    (f : State → Out) : s.access k c f = fin { s.wakeCluster k wkACCESS with
      slp := { (s.wakeCluster k wkACCESS).slp with accesses := (s.wakeCluster k wkACCESS).slp.accesses ++ [(k, c)] } } := by
  rw [State.access, if_neg (Nat.not_lt.mpr h), hstow]
  rfl

/-- Settles O11: each command at a cluster that is awake, and an access to one that sleeps. -/
theorem clusterCommands : Obligations.ClusterCommands := by
  refine ⟨fun k q o s hdepth hstow => State.access_of_asleep hdepth hstow _ _, fun k s hawake => ?_⟩
  have hreset (o : Origin) : exec (.clReset k o) s = accClReset k o s := State.access_of_awake hawake (.clReset k o) _
  have hread (p : Fin 32) (r : Fin 4) (o : Origin) : exec (.padstampRead k p r o) s = accPadstampRead k p r o s :=
    State.access_of_awake hawake (.padstampRead k p r o) _
  refine ⟨fun o hown => ?_, fun o hforeign => ?_, fun hlock hparked hwait => ?_, fun b mv hcast hok hlow => ?_,
    fun p level fine => rfl, fun p r o hr => ?_, fun p r o hr => ?_⟩
  · rw [Ends, hreset, accClReset, hown]
    rfl
  · rw [Ends, hreset, accClReset, hforeign]
    rfl
  · show execTimeLock k s = _
    simp [execTimeLock, hlock, hparked, hwait, fin]
  · show execVddioFall k b mv s = _
    simp only [execVddioFall, fin]
    rw [if_pos ⟨hcast, hok, hlow⟩]
    rfl
  · rw [Ends, hread, accPadstampRead, if_pos hr]
    rfl
  · rw [Ends, hread, accPadstampRead, if_neg (by omega)]
    rfl

/-! ### Queues (R104 to R112, R269) -/

section
variable {s : State} {k q : Nat}

/-- A push of the bus that finds room, or an open marker, is decided now. -/
theorem State.qBusPush_now (w : QWord) (hlate : (s.queue k q).late = [])
    (hnow : s.qFull k q = false ∨ (s.qStream k q = true ∧ (s.queue k q).gapOpen = true)) : s.qBusPush k q w = s.qPush k q w := by
  have hhold : s.qHolds k q = false := by
    rcases hnow with h | ⟨h, -⟩ <;> simp [State.qHolds, h]
  have hfull : ¬((s.queue k q).late ≠ [] ∨ s.qFull k q = true ∧ (s.queue k q).gapOpen = false) := by
    rcases hnow with h | ⟨-, h⟩ <;> simp [hlate, h]
  rw [State.qBusPush, State.qOffer, if_neg hfull, State.qPushNow, hhold]
  rfl

/-- One that finds the queue full waits for the end of the cycle. -/
theorem State.qBusPush_late (w : QWord) (hfull : s.qFull k q = true) (hgap : (s.queue k q).gapOpen = false) :
    s.qBusPush k q w =
      s.setQueue k q { s.queue k q with late := (s.queue k q).late ++ [{ word := w, bus := true }] } := by
  rw [State.qBusPush, State.qOffer, if_pos (.inr ⟨hfull, hgap⟩)]

theorem State.words_of_qWords_cons {w : QWord} {ws : List QWord} (h : s.qWords k q = w :: ws) : (s.queue k q).words = w :: ws := by
  unfold State.qWords at h
  split at h
  · simp at h
  · exact h

theorem State.busRead_of_words {o : Origin} (burst : Option Nat) (hw : s.qWords k q ≠ []) (hheld : (s.queue k q).held = []) :
    s.busRead k q o burst = s.busPop k q ⟨o, s.now + s.readWait k, burst⟩ := by
  rw [State.busRead, if_neg (by simp [hw, hheld])]

theorem State.busRead_of_empty {o : Origin} (burst : Option Nat) (hw : s.qWords k q = []) : s.busRead k q o burst =
    s.setQueue k q { s.queue k q with held := (s.queue k q).held ++ [⟨o, s.now + s.readWait k, burst⟩] } := by
  rw [State.busRead, if_pos (.inl hw)]

/-- A single pop gives the oldest word. -/
theorem State.busPop_single {w : QWord} {ws : List QWord} (o : Origin) (n : Nat) (hw : (s.queue k q).words = w :: ws) :
    s.busPop k q ⟨o, n, none⟩ = ((s.qTake k q).put (CL_QDATA.data k q) w.data).done o stOK 0
      [popWord w.tag stOK (((s.qTake k q).put (CL_QDATA.data k q) w.data).qDepth k q)] := by
  simp [State.busPop, hw]

end

/-- One writer alone has the turn, wherever the rotation stands (R114). -/
theorem rotate_single (e : Writer × QWord) (t : Nat) (h : writerPlace e.1 < 20) : rotate [e] t = [e] := by
  have hone : ∀ (p t : Fin 20), ((List.range 20).filter (fun i => p.val == (t.val + i) % 20)).length = 1 := by decide
  have hpos := hone ⟨_, h⟩ ⟨t % 20, Nat.mod_lt _ (by decide)⟩
  have hmod : (fun i => writerPlace e.1 == (t + i) % 20) = fun i => writerPlace e.1 == (t % 20 + i) % 20 := by
    funext i
    rw [Nat.mod_add_mod]
  have hmap : rotate [e] t = ((List.range 20).filter (fun i => writerPlace e.1 == (t + i) % 20)).map (fun _ => e) := by
    unfold rotate
    rw [← List.filterMap_eq_map, List.filterMap_filter]
    refine List.filterMap_congr fun i _ => ?_
    cases h : writerPlace e.1 == (t + i) % 20 <;> simp [h]
  rw [hmap, List.map_const', hmod]
  exact congrArg (List.replicate · e) hpos

/-- The node's ID is no register of a cluster. -/
theorem State.nodeId_clusterIrq_setEvent (s : State) (k : Fin 12) (q : Nat) :
    ((s.setEvent (CL_QSTAT.reset_seen k q)).clusterIrq k (CL_IRQ.qreset k) (CL_IRQEN.qreset k)).nodeId = s.nodeId := by
  have h1 : (s.setEvent (CL_QSTAT.reset_seen k q)).get RING_NODEID.id = s.get RING_NODEID.id :=
    State.get_put_ne _ _ _ _ (by simp [Fld.key, CL_QSTAT.reset_seen, CL_QSTAT.addr, RING_NODEID.id, RING_NODEID.addr]; omega)
  have h2 (t : State) : (t.setEvent (CL_IRQ.qreset k)).get RING_NODEID.id = t.get RING_NODEID.id :=
    State.get_put_ne _ _ _ _ (by simp [Fld.key, CL_IRQ.qreset, CL_IRQ.addr, RING_NODEID.id, RING_NODEID.addr]; omega)
  have h3 (t : State) : (t.clusterIrq k (CL_IRQ.qreset k) (CL_IRQEN.qreset k)).get RING_NODEID.id = t.get RING_NODEID.id := by
    unfold State.clusterIrq
    dsimp only
    split <;> exact h2 t
  exact (h3 _).trans h1

/-- Settles O12: pushes, pops, the end of a held read, a reset and a burst read. -/
theorem queueCommands : Obligations.QueueCommands := by
  intro k q o s hawake
  dsimp only
  have hpush (w : Nat) : exec (.qpush k q o w) s = accQpush k q o w s := State.access_of_awake hawake (.qpush k q o w) _
  have hpushend (w : Nat) : exec (.qpushend k q o w) s = accQpushend k q o w s := State.access_of_awake hawake (.qpushend k q o w) _
  have hpusherr (w : Nat) : exec (.qpusherr k q o w) s = accQpusherr k q o w s := State.access_of_awake hawake (.qpusherr k q o w) _
  have hpop : exec (.qpop k q o) s = accQpop k q o s := State.access_of_awake hawake (.qpop k q o) _
  refine ⟨fun w hlate hnow => ?push, fun w hfull hgap => ?late, fun w => ?turn, fun w ws hbus hw hheld => ?pop, fun hbus hw => ?empty,
    fun hbus => ?refused, fun h hfind hburst => ?expire, fun refused hon hcontrol => ?mismatch, fun w hown => ?reset,
    fun n hpos hlen hbus hstream hw hheld => ?burst⟩
  case push =>
    refine ⟨?_, ?_, ?_⟩
    · rw [Ends, hpush, accQpush, State.qBusPush_now _ hlate hnow]
      rfl
    · rw [Ends, hpushend, accQpushend, State.qBusPush_now _ hlate hnow]
      rfl
    · rw [Ends, hpusherr, accQpusherr, State.qBusPush_now _ hlate hnow]
      rfl
  case late =>
    rw [Ends, hpush, accQpush, State.qBusPush_late _ hfull hgap]
    rfl
  case turn =>
    show execQueuePush k q [(.bus o, w)] s = _
    unfold execQueuePush
    split
    · rw [rotate_single (.bus o, w) _ (show 19 < 20 by decide)]
      simp [heldWriter, fin]
    · rfl
  case pop =>
    rw [Ends, hpop, accQpop, if_pos hbus, State.busRead_of_words none (by simp [hw]) hheld,
      State.busPop_single o _ (State.words_of_qWords_cons hw)]
    rfl
  case empty =>
    rw [Ends, hpop, accQpop, if_pos hbus, State.busRead_of_empty none hw]
    rfl
  case refused =>
    rw [Ends, hpop, accQpop, hbus]
    rfl
  case expire =>
    show execQueueReadWaitExpire k q s = _
    unfold execQueueReadWaitExpire
    dsimp only
    rw [hfind]
    simp [State.endRead, hburst, fin]
  case mismatch =>
    show execQueuePointerMismatch k q refused s = _
    have hclear : (s.qClear k q).qStream k q = false := hcontrol
    have hnode := State.nodeId_clusterIrq_setEvent (s.qClear k q) k q
    unfold execQueuePointerMismatch
    dsimp only
    rw [hon, hclear, if_neg (by decide), if_neg (by decide), State.domainAddr, hnode]
    rfl
  case reset =>
    have hexec : exec (.qReset k q o w) s = accQReset k q o w s := State.access_of_awake hawake (.qReset k q o w) _
    rw [Ends, hexec, accQReset, hown]
    rfl
  case burst =>
    have hexec : exec (.burstRead k q o 0 (8 * n)) s = accBurstRead k q o 0 (8 * n) s :=
      State.access_of_awake hawake (.burstRead k q o 0 (8 * n)) _
    have hunits : 8 * n / 8 = n := by omega
    rw [Ends, hexec, accBurstRead, hunits, if_neg (by omega), hbus, hstream, if_pos (by decide),
      State.busRead_of_words (some n) hw hheld]
    rfl

end Sys2Proof.Machine
end

section
/-! PROOFS. The CAN FD controllers (R96 to R102, R463). -/

namespace Sys2Proof.Machine

/-- A word that has the bit stays as it is when the bit is set. -/
theorem withBit_eq_self {w i : Nat} (h : bit w i = true) : withBit w i = w := by
  have hbit : w / 2 ^ i % 2 = 1 := by simpa [bit] using h
  rw [withBit, setBit_split, pow_succ, ← Nat.div_div_eq_div_mul]
  have hup : w / 2 ^ i / 2 * 2 + b2n true = w / 2 ^ i := by simp only [b2n, if_true]; omega
  rw [hup, Nat.div_add_mod]

section
variable {s : State} {k j tec rec_ : Nat}

/-- Counts that leave the state of the controller on the bus as it was. -/
theorem State.canCounts_same (hsame : busState tec rec_ = s.get (CL_CANSTAT.bus k j)) : s.canCounts k j tec rec_ =
    (s.setCan k j { s.can k j with tec := tec, rec_ := rec_ }).puts
      [(CL_CANSTAT.tec k j, min tec 255), (CL_CANSTAT.rec k j, min rec_ 255), (CL_CANSTAT.bus k j, busState tec rec_)] := by
  unfold State.canCounts
  dsimp only
  rw [if_pos hsame]

/-- Counts that change it, but not to bus-off, raise an event. -/
theorem State.canCounts_new (hnew : busState tec rec_ ≠ s.get (CL_CANSTAT.bus k j)) (hlow : busState tec rec_ < 2) :
    s.canCounts k j tec rec_ = ((s.setCan k j { s.can k j with tec := tec, rec_ := rec_ }).puts
      [(CL_CANSTAT.tec k j, min tec 255), (CL_CANSTAT.rec k j, min rec_ 255),
        (CL_CANSTAT.bus k j, busState tec rec_)]).canEvent k j (if busState tec rec_ = 1 then 0x0001 else 0x0002) false := by
  unfold State.canCounts
  dsimp only
  rw [if_neg hnew, if_neg (Nat.ne_of_lt hlow)]

/-- New counts of a controller that is neither bus-off nor recovering; more receive errors make it flag one. -/
theorem execCanBusEvent_on (k : Fin 12) (j : Fin 2) (hon : s.canOn k j = true) (hbus : s.get (CL_CANSTAT.bus k j) < 2) :
    execCanBusEvent k j tec rec_ s = fin ((if (s.can k j).rec_ < rec_ then
      s.withEdges k s.t125 (fun t => t.canErrorFlag k j (s.get (CL_CANSTAT.bus k j))) else s).canCounts k j tec rec_) := by
  have hoff : (!s.canOn k j || s.get (CL_CANSTAT.bus k j) == 2 || s.get (CL_CANSTAT.bus k j) == 3) = false := by
    simp [hon, show s.get (CL_CANSTAT.bus k j) ≠ 2 by omega, show s.get (CL_CANSTAT.bus k j) ≠ 3 by omega]
  unfold execCanBusEvent
  dsimp only
  rw [hoff]
  rfl

end

/-- Settles O13: each command of a controller where its condition holds. -/
theorem canCommands : Obligations.CanCommands := by
  intro k j s hawake
  dsimp only
  refine ⟨fun ws rest hon hen hfree hkeep htake hsend => ?transmit, fun ws hrec hon hmode hbus hpad hdue => ?launch, fun harb => ?sent,
    fun w0 w1 sof data hon hen hloop hbus hformat => ?receive, fun tec rec_ hmore hon hbus => ?flag,
    fun tec rec_ hless hon hbus hsame => ?same, fun tec rec_ hless hon hbus hnew hlow => ?new, fun o w => ?mode, fun o w h5 => ?recover,
    fun hrec hdone => ?recovered⟩
  case transmit =>
    show execCanTransmitRecord k j s = _
    simp [execCanTransmitRecord, State.canTxQ, hon, hen, hfree, hkeep, htake, hsend, fin]
  case launch =>
    show execCanLaunch k j s = _
    simp [execCanLaunch, hrec, hon, hmode, hbus, hpad, hdue, fin]
  case sent =>
    refine ⟨?_, ?_, ?_⟩
    · show execCanFrameSent k j .sent s = _
      simp [execCanFrameSent, harb, fin]
    · show execCanFrameSent k j .lostArbitration s = _
      simp [execCanFrameSent, harb, fin]
    · show execCanFrameSent k j .error s = _
      simp [execCanFrameSent, harb, fin]
  case receive =>
    show execCanReceive k j w0 w1 sof data s = _
    simp [execCanReceive, hon, hen, hloop, hbus, hformat, fin]
  case flag =>
    show execCanBusEvent k j tec rec_ s = _
    rw [execCanBusEvent_on k j hon hbus, if_pos hmore, fin]
  case same =>
    show execCanBusEvent k j tec rec_ s = _
    rw [execCanBusEvent_on k j hon hbus, if_neg (Nat.not_lt.mpr hless), State.canCounts_same hsame, fin]
  case new =>
    show execCanBusEvent k j tec rec_ s = _
    rw [execCanBusEvent_on k j hon hbus, if_neg (Nat.not_lt.mpr hless), State.canCounts_new hnew hlow, fin]
  case mode => exact State.access_of_awake hawake (.canModeWrite k j o w) _
  case recover =>
    have hexec : exec (.canRecover k j o w) s = fin (s.canCfgWrite k j o (withBit w 5)) :=
      State.access_of_awake hawake (.canRecover k j o w) _
    rw [Ends, hexec, withBit_eq_self h5, fin]
  case recovered =>
    show execCanRecoveryDone k j s = _
    simp [execCanRecoveryDone, hrec, Nat.not_lt.mpr hdone, fin]

end Sys2Proof.Machine
end

section
/-! PROOFS. Region bridges: windows, channels, targets, events and routes (chapter 04). -/

namespace Sys2Proof.Machine

/-! ### Accesses through a window (R122 to R135) -/

/-- An access that a window can serve: a legal size, aligned, no narrower than the far unit, within the window (R124). -/
def State.legalAccess (s : State) (c ofs size : Nat) : Prop :=
  size ∈ [1, 2, 4, 8] ∧ ofs % size = 0 ∧ s.chUnit c ≤ size ∧ ofs + size ≤ 2 ^ 20

/-- The request that an access makes. -/
def State.windowRequest (s : State) (c : Fin 32) (o : Origin) (nd : Nat) (write acked : Bool) (ofs size : Nat) (data : List Nat)
    (left : Option Nat) : ChReq :=
  { who := o, node := nd, write := write, acked := acked, ofs := ofs, size := size, data := if write then data else []
    parts := size / s.chUnit c, due := if write then none else (readLeft o left).map (· + s.now) }

section
variable {c : Fin 32} {s : State} {ofs size : Nat} (o : Origin) (nd : Nat) (write acked : Bool) (data : List Nat) (left : Option Nat)
  (bus : Option (Fin 32))

theorem State.legal_iff : (decide (size = 1 ∨ size = 2 ∨ size = 4 ∨ size = 8) && ofs % size == 0 && decide (s.chUnit c ≤ size) &&
    decide (ofs + size ≤ 2 ^ 20)) = true ↔ s.legalAccess c ofs size := by
  simp [State.legalAccess, and_assoc]

/-- A legal access of a channel that serves arrives at the channel. -/
theorem ends_windowAccess (hlegal : s.legalAccess c ofs size) (hserves : s.chServes c = true) :
    Ends (.windowAccess c o nd write acked ofs size data left bus) s
      (s.windowArrive c (s.windowRequest c o nd write acked ofs size data left) (bus.map (·.val))) := by
  have hexec : exec (.windowAccess c o nd write acked ofs size data left bus) s =
    execWindowAccess c o nd write acked ofs size data left bus s := rfl
  rw [Ends, hexec, execWindowAccess]
  dsimp only
  rw [State.legal_iff.mpr hlegal, hserves]
  rfl

end

/-- An access that finds no other held back, and room where it is a posted write, opens at once. -/
theorem State.windowArrive_open {s : State} {c : Nat} {r : ChReq} (bus : Option Nat) (hkept : (s.chan c).kept = [])
    (hroom : (s.chan c).full r = false) : s.windowArrive c r bus = s.windowOpen c r bus := by
  rw [State.windowArrive, hkept, hroom]
  rfl

/-- Where the server runs and no recast holds the access back, a local access is accepted. -/
theorem State.windowOpen_accept {s : State} {c : Nat} {r : ChReq}
    (hcast : (s.cst.recasts.contains (s.chCluster c) && (!r.write || r.acked)) = false) (hserver : (s.chan c).noServer = false)
    (hstop : (s.chan c).stopped = false) : s.windowOpen c r none = s.accept c r := by
  rw [State.windowOpen, hcast, hserver, hstop]
  rfl

/-- A read to a cluster in recast answers RETRY. -/
theorem State.windowOpen_recast {s : State} {c : Nat} {r : ChReq} (hcast : s.cst.recasts.contains (s.chCluster c) = true)
    (hread : r.write = false) : s.windowOpen c r none = s.accessFails c r stRETRY 0x00 := by
  rw [State.windowOpen, hcast, hread]
  rfl

/-- Settles O14: an access that is taken or refused, and each event of a channel where its condition holds. -/
theorem windowChannelCommands : Obligations.WindowChannelCommands := by
  intro c s
  dsimp only
  refine ⟨fun o nd ofs size left hsize hal hunit hin hserves hcast hserver hstop hkept => ?read,
    fun o nd ofs size left hsize hal hunit hin hserves hcast hkept => ?retry,
    fun o nd ofs size data left hsize hal hunit hin hserves hserver hstop hroom hkept => ?write,
    fun o nd ofs size bus hbad => ?illegal, fun o nd ofs size bus hsize hal hunit hin hserves => ?refused,
    fun r rest hr hroom => ?issue, fun hready => ?ready, fun hready => ?posted, fun ws hserves hws => ?response,
    fun f rest hf hdue hnone => ?timeout, fun r y hr => ?deadline, fun h rest hh hdue => ?discard, fun t ht hdue => ?life⟩
  case read =>
    refine ends_windowAccess o nd false true [] left none ⟨hsize, hal, hunit, hin⟩ hserves |>.trans ?_
    exact congrArg fin ((State.windowArrive_open none hkept rfl).trans
      (State.windowOpen_accept (by rw [hcast]; rfl) hserver hstop))
  case retry =>
    refine ends_windowAccess o nd false true [] left none ⟨hsize, hal, hunit, hin⟩ hserves |>.trans ?_
    exact congrArg fin ((State.windowArrive_open none hkept rfl).trans (State.windowOpen_recast hcast rfl))
  case write =>
    refine ends_windowAccess o nd true false data left none ⟨hsize, hal, hunit, hin⟩ hserves |>.trans ?_
    have hfull : (s.chan c).full (s.windowRequest c o nd true false ofs size data left) = false :=
      decide_eq_false (Nat.not_le.mpr hroom)
    exact congrArg fin ((State.windowArrive_open none hkept hfull).trans
      (State.windowOpen_accept (Bool.and_false _) hserver hstop))
  case illegal =>
    have hillegal : ¬s.legalAccess c ofs size := by
      rintro ⟨hsize, hal, hunit, hin⟩
      rcases hbad with h | h | h | h
      · exact h hsize
      · exact h hal
      · omega
      · omega
    have hexec : exec (.windowAccess c o nd false true ofs size [] none bus) s =
      execWindowAccess c o nd false true ofs size [] none bus s := rfl
    rw [Ends, hexec, execWindowAccess]
    dsimp only
    rw [Bool.eq_false_iff.mpr (fun h => hillegal (State.legal_iff.mp h))]
    rfl
  case refused =>
    have hexec : exec (.windowAccess c o nd false true ofs size [] none bus) s =
      execWindowAccess c o nd false true ofs size [] none bus s := rfl
    rw [Ends, hexec, execWindowAccess]
    dsimp only
    rw [State.legal_iff.mpr ⟨hsize, hal, hunit, hin⟩, hserves]
    rfl
  case issue =>
    show execFarPartIssue c s = _
    simp [execFarPartIssue, hr, hroom, fin]
  case ready =>
    show execOutQueueEnter c s = _
    simp [execOutQueueEnter, hready, fin]
  case posted =>
    show execOutQueueEnter c s = _
    simp [execOutQueueEnter, hready, fin]
  case response =>
    show execResponseRecord c s = _
    simp [execResponseRecord, hserves, hws, fin]
  case timeout =>
    show execFarTimeout c s = _
    simp [execFarTimeout, hf, hdue, hnone, fin]
  case deadline =>
    show execReadDeadline c s = _
    simp [execReadDeadline, hr, fin]
  case discard =>
    show execDiscardTimer c s = _
    simp [execDiscardTimer, hh, hdue, fin]
  case life =>
    show execReadAheadLifeExpire c s = _
    simp [execReadAheadLifeExpire, ht, hdue, fin]

/-! ### The target role and the channel's commands (R135, R138 to R145) -/

/-- A retry whose backoff has run out, with tries left, goes again. -/
theorem State.retryOver_eq_false {s : State} {c : Nat} {y : Target}
    (h : y.tries < s.get (BRG_CHCFG.retry_max (c / 8) (c % 8))) : s.retryOver c y = false := by
  simp [State.retryOver, h]

/-- Settles O15: each command where its condition holds. -/
theorem targetChannelCommands : Obligations.TargetChannelCommands := by
  intro c s
  dsimp only
  refine ⟨fun ws hmode htarget hws hok => ?_, fun r => rfl, fun y rest t hy hback hdue htries => ?_, fun o hown => ?_,
    fun o hown => ?_, fun o w hforeign => ⟨?_, ?_⟩⟩
  · show execTargetRequest c s = _
    simp [execTargetRequest, hmode, htarget, hws, hok, fin]
  · show execRetryBackoffExpire c s = _
    have hover := State.retryOver_eq_false htries
    simp [execRetryBackoffExpire, hy, hback, hdue, List.findIdx?_cons, hover, fin]
  · show fin (s.chCtlWrite c o (withBit 0 0)) = _
    rw [State.chCtlWrite, hown]
    rfl
  · show fin (s.chCtlWrite c o (withBit 0 1)) = _
    rw [State.chCtlWrite, hown]
    rfl
  · show fin (s.chCtlWrite c o (withBit w 0)) = _
    rw [State.chCtlWrite, hforeign]
    rfl
  · show fin (s.chCtlWrite c o (withBit w 1)) = _
    rw [State.chCtlWrite, hforeign]
    rfl

/-! ### Events and routes (R146 to R155) -/

/-- Settles O16: each command where its condition holds. -/
theorem eventAndRouteCommands : Obligations.EventAndRouteCommands := by
  intro c s
  dsimp only
  refine ⟨fun w rest hw hevent hmode hout => ?_, fun ws hmode hstop hws hok => ?_, fun ws hmode hstop hws hok => ?_, fun r o hown => ?_,
    fun r i w o v hfree => ?_, fun r i w o v hbusy => ?_⟩
  · show execEventMessage c s = _
    have hwaits : (s.recordsOut c && s.get (BRG_CHEVT.dest (c / 8) (c % 8)) != 0) = false := by
      rcases hout with h | h <;> simp [h]
    simp [execEventMessage, hw, hevent, hmode, hwaits, fin]
  · show execRouteLookup c s = _
    simp [execRouteLookup, hmode, hstop, hws, hok, fin]
  · show execRouteLookup c s = _
    simp [execRouteLookup, hmode, hstop, hws, hok, fin]
  · show execStageClear r o s = _
    simp [execStageClear, hown, fin]
  · show execRouteStageWrite r i w o v s = _
    simp [execRouteStageWrite, hfree, fin]
  · show execRouteStageWrite r i w o v s = _
    simp [execRouteStageWrite, hbusy, fin]

end Sys2Proof.Machine
end

section
/-! PROOFS. The switch core (chapter 05). -/

namespace Sys2Proof.Machine

/-! ### Tables (R155, R173 to R177) -/

/-- SW_CTL as an originator that may write it, by the status of the write. -/
theorem State.swCtl_ok {s : State} {o : Origin} {w : Nat} (hown : s.foreignCore o = false) (hst : s.swStatus w = stOK) :
    s.swCtl o w =
      let t := s.put SW_STATUS.last_status stOK
      let t := if bit w 0 && !s.noneMarked then t.commitAll else t
      (if bit w 1 then t.flushAll else t).done o stOK := by
  rw [State.swCtl, hown, hst]
  rfl

theorem State.swCtl_busy {s : State} {o : Origin} {w : Nat} (hown : s.foreignCore o = false) (hst : s.swStatus w = stBUSY) :
    s.swCtl o w = (s.put SW_STATUS.last_status stBUSY).done o stBUSY := by
  rw [State.swCtl, hown, hst]
  rfl

theorem State.swCtl_state {s : State} {o : Origin} {w : Nat} (hown : s.foreignCore o = false) (hst : s.swStatus w = stSTATE) :
    s.swCtl o w = (s.put SW_STATUS.last_status stSTATE).refuse o SW_REFUSED.count := by
  rw [State.swCtl, hown, hst]
  rfl

/-- Settles O17: staging, SW_CTL by its status, and the ends of the epochs. -/
theorem switchTableCommands : Obligations.SwitchTableCommands := by
  intro s o
  have hcommit (w : Nat) : exec (.commit o w) s = fin (s.swCtl o (withBit w 0)) := rfl
  have hflush (w : Nat) : exec (.flush o w) s = fin (s.swCtl o (withBit w 1)) := rfl
  have hw0 (w : Nat) (h : bit w 1 = false) : bit (withBit w 0) 1 = false := (bit_withBit_ne w (by decide)).trans h
  have hw1 (w : Nat) (h : bit w 0 = false) : bit (withBit w 1) 0 = false := (bit_withBit_ne w (by decide)).trans h
  refine ⟨fun i w v hfree => ?stage, fun i w v hfree => ?group, fun i w v hbusy => ?refused,
    fun w hown h1 hcom hdrain hmarked => ?commit, fun w hown h1 hcom hdrain hnone => ?nothing, fun w hown h1 hcom => ?busy,
    fun w hown h1 hcom hdrain => ?state, fun hcom => ?commitEnd, fun hdrain hcount => ?drainEnd, fun w hown h0 hdrain => ?flush,
    fun w hown h0 hdrain => ?noFlush, fun v => rfl, fun w => rfl⟩
  case stage =>
    show execFlowStageWrite false i w o v s = _
    simp [execFlowStageWrite, hfree, fin]
  case group =>
    show execFlowStageWrite true i w o v s = _
    simp [execFlowStageWrite, hfree, fin]
  case refused =>
    show execFlowStageWrite false i w o v s = _
    simp [execFlowStageWrite, hbusy, fin]
  case commit =>
    have hst : s.swStatus (withBit w 0) = stOK := by simp [State.swStatus, hcom, hdrain, hw0 w h1]
    rw [Ends, hcommit, State.swCtl_ok hown hst, hw0 w h1, bit_withBit_self, hmarked]
    rfl
  case nothing =>
    have hst : s.swStatus (withBit w 0) = stOK := by simp [State.swStatus, hcom, hdrain, hw0 w h1]
    rw [Ends, hcommit, State.swCtl_ok hown hst, hw0 w h1, bit_withBit_self, hnone]
    rfl
  case busy =>
    have hst : s.swStatus (withBit w 0) = stBUSY := by simp [State.swStatus, hcom, hw0 w h1]
    rw [Ends, hcommit, State.swCtl_busy hown hst, fin]
  case state =>
    have hst : s.swStatus (withBit w 0) = stSTATE := by simp [State.swStatus, hcom, hdrain, hw0 w h1]
    rw [Ends, hcommit, State.swCtl_state hown hst, fin]
  case commitEnd =>
    show execCommitEnd s = _
    simp [execCommitEnd, hcom]
  case drainEnd =>
    show execDrainEnd s = _
    rw [execDrainEnd, if_pos (by simp [hdrain, hcount])]
    rfl
  case flush =>
    have hst : s.swStatus (withBit w 1) = stOK := by simp [State.swStatus, hdrain, hw1 w h0]
    rw [Ends, hflush, State.swCtl_ok hown hst, hw1 w h0, bit_withBit_self]
    rfl
  case noFlush =>
    have hst : s.swStatus (withBit w 1) = stSTATE := by simp [State.swStatus, hdrain]
    rw [Ends, hflush, State.swCtl_state hown hst, fin]

/-! ### Frames (R158 to R192, R319, R320, R342) -/

/-- A head frame that is no read of a cluster leaves. -/
theorem State.sendServed_eq {s : State} {o u c : Nat} {x : SwCopy} {rest : List SwCopy}
    (hx : s.swQueue (queueKey o u c) = x :: rest) (hread : readCluster x.frame = none) : s.sendServed o u c =
    if 2 ≤ o ∧ x.frame.ftype = 2 then (s.sendHead o u c).serveRead x.frame
    else if o = 5 ∧ x.frame.ftype = 0xA ∧ x.frame.a = 0x20 then (s.sendHead o u c).serveRelay x.frame
    else s.sendHead o u c := by
  rw [State.sendServed, hx]
  simp [hread]

/-- Settles O18: each input, each output and each transit where its condition holds. -/
theorem switchFrameCommands : Obligations.SwitchFrameCommands := by
  intro s
  refine ⟨fun i f r hreset hi => ?now, fun i y rest t hreset h2 h3 h4 hheld hin => ?enters, fun i y rest hreset h2 h3 h4 hheld hin => ?stays,
    fun o u c t x rest ho hup hchoose hx hread hevent => ?sends, fun o u c t x rest ho hup hchoose hx htype hread => ?serves,
    fun o t ho hup hchoose => ?none_, fun o ho hup => ?ring, fun o hup => ?down, fun o hup => ?isDown,
    fun o u c x rest t hx hhold hdue hreached => ?launch, fun d f w0 x hbc hcopy hdst hcomp hhops hsync => ?forward,
    fun d f w0 x hsync hbc hsrc hhops => ?sync, fun d f w0 more hbc hcopy hdst hreset => ?arrives,
    fun d f w0 more hbc hcopy hdst hreset => ?inReset, fun d f w0 b more hbc hcopy hdst => ?damaged,
    fun d f w0 x hbc hsrc => ?own⟩
  case now =>
    show execFrameIngress i (some (f, r)) s = _
    rw [execFrameIngress, hreset, if_neg (by decide), if_pos hi, fin]
  case enters =>
    show execFrameIngress i none s = _
    have hi : ¬(i.val < 2 ∨ i.val = 3 ∨ i.val = 4) := by omega
    rw [execFrameIngress, hreset, if_neg (by decide), if_neg hi]
    simp [hheld, hin, fin]
  case stays =>
    show execFrameIngress i none s = _
    have hi : ¬(i.val < 2 ∨ i.val = 3 ∨ i.val = 4) := by omega
    rw [execFrameIngress, hreset, if_neg (by decide), if_neg hi]
    simp [hheld, hin, fin]
  case sends =>
    show execFrameSelect o s = _
    have hlow : ¬o.val < 2 := by omega
    have hnone : readCluster x.frame = none := by simp [readCluster, hread]
    have hserve := State.sendServed_eq hx hnone
    rw [if_neg (fun h => hread h.2), if_neg (fun h => hevent h.2.1)] at hserve
    simp [execFrameSelect, hlow, hup, hchoose, hserve, fin]
  case serves =>
    show execFrameSelect o s = _
    have hlow : ¬o.val < 2 := by omega
    have hserve := State.sendServed_eq hx hread
    rw [if_pos ⟨ho, htype⟩] at hserve
    simp [execFrameSelect, hlow, hup, hchoose, hserve, fin]
  case none_ =>
    show execFrameSelect o s = _
    have hlow : ¬o.val < 2 := by omega
    simp [execFrameSelect, hlow, hup, hchoose, fin]
  case ring =>
    show execFrameSelect o s = _
    simp [execFrameSelect, ho, hup, fin]
  case down =>
    show execOutputDown o s = _
    simp [execOutputDown, State.portUp, hup, fin]
  case isDown =>
    show execOutputDown o s = _
    simp [execOutputDown, State.portUp, hup, fin]
  case launch =>
    show execLaunch o u c s = _
    simp [execLaunch, hx, hhold, hdue, hreached]
  case forward =>
    show execTransitForward d f w0 x s = _
    simp [execTransitForward, hbc, hcopy, hdst, hcomp, hsync, State.transitHop, Nat.not_le.mpr hhops, fin]
  case sync =>
    show execTransitForward d f w0 x s = _
    simp [execTransitForward, hbc, hsync, hsrc, State.transitHop, Nat.not_le.mpr hhops, fin]
  case arrives =>
    show execTransitForward d f w0 ⟨none, more⟩ s = _
    simp [execTransitForward, hbc, hcopy, hdst, hreset, fin]
  case inReset =>
    show execTransitForward d f w0 ⟨none, more⟩ s = _
    simp [execTransitForward, hbc, hcopy, hdst, hreset, fin]
  case damaged =>
    show execTransitForward d f w0 ⟨some b, more⟩ s = _
    simp [execTransitForward, hbc, hcopy, hdst, fin]
  case own =>
    show execTransitForward d f w0 x s = _
    simp [execTransitForward, hbc, hsrc, fin]

end Sys2Proof.Machine
end

section
/-! PROOFS. Ring links: sheets, training and lanes (chapter 06). -/

namespace Sys2Proof.Machine

/-! ### Sheets (R195 to R215) -/

/-- A link that is up carries sheets. -/
theorem State.linkActive_of_up {s : State} {p : Nat} (h : s.linkUp p = true) : s.linkActive p = true := by
  simp [State.linkActive, h]

/-- A sheet that comes in on a link that is up, by what is found in it. -/
theorem execSheetReceive_up {s : State} {p : Fin 2} {y : Sheet} (h : ((s.headerErrors p y).idleErrors p y).linkUp p = true) :
    execSheetReceive p y s = fin
      (let t := (s.headerErrors p y).idleErrors p y
      if sheetDamaged y then (t.bump (RING_ERR4.block_err p)).sendNak p
      else if y.stomp && y.crc == sheetCrc y ^^^ 0xFFFFFFFF then t.bump (RING_ERR2.stomp_rx p)
      else if y.stomp || y.crc != sheetCrc y then (t.bump (RING_ERR0.crc p)).sendNak p
      else if y.seq ≠ (t.link p).expect then (t.bump (RING_ERR0.seq p)).takeAck p y.ack
      else match t.openSheet p y with
        | none => t.tagFailure p
        | some w => t.acceptSheet p y w) := by
  unfold execSheetReceive
  dsimp only
  rw [h, if_neg (by simp), apply_ite fin, apply_ite fin, apply_ite fin, apply_ite fin]
  cases ((s.headerErrors p y).idleErrors p y).openSheet p y <;> rfl

/-- Settles O19: sending, acknowledging, receiving and the alignment markers. -/
theorem linkSheetCommands : Obligations.LinkSheetCommands := by
  intro s p
  dsimp only
  refine ⟨fun hact hawake hresend hroom => ?next_, fun q hact hawake hresend => ?resend, fun ack n hup => ?ack, fun ack n hup hany => ?nak,
    fun e rest hreplay hup hdue => ?timeout, fun t ht hup hcoal hdue => ?ackSend, fun y hup hdam => ?damaged,
    fun y hup hdam hstomp hcrc => ?stomped, fun y hup hdam hstomp hcrc => ?crc, fun y hup hdam hstomp hcrc hseq => ?seq,
    fun y w hup hdam hstomp hcrc hseq hopen => ?accepted, fun hup hdue => ?marker, fun hup hdue => ?early, fun l => ?found,
    fun l hmissed hspare => ?missed⟩
  case next_ =>
    show execSheetSend p s = _
    simp [execSheetSend, hact, hawake, hresend, hroom, fin]
  case resend =>
    show execSheetSend p s = _
    simp [execSheetSend, hact, hawake, hresend, fin]
  case ack =>
    show execAckReceive p ack n false s = _
    simp [execAckReceive, State.linkActive_of_up hup, fin]
  case nak =>
    show execAckReceive p ack n true s = _
    simp only [execAckReceive, State.linkActive_of_up hup, hany]
    rfl
  case timeout =>
    show execReplayTimeout p s = _
    simp [execReplayTimeout, hreplay, State.linkActive_of_up hup, hdue, fin]
  case ackSend =>
    show execAckSend p s = _
    simp [execAckSend, ht, State.linkActive_of_up hup, hcoal, hdue]
  case damaged =>
    show execSheetReceive p y s = _
    rw [execSheetReceive_up hup, hdam]
    rfl
  case stomped =>
    show execSheetReceive p y s = _
    rw [execSheetReceive_up hup, hdam, hstomp, hcrc]
    simp [fin]
  case crc =>
    show execSheetReceive p y s = _
    rw [execSheetReceive_up hup, hdam, hstomp]
    simp [hcrc, fin]
  case seq =>
    show execSheetReceive p y s = _
    rw [execSheetReceive_up hup, hdam, hstomp, hcrc]
    simp [hseq, fin]
  case accepted =>
    show execSheetReceive p y s = _
    rw [execSheetReceive_up hup, hdam, hstomp, hcrc]
    simp [hseq, hopen, fin]
  case marker =>
    show execAmSend p s = _
    rw [execAmSend, if_neg (by rw [hup]; exact not_or.mpr ⟨by decide, not_or.mpr ⟨by decide, Nat.not_lt.mpr hdue⟩⟩)]
    rfl
  case early =>
    show execAmSend p s = _
    simp [execAmSend, hdue]
  case found => rfl
  case missed =>
    show execAmReceive p l false s = _
    simp [execAmReceive, hmissed, hspare]

/-! ### Training (R213 to R229) -/

/-- A written command bit of RING_LCTL makes the word name a command. -/
theorem withBit_mod_32 (w : Nat) {i : Nat} (hi : i < 5) : withBit w i % 32 ≠ 0 := by
  have h := bit_withBit_self w i
  intro h0
  simp only [bit, beq_iff_eq] at h
  interval_cases i <;> omega

/-- A link in state UP is up. -/
theorem State.linkUp_of_state {s : State} {p : Nat} (h : s.linkState p = lsUP) : s.linkUp p = true := by
  simp [State.linkUp, h]

/-- A command of RING_LCTL from a core that does not hold the link answers AUTH. -/
theorem State.linkCtl_foreign {s : State} {p : Nat} {o : Origin} (w : Nat) (h : s.foreignCore o = true) :
    s.linkCtl p o w = s.done o stAUTH := by
  simp [State.linkCtl, h]

/-- Settles O20: the commands that train a link, its states, and what takes it down. -/
theorem linkTrainingCommands : Obligations.LinkTrainingCommands := by
  intro s p o w
  dsimp only
  refine ⟨fun hown h1 h2 h3 h4 => ?retrain, fun hown h0 h2 h3 h4 => ?down, fun hf => ⟨?foreignRetrain, ?foreignDown⟩,
    fun hprot hctr => ?rekey, fun t hrekey hdue => ?rekeyTimeout, fun hst hcmd hin hreason => ?retry,
    fun lanes hst hmem hin => ?detect, fun lanes hst hall hin => ?lock, fun skew hst hskew hin => ?align,
    fun v hst halike => ?cap, fun r hst ha hb hin hneg => ?negotiation, fun m hst hin hsign => ?agreed,
    fun m hup hrekey hsign => ?agreedRekey, fun hst => ?refused, fun t hlimit hin => ?timeout,
    fun hst hrem => ?loss, fun hst hrem => ?remedied⟩
  case retrain =>
    show execRetrain p o w s = _
    simp [execRetrain, State.linkCtl, hown, bit_withBit_ne w, h1, h2, h3, h4, withBit_mod_32 w, fin]
  case down =>
    show execDown p o w s = _
    simp [execDown, State.linkCtl, hown, bit_withBit_ne w, h0, h2, h3, h4, withBit_mod_32 w, fin]
  case foreignRetrain =>
    show execRetrain p o w s = _
    rw [execRetrain, State.linkCtl_foreign _ hf]
    rfl
  case foreignDown =>
    show execDown p o w s = _
    rw [execDown, State.linkCtl_foreign _ hf]
    rfl
  case rekey =>
    show execRekey p none w s = _
    dsimp only [execRekey]
    rw [hprot, decide_eq_true hctr]
    rfl
  case rekeyTimeout =>
    show execRekeyTimeout p s = _
    simp [execRekeyTimeout, hrekey, hdue, fin]
  case retry =>
    show execDownRetry p s = _
    rw [execDownRetry, if_pos ⟨hst, hcmd, hin, hreason⟩]
  case detect =>
    show execSignalDetect p lanes s = _
    rw [execSignalDetect, if_pos ⟨hst, hmem, hin⟩]
  case lock =>
    show execBlockLock p lanes s = _
    rw [execBlockLock, if_pos ⟨hst, hall, hin⟩]
  case align =>
    show execAlignFound p skew s = _
    rw [execAlignFound, if_pos ⟨hst, hskew, hin⟩]
  case cap =>
    show execCapReceive p v s = _
    simp [execCapReceive, hst, halike]
  case negotiation =>
    show execNegotiation p s = _
    simp [execNegotiation, hst, ha, hb, hin, hneg, fin]
  case agreed =>
    show execKeysAgreed p (some m) s = _
    simp [execKeysAgreed, hst, hin, hsign, fin]
  case agreedRekey =>
    show execKeysAgreed p (some m) s = _
    simp [execKeysAgreed, hup, hrekey, hsign, fin]
  case refused =>
    show execKeysAgreed p none s = _
    simp [execKeysAgreed, hst, fin]
  case timeout =>
    show execTrainingTimeout p s = _
    simp [execTrainingTimeout, hlimit, hin, fin]
  case loss =>
    show execSyncHeaderLoss p s = _
    simp [execSyncHeaderLoss, State.linkUp_of_state hst, hrem, fin]
  case remedied =>
    show execSyncHeaderLoss p s = _
    simp [execSyncHeaderLoss, hrem, fin]

/-! ### Lanes, fast idle and the wake tone (R195, R220 to R226) -/

/-- A field that reads 1 is set. -/
theorem State.flag_of_one {s : State} {f : Fld} (h : s.get f = 1) : s.flag f = true := by
  simp [State.flag, h]

/-- A field that reads 0 is clear. -/
theorem State.flag_of_zero {s : State} {f : Fld} (h : s.get f = 0) : s.flag f = false := by
  simp [State.flag, h]

/-- LANE_SW of RING_LCTL: the lane is switched when the spare is ready and the link is up (R221). -/
theorem State.linkCtl_switch {s : State} {p : Nat} {o : Origin} {w : Nat} (hown : s.foreignCore o = false)
    (h0 : bit w 0 = false) (h1 : bit w 1 = false) (h3 : bit w 3 = false) (h4 : bit w 4 = false) :
    s.linkCtl p o (withBit w 2) =
      (let t := s.writeReg o (RING_LCTL.addr p) (withBit w 2)
      if s.flag (RING_LSTAT.spare_ready p) && s.linkState p == lsUP then
        (t.laneSwitch p (t.get (RING_LCTL.lane p))).linkOk p o
      else s.linkRefuse p o) := by
  unfold State.linkCtl
  cases s.flag (RING_LSTAT.spare_ready p) && s.linkState p == lsUP <;>
    simp [hown, bit_withBit_ne w, h0, h1, h3, h4, withBit_mod_32 w]

/-- Settles O21: lane switching by command and by mirror, the lost lane, fast idle and the wake tone. -/
theorem linkLaneCommands : Obligations.LinkLaneCommands := by
  intro s p o w
  dsimp only
  refine ⟨fun hown h0 h1 h3 h4 => ?switch, fun hup hready hlog => ?switchHead, fun hown h0 h1 h2 h3 => ?wake,
    fun hst => ?wakeHead, fun j m hup hm hj hon hconf => ?confirm, fun m hm hup hnow htaken hconf hseam hinto => ?taken,
    fun m hm hup hnow htaken => ?takenNow, fun m j hm hup hj hnow => ?peer, fun m t hm htaken hpeer hconf hdue => ?mirrorTimeout,
    fun j hup hlog => ?lost, fun j hup hlog hspare => ?mirrorNow, fun j hup hlog hdeg => ?drop,
    fun hup hspare => ?spareLoss, fun hup hspare => ?spareRelock, fun hup hen htx hq => ?request,
    fun hup hasked hq => ?grantTx, fun hup => ?grantRx, fun htx => ?burst, fun htx => ?exitTx, fun hrx => ?exitRx,
    fun t htone hdue => ?toneEnd, fun t htone hst hdue => ?toneTrained⟩
  case switch =>
    show execLaneSw p (some o) w s = _
    dsimp only [execLaneSw]
    rw [State.linkCtl_switch hown h0 h1 h3 h4]
    rfl
  case switchHead =>
    show execLaneSw p none w s = _
    dsimp only [execLaneSw]
    rw [hup, State.flag_of_one hready, hlog]
    rfl
  case wake =>
    show execWake p (some o) w s = _
    by_cases hst : s.linkState p = lsSTOWED <;>
      simp [execWake, State.linkCtl, hown, bit_withBit_ne w, h0, h1, h2, h3, withBit_mod_32 w, hst, fin]
  case wakeHead =>
    show execWake p none w s = _
    simp [execWake, hst, fin]
  case confirm =>
    show execMirrorConfirm p j s = _
    simp [execMirrorConfirm, hup, hm, hj, hon, hconf]
  case taken =>
    show execLaneSwitched ⟨p, none⟩ s = _
    simp [execLaneSwitched, State.mayTake, LaneMirror.ends, hm, hup, hnow, htaken, hconf, hseam, hinto, fin]
  case takenNow =>
    show execLaneSwitched ⟨p, none⟩ s = _
    simp [execLaneSwitched, State.mayTake, hm, hup, hnow, htaken, fin]
  case peer =>
    show execLaneSwitched ⟨p, some j⟩ s = _
    simp [execLaneSwitched, LaneMirror.ends, hm, hup, hj, hnow, fin]
  case mirrorTimeout =>
    show execMirrorTimeout p s = _
    have hover : m.confirmed.any (fun t => decide (t + 2000000 ≤ s.now)) = true := by
      rw [hconf, Option.any_some]
      exact decide_eq_true hdue
    dsimp only [execMirrorTimeout]
    rw [hm]
    dsimp only
    rw [htaken, hpeer, hover]
    rfl
  case lost =>
    show execLaneLoss p ⟨j, .lost⟩ s = _
    simp [execLaneLoss, hup, Option.isNone_eq_false_iff.mpr hlog, fin]
  case mirrorNow =>
    show execLaneLoss p ⟨j, .mirrorNow⟩ s = _
    simp [execLaneLoss, hup, Option.isNone_eq_false_iff.mpr hlog, hspare, fin]
  case drop =>
    show execLaneLoss p ⟨j, .drop⟩ s = _
    dsimp only [execLaneLoss]
    rw [hup, Option.isNone_eq_false_iff.mpr hlog, State.flag_of_zero hdeg]
    rfl
  case spareLoss =>
    show execSpareLaneLockLoss p s = _
    simp [execSpareLaneLockLoss, hup, hspare]
  case spareRelock =>
    show execSpareLaneRelock p s = _
    simp [execSpareLaneRelock, hup, hspare]
  case request =>
    show execFidleRequest p s = _
    dsimp only [execFidleRequest]
    rw [hup, State.flag_of_one hen, State.flag_of_zero htx, hq]
    rfl
  case grantTx =>
    show execFidleGrant p true s = _
    simp [execFidleGrant, hup, hasked, hq]
  case grantRx =>
    show execFidleGrant p false s = _
    simp [execFidleGrant, hup]
  case burst =>
    show execFidleBurst p s = _
    rw [execFidleBurst, State.flag_of_one htx]
    rfl
  case exitTx =>
    show execFidleExit p true s = _
    rw [execFidleExit, State.flag_of_one htx]
    rfl
  case exitRx =>
    show execFidleExit p false s = _
    rw [execFidleExit, State.flag_of_one hrx]
    rfl
  case toneEnd =>
    show execWakeToneEnd p false s = _
    have hnow : ¬ s.now < t + 20000 := by omega
    simp [execWakeToneEnd, htone, hnow, hdue]
  case toneTrained =>
    show execWakeToneEnd p true s = _
    simp [execWakeToneEnd, htone, hst, Nat.not_lt.mpr hdue]

end Sys2Proof.Machine
end

section
/-! PROOFS. The ring domain: the cycle, its topology and its heads (chapter 07). -/

namespace Sys2Proof.Machine

/-! ### The cycle, the slots, the seam and the map (R231, R236 to R240, R256, R262) -/

/-- An update by hardware of a field other than the role of the node leaves its role alone. -/
theorem State.activeHead_hw {s : State} {f : Fld} {v : Nat} (h : RING_STATUS.role.key ≠ f.key) :
    (s.hw f v).activeHead = s.activeHead := by
  rw [State.activeHead, State.get_hw_ne _ _ _ _ h]
  rfl

/-- A field written other than the role of the node leaves its role alone. -/
theorem State.activeHead_put {s : State} {f : Fld} {v : Nat} (h : RING_STATUS.role.key ≠ f.key) :
    (s.put f v).activeHead = s.activeHead := by
  rw [State.activeHead, State.get_put_ne _ _ _ _ h]
  rfl

/-- The state of the ring block does not say which role the node has. -/
theorem State.activeHead_ring (t : State) (r : RingSt) : ({ t with ring := r } : State).activeHead = t.activeHead := rfl

/-- A seam that opens for the first time in its cycle, with `t` the state in which the move was noted. -/
theorem execSeamOpen_opens {s t : State} (ht : ({ s with ring := { s.ring with seamAt := s.thisCycle } } : State).noteMove = t)
    (hseam : s.inSeam s.ns = true) (hat : s.ring.seamAt ≠ s.thisCycle) :
    execSeamOpen s =
      (let u := if t.ring.leaving then { t with ring := { t.ring with leaving := false, left := true } } else t
      let u := if u.activeHead then u.sendOrders else u
      let v := { u with ring := { u.ring with revertAsked := false, releaseAsked := false } }
      if u.activeHead && u.ring.revertAsked && u.mayHandOver then next v.handOver
      else if u.activeHead && u.ring.releaseAsked then next v.mirrorSend.standDown
      else next v) := by
  subst ht
  rw [execSeamOpen, if_neg (by simp [hseam, hat])]

/-- The note that an activation may move changes nothing of the ring. -/
@[simp] theorem State.noteMove_ring (s : State) : s.noteMove.ring = s.ring := by
  unfold State.noteMove
  split
  · split <;> rfl
  · rfl

/-- The note that an activation may move leaves the role of the node alone. -/
@[simp] theorem State.noteMove_activeHead (s : State) : s.noteMove.activeHead = s.activeHead := by
  unfold State.noteMove
  split
  · split <;> rfl
  · rfl

/-- Settles O22: the cycle starts, ticks, slots and seams, with the map that a cycle start takes into use. -/
theorem ringCycleCommands : Obligations.RingCycleCommands := by
  intro s c
  dsimp only
  refine ⟨fun epoch m hhead => ?map, fun hc hhead hsent => ?start, fun num epoch flags hhead hdraft => ?receive,
    fun num flags d hhead hdraft hd => ?receiveMap, fun hc hat hhead => ?tick, fun c' hc hat hne hgot hhead => ?tickMissed,
    fun p t u x ht hle hsplice hans hbusy hup hcand => ?marker, fun p t ht hle hsplice hans hbusy hup hcand => ?markerEmpty,
    fun p t ht hsplice => ?markerHeld, fun p n hhead => ⟨?lateFalse, ?lateTrue⟩, fun p hper hslot hpos hans hhead => ?missed,
    fun hseam hat hleave hhead => ?seam, fun hseam hat hleave hhead => ?seamLeaves, fun hseam hat hleave hhead => ?seamHead⟩
  case map =>
    show execMapFrame epoch m s = _
    simp [execMapFrame, hhead]
  case start =>
    show execCycleStart s = _
    simp [execCycleStart, hc, hhead, hsent]
  case receive =>
    show execCycleStartReceive num epoch flags s = _
    simp [execCycleStartReceive, hhead, hdraft]
  case receiveMap =>
    show execCycleStartReceive num d.1 flags s = _
    rw [execCycleStartReceive, hhead]
    simp only [Bool.false_eq_true, if_false, State.puts_cons, State.puts_nil, State.put_ring, hdraft, Nat.mod_eq_of_lt hd, if_true]
  case tick =>
    show execCycleTick s = _
    rw [execCycleTick, hc]
    simp (disch := decide) only [hat, Option.isSome_none, Bool.false_and, reduceCtorEq, Bool.false_eq_true, if_false,
      State.bumpWrap_eq, State.activeHead_hw, hhead, State.hw_ring]
  case tickMissed =>
    show execCycleTick s = _
    have hold : ¬ some c' = some c := fun h => hne (Option.some.inj h)
    have hmissed : ((some c').isSome && s.ring.gotAt != some c' && !false) = true := by
      simp [hgot]
    rw [execCycleTick, hc]
    simp (disch := decide) only [hmissed, if_true, hat, hold, if_false, Bool.false_and, Bool.false_eq_true,
      State.bump_eq, State.bumpWrap_eq, State.activeHead_hw, hhead, State.hw_ring]
  case marker =>
    show s.slotMarker p = _
    rw [State.slotMarker, ht]
    dsimp only
    rw [if_neg (by simp [hsplice, hans, hbusy, hup, hle, -List.getD_eq_getElem?_getD]), hcand]
    rfl
  case markerEmpty =>
    show s.slotMarker p = _
    rw [State.slotMarker, ht]
    dsimp only
    rw [if_neg (by simp [hsplice, hans, hbusy, hup, hle, -List.getD_eq_getElem?_getD]), hcand]
    rfl
  case markerHeld =>
    show s.slotMarker p = _
    simp [State.slotMarker, ht, hsplice, fin]
  case lateFalse =>
    show execSlotMarker ⟨p, some n⟩ s = _
    simp [execSlotMarker, hhead, fin]
  case lateTrue =>
    show execSlotMissed ⟨p, some n⟩ s = _
    simp [execSlotMissed, hhead, fin]
  case missed =>
    show s.slotMissed p = _
    rw [State.slotMissed, if_neg (by simp [hper, hslot, hans, hpos, -List.getD_eq_getElem?_getD])]
    simp (disch := decide) only [State.bump_eq, State.activeHead_hw, State.activeHead_ring, hhead]
    rfl
  case seam =>
    show execSeamOpen s = _
    rw [execSeamOpen_opens rfl hseam hat]
    simp [hleave, hhead, State.activeHead_ring]
  case seamLeaves =>
    show execSeamOpen s = _
    rw [execSeamOpen_opens rfl hseam hat]
    simp [hleave, hhead, State.activeHead_ring]
  case seamHead =>
    show execSeamOpen s = _
    have hleave' : ({ s with ring := { s.ring with seamAt := s.thisCycle } } : State).noteMove.ring.leaving = false := by
      rw [State.noteMove_ring, hleave]
    have hhead' : ({ s with ring := { s.ring with seamAt := s.thisCycle } } : State).noteMove.activeHead = true := by
      rw [State.noteMove_activeHead, State.activeHead_ring, hhead]
    rw [execSeamOpen_opens rfl hseam hat]
    simp only [hleave', hhead', Bool.false_eq_true, if_false, if_true, apply_ite next]

/-! ### Wraps, splices, membership and partitions (R36, R232, R242 to R250, R262) -/

/-- A command of RING_CTL that no clause refuses: its bits take effect one after another (R245, R262). -/
theorem State.ringCtl_taken {s : State} {o : Origin} {w : Nat} (hown : s.foreignCore o = false)
    (hleave : bit w 0 = true → s.nodeState = nsSERVICE) (hrest : bit w 1 = true ∨ bit w 2 = true → s.activeHead = true) :
    s.ringCtl o w =
      (let t := s.put RING_CTL.leave_id (bits w 8 6)
      let t := if bit w 0 then t.askLeave else t
      let t := if bit w 1 then { t with ring := { t.ring with revertAsked := true } } else t
      let t := if bit w 2 then { t with ring := { t.ring with releaseAsked := true } } else t
      t.ringOk o) := by
  rw [State.ringCtl, hown, if_neg (by simp), if_neg]
  simp only [Bool.or_eq_true, Bool.and_eq_true, bne_iff_ne, Bool.not_eq_true', not_or, not_and, not_not,
    Bool.not_eq_false]
  exact ⟨hleave, hrest⟩

/-- Settles O23: wraps and splices, leaving and joining, the partition test and the rejoin. -/
theorem ringTopologyCommands : Obligations.RingTopologyCommands := by
  intro s p es
  dsimp only
  refine ⟨fun hup hwrap => ?wrap, fun n hhead => ?wrapNode, fun hup hsp => ?held, fun n => ?heldNode,
    fun hseam hsp => ?orderOut, fun hseam hsp => ?orderIn, fun b hseam => ?orderLeft, fun hlate hsp hdr => ?drainedIn,
    fun n hhead => ?drainedNode, fun hlate hsp hquiet hfifo hredo => ?drainedOut, fun hlate hsp => ?abandonIn,
    fun hlate hsp => ?abandonOut, fun o w hown h1 h2 hst => ?leave, fun w hhead => ?leaveHead,
    fun hst hseam hready hhead => ?joinSelf, fun htim => ?joinUnlocked, fun h hst hseam hready hhead hmap hup => ?joinAsk,
    fun e id a b c r hhead hseam hreason => ?judge, fun hst => ?admitted, fun r hst hr => ?refused,
    fun c hc hle htested hgot hhead => ?test, fun e hst hseam hrestart hlt he => ?rejoin, fun e hst hseam he => ?rejoinElse⟩
  case wrap =>
    show execWrap ⟨p, none⟩ es s = _
    simp [execWrap, hup, hwrap]
  case wrapNode =>
    show execWrap ⟨p, some n⟩ es s = _
    simp [execWrap, hhead]
  case held =>
    show execLinkHeld ⟨p, none⟩ s = _
    simp [execLinkHeld, hup, hsp]
  case heldNode => rfl
  case orderOut =>
    show execSpliceOrder (some p) true s = _
    simp [execSpliceOrder, State.spliceOrder, hseam, hsp]
  case orderIn =>
    show execSpliceOrder (some p) false s = _
    simp [execSpliceOrder, State.spliceOrder, hseam, hsp]
  case orderLeft =>
    show execSpliceOrder none b s = _
    simp [execSpliceOrder, hseam]
  case drainedIn =>
    show execSpliceDrained ⟨p, none⟩ es s = _
    simp [execSpliceDrained, hlate, hsp, hdr]
  case drainedNode =>
    show execSpliceDrained ⟨p, some n⟩ es s = _
    simp [execSpliceDrained, hhead]
  case drainedOut =>
    show execSpliceDrained ⟨p, none⟩ es s = _
    simp [execSpliceDrained, hlate, hsp, hquiet, hfifo, hredo]
  case abandonIn =>
    show execSpliceAbandon p s = _
    simp [execSpliceAbandon, hlate, hsp]
  case abandonOut =>
    show execSpliceAbandon p s = _
    simp [execSpliceAbandon, hlate, hsp]
  case leave =>
    show execLeave (some o) w s = _
    dsimp only [execLeave]
    rw [State.ringCtl_taken hown (fun _ => hst) (by simp [bit_withBit_ne w, h1, h2])]
    simp [bit_withBit_ne w, h1, h2, fin]
  case leaveHead =>
    show execLeave none w s = _
    simp [execLeave, hhead, fin]
  case joinSelf =>
    show execJoinRequest .ask s = _
    simp [execJoinRequest, hst, hseam, hready, hhead, fin]
  case joinUnlocked =>
    show execJoinRequest .ask s = _
    have hready : s.readyToJoin = false := by simp [State.readyToJoin, tsLOCKED, htim]
    simp [execJoinRequest, hready, fin]
  case joinAsk =>
    show execJoinRequest .ask s = _
    have hup' : (!s.linkUp 0 && !s.linkUp 1) = false := by
      rcases (show p = 0 ∨ p = 1 by omega) with rfl | rfl
      · rw [show s.linkUp 0 = true from hup]
        rfl
      · rw [show s.linkUp 1 = true from hup, Bool.not_true, Bool.and_false]
    simp [execJoinRequest, hst, hseam, hready, hhead, hmap, hup', fin]
  case judge =>
    show execJoinRequest (.judge e id a b c r) s = _
    simp [execJoinRequest, hseam, hhead, hreason, fin]
  case admitted =>
    show execJoinRequest (.answer 0) s = _
    simp [execJoinRequest, hst, fin]
  case refused =>
    show execJoinRequest (.answer r) s = _
    simp [execJoinRequest, hst, hr, fin]
  case test =>
    show execPartitionTest s = _
    simp [execPartitionTest, hc, Nat.not_lt.mpr hle, htested, hgot, hhead, State.activeHead_ring, fin]
  case rejoin =>
    show execRejoin e s = _
    simp [execRejoin, hst, hseam, he, hrestart, fin]
  case rejoinElse =>
    show execRejoin e s = _
    rw [execRejoin, if_neg (by simp [hst, hseam]), if_neg he]
    rfl

/-! ### Heads: the witness, takeover, reversion and the mirror (R251 to R257, R262) -/

/-- Settles O24: the witness grant and lease, takeover and reversion, the mirror and the health reports of the heads. -/
theorem ringHeadCommands : Obligations.RingHeadCommands := by
  intro s c p
  dsimp only
  refine ⟨fun hc hhead hmode hboot hsam hact => ?sample, fun hhead hmode hact => ?fall, fun hhead hmode hact => ?fallStandby,
    fun hc hhead htog hboot hfail => ?toggle, fun hhead hmode => ?granted, fun h hwit hlease => ?renewal,
    fun g t hlease hdue hwit => ?expire, fun hc hrole hgrant hmis => ?takeover, fun other hact hne hpref => ?dual,
    fun n r hrev hseam hact hpref hstandby hpeer hmis hrep hr hsecs => ?revertActive,
    fun hseam hact hrole hmis hoff => ?revertOffered, fun t hrev hseam hact hhealthy hrole hmis hpref hdue => ?revertHeld,
    fun o w hown h0 h2 hact => ?revertRefused, fun o w hown h0 h2 hact => ?revertNow, fun o w hown h0 h1 hact => ?release,
    fun b hhead hb => ?hello, fun hact hver => ?updateSend, fun u us hups => ?updateAck, fun r hrole => ?updateReceive,
    fun bs b hact => ?health, fun hrole => ?loop_, fun f hact hty hdst hover hunit => ?completion⟩
  case sample =>
    show execWitGrantSample false s = _
    simp [execWitGrantSample, hc, hhead, hmode, hboot, hsam, hact, State.activeHead_ring]
  case fall =>
    show execWitGrantFall s = _
    simp [execWitGrantFall, hhead, hmode, hact]
  case fallStandby =>
    show execWitGrantFall s = _
    simp [execWitGrantFall, hhead, hmode, hact]
  case toggle =>
    show execWitHealthToggle s = _
    simp [execWitHealthToggle, hc, hhead, htog, hboot, hfail]
  case granted =>
    show execLeaseRenew .granted s = _
    simp [execLeaseRenew, hhead, hmode]
  case renewal =>
    show execLeaseRenew (.renewal h) s = _
    simp [execLeaseRenew, State.grantLease, hwit, hlease]
  case expire =>
    show execLeaseExpire none s = _
    simp [execLeaseExpire, hlease, Nat.not_lt.mpr hdue, hwit]
  case takeover =>
    show execTakeover s = _
    simp [execTakeover, hc, hrole, hgrant, hmis]
  case dual =>
    show execDualGrant other true s = _
    simp [execDualGrant, hact, hne, hpref, fin]
  case revertActive =>
    show execRevert s = _
    simp [execRevert, State.mayHandOver, State.peerHealthy, hrev, hseam, hact, hpref, hstandby, hpeer, hmis, hrep, hr, hsecs]
  case revertOffered =>
    show execRevert s = _
    simp [execRevert, hseam, hact, hrole, hmis, hoff]
  case revertHeld =>
    show execRevert s = _
    have hheld : s.heldOff = true := by
      rw [State.heldOff, hhealthy, Option.any_some, decide_eq_true hdue]
      simp [hrev, hpref]
    simp [execRevert, hseam, hact, hrole, hmis, hheld]
  case revertRefused =>
    show execRevertNow o w s = _
    simp [execRevertNow, State.ringCtl, hown, bit_withBit_ne w, h0, hact, fin]
  case revertNow =>
    show execRevertNow o w s = _
    rw [execRevertNow, State.ringCtl_taken hown (by simp [bit_withBit_ne w, h0]) (fun _ => hact)]
    simp [bit_withBit_ne w, h0, h2, fin]
  case release =>
    show execRelease o w s = _
    rw [execRelease, State.ringCtl_taken hown (by simp [bit_withBit_ne w, h0]) (fun _ => hact)]
    simp [bit_withBit_ne w, h0, h1, fin]
  case hello =>
    show execMirrorHello (some b) s = _
    simp [execMirrorHello, hhead, hb, fin]
  case updateSend =>
    show execMirrorUpdate .send s = _
    simp [execMirrorUpdate, hact, hver]
  case updateAck =>
    show execMirrorUpdate .acknowledged s = _
    simp [execMirrorUpdate, State.updateAcked, hups]
  case updateReceive =>
    show execMirrorUpdate (.receive r) s = _
    simp [execMirrorUpdate, hrole]
  case health =>
    show execHealthReport (.receive bs b) s = _
    simp [execHealthReport, hact]
  case loop_ =>
    show execLoopFrame p true s = _
    simp [execLoopFrame, hrole]
  case completion =>
    show execTakeoverCompletion f s = _
    simp [execTakeoverCompletion, hact, hty, Nat.not_le.mpr hdst, hover, hunit]

end Sys2Proof.Machine
end

section
/-! PROOFS. The head's host interface and the Ethernet bridge (chapters 07 and 08). -/

namespace Sys2Proof.Machine

/-! ### Windows, transaction slots and host rings (R157, R264, R271 to R281) -/

/-- What the head checks of a read through its windows before it asks who may be reached (R6, R271 to R274). -/
def readFits (addr size : Nat) : Bool :=
  readLegal (addr % 2 ^ 28) size && burstLegal (addr % 2 ^ 28) size &&
    (((size == 1 || size == 2 || size == 4 || size == 8) && addr % size == 0) ||
    (longReads (addr % 2 ^ 28) && decide (1 ≤ size) && decide (size ≤ 4096)))

/-- A read inside the windows of a head with its link up, by whether it fits and by whether the windows are open. -/
theorem execHostRead_inside {s : State} {tag addr size : Nat} (hhead : s.isHead = true) (hup : s.host.linkUp = true)
    (haddr : addr < 2 ^ 34) :
    execHostRead tag addr size s =
      if !readFits addr size then next (s.readAborts tag addr stILLEGAL 0 0)
      else if !s.hostOpen addr then next (s.readAborts tag addr stSTATE 0 0)
      else
        let r : WinRead := { tag := tag, addr := addr, size := size, data := [], recv := s.now }
        next (({ s with host := { s.host with reads := s.host.reads ++ [r] } }).sendRead r) := by
  rw [execHostRead, hhead, hup, decide_eq_false (Nat.not_le.mpr haddr)]
  rfl

/-- A write inside the windows of a head with its link up and of a length that the link allows, while they are open (R271 to R274). -/
theorem execHostWrite_open {s : State} {addr : Nat} {data : List Nat} (hhead : s.isHead = true) (hup : s.host.linkUp = true)
    (haddr : addr < 2 ^ 34) (hlen : data.length ≤ s.host.mps) (hopen : s.hostOpen addr = true) :
    execHostWrite addr data s =
      if s.relays addr data.length then next (s.toRing (s.relayFrame (addr / 2 ^ 28) (addr % 2 ^ 28) 0 mrWRITE 0 data))
      else if addr / 2 ^ 28 ≠ s.nodeId ∧ s.flag (RING_MAP.present (addr / 2 ^ 28)) = false then
        next ((s.errLog stNO_NODE 0 0 true none addr).bump HOST_DROP.inactive)
      else next ((writePieces (if decide (0x3000000 ≤ addr % 2 ^ 28) && decide (addr % 2 ^ 28 < 0x5000000) then 8 else 4096) 600
        addr data).foldl (fun s p => s.sendRequest 3 p.1 p.2.length 0 0x0020 p.2) s) := by
  rw [execHostWrite, hhead, hup, decide_eq_false (Nat.not_le.mpr haddr), if_neg (by simp), if_neg (Nat.not_lt.mpr hlen), hopen]
  rfl

/-- Settles O25: reads and writes through the windows, the transaction slots and the host rings. -/
theorem hostCommands : Obligations.HostCommands := by
  intro s
  refine ⟨fun tag addr size hhead hup haddr hsize hal hleg hburst hopen => ?read,
    fun tag addr size hhead hup haddr hsize hal hlong => ?readUnaligned, fun tag addr size hhead hup haddr hleg => ?readIllegal,
    fun addr data hhead hup haddr hlen hopen hnode hofs => ?write, fun addr data hhead hup haddr hlen hopen hnode hpres => ?writeAbsent,
    fun addr data hhead hup haddr hlen hopen hrel => ?writeRelayed, fun addr data hhead hup haddr hlen => ?writeLong,
    fun f r hhead hty hunit hfind => ?completion, fun f hhead hty hunit hfind => ?completionLate, fun r hfind => ?timeout,
    fun n o w hhead => ?issueNoHead, fun n o w hhead hop => ?issueIllegal,
    fun n o w hhead hop hsz hal hopen hdue => ?issue, fun f t hhead hty hunit hn hdue => ?result, fun n t hdue hle => ?slotTimeout,
    fun j f idx hopen => ?rqWrite, fun vec msg hvec => ?evqWrite, fun j => ?moderation⟩
  case read =>
    show execHostRead tag addr size s = _
    have hfits : readFits addr size = true := by
      rw [readFits, hleg, hburst, hal]
      simp only [List.mem_cons, List.not_mem_nil, or_false] at hsize
      rcases hsize with h | h | h | h <;> simp [h]
    rw [execHostRead_inside hhead hup haddr, hfits, hopen]
    rfl
  case readUnaligned =>
    show execHostRead tag addr size s = _
    have hfits : readFits addr size = false := by
      rw [readFits, hlong]
      simp [hal]
    rw [execHostRead_inside hhead hup haddr, hfits]
    rfl
  case readIllegal =>
    show execHostRead tag addr size s = _
    have hfits : readFits addr size = false := by
      rw [readFits, hleg]
      rfl
    rw [execHostRead_inside hhead hup haddr, hfits]
    rfl
  case write =>
    show execHostWrite addr data s = _
    have hrel : s.relays addr data.length = false := by
      rw [State.relays, hnode]
      simp
    rw [execHostWrite_open hhead hup haddr hlen hopen, hrel, decide_eq_false (Nat.not_le.mpr hofs), hnode, if_neg (by simp),
      if_neg (by simp)]
    rfl
  case writeAbsent =>
    show execHostWrite addr data s = _
    have hrel : s.relays addr data.length = false := by
      rw [State.relays, State.flag_of_zero hpres]
      simp
    rw [execHostWrite_open hhead hup haddr hlen hopen, hrel, if_neg (by simp), if_pos ⟨hnode, State.flag_of_zero hpres⟩]
  case writeRelayed =>
    show execHostWrite addr data s = _
    rw [execHostWrite_open hhead hup haddr hlen hopen, hrel]
    rfl
  case writeLong =>
    show execHostWrite addr data s = _
    rw [execHostWrite, hhead, hup, decide_eq_false (Nat.not_le.mpr haddr), if_neg (by simp), if_pos hlen]
  case completion =>
    show execComplReceive f s = _
    simp [execComplReceive, hhead, hty, hunit, hfind]
  case completionLate =>
    show execComplReceive f s = _
    simp [execComplReceive, hhead, hty, hunit, hfind]
  case timeout =>
    show execHostReadTimeout s = _
    rw [execHostReadTimeout, hfind]
  case issueNoHead =>
    show execTsIssue n o w s = _
    simp [execTsIssue, hhead, fin]
  case issueIllegal =>
    show execTsIssue n o w s = _
    simp [execTsIssue, hhead, hop, fin]
  case issue =>
    show execTsIssue n o w s = _
    simp [execTsIssue, hhead, hop, Nat.not_lt.mpr hsz, hal, hopen, hdue, fin]
  case result =>
    show execTsResult f s = _
    simp [execTsResult, hhead, hty, hunit, Nat.not_le.mpr hn, hdue]
  case slotTimeout =>
    show execTsTimeout n s = _
    simp [execTsTimeout, hdue, hle]
  case rqWrite =>
    show execRqWrite j f idx s = _
    simp [execRqWrite, hopen, fin]
  case evqWrite =>
    show execEvqWrite vec msg s = _
    rw [execEvqWrite, Nat.mod_eq_of_lt hvec]
  case moderation => rfl

/-! ### The links of host and Ethernet (R157, R258 to R261, R264, R280, R281) -/

/-- A frame at a member port that no PTP engine ends and that is not for a reserved address goes through the bridge. -/
theorem execEthReceive_bridged {s : State} {e : Fin 2} {bs : List Nat} (hmem : s.member e = true) (hon : s.ethOff e = false)
    (hptp : (s.learn bs s.nodeId e).ptpEnds e bs = none) (hdst : 0x0180C200000F < ethDst bs)
    (hmac : (s.learn bs s.nodeId e).lookupMac bs = none) :
    execEthReceive e bs s = fin ((s.learn bs s.nodeId e).flood e {
      ftype := 8, cls := (s.learn bs s.nodeId e).ethClass bs, dst := (s.learn bs s.nodeId e).nodeId
      src := (s.learn bs s.nodeId e).nodeId, a := 256 * (3 + e.val)
      ext := some (extOf ((s.learn bs s.nodeId e).ethRx e) false), payload := bs }) := by
  have hres : decide (0x0180C2000000 ≤ ethDst bs ∧ ethDst bs ≤ 0x0180C200000F) = false :=
    decide_eq_false fun h => Nat.not_le.mpr hdst h.2
  unfold execEthReceive
  simp only [hmem, hon, hptp, hres, hmac, if_true, Bool.not_true, Bool.false_or, Bool.false_eq_true, if_false]

/-- Settles O26: the interface version, function-level reset, link up, and the Ethernet bridge. -/
theorem hostLinkAndEtherCommands : Obligations.HostLinkAndEtherCommands := by
  intro s
  dsimp only
  refine ⟨fun o w hhead => ?versionNoHead, fun o w hhead hreads hslots h1 => ?version11,
    fun o w hhead hreads hslots h1 h0 => ?versionNone, fun o w hhead hreads => ?versionOpen, fun hhead => ?reset,
    fun hhead => ?linkLost, fun gen width mps hhead hboot hlo hhi hwidth => ?linkUp,
    fun e bs hmem hon hptp hdst hmac => ?flood, fun e bs t hmem hon hptp => ?ptp, fun p f hty => ?fromRing, ?ageing,
    fun e hon => ?ethUp0, fun e hon => ?ethUp4⟩
  case versionNoHead =>
    show execIfVersionWrite o w s = _
    simp [execIfVersionWrite, hhead]
  case version11 =>
    show execIfVersionWrite o w s = _
    simp [execIfVersionWrite, hhead, hreads, hslots, h1]
  case versionNone =>
    show execIfVersionWrite o w s = _
    simp [execIfVersionWrite, hhead, hreads, hslots, h1, h0]
  case versionOpen =>
    show execIfVersionWrite o w s = _
    simp [execIfVersionWrite, hhead, hreads]
  case reset =>
    show execFlr false s = _
    simp [execFlr, hhead, fin]
  case linkLost =>
    show execFlr true s = _
    simp [execFlr, hhead, fin]
  case linkUp =>
    show execPcieLinkUp gen width mps s = _
    simp only [List.mem_cons, List.not_mem_nil, or_false] at hwidth
    have hhas : (decide (1 ≤ gen) && decide (gen ≤ 5) && (width == 1 || width == 2 || width == 4 || width == 8)) = true := by
      simp [hlo, hhi, hwidth, or_assoc]
    rw [execPcieLinkUp, hhas, hhead, if_neg (by simp [hboot])]
  case flood =>
    show execEthReceive e bs s = _
    rw [execEthReceive_bridged hmem hon hptp hdst hmac]
    rfl
  case ptp =>
    show execEthReceive e bs s = _
    simp [execEthReceive, hmem, hon, hptp, fin]
  case fromRing =>
    show execEthRingReceive p f s = _
    simp [execEthRingReceive, hty, fin]
  case ageing => rfl
  case ethUp0 =>
    show execEthLinkUp e 0 s = _
    simp [execEthLinkUp, hon, b2n]
  case ethUp4 =>
    show execEthLinkUp e 4 s = _
    simp [execEthLinkUp, hon, b2n]

end Sys2Proof.Machine
end

section
/-! PROOFS. Mailboxes, staging and activation (chapters 08, 11 and 12). -/

namespace Sys2Proof.Machine

/-! ### The mailbox register and the commands of reset, halt, hold and quench (R23 to R36, R282 to R285, R463, R477) -/

/-- A command word that the judgement turns away at a mailbox that is not busy. -/
theorem execNodeCmd_turnedAway {s : State} {m : Fin 3} {o : Origin} {w : Nat} (howner : s.mailboxOf o m = true)
    (hidle : s.get (NODE_CMDSTAT.busy m) = 0) (hst : s.judge m (bits w 0 8) ≠ stOK) :
    execNodeCmd m o w s = fin ((s.turnAway m (s.judge m (bits w 0 8)) (bits w 0 8) (bits w 8 8)).done o stOK) := by
  simp [execNodeCmd, howner, hidle, hst]

/-- Settles O27: the command register of a mailbox and the commands that run in it. -/
theorem mailboxCommands : Obligations.MailboxCommands := by
  intro s m
  dsimp only
  refine ⟨fun o w howner => ?notOwner, fun o w howner hbusy => ?busy, fun o w howner hidle hst => ?starts,
    fun o w howner hidle hst hkind => ?turnedAway, fun o w howner hidle hcode hst => ?turnedInstall,
    fun o w x howner hidle hcode hst hdiff => ?turnedRecast, fun hruns => ?status, fun hruns hu => ?unit, fun hruns hu => ?unitRange,
    fun hruns hc => ?clusterRange, fun hruns hc => ?cluster, fun hruns hc => ?dieRange, fun hruns hc harg => ?dieW,
    fun d hruns hc harg hne => ?die, fun hruns => ?node, fun hruns => ?halt, fun hruns => ?hold, fun hruns hbit => ?quenchNow,
    fun hruns hbit => ?quenchTimed⟩
  case notOwner =>
    show execNodeCmd m o w s = _
    simp [execNodeCmd, howner, fin]
  case busy =>
    show execNodeCmd m o w s = _
    simp [execNodeCmd, howner, hbusy, fin]
  case starts =>
    show execNodeCmd m o w s = _
    simp [execNodeCmd, howner, hidle, hst, State.raise, fin]
  case turnedAway =>
    show execNodeCmd m o w s = _
    simp only [List.mem_cons, List.not_mem_nil, or_false] at hkind
    rw [execNodeCmd_turnedAway howner hidle hst, State.turnAway, if_neg (by tauto), if_neg (by tauto)]
    rfl
  case turnedInstall =>
    show execNodeCmd m o w s = _
    rw [execNodeCmd_turnedAway howner hidle (by rw [hcode, hst]; decide), State.turnAway, hcode, hst, if_pos ⟨rfl, rfl⟩]
    rfl
  case turnedRecast =>
    show execNodeCmd m o w s = _
    rw [execNodeCmd_turnedAway howner hidle (by rw [hcode, hst]; decide), State.turnAway, hcode, hst, if_neg (by decide),
      if_pos ⟨rfl, rfl⟩, hdiff]
    rfl
  case status =>
    show execStatus m s = _
    simp [execStatus, hruns, fin]
  case unit =>
    show execUnitReset m s = _
    simp [execUnitReset, hruns, hu, fin]
  case unitRange =>
    show execUnitReset m s = _
    simp [execUnitReset, hruns, hu, fin]
  case clusterRange =>
    show execClusterReset m s = _
    simp [execClusterReset, hruns, hc, fin]
  case cluster =>
    show execClusterReset m s = _
    simp [execClusterReset, hruns, hc, fin]
  case dieRange =>
    show execDieReset m s = _
    simp [execDieReset, hruns, hc, fin]
  case dieW =>
    show execDieReset m s = _
    simp [execDieReset, hruns, hc, harg, fin]
  case die =>
    show execDieReset m s = _
    simp [execDieReset, hruns, hc, harg, hne, fin]
  case node =>
    show execNodeReset m s = _
    simp [execNodeReset, hruns, fin]
  case halt =>
    show execNodeHalt m s = _
    simp [execNodeHalt, hruns, fin]
  case hold =>
    show execHoldClear m s = _
    rw [execHoldClear, if_pos hruns]
    rfl
  case quenchNow =>
    show execQuench m s = _
    simp [execQuench, hruns, hbit, fin]
  case quenchTimed =>
    show execQuench m s = _
    simp [execQuench, hruns, hbit, b2n, fin]

/-! ### The staging of images and the casting (R355, R356, R363, R364, R380 to R382) -/

/-- Settles O28: recasting, installing a casting, and the commands of an image's ingots. -/
theorem stagingCommands : Obligations.StagingCommands := by
  intro s m
  dsimp only
  refine ⟨fun hruns hdiff himg hseam hmask => ?recastNone, fun hruns hdiff himg hseam hmask => ?recast, fun x hruns hdiff => ?recastDiffers,
    fun k c t hrec hst hpend hseam hdue => ?recastCluster, fun hruns hwaits hjob hchk => ?install,
    fun hruns hwaits hjob hchk => ?installRefused, fun n c hjob => ?installDone, fun hruns hjob hchk => ?ingotOpen,
    fun hruns hjob hchk => ?ingotData, fun hruns hchk => ?abandon, fun n id kind size man hjob => ?openDone,
    fun n i bs hjob => ?dataDone, fun hruns hchk => ?missing⟩
  case recastNone =>
    show execRecast m s = _
    simp [execRecast, hruns, hdiff, himg, Nat.not_lt.mpr hseam, hmask, fin]
  case recast =>
    show execRecast m s = _
    simp [execRecast, hruns, hdiff, himg, Nat.not_lt.mpr hseam, hmask, fin]
  case recastDiffers =>
    show execRecast m s = _
    simp [execRecast, hruns, hdiff, fin]
  case recastCluster =>
    show execRecastCluster k s = _
    rw [execRecastCluster, hrec]
    dsimp only
    rw [if_neg (by simp [hst, hpend, hseam, hdue])]
    rfl
  case install =>
    show execCastingInstall m s = _
    simp [execCastingInstall, hruns, hwaits, hjob, hchk, fin]
  case installRefused =>
    show execCastingInstall m s = _
    simp [execCastingInstall, hruns, hwaits, hjob, hchk, fin]
  case installDone =>
    show execCastingWriteDone s = _
    rw [execCastingWriteDone, hjob]
    rfl
  case ingotOpen =>
    show execIngotOpen m s = _
    simp [execIngotOpen, hruns, hjob, hchk, fin]
  case ingotData =>
    show execIngotData m s = _
    simp [execIngotData, hruns, hjob, hchk, State.raise, fin]
  case abandon =>
    show execIngotAbandon m s = _
    simp [execIngotAbandon, hruns, hchk, fin]
  case openDone =>
    show execIngotFlashWriteDone s = _
    rw [execIngotFlashWriteDone, hjob]
    rfl
  case dataDone =>
    show execIngotFlashWriteDone s = _
    rw [execIngotFlashWriteDone, hjob]
    rfl
  case missing =>
    show execMissing m s = _
    simp [execMissing, hruns, hchk, fin]

/-! ### Activation of firmware (R383 to R387) -/

/-- Settles O29: activation in pause form and in hitless form, step by step. -/
theorem activationCommands : Obligations.ActivationCommands := by
  intro s m
  dsimp only
  refine ⟨fun hruns => ?pause, fun hruns => ?hitless, fun n c h hjob hst => ?prepareLate, fun n c hjob hst => ?prepare,
    fun a hact hrom => ?saved, fun a hact hrom hnew => ?assay, fun a n hact hnew hn hold => ?restart,
    fun a p hact hpair hsh hok => ?hitlessAssay, fun a hact hsh hstep => ?inStep, fun a hact hsh hstep => ?notInStep,
    fun a p hact hpair hseam hmoving hinto => ?move, fun a hact hstep hdue => ?timeout⟩
  case pause =>
    show execActivatePause m s = _
    simp [execActivatePause, hruns, fin]
  case hitless =>
    show execActivateHitless m s = _
    simp [execActivateHitless, hruns, fin]
  case prepareLate =>
    show execPreparationEnd s = _
    rw [execPreparationEnd, hjob]
    dsimp only
    rw [if_pos hst]
    rfl
  case prepare =>
    show execPreparationEnd s = _
    rw [execPreparationEnd, hjob]
    dsimp only
    rw [if_neg (by simpa using hst)]
    rfl
  case saved =>
    show execPauseStateSaved s = _
    simp [execPauseStateSaved, hact, hrom, fin]
  case assay =>
    show execPauseAssayDone s = _
    simp [execPauseAssayDone, hact, hrom, hnew, fin]
  case restart =>
    show execPauseRestart s = _
    obtain ⟨k, rfl⟩ := Nat.exists_eq_succ_of_ne_zero hn
    simp only [execPauseRestart, hact, hnew, hold]
    rfl
  case hitlessAssay =>
    show execHitlessAssayDone s = _
    simp [execHitlessAssayDone, hact, hpair, hsh, hok, fin]
  case inStep =>
    show execInStep true s = _
    simp [execInStep, hact, hsh, hstep, fin]
  case notInStep =>
    show execInStep false s = _
    simp [execInStep, hact, hsh, hstep, fin]
  case move =>
    show execRoleMove s = _
    have hrole : s.roleMoving = true := by
      simp [State.roleMoving, hact, hseam, hmoving]
    rw [execRoleMove, hact, hpair]
    dsimp only
    rw [hrole, decide_eq_false (Nat.not_lt.mpr hinto)]
    rfl
  case timeout =>
    show execHitlessTimeout s = _
    rw [execHitlessTimeout, hact]
    dsimp only
    rw [hstep, decide_eq_true hdue]
    rfl

end Sys2Proof.Machine
end

section
/-! PROOFS. The crucible: provisioning, key operations, slots, entropy, tamper and the bench (chapter 13). -/

namespace Sys2Proof.Machine

/-! ### Provisioning of keys and hallmarks (R395 to R405, R411 to R413) -/

/-- Settles O30: the provisioning commands, and hallmarks. -/
theorem provisioningCommands : Obligations.ProvisioningCommands := by
  intro s m
  dsimp only
  refine ⟨fun e i hruns hchk hent hlive hfind hfree => ?wrap, fun i mat hruns hchk hslot heph hun hpur => ?install,
    fun i hruns hchk hslot heph hun => ?installAuth, fun hruns hchk h6 h7 => ?authority, fun hruns hchk hent => ?generate,
    fun hruns hchk hent => ?generateFault, fun hruns hchk => ?invalidate, fun hruns hchk => ?invalidateRefused,
    fun hruns hchk hlive harg => ?hallmark, fun hruns hchk hlive => ?hallmarkFault⟩
  case wrap =>
    show execWrapReq m s = _
    simp only [execWrapReq, hruns, hchk, State.flag_of_one hent, hlive, hfind, hfree]
    rfl
  case install =>
    show execInstall m true true s = _
    simp [execInstall, hruns, hchk, hslot, heph, hun, hpur, fin]
  case installAuth =>
    show execInstall m true true s = _
    simp [execInstall, hruns, hchk, hslot, hun, fin]
  case authority =>
    show execAuthority m true true s = _
    simp [execAuthority, hruns, hchk, h6, h7, fin]
  case generate =>
    show execGenerate m true true s = _
    simp [execGenerate, hruns, hchk, hent, fin]
  case generateFault =>
    show execGenerate m true true s = _
    simp [execGenerate, hruns, hchk, hent, fin]
  case invalidate =>
    show execInvalidate m s = _
    simp [execInvalidate, hruns, hchk, fin]
  case invalidateRefused =>
    show execInvalidate m s = _
    simp [execInvalidate, hruns, hchk, fin]
  case hallmark =>
    show execHallmark m s = _
    simp [execHallmark, hruns, hchk, hlive, harg, fin]
  case hallmarkFault =>
    show execHallmark m s = _
    simp [execHallmark, hruns, hchk, hlive, fin]

/-! ### Operation ports (R409 to R411) -/

/-- The operands of an operation port, which its command does not write. -/
def opOperands (p : Nat) : List Fld :=
  [CRU_OPSRC.src p, CRU_OPLEN.src_len p, CRU_OPLEN.aad_len p, CRU_OPDST.dst p, CRU_OPAUX.aux p]

/-- The start of an operation leaves the operands of its port alone. -/
theorem State.get_puts_opStart {s : State} {p a b c : Nat} {f : Fld} (hf : f ∈ opOperands p) :
    (s.puts [(CRU_OPCMD.op p, a), (CRU_OPCMD.key_id p, b), (CRU_OPSTAT.busy p, c)]).get f = s.get f := by
  simp only [opOperands, List.mem_cons, List.not_mem_nil, or_false] at hf
  rcases hf with rfl | rfl | rfl | rfl | rfl <;>
    simp only [State.puts_cons, State.puts_nil] <;>
    rw [State.get_put_ne, State.get_put_ne, State.get_put_ne] <;>
    simp [Fld.key, CRU_OPSRC.src, CRU_OPLEN.src_len, CRU_OPLEN.aad_len, CRU_OPDST.dst, CRU_OPAUX.aux, CRU_OPSRC.addr,
      CRU_OPLEN.addr, CRU_OPDST.addr, CRU_OPAUX.addr, CRU_OPCMD.op, CRU_OPCMD.key_id, CRU_OPSTAT.busy, CRU_OPCMD.addr,
      CRU_OPSTAT.addr] <;> omega

/-- An operation that the pair's own core starts on a port that is not busy (R409). -/
theorem State.opStart_idle {s : State} {p w : Nat} {c : Fin 20} (op : Nat) (hown : c.val / 2 = p)
    (hidle : s.get (CRU_OPSTAT.busy p) = 0) :
    s.opStart p (.core c) op w =
      (let t := s.puts [(CRU_OPCMD.op p, op), (CRU_OPCMD.key_id p, bits w 8 16), (CRU_OPSTAT.busy p, 1)]
      (({ t with cru := { t.cru with ops := SMap.set t.cru.ops p (some {
        op := op, key := bits w 8 16, src := t.get (CRU_OPSRC.src p), len := t.get (CRU_OPLEN.src_len p)
        aad := t.get (CRU_OPLEN.aad_len p), dst := t.get (CRU_OPDST.dst p), aux := t.get (CRU_OPAUX.aux p) }) none } } :
        State).serveOps 10).done (.core c) stOK) := by
  have hsame : ∀ f ∈ opOperands p, (s.puts [(CRU_OPCMD.op p, op), (CRU_OPCMD.key_id p, bits w 8 16),
      (CRU_OPSTAT.busy p, 1)]).get f = s.get f := fun f hf => State.get_puts_opStart hf
  simp only [opOperands, List.forall_mem_cons, List.not_mem_nil, IsEmpty.forall_iff, implies_true, and_true] at hsame
  obtain ⟨hsrc, hlen, haad, hdst, haux⟩ := hsame
  simp only [State.opStart, hown, beq_self_eq_true, Bool.not_true, Bool.false_eq_true, if_false, State.flag_of_zero hidle,
    hsrc, hlen, haad, hdst, haux]

/-- An operation that another originator than the pair's own core starts is refused (R409). -/
theorem State.opStart_foreign {s : State} {p w : Nat} {o : Origin} (op : Nat) (hother : ∀ c : Fin 20, o = .core c → c.val / 2 ≠ p) :
    s.opStart p o op w = s.done o stAUTH := by
  cases o with
  | core c => simp [State.opStart, hother c rfl]
  | _ => rfl

/-- Settles O31: operation ports. -/
theorem keyOperations : Obligations.KeyOperations := by
  intro s p w
  refine ⟨fun c hown hidle => ?starts, fun c hown hbusy hchk => ?busy, fun c hother => ?other, ?host,
    fun x hx hrun hnew hst => ?success, fun x hx hrun hnew hst => ?failure⟩
  case starts =>
    have go : ∀ op, fin (s.opStart p (.core c) op w) = .next (State.settle _ 64) := fun op =>
      congrArg (fun t => fin t) (State.opStart_idle op hown hidle)
    exact ⟨go 1, go 2, go 3, go 4, go 5, go 6, go 7, go 8, go 9, go 10⟩
  case busy =>
    show fin (s.opStart p (.core c) koRANDOM w) = _
    simp only [State.opStart, hown, beq_self_eq_true, Bool.not_true, Bool.false_eq_true, if_false, State.flag_of_one hbusy,
      if_true]
    rw [show koRANDOM = 1 from rfl, hchk]
    rfl
  case other =>
    show fin (s.opStart p (.core c) koSIGN w) = _
    rw [State.opStart_foreign _ (fun c' h => by cases h; exact hother)]
    rfl
  case host =>
    show fin (s.opStart p .host koGCM_ENC w) = _
    rw [State.opStart_foreign _ (fun c' h => by cases h)]
    rfl
  case success =>
    show execKeyOpComplete p s = _
    simp [execKeyOpComplete, hx, hrun, hnew, hst, fin]
  case failure =>
    show execKeyOpComplete p s = _
    simp [execKeyOpComplete, hx, hrun, hnew, hst, fin]

/-! ### Slots, entropy, tamper and the bench (R392, R400, R405 to R408, R411, R415 to R421) -/

/-- Settles O32: the life of a slot, the entropy source, tamper and the bench. -/
theorem crucibleCommands : Obligations.CrucibleCommands := by
  intro s i o w
  dsimp only
  refine ⟨fun t hborn heph hdue hfree => ?expire, fun hst huse hsess => ?zeroise, fun hsess => ?held, fun huse => ?renew,
    fun huse => ?renewLater, fun bad hown h1 => ?test, fun hown h0 => ?tlog, fun hf => ?tlogForeign, ?entropyFailure,
    ?entropyRecover, fun srcs periods => ?tamper, fun hres hrst hen hlid hcount => ?bench, ?aon, fun hst hfw hflash => ?benchLog,
    fun bad hst hph hres => ?unlockFail, fun bad hst hph hres => ?unlock⟩
  case expire =>
    show execEphemeralExpire i s = _
    have hused : [0, 1, 2].any (fun m => s.mbxRuns m mcKEY_PROVISION && s.arg m 0 % 16 == 2 &&
        s.arg m 3 % 65536 == s.slotId i) = false := by
      have h0 : s.mbxRuns 0 mcKEY_PROVISION = false := hfree 0
      have h1 : s.mbxRuns 1 mcKEY_PROVISION = false := hfree 1
      have h2 : s.mbxRuns 2 mcKEY_PROVISION = false := hfree 2
      simp [h0, h1, h2]
    rw [execEphemeralExpire, hborn]
    dsimp only
    rw [hused, heph, decide_eq_true hdue]
    rfl
  case zeroise =>
    show execRefusingZeroise i s = _
    simp [execRefusingZeroise, hst, huse, hsess]
  case held =>
    show execRefusingZeroise i s = _
    simp [execRefusingZeroise, hsess]
  case renew =>
    show execSlotRenew i s = _
    simp [execSlotRenew, State.renewSlot, huse]
  case renewLater =>
    show execSlotRenew i s = _
    simp [execSlotRenew, huse]
  case test =>
    show execTest o w bad s = _
    simp [execTest, State.cruCtl, hown, bit_withBit_ne w, h1, fin]
  case tlog =>
    show execTlogClear o w s = _
    simp [execTlogClear, State.cruCtl, hown, bit_withBit_ne w, h0, fin]
  case tlogForeign =>
    show execTlogClear o w s = _
    simp [execTlogClear, State.cruCtl, hf, fin]
  case entropyFailure => rfl
  case entropyRecover => rfl
  case tamper => rfl
  case bench =>
    show execBenchEntry s = _
    simp [execBenchEntry, hres, hrst, hen, hlid, Nat.not_le.mpr hcount]
  case aon => rfl
  case benchLog =>
    show execBenchLogAppend s = _
    simp [execBenchLogAppend, hst, hfw, hflash]
  case unlockFail =>
    show execUnlock true bad s = _
    simp [execUnlock, hst, hph, hres, fin]
  case unlock =>
    show execUnlock false bad s = _
    simp [execUnlock, hst, hph, hres, fin]

end Sys2Proof.Machine
end

section
/-! PROOFS. The boot, the core pairs, sleep and the bellows (chapters 11, 12 and 14). -/

namespace Sys2Proof.Machine

/-! ### The boot, and the settings (R353, R357 to R361, R378, R382) -/

/-- Settles O33: the phases of the boot, and the save of the settings. -/
theorem bootCommands : Obligations.BootCommands := by
  intro s
  dsimp only
  refine ⟨fun periods hst hres hrst hoff hbench hdue => ?rom, fun hph => ?cast_, fun hph hnone => ?noFirmware,
    fun c hph hsome => ?firmware, fun hph hset => ?settings, fun hph happ => ?bootEnd,
    fun o key hown hst hflash hkey hcopies => ?save, fun o hown hst hflash => ?saveBusy, fun o hown hst => ?saveState,
    fun c seq bs hjob hwaits => ?saved, fun hfw hstg hkind hflash => ?complete⟩
  case rom =>
    show execBootRomStart periods s = _
    rw [execBootRomStart, if_neg (by simp [hst, hres, hrst, hoff, hbench, hdue])]
    rfl
  case cast_ =>
    show execCastSelect s = _
    rw [execCastSelect, hph]
    rfl
  case noFirmware =>
    show execFirmwareSelect s = _
    rw [execFirmwareSelect, hph, if_neg (by decide)]
    dsimp only
    rw [hnone]
    rfl
  case firmware =>
    show execFirmwareSelect s = _
    rw [execFirmwareSelect, hph, if_neg (by decide)]
    dsimp only
    rw [hsome]
    rfl
  case settings =>
    show execSettingsApply s = _
    rw [execSettingsApply, hph, if_neg (by decide)]
    dsimp only
    rw [if_pos hset]
    rfl
  case bootEnd =>
    show execBootEnd s = _
    rw [execBootEnd, hph, happ]
    rfl
  case save =>
    show execSave o s = _
    rw [execSave, hown, if_neg (by decide), if_neg (by simp [hst]), hflash, if_neg (by decide), hkey]
    dsimp only
    rw [hcopies]
    rfl
  case saveBusy =>
    show execSave o s = _
    simp [execSave, hown, hst, hflash, fin]
  case saveState =>
    show execSave o s = _
    simp [execSave, hown, hst, fin]
  case saved =>
    show execSettingsSaveDone s = _
    rw [execSettingsSaveDone, hjob]
    dsimp only [State.zero]
    rw [hwaits]
    rfl
  case complete =>
    show execFirmwareCompleteWrite s = _
    simp [execFirmwareCompleteWrite, hfw, hstg, hkind, hflash, fin]

/-! ### Core pairs (R368 to R374, R384, R387, R390) -/

/-- The commands of CORE_CTL from a core that may reach the pair: the command's status is kept and answered (R24, R372, R390). -/
theorem State.coreCtl_own {s : State} {p w : Nat} {o : Origin} (hown : s.foreignCore o = false) :
    s.coreCtl p o w =
      (let r := s.coreCommand p w
      let t := r.1.put (CORE_STAT.last_status p) r.2
      if r.2 = stSTATE then t.refuse o CORE_REFUSED.count else t.done o r.2) := by
  rw [State.coreCtl, hown]
  rfl

/-- A core sees its own node's address space through the first window of its map (R368). -/
theorem State.coreMap_own (s : State) (c : Nat) {ofs : Nat} (h : ofs < 0x10000000) :
    s.coreMap c (0x20000000 + ofs) = some (.space s.nodeId ofs) := by
  rw [State.coreMap, if_neg (by omega), if_neg (by omega), if_pos (by omega), Nat.add_sub_cancel_left]

/-- A core of a pair in lockstep sees the node that the pair's first domain window names (R368). -/
theorem State.coreMap_window {s : State} {c ofs : Nat} (h : ofs < 0x10000000) (hmode : s.get (CORE_STAT.mode (c / 2)) = 0) :
    s.coreMap c (0x30000000 + ofs) = some (.space (s.get (CORE_DWIN.node0 (c / 2))) ofs) := by
  rw [State.coreMap, if_neg (by omega), if_neg (by omega), if_neg (by omega), if_pos (by omega), Nat.add_sub_cancel_left,
    if_neg (by simp [hmode])]

/-- Nothing lies above the windows of a core's map (R368). -/
theorem State.coreMap_outside (s : State) (c : Nat) {a : Nat} (h : 0x40000000 ≤ a) : s.coreMap c a = none := by
  rw [State.coreMap, if_neg (by omega), if_neg (by omega), if_neg (by omega), if_neg (by omega)]

/-- A read that ends with another status than OK faults the core that made it (R368). -/
theorem execCoreAccessFault_read {s : State} {c : Fin 20} {a n ofs status detail : Nat} (hmap : s.coreMap c a = some (.space n ofs))
    (hst : status % 256 ≠ stOK) : execCoreAccessFault c a false status detail s = fin (s.coreFault c n ofs status detail) := by
  rw [execCoreAccessFault, hmap]
  dsimp only
  rw [if_neg (by simpa using hst)]

/-- Settles O34: the commands, doorbells, events, faults, watchdog and windows of the core pairs. -/
theorem coreCommands : Obligations.CoreCommands := by
  intro s p o w
  dsimp only
  refine ⟨fun hown => ⟨?start, ?halt, ?reset⟩, fun hf => ?foreign, fun hmode hrun hrole => ?mismatch,
    fun hmode hrun hrole => ?managerMismatch, fun c hrestart hcopy hok => ?restart, fun f hty hbit hlt hfull => ?eventDropped,
    fun f hty hbit hlt hroom => ?event, fun hw => ?doorbell, ?dbclr, fun c hmine hdog => ?kick, fun c hother => ?kickOther,
    fun t hdog hdue => ?expire, fun c ofs status detail hofs hst => ?faultOwn, fun c ofs status detail hofs hst hmode => ?faultWindow,
    fun c a store status detail ha => ?faultUnmapped, fun v ofs bs hown hpair hhalted => ?window,
    fun v ofs bs hown hpair hhalted => ?windowRefused⟩
  case start =>
    show fin (s.coreCtl p o (withBit w 0)) = _
    rw [State.coreCtl_own hown]
    rfl
  case halt =>
    show fin (s.coreCtl p o (withBit w 1)) = _
    rw [State.coreCtl_own hown]
    rfl
  case reset =>
    show fin (s.coreCtl p o (withBit w 2)) = _
    rw [State.coreCtl_own hown]
    rfl
  case foreign =>
    show fin (s.coreCtl p o (withBit w 0)) = _
    rw [State.coreCtl, hf]
    rfl
  case mismatch =>
    show execLockstepMismatch p s = _
    simp [execLockstepMismatch, hmode, hrun, hrole, fin]
  case managerMismatch =>
    show execLockstepMismatch p s = _
    simp [execLockstepMismatch, hmode, hrun, hrole, fin]
  case restart =>
    show execManagerRestart s = _
    simp [execManagerRestart, hrestart, hcopy, hok, fin]
  case eventDropped =>
    show execCoreEvent f s = _
    simp [execCoreEvent, hty, hbit, Nat.not_le.mpr hlt, hfull, fin]
  case event =>
    show execCoreEvent f s = _
    rw [execCoreEvent, if_neg (by simp [hty, hbit, hlt]), if_neg (Nat.not_le.mpr hroom)]
    rfl
  case doorbell =>
    show execDoorbell p o w s = _
    rw [execDoorbell, if_neg hw]
    rfl
  case dbclr => rfl
  case kick =>
    show execKick (.core c) w s = _
    simp [execKick, hmine, hdog, fin]
  case kickOther =>
    show execKick (.core c) w s = _
    simp [execKick, hother, fin]
  case expire =>
    show execWatchdogExpire s = _
    rw [execWatchdogExpire, hdog]
    dsimp only
    rw [if_neg (Nat.not_lt.mpr hdue)]
    rfl
  case faultOwn =>
    show execCoreAccessFault c _ false status detail s = _
    rw [execCoreAccessFault_read (s.coreMap_own c hofs) hst]
    rfl
  case faultWindow =>
    show execCoreAccessFault c _ false status detail s = _
    rw [execCoreAccessFault_read (State.coreMap_window hofs hmode) hst]
    rfl
  case faultUnmapped =>
    show execCoreAccessFault c a store status detail s = _
    rw [execCoreAccessFault, s.coreMap_outside c ha]
    rfl
  case window =>
    show execTcmWindowWrite v o ofs bs s = _
    rw [execTcmWindowWrite, hown, if_neg (by decide), if_neg (Nat.not_le.mpr hpair), hhalted]
    rfl
  case windowRefused =>
    show execTcmWindowWrite v o ofs bs s = _
    rw [execTcmWindowWrite, hown, if_neg (by decide), if_neg (Nat.not_le.mpr hpair), hhalted]
    rfl

/-! ### Sleep states, wakes and the bellows (R226, R425 to R430, R432, R434, R437 to R441) -/

/-- A wake event of a node in STOW that is not waking yet starts its wake. -/
theorem State.stowWake_starts {s : State} (cause : Nat) (hstowed : s.slp.stowed = true) (hidle : s.slp.waking = false) :
    s.stowWake cause = ({ s with slp := { s.slp with waking := true } }).put NODE_SLEEPSTAT.last_wake cause := by
  rw [State.stowWake, hstowed, hidle]
  rfl

/-- Settles O35: how clusters and the node sleep and wake, STOW, and the bellows. -/
theorem sleepCommands : Obligations.SleepCommands := by
  intro s o w
  dsimp only
  refine ⟨fun k hawake hdepth hhold hres hstowed => ?cluster, fun wfi hstowed hne => ?node, fun k cause hstowed hcause => ?wake,
    fun took t hstowed htarget hnap hlead hlate => ?scheduled, fun hown h0 h1 => ?holdOn, fun hown h0 h1 => ?holdOff,
    fun hown h1 hmay => ?stow, fun hown h1 hmay => ?stowRefused, fun hstowed hidle => ?wakeN, fun p hst hstowed => ?tone,
    fun p hst hstowed hidle => ?toneStowed, fun periods hwaking hlog => ?woken, fun kind u rest hwant hmay hkind => ?feed,
    fun kind u rest hwant hmay hkind => ?unit, fun p f hnap hstowed hlen => ?frame⟩
  case cluster =>
    show execClusterSleep k s = _
    simp [execClusterSleep, hawake, hdepth, hhold, hres, hstowed, fin]
  case node =>
    show execNodeSleepChange wfi s = _
    simp [execNodeSleepChange, hstowed, hne, fin]
  case wake =>
    show execClusterWakeEvent k cause s = _
    rw [execClusterWakeEvent, hstowed, List.contains_iff_mem.mpr hcause]
    rfl
  case scheduled =>
    show execScheduledWake 12 took s = _
    have hdue : ¬ (s.sleepState < spNAP ∨ s.ns + s.lead + wakeLatency s.sleepState < t) := by omega
    rw [execScheduledWake, hstowed, if_neg (by decide), if_pos (show (12 : Fin 13).val = 12 from rfl), htarget]
    dsimp only
    rw [if_neg hdue, if_neg (Nat.not_lt.mpr hlate)]
    rfl
  case holdOn =>
    show execHoldRun o w s = _
    simp [execHoldRun, State.sleepCtl, hown, h0, h1, fin]
  case holdOff =>
    show execHoldRun o w s = _
    simp [execHoldRun, State.sleepCtl, hown, h0, h1, fin]
  case stow =>
    show execStow o w s = _
    simp [execStow, State.sleepCtl, hown, bit_withBit_ne w, h1, hmay, fin]
  case stowRefused =>
    show execStow o w s = _
    simp [execStow, State.sleepCtl, hown, bit_withBit_ne w, h1, hmay, fin]
  case wakeN =>
    show execWakeN s = _
    rw [execWakeN, State.stowWake_starts _ hstowed hidle]
    rfl
  case tone =>
    show execWakeToneDetect p s = _
    simp [execWakeToneDetect, hst, hstowed, fin]
  case toneStowed =>
    show execWakeToneDetect p s = _
    simp [execWakeToneDetect, hst, hstowed, State.stowWake_starts _ hstowed hidle, fin]
  case woken =>
    show execStowWakeDone periods s = _
    rw [execStowWakeDone, hwaking, if_neg (by decide)]
    dsimp only
    rw [if_neg (by rw [hlog]; decide)]
    rfl
  case feed =>
    show execBellowsStep kind s = _
    have hpe : kind.val ≠ bkPE := by rw [hkind]; decide
    rw [execBellowsStep, hwant]
    dsimp only
    rw [hmay, if_neg (by decide), if_pos hkind, if_neg hpe]
    rfl
  case unit =>
    show execBellowsStep kind s = _
    rw [execBellowsStep, hwant]
    dsimp only
    rw [hmay, if_neg (by decide), if_neg hkind]
    rfl
  case frame =>
    show execFrameWake p f s = _
    simp [execFrameWake, Nat.not_lt.mpr hnap, hstowed, hlen, fin]

end Sys2Proof.Machine
end

section
/-! PROOFS. The card and its FETs, the supplies, faults and quench (chapters 15 and 16). -/

namespace Sys2Proof.Machine

/-! ### The card and the field FETs (R443 to R454) -/

/-- The state of a FET says nothing of how often it has tripped. -/
theorem State.get_fetTrips_put_fetState (s : State) (u v : Nat) : (s.put (fetState u) v).get (fetTrips u) = s.get (fetTrips u) := by
  apply State.get_put_ne
  unfold fetTrips fetState
  split
  · decide
  · simp [Fld.key, FEED_CNT.trips, FEED_STAT.state, FEED_CNT.addr, FEED_STAT.addr]

/-- Settles O36: seating, the restart of a FET, its current limit, its model, its retries and its damage. -/
theorem fetCommands : Obligations.FetCommands := by
  intro s u
  dsimp only
  refine ⟨fun hst => ?seat, fun hst => ?release, fun lo hi hst hshort hlo hhi hcool => ?restart, fun hst hcold hmeas => ?sensorFault,
    fun t hst hcold hmeas hwarm => ?measured, fun supply vout hst hgood => ?ramp, fun idle hon hpg => ?limit,
    fun t hlim hdue => ?timerClear, fun hon hlim hdue => ?timerExpire, fun shunt tDieW => ?model, fun v hon hwin hu => ?vinCard,
    fun v hon hwin hu => ?vinField, fun t hst hoff hdue hretries => ?retry, fun t hst hoff hdue hretries hmax => ?stopped,
    fun supply vout t hon hshort hvout hoff hdue => ?damage⟩
  case seat =>
    show execSeatDebounce s = _
    simp [execSeatDebounce, hst]
  case release =>
    show execSeatRelease s = _
    rw [execSeatRelease, if_neg hst]
    rfl
  case restart =>
    show execTempRestartOk u lo hi s = _
    simp [execTempRestartOk, hst, hshort, hlo, hhi, hcool]
  case sensorFault =>
    show execTsenseMeasure none s = _
    simp [execTsenseMeasure, State.raise, hst, hcold, hmeas]
  case measured =>
    show execTsenseMeasure (some t) s = _
    rw [execTsenseMeasure, if_neg (by simp [hst, hcold, hmeas])]
    dsimp only
    rw [if_neg (Nat.not_lt.mpr hwarm)]
  case ramp =>
    show execRampDone u supply vout s = _
    simp [execRampDone, hst, hgood]
  case limit =>
    show execCurrentLimitEngage u idle s = _
    simp [execCurrentLimitEngage, State.raise, hon, hpg]
  case timerClear =>
    show execFaultTimerClear u s = _
    rw [execFaultTimerClear, hlim]
    dsimp only
    rw [if_neg (Nat.not_lt.mpr hdue)]
    rfl
  case timerExpire =>
    show execFaultTimerExpire u s = _
    simp [execFaultTimerExpire, hon, hlim, hdue, fin]
  case model => rfl
  case vinCard =>
    show execVinWindowLeave u v s = _
    rw [execVinWindowLeave, hon, hwin, if_neg (by decide), if_pos hu]
    rfl
  case vinField =>
    show execVinWindowLeave u v s = _
    simp [execVinWindowLeave, hon, hwin, Nat.ne_of_lt hu, fin]
  case retry =>
    show execRetryOffExpire u s = _
    rw [execRetryOffExpire, hoff, Option.getD_some, decide_eq_false (Nat.not_lt.mpr hdue), if_neg (by simp [hst]),
      if_pos (Or.inl hretries)]
    rfl
  case stopped =>
    show execRetryOffExpire u s = _
    rw [execRetryOffExpire, hoff, Option.getD_some, decide_eq_false (Nat.not_lt.mpr hdue), if_neg (by simp [hst]),
      if_neg (by omega)]
    rw [State.get_fetTrips_put_fetState]
    rfl
  case damage =>
    show execFetDamage u supply vout s = _
    rw [execFetDamage, hon, State.flag_of_zero hshort, hoff, Option.getD_some, decide_eq_false (Nat.not_le.mpr hvout),
      decide_eq_false (Nat.not_le.mpr hdue)]
    rfl

/-! ### Power good, the regulators, the feeds' commands and the supply of a port die (R453 to R457, R507, R513, R515) -/

/-- What is measured of a feed leaves its FET alone. -/
theorem State.fet_feedMeasure (s : State) (u a b : Nat) : (s.feedMeasure u a b).fet u = s.fet u := by
  unfold State.feedMeasure
  split <;> rfl

/-- A command of a feed that is not refused, from a core that may reach it while the supply of its die is on. -/
theorem State.feedCtl_ok {s : State} {n w : Nat} {o : Origin} (hown : s.foreignCore o = false) (hpower : s.lev.wLost = false)
    (hst : s.feedStatus n w = stOK) :
    s.feedCtl n o w =
      (let t := if bit w 1 then s.feedStop n else s
      let t := if bit w 0 then t.feedStart n else t
      let t := if bit w 2 then (t.setFet n { t.fet n with retries := 0 }).waitTemp n false else t
      (t.put (FEED_CTL.last_status n) stOK).done o stOK) := by
  simp only [State.feedCtl, hown, hpower, hst, Bool.false_eq_true, if_false, ne_eq, not_true_eq_false]
  rfl

/-- A command of a feed that its state refuses. -/
theorem State.feedCtl_state {s : State} {n w : Nat} {o : Origin} (hown : s.foreignCore o = false) (hpower : s.lev.wLost = false)
    (hst : s.feedStatus n w = stSTATE) :
    s.feedCtl n o w = (s.put (FEED_CTL.last_status n) stSTATE).refuse o PWR_REFUSED.count := by
  simp only [State.feedCtl, hown, hpower, hst, Bool.false_eq_true, if_false, if_true]
  rfl

/-- Settles O37: power good, the sequence of the regulators, and the commands of a feed. -/
theorem supplyCommands : Obligations.SupplyCommands := by
  intro s
  dsimp only
  refine ⟨fun u supply vout idle t hu hpg hst hgood hlim hclr hon hdue hidle hsince => ?assert, fun u supply vout hlim hbad => ?drop,
    fun pg since i hnext hcard hen hall hstep => ?sequence, fun i t hat hdue hen hpg => ?timeout,
    fun pg a b c hoff hall => ?all, fun n o w hown hpower h1 h2 hst hshort => ?on, fun n o w hown hpower h1 h2 hst => ?onShort,
    fun n o w hown hpower h0 h2 => ?off, fun n o w hown hpower h0 h1 hst => ?clear, fun n o w hown hpower h0 h1 hst => ?clearRefused⟩
  case assert =>
    show execPgAssert u supply vout idle s = _
    have h16 : ¬ u.val = 16 := Nat.ne_of_lt hu
    have hnow : ¬ (s.feedMeasure u supply vout).now < t + 1000 * (100 * (s.feedMeasure u supply vout).fetDelay u) := by omega
    rw [execPgAssert]
    simp only [hlim, hclr, hon, Option.getD_some, Option.getD_none, Nat.max_zero, State.flag_of_zero hpg, hst, hgood,
      decide_eq_false hnow, decide_eq_false (Nat.not_lt.mpr hidle), decide_eq_false (Nat.not_lt.mpr hsince), h16, if_false]
    rfl
  case drop =>
    show execPgDrop u supply vout s = _
    rw [execPgDrop, State.flag_of_zero hlim, hbad]
    rfl
  case sequence =>
    show execRegSequenceStep pg since s = _
    rw [execRegSequenceStep, hnext]
    dsimp only
    rw [State.flag_of_one hcard, hall, decide_eq_true hstep, if_pos (by simpa using hen)]
  case timeout =>
    show execRegPgTimeout i s = _
    simp only [execRegPgTimeout, hat, hen, hpg, decide_eq_true hdue]
    rfl
  case all =>
    show execRegPgAll pg a b c s = _
    have hready : ((s.put PWR_STATUS.reg_pg pg).pow.dieOff && (s.put PWR_STATUS.reg_pg pg).regulators.all fun i =>
        bit ((s.put PWR_STATUS.reg_pg pg).get PWR_STATUS.reg_en) i && bit pg i) = true := by
      rw [hall, Bool.and_true]
      exact hoff
    rw [execRegPgAll, if_pos hready]
  case on =>
    show fin (s.feedCtl n o (withBit w 0)) = _
    rw [State.feedCtl_ok hown hpower (by simp [State.feedStatus, bit_withBit_ne w, h1, h2, hst, hshort])]
    simp [State.feedStart, bit_withBit_ne w, h1, h2, hpower, hst, hshort, fin]
  case onShort =>
    show fin (s.feedCtl n o (withBit w 0)) = _
    rw [State.feedCtl_state hown hpower (by simp [State.feedStatus, bit_withBit_ne w, h1, hst])]
    rfl
  case off =>
    show fin (s.feedCtl n o (withBit w 1)) = _
    rw [State.feedCtl_ok hown hpower (by simp [State.feedStatus, bit_withBit_ne w, h0, h2])]
    simp [State.feedStop, bit_withBit_ne w, h0, h2, hpower, fin]
  case clear =>
    show fin (s.feedCtl n o (withBit w 2)) = _
    rw [State.feedCtl_ok hown hpower (by simp [State.feedStatus, bit_withBit_ne w, h0, h1, hst])]
    simp [bit_withBit_ne w, h0, h1, fin]
  case clearRefused =>
    show fin (s.feedCtl n o (withBit w 2)) = _
    rw [State.feedCtl_state hown hpower (by simp [State.feedStatus, bit_withBit_ne w, h0, hst])]
    rfl

end Sys2Proof.Machine
end

section
/-! PROOFS. The fault collector and quench (chapter 16). -/

namespace Sys2Proof.Machine

/-! ### The fault collector, FAULT_N, injection and forwarding (R460 to R471, R479) -/

/-- Settles O38: a detected fault, the pulse of FAULT_N, the commands of FLT_CTL, injection and forwarding. -/
theorem faultCommands : Obligations.FaultCommands := by
  intro s o w
  dsimp only
  refine ⟨fun f hsrc hne => ?detect, fun f hsrc hne hmay => ?detectInjected, fun t hend hdue hreset => ?pulse,
    fun t hend hdue hreset => ?pulseReset, fun hown h1 h2 => ?release, fun hown h0 h2 => ?clear, fun hown h0 h1 => ?hold,
    fun hf => ⟨?holdForeign, ?clearForeign⟩, fun hown hend => ?pin, fun t hown hend => ?pinPulsing,
    fun src hsrc hmay hen => ?injectOff, fun src hsrc hmay hen => ?inject, fun src hsrc hmay => ?injectForeign,
    fun f hhead hty ha => ?forward, fun hhead => ?backlog⟩
  case detect =>
    show execFaultDetect f none s = _
    simp [execFaultDetect, hsrc, hne, fin]
  case detectInjected =>
    show execFaultDetect f (some (o, w)) s = _
    simp [execFaultDetect, hsrc, hne, hmay, fin]
  case pulse =>
    show execFaultPulseEnd s = _
    simp [execFaultPulseEnd, State.zero, hend, Nat.not_lt.mpr hdue, hreset, fin]
  case pulseReset =>
    show execFaultPulseEnd s = _
    simp [execFaultPulseEnd, State.zero, hend, Nat.not_lt.mpr hdue, hreset, fin]
  case release =>
    show execReleaseCapture o w s = _
    simp [execReleaseCapture, State.fltCtl, State.zero, hown, bit_withBit_ne w, h1, h2, fin]
  case clear =>
    show execClear o w s = _
    simp [execClear, State.fltCtl, State.zero, hown, bit_withBit_ne w, h0, h2, fin]
  case hold =>
    show execHold o w s = _
    simp [execHold, State.fltCtl, State.raise, hown, bit_withBit_ne w, h0, h1, fin]
  case holdForeign =>
    show execHold o w s = _
    simp [execHold, State.fltCtl, hf, fin]
  case clearForeign =>
    show execClear o w s = _
    simp [execClear, State.fltCtl, hf, fin]
  case pin =>
    show execPinHoldWrite o w s = _
    simp [execPinHoldWrite, hown, hend, fin]
  case pinPulsing =>
    show execPinHoldWrite o w s = _
    simp [execPinHoldWrite, hown, hend, fin]
  case injectOff =>
    show execInject src o w s = _
    simp [execInject, hsrc, hmay, hen, fin]
  case inject =>
    show execInject src o w s = _
    simp [execInject, hsrc, hmay, hen, fin]
  case injectForeign =>
    show execInject src o w s = _
    simp [execInject, hsrc, hmay, fin]
  case forward =>
    show execFaultForward f s = _
    simp [execFaultForward, hhead, hty, ha]
  case backlog =>
    show execForwardBacklog s = _
    rw [execForwardBacklog, hhead]
    rfl

/-! ### Quench (R472 to R476) -/

/-- A snapshot says nothing of where the time match came from. -/
@[simp] theorem State.latch_byRing (s : State) (srcs fault edge : Nat) : (s.latch srcs fault edge).flt.byRing = s.flt.byRing := by
  unfold State.latch
  dsimp only
  split
  · split
    · split <;> simp
    · simp
  · rw [apply_ite State.flt]
    split <;> simp

/-- Settles O39: the pin, the time match, the commands and the broadcast of quench. -/
theorem quenchCommands : Obligations.QuenchCommands := by
  intro s o w
  dsimp only
  refine ⟨fun level hedge hres hen hpol => ?pin, fun level hsame => ?pinSame, fun harmed hreached hring => ?match_,
    fun hown h1 => ?trigger, fun hown h0 => ?rearm, fun hf => ⟨?triggerForeign, ?rearmForeign⟩, fun hbit => ?disarm,
    fun hbit => ?arm, fun f hty ha hin hzero => ?broadcast, fun f hty ha hin hinst => ?broadcastTimed⟩
  case pin =>
    show execQuenchPin level s = _
    have hpol' : s.flag QCH_CFG.pin_pol = level := by
      cases level <;> simp [hpol, b2n]
    have hcond : (s.flt.pin != level && !s.lev.inReset && s.flag QCH_CFG.pin_en && s.flag QCH_CFG.pin_pol == level) = true := by
      rw [hres, State.flag_of_one hen, hpol']
      simpa using hedge
    exact congrArg fin (if_pos hcond)
  case pinSame =>
    show execQuenchPin level s = _
    simp [execQuenchPin, hsame, fin]
  case match_ =>
    show execQuenchTimeMatch s = _
    rw [execQuenchTimeMatch, State.flag_of_one harmed, hreached, if_neg (by decide)]
    simp [State.zero, hring, fin]
  case trigger =>
    show execTrigger o w s = _
    simp [execTrigger, State.qchCtl, hown, bit_withBit_ne w, h1, fin]
  case rearm =>
    show execRearm o w s = _
    simp [execRearm, State.qchCtl, State.zero, hown, bit_withBit_ne w, h0, fin]
  case triggerForeign =>
    show execTrigger o w s = _
    simp [execTrigger, State.qchCtl, hf, fin]
  case rearmForeign =>
    show execRearm o w s = _
    simp [execRearm, State.qchCtl, hf, fin]
  case disarm =>
    show execTmatchArm o w s = _
    simp [execTmatchArm, State.zero, hbit, fin]
  case arm =>
    show execTmatchArm o w s = _
    simp [execTmatchArm, hbit, fin]
  case broadcast =>
    show execQuenchBroadcastReceive f s = _
    simp [execQuenchBroadcastReceive, hty, ha, hin, hzero, fin]
  case broadcastTimed =>
    show execQuenchBroadcastReceive f s = _
    simp [execQuenchBroadcastReceive, hty, ha, hin, hinst, fin]

end Sys2Proof.Machine
end

section
/-! PROOFS. Domain time, gates and the wheel (chapters 09 and 10). -/

namespace Sys2Proof.Machine

/-! ### Link delay, SYNC, the servo and the scales (R295 to R303, R306, R308 to R311, R322) -/

/-- A node that is no head has no sources of its own to lose. -/
theorem State.loseSources_of_not_head {s : State} (h : s.isHead = false) : s.loseSources = s := by
  rw [State.loseSources, h]
  rfl

/-- A command of TIM_CTL that no clause refuses: its bits take effect one after another (R322). -/
theorem State.timCtl_taken {s : State} {o : Origin} {w : Nat} (hown : s.foreignCore o = false)
    (h0 : bit w 0 = true → s.activeHead = true ∧ s.get TIM_STATUS.sec_valid = 1)
    (h1 : bit w 1 = true → s.activeHead = true ∧ s.get TIM_STATUS.pri_ok = 1) :
    s.timCtl o w =
      (let t := if bit w 0 then { s with tim := { s.tim with want := some true } } else s
      let t := if bit w 1 then { t with tim := { t.tim with want := some false } } else t
      let t := if bit w 2 then (t.restartDelay 0).restartDelay 1 else t
      t.timOk o) := by
  have hgood : ((bit w 0 && !(s.activeHead && s.flag TIM_STATUS.sec_valid)) ||
      (bit w 1 && !(s.activeHead && s.flag TIM_STATUS.pri_ok))) = false := by
    refine Bool.or_eq_false_iff.mpr ⟨?_, ?_⟩
    · cases hb : bit w 0 with
      | false => rfl
      | true => rw [(h0 hb).1, State.flag_of_one (h0 hb).2]; rfl
    · cases hb : bit w 1 with
      | false => rfl
      | true => rw [(h1 hb).1, State.flag_of_one (h1 hb).2]; rfl
  rw [State.timCtl, hown, hgood]
  rfl

/-- Settles O40: link delay, SYNC, the loss of time, the scales, and the captures and adjustments of the host. -/
theorem timeCommands : Obligations.TimeCommands := by
  intro s p o w
  dsimp only
  refine ⟨fun hst hfidle hsent => ?request, fun seq deskew hup hlane => ?respond, fun seq deskew hlane => ?respondChange,
    fun n seq t1 t2 t3 deskew hreq hlane => ?sampleChange, fun n seq t1 t2 t3 deskew hreq hlane => ?sample,
    fun hhead hat => ?sync, fun f deskew residence hty ha hsrc hres hhead => ?syncReceive, fun hst hdue hhead hact => ?lossNode,
    fun hst hdue hact huse hvalid => ?lossHead, fun hown h1 h2 hact hvalid => ?useSec, fun hown h1 h2 hact => ?useSecRefused,
    fun hown h0 h2 hact hok => ?usePri, fun hown h0 h1 => ?ldRestart, fun c hact hc hat => ?blend,
    fun t hsince hact hauto huse hdue => ?revert, ?capture, fun hhead => ?adjustNoHead, fun hhead hsrc => ?adjust, ?now0,
    fun t hlatched => ?now3⟩
  case request =>
    show execPdelayReqSend p s = _
    simp [execPdelayReqSend, hst, hfidle, hsent]
  case respond =>
    show execPdelayResp p seq deskew s = _
    simp [execPdelayResp, hup, hlane]
  case respondChange =>
    show execPdelayResp p seq deskew s = _
    simp [execPdelayResp, hlane]
  case sampleChange =>
    show execPdelaySample p seq t2 t3 deskew s = _
    simp [execPdelaySample, hreq, hlane]
  case sample =>
    show execPdelaySample p seq t2 t3 deskew s = _
    simp [execPdelaySample, hreq, hlane]
  case sync =>
    show execSyncSend p s = _
    simp only [execSyncSend, hhead, hat]
    rfl
  case syncReceive =>
    show execSyncReceive p f deskew residence s = _
    simp [execSyncReceive, hty, ha, hsrc, hres, hhead, fin]
  case lossNode =>
    show execTimeLossTimeout s = _
    rw [execTimeLossTimeout, State.loseSources_of_not_head hhead,
      if_neg (not_or.mpr ⟨fun h => h.2 hst, Nat.not_lt.mpr hdue⟩), hact]
    rfl
  case lossHead =>
    show execTimeLossTimeout s = _
    rw [execTimeLossTimeout, if_neg (not_or.mpr ⟨fun h => h.2 hst, Nat.not_lt.mpr hdue⟩), hact, if_pos rfl, State.sourceLost,
      State.flag_of_zero huse, State.flag_of_one hvalid]
    rfl
  case useSec =>
    show fin (s.timCtl o (withBit w 0)) = _
    rw [State.timCtl_taken hown (fun _ => ⟨hact, hvalid⟩) (by simp [bit_withBit_ne w, h1])]
    simp [bit_withBit_ne w, h1, h2, fin]
  case useSecRefused =>
    show fin (s.timCtl o (withBit w 0)) = _
    simp [State.timCtl, hown, hact, fin]
  case usePri =>
    show fin (s.timCtl o (withBit w 1)) = _
    rw [State.timCtl_taken hown (by simp [bit_withBit_ne w, h0]) (fun _ => ⟨hact, hok⟩)]
    simp [bit_withBit_ne w, h0, h2, fin]
  case ldRestart =>
    show fin (s.timCtl o (withBit w 2)) = _
    rw [State.timCtl_taken hown (by simp [bit_withBit_ne w, h0]) (by simp [bit_withBit_ne w, h1])]
    simp [bit_withBit_ne w, h0, h1, fin]
  case blend =>
    show execBlendStep s = _
    simp [execBlendStep, hact, hc, hat]
  case revert =>
    show execAutoRevert s = _
    rw [execAutoRevert, hsince]
    dsimp only
    rw [hact, State.flag_of_one hauto, State.flag_of_one huse, decide_eq_true hdue]
    rfl
  case capture => rfl
  case adjustNoHead =>
    show execHostadjSubmit o w s = _
    rw [execHostadjSubmit, hhead]
    rfl
  case adjust =>
    show execHostadjSubmit o w s = _
    rw [execHostadjSubmit, hhead, State.flag_of_one hsrc]
    rfl
  case now0 => rfl
  case now3 =>
    show execTimNowRead 3 o s = _
    simp [execTimNowRead, hlatched]

/-! ### PTP at the Ethernet ports and at the head (R306, R307, R313, R315 to R318) -/

/-- A message that no clock of the head follows changes nothing. -/
theorem execPtpOrdinaryClock_unheard {s : State} {e : Fin 2} {d : Fin 256} {source : Nat} {m : PtpMsg} (h0 : s.clockOf 0 e d = false)
    (h1 : s.clockOf 1 e d = false) : execPtpOrdinaryClock e d source m s = fin s := by
  simp [execPtpOrdinaryClock, h0, h1]

/-- What the head hears announced leaves the choice of its sources alone. -/
theorem State.get_announced {s : State} {i source utc flags ms : Nat} {ds : List Nat} {f : Fld} (hutc : f.key ≠ TIM_UTC.utc_offset.key)
    (hflags : f.key ≠ TIM_UTC.flags.key) : (s.announced i source ds utc flags ms).get f = s.get f := by
  unfold State.announced
  extract_lets x same better y t
  split
  · rfl
  · split
    · rw [State.puts_cons, State.puts_cons, State.puts_nil, State.get_put_ne _ _ _ _ hflags, State.get_put_ne _ _ _ _ hutc]
      rfl
    · rfl

/-- Settles O41: PTP frames that leave, link delay by PTP, and the ordinary clock of the head. -/
theorem ptpCommands : Obligations.PtpCommands := by
  intro s e
  refine ⟨fun f peer hptp => ?plain, fun f peer hptp hty => ?sync, fun f peer hptp hty => ?followUp, fun f peer hptp hty => ?dropped,
    fun f peer hptp hty hmode => ?delayDropped, fun f peer hptp hty hmode => ?delayRequest, ?expire, fun hmode hat => ?request,
    fun bs hmode => ?respond, fun t1 t2 t3 t4 hmode => ?sample, fun d m source hhead => ?noHead,
    fun d m source hhead hsec hdom => ?unheard, fun d source ds utc flags ms he hhead hpri hdom hsec hdom1 => ?announce,
    fun d source n twoStep origin c hhead hpri hsec hdom hmaster htwo hprof => ?clockSync⟩
  case plain =>
    show next (s.ptpEgress e f peer) = _
    simp [State.ptpEgress, hptp]
  case sync =>
    show next (s.ptpEgress e f peer) = _
    simp [State.ptpEgress, hptp, hty]
  case followUp =>
    show next (s.ptpEgress e f peer) = _
    simp [State.ptpEgress, hptp, hty]
  case dropped =>
    show next (s.ptpEgress e f peer) = _
    simp only [List.mem_cons, List.not_mem_nil, or_false] at hty
    rcases hty with hty | hty | hty <;> simp [State.ptpEgress, hptp, hty]
  case delayDropped =>
    show next (s.ptpEgress e f peer) = _
    simp only [List.mem_cons, List.not_mem_nil, or_false] at hty
    rcases hty with hty | hty <;> simp [State.ptpEgress, hptp, hty, hmode]
  case delayRequest =>
    show next (s.ptpEgress e f peer) = _
    simp [State.ptpEgress, hptp, hty, hmode]
  case expire => rfl
  case request =>
    show execEthPdelay e .request s = _
    simp only [execEthPdelay, State.flag_of_one hmode, hat]
    rfl
  case respond =>
    show execEthPdelay e (.respond bs) s = _
    rw [execEthPdelay, State.flag_of_one hmode]
    rfl
  case sample =>
    show execEthPdelay e (.sample t1 t2 t3 t4) s = _
    rw [execEthPdelay, State.flag_of_one hmode]
    rfl
  case noHead =>
    show execPtpOrdinaryClock e d source m s = _
    simp [execPtpOrdinaryClock, hhead, fin]
  case unheard =>
    show execPtpOrdinaryClock e d source m s = _
    rw [execPtpOrdinaryClock_unheard (by simp [State.clockOf, hdom.symm]) (by simp [State.clockOf, hsec])]
    rfl
  case announce =>
    show execPtpOrdinaryClock e d source (.announce ds utc flags ms) s = _
    have hfirst : s.clockOf 0 e d = true := by simp [State.clockOf, he, hpri, hdom]
    have hsecond : (s.announced 0 source ds utc flags ms).clockOf 1 e d = false := by
      have hkeeps : (s.announced 0 source ds utc flags ms).get TIM_SRC.sec_src = s.get TIM_SRC.sec_src :=
        State.get_announced (by decide) (by decide)
      simp [State.clockOf, hkeeps, hsec]
    simp [execPtpOrdinaryClock, State.clockTakes, hhead, hfirst, hsecond, fin]
  case clockSync =>
    show execPtpOrdinaryClock e d source (.sync n twoStep origin c) s = _
    have hfirst : s.clockOf 0 e d = false := by simp [State.clockOf, hpri]
    have hsecond : s.clockOf 1 e d = true := by simp [State.clockOf, hsec, hdom]
    simp [execPtpOrdinaryClock, State.clockTakes, State.fromMaster, hhead, hfirst, hsecond, hmaster, htwo, hprof, fin]

/-! ### Gate lists and the wheel (R326, R327, R336, R340, R343) -/

/-- What the start of a staged list depends on, which the status of its commands does not touch. -/
def gateChangeOperands (g : Nat) : List Fld :=
  [RING_CYCPER.period, RING_CYCPHASE.phase, ETH_GCFG.sync g, ETH_GCYCLE.cycle g, ETH_GPHASE.phase g, ETH_GCHG_LO.chg g,
   ETH_GCHG_HI.chg g]

/-- The status of a gate list's command leaves the fields that its change depends on alone. -/
theorem State.get_put_gateStatus {s : State} {g v : Nat} (hg : g < 4) {f : Fld} (hf : f ∈ gateChangeOperands g) :
    (s.put (ETH_GSTAT.last_status g) v).get f = s.get f := by
  simp only [gateChangeOperands, List.mem_cons, List.not_mem_nil, or_false] at hf
  apply State.get_put_ne
  interval_cases g <;> rcases hf with rfl | rfl | rfl | rfl | rfl | rfl | rfl <;> decide

/-- The status of a gate list's command says nothing of when its staged list starts. -/
theorem State.changeStart_put_gateStatus (s : State) {g v : Nat} (hg : g < 4) :
    (s.put (ETH_GSTAT.last_status g) v).changeStart g = s.changeStart g := by
  have hsame : ∀ f ∈ gateChangeOperands g, (s.put (ETH_GSTAT.last_status g) v).get f = s.get f :=
    fun f hf => State.get_put_gateStatus hg hf
  simp only [gateChangeOperands, List.forall_mem_cons, List.not_mem_nil, IsEmpty.forall_iff, implies_true, and_true] at hsame
  obtain ⟨hper, hphase, hsync, hcycle, hgphase, hlo, hhi⟩ := hsame
  generalize ht : s.put (ETH_GSTAT.last_status g) v = t at *
  have hwindow : t.window = s.window ∧ t.ns = s.ns ∧ t.time = s.time := by
    subst ht
    exact ⟨rfl, rfl, rfl⟩
  have hgsync : t.gateSync g = s.gateSync g := by
    rw [State.gateSync, State.flag, hsync]
    rfl
  have hlen : t.gateLen g = s.gateLen g := by
    rw [State.gateLen, State.period, hgsync, hper, hcycle]
    rfl
  have hpos : ∀ n, t.gatePos g n = s.gatePos g n := fun n => by
    rw [State.gatePos, State.gatePhase, hlen, hgsync, hphase, hgphase]
    rfl
  obtain ⟨hwin, hns, htime⟩ := hwindow
  simp only [State.changeStart, hlen, hpos, hlo, hhi, hwin, hns, htime]

/-- A copy at the head of its queue that is not eligible yet and not on the wheel enters the wheel or its overflow (R340). -/
theorem execWheelEnter_holds {s : State} {o : Fin 10} {u : Fin 9} {c : Fin 8} {x : SwCopy} {rest : List SwCopy} {e : Nat}
    (hq : s.swQueue (queueKey o u c) = x :: rest) (hel : x.eligible = some e) (hlt : s.t16 < e) (hwheel : x.onWheel = false) :
    execWheelEnter o u c s =
      (let t := s.setSwQueue (queueKey o u c) ({ x with onWheel := true } :: rest)
      if t.inHorizon e then next { t with gates := { t.gates with wheel := t.gates.wheel ++ [(queueKey o u c, wheelSlot e)] } }
      else
        let t : State := { t with gates := { t.gates with overflow := t.gates.overflow ++ [(queueKey o u c, e)] } }
        next (t.hw ETH_WOVF.max (max (t.get ETH_WOVF.max) t.gates.overflow.length))) := by
  rw [execWheelEnter, hq]
  dsimp only
  rw [hel]
  dsimp only
  rw [if_neg (by simp [hlt, hwheel])]

/-- Settles O42: gate entries, the staged list and its change, and the wheel. -/
theorem gateCommands : Obligations.GateCommands := by
  intro s g o w
  dsimp only
  refine ⟨fun hoff hg => ?entryOff, fun hon hg => ?entryOn, fun hown h1 hpend hok => ?commit, fun hown h1 hpend => ?commitBusy,
    fun hown h1 hpend hok => ?commitRange, fun hown h0 hpend => ?cancel, fun hown h0 hpend => ?cancelState,
    fun a hat hle => ?change, fun i j v hpend => ?stage, fun i j v hpend => ?stageRefused,
    fun out_ u c x rest e hq hel hlt hwheel hin => ?enter, fun out_ u c x rest e hq hel hlt hwheel hin => ?overflow,
    fun hptr hlt => ?tick⟩
  case entryOff =>
    show next (s.showGates g) = _
    simp [State.showGates, hoff, hg]
  case entryOn =>
    show next (s.showGates g) = _
    simp [State.showGates, hon, Nat.not_lt.mpr hg]
  case commit =>
    show fin (s.gateCtl g o (withBit w 0)) = _
    have hst : s.gateStatus g (withBit w 0) = stOK := by simp [State.gateStatus, bit_withBit_ne w, h1, hpend, hok]
    simp only [State.gateCtl, hown, hst, bit_withBit_ne w (show 1 ≠ 0 by decide), h1, s.changeStart_put_gateStatus g.isLt]
    rfl
  case commitBusy =>
    show fin (s.gateCtl g o (withBit w 0)) = _
    have hst : s.gateStatus g (withBit w 0) = stBUSY := by simp [State.gateStatus, bit_withBit_ne w, h1, hpend]
    simp only [State.gateCtl, hown, hst]
    rfl
  case commitRange =>
    show fin (s.gateCtl g o (withBit w 0)) = _
    have hst : s.gateStatus g (withBit w 0) = stRANGE := by simp [State.gateStatus, hpend, hok]
    simp only [State.gateCtl, hown, hst]
    rfl
  case cancel =>
    show fin (s.gateCtl g o (withBit w 1)) = _
    have hst : s.gateStatus g (withBit w 1) = stOK := by simp [State.gateStatus, bit_withBit_ne w, h0, hpend]
    simp only [State.gateCtl, hown, hst, bit_withBit_self]
    rfl
  case cancelState =>
    show fin (s.gateCtl g o (withBit w 1)) = _
    have hst : s.gateStatus g (withBit w 1) = stSTATE := by simp [State.gateStatus, bit_withBit_ne w, h0, hpend]
    simp only [State.gateCtl, hown, hst]
    rfl
  case change =>
    show execGateChange g s = _
    simp [execGateChange, State.zero, hat, hle]
  case stage =>
    show execGateStageWrite g i j o v s = _
    simp [execGateStageWrite, hpend, fin]
  case stageRefused =>
    show execGateStageWrite g i j o v s = _
    simp [execGateStageWrite, hpend, fin]
  case enter =>
    show execWheelEnter out_ u c s = _
    rw [execWheelEnter_holds hq hel hlt hwheel, if_pos hin]
  case overflow =>
    show execWheelEnter out_ u c s = _
    rw [execWheelEnter_holds hq hel hlt hwheel, if_neg (by rw [hin]; decide)]
  case tick =>
    show execWheelTick s = _
    have hp : (s.gates.ptr + 1) % 4096 = s.gates.ptr + 1 := Nat.mod_eq_of_lt (by omega)
    simp [execWheelTick, hptr, hp]

end Sys2Proof.Machine
end

section
/-! PROOFS. Spares and anneal (chapter 17). -/

namespace Sys2Proof.Machine

/-! ### Scores, the wear store and the anneal of every kind of element (R221, R481 to R498) -/

/-- Settles O43: the scores, the wear store, and the anneal of engines, lanes, wires, legs, banks, rows and pairs. -/
theorem wearCommands : Obligations.WearCommands := by
  intro s o w
  dsimp only
  refine ⟨fun e r ms hmon hpool => ?score, ?store, fun k n hturn hrec hspare hdepth hlate hmay => ?engine,
    fun p j hturn hup hready hmirror => ?lane, fun l d v hturn hlate hused => ?wire, fun k p hturn hrec => ?leg,
    fun b hcopy hst hdue => ?bankCopy, fun b hcopy hseam hst => ?bankSwitch, fun d m r hturn => ?row,
    fun p q rest hspares hne hst hrole hdue => ?pair, fun hown h1 hok => ?anneal, fun hown h1 hst => ?annealState,
    fun hown h0 => ?cancel, fun hf => ⟨?annealForeign, ?cancelForeign⟩⟩
  case score =>
    show execScoreUpdate e r s = _
    rw [execScoreUpdate, hmon]
    dsimp only
    rw [hpool]
    rfl
  case store => rfl
  case engine =>
    show execPeAnneal k n s = _
    simp [execPeAnneal, hturn, hrec, hspare, Nat.not_le.mpr hdepth, hlate, hmay, fin]
  case lane =>
    show execLaneAnneal p j s = _
    simp [execLaneAnneal, hturn, hup, hready, hmirror, fin]
  case wire =>
    show execWireAnneal l d v s = _
    rw [execWireAnneal, hturn, hlate, if_neg (by decide), if_neg (by decide)]
    dsimp only
    rw [State.flag_of_zero hused]
    rfl
  case leg =>
    show execLegAnneal k p s = _
    rw [execLegAnneal, hturn, hrec]
    rfl
  case bankCopy =>
    show execBankCopyStart b s = _
    simp [execBankCopyStart, hcopy, hst, hdue, fin]
  case bankSwitch =>
    show execBankSwitch s = _
    rw [execBankSwitch, hcopy]
    dsimp only
    rw [hseam, if_neg (by simp [hst])]
    rfl
  case row =>
    show execRowAnneal d m r true false s = _
    simp [execRowAnneal, hturn, fin]
  case pair =>
    show execPairAnneal p s = _
    rw [execPairAnneal, hspares]
    dsimp only
    rw [if_neg (by simp [hne, hdue, hst]), if_pos (Or.inl hrole)]
    rfl
  case anneal =>
    show fin (s.wearCtl o (withBit w 0)) = _
    simp only [State.wearCtl, hown, bit_withBit_ne w (show 1 ≠ 0 by decide), h1, bit_withBit_self, Bool.false_eq_true, if_false, if_true,
      hok]
    rfl
  case annealState =>
    show fin (s.wearCtl o (withBit w 0)) = _
    simp [State.wearCtl, hown, bit_withBit_ne w, h1, hst, fin]
  case cancel =>
    show fin (s.wearCtl o (withBit w 1)) = _
    simp only [State.wearCtl, hown, bit_withBit_ne w (show 0 ≠ 1 by decide), h0, bit_withBit_self]
    rfl
  case annealForeign =>
    show fin (s.wearCtl o (withBit w 0)) = _
    rw [State.wearCtl, hf]
    rfl
  case cancelForeign =>
    show fin (s.wearCtl o (withBit w 1)) = _
    rw [State.wearCtl, hf]
    rfl

end Sys2Proof.Machine
end
